-- ==== Sys2Proof/Word.lean ====
section
/-! DEFINITION. The byte type of the K9's wired interfaces (R4, R5, R8). -/

namespace Sys2Proof

/-- One byte of a packet, a record or a buffer. -/
abbrev Byte := BitVec 8

/-- A sequence of bytes, the first sent first. -/
abbrev Bytes := List Byte

end Sys2Proof
end

