-- ==== Sys2Proof/Machine/Data.lean ====
section
/-! DEFINITION. Tables keyed by a number (robots, queues, parameters, slots), kept as sorted lists of plain data,
and the small list and number helpers the whole model uses. -/

namespace Sys2Proof.Machine

/-- A table keyed by a natural number: pairs with strictly rising keys. -/
abbrev Tab (α : Type) := List (Nat × α)

/-- The entry of key `k`, if the table holds one. -/
def Tab.find? {α : Type} (k : Nat) : Tab α → Option α
  | [] => none
  | (j, a) :: t => if j = k then some a else Tab.find? k t

/-- The entry of key `k`, or `d` where the table holds none. -/
def Tab.getD {α : Type} (k : Nat) (d : α) (t : Tab α) : α := (Tab.find? k t).getD d

/-- Writes key `k`, keeping the keys in rising order. -/
def Tab.put {α : Type} (k : Nat) (a : α) : Tab α → Tab α
  | [] => [(k, a)]
  | (j, b) :: t =>
    if k < j then (k, a) :: (j, b) :: t
    else if k = j then (k, a) :: t
    else (j, b) :: Tab.put k a t

/-- Removes key `k`. -/
def Tab.del {α : Type} (k : Nat) (t : Tab α) : Tab α := t.filter (fun e => e.1 != k)

/-- Changes the entry of key `k`, starting from `d` where there is none. -/
def Tab.upd {α : Type} (k : Nat) (d : α) (f : α → α) (t : Tab α) : Tab α := Tab.put k (f (Tab.getD k d t)) t

/-- The keys in use. -/
def Tab.keys {α : Type} (t : Tab α) : List Nat := t.map Prod.fst

/-- Whether the table holds key `k`. -/
def Tab.has {α : Type} (k : Nat) (t : Tab α) : Bool := (Tab.find? k t).isSome

/-- Applies `f` to every entry. -/
def Tab.mapVals {α β : Type} (f : Nat → α → β) (t : Tab α) : Tab β := t.map (fun e => (e.1, f e.1 e.2))

/-- The keys rise strictly: the one form a table has. -/
def Tab.wf {α : Type} : Tab α → Bool
  | [] => true
  | [_] => true
  | (j, _) :: (k, b) :: t => decide (j < k) && Tab.wf ((k, b) :: t)

/-- Changes the list's entry at position `i`, if there is one. -/
def modAt {α : Type} (i : Nat) (f : α → α) (l : List α) : List α := l.modify i f

/-- A count that stays at its largest value once it reaches it. -/
def satAdd (max n k : Nat) : Nat := min max (n + k)

/-- A U32 count that holds at FFFF_FFFFh. -/
def inc32 (n : Nat) : Nat := satAdd 0xFFFFFFFF n 1

/-- A U16 count that holds at FFFFh. -/
def inc16 (n : Nat) : Nat := satAdd 0xFFFF n 1

/-- Bit `i` of `n` (R4). -/
def bit (n i : Nat) : Bool := n.testBit i

/-- 1 for true, 0 for false. -/
def b2n (b : Bool) : Nat := if b then 1 else 0

/-- The field of `w` bits of `n` whose lowest bit is `lo` (R4). -/
def field (n lo w : Nat) : Nat := (n >>> lo) % 2 ^ w

/-- `n` with bit `i` made `b`. -/
def setBit (n i : Nat) (b : Bool) : Nat :=
  if b then n ||| (1 <<< i) else if n.testBit i then n - 2 ^ i else n

/-- The number whose bits are the listed positions. -/
def bitsOf (l : List Nat) : Nat := l.foldl (fun a i => a ||| (1 <<< i)) 0

/-- The quotient rounded up. -/
def ceilDiv (a b : Nat) : Nat := if b = 0 then 0 else (a + b - 1) / b

/-- The two's-complement reading of a `w`-bit number (R8). -/
def toSigned (w n : Nat) : Int :=
  let m := n % 2 ^ w
  if m < 2 ^ (w - 1) then (m : Int) else (m : Int) - ((2 ^ w : Nat) : Int)

/-- The `w`-bit two's-complement code of an integer (R8). -/
def ofSigned (w : Nat) (i : Int) : Nat := (i % ((2 ^ w : Nat) : Int)).toNat

/-- An integer held within a `w`-bit signed field's range. -/
def clampS (w : Nat) (i : Int) : Int :=
  max (-((2 ^ (w - 1) : Nat) : Int)) (min (((2 ^ (w - 1) : Nat) : Int) - 1) i)

/-- Insertion into a list sorted by a Boolean order. -/
def insertBy {α : Type} (le : α → α → Bool) (a : α) : List α → List α
  | [] => [a]
  | b :: t => if le a b then a :: b :: t else b :: insertBy le a t

/-- Stable insertion sort. -/
def sortBy {α : Type} (le : α → α → Bool) : List α → List α
  | [] => []
  | a :: t => insertBy le a (sortBy le t)

/-- The last `n` entries of a list. -/
def lastN {α : Type} (n : Nat) (l : List α) : List α := l.drop (l.length - n)

/-- Pads a list on the right to length `n`. -/
def padTo {α : Type} (n : Nat) (a : α) (l : List α) : List α := l ++ List.replicate (n - l.length) a

/-- The first entry that meets `p`, with its index. -/
def findIdx {α : Type} (p : α → Bool) (l : List α) : Option (Nat × α) :=
  (l.zipIdx.find? (fun e => p e.1)).map (fun e => (e.2, e.1))

end Sys2Proof.Machine
end

