-- ==== Sys2Proof/Machine/Inputs.lean ====
section
/-! DEFINITION. What the commands carry: packets, frames, observations and link messages, as operands of their rows. -/

namespace Sys2Proof

/-- Where a native packet came in and where its answers go (R74, R86, R106, R107, R465). -/
inductive Via where
  /-- UDP on MAC0: the peer's IPv4 address and port (R106). -/
  | udp (ip port : Nat)
  /-- SPI (R107). -/
  | spi
  /-- Carried in ROUTED on fold `fold` by its member `src` (R465, R467). -/
  | fold (fold src : Nat)
  deriving DecidableEq, Repr

/-- A received native packet that passed checks 1 to 3 of R78 (R74). The row that carries it names the opcode. -/
structure Pkt where
  via : Via
  /-- FLAGS, one byte (R75). -/
  flags : Nat
  /-- PLEN as the header gives it. -/
  plen : Nat
  /-- How many bytes the transport delivered (R78 check 5). -/
  delivered : Nat
  /-- ACCESSION. -/
  acc : Nat
  /-- SESSION. -/
  sess : Nat
  /-- The payload bytes. -/
  payload : Bytes
  /-- PCRC as received. -/
  pcrc : Nat
  deriving DecidableEq, Repr

/-- What a boot finds (R59, R61, R184, R477, R500): the eight samples of each strap (true: high), the parts that fail
self-test, and the readings of units whose own workings the manual does not give (assumption 8). -/
structure BootObs where
  cxMode : List Bool
  recoverN : List Bool
  /-- Failed parts: code 0 SRAM bank, 1 solver engine, 2 air chain, 3 GNSS front end, 4 pair link, 5 MRAM, 6 control core; with
  the part's number. -/
  bad : List (Nat × Nat)
  /-- The image banks whose load fails: part and bank (R61). -/
  unloaded : List (Nat × Nat)
  /-- What the calendar clock's crystal has gained in ns since the calendar was last set, beside its trim (R183). -/
  calErr : Int
  /-- The lanes of the pair link that train. -/
  lane0 : Bool
  lane1 : Bool
  /-- CROOK_A and CROOK_B have been low for the filter time before the firmware load (R342, R361). -/
  openA : Bool
  openB : Bool
  /-- The key engine's check of the root fails (R500). -/
  rootBad : Bool
  deriving DecidableEq, Repr

/-- One signal as a channel latches it at an epoch (R116, R119), with what the K9's own ephemeris gives for it. -/
structure SigObs where
  sys : Nat
  svid : Nat
  signal : Nat
  ant : Nat
  /-- Units of 0.25 dB-Hz. -/
  cn0 : Nat
  lock : Bool
  half : Bool
  slip : Bool
  /-- Pseudorange in µm. -/
  pr : Nat
  /-- Carrier in 1/65,536 cycle. -/
  carrier : Int
  /-- Doppler in mHz. -/
  doppler : Int
  /-- Time in carrier lock, units of 100 ms. -/
  lockTime : Nat
  /-- Unit vector to the satellite, east, north and up, in units of 10^-9. -/
  u : Int × Int × Int
  /-- Elevation in µrad. -/
  elev : Int
  /-- Measured less predicted range rate in mm/s, where an ephemeris is held. -/
  rate : Option Int
  /-- Its transmit time is decoded, so that the pseudorange is whole (R116). -/
  whole : Bool
  /-- Bit synchronisation of L1 C/A, or secondary-code synchronisation of a pilot (R114). -/
  sync : Bool
  /-- The side-peak check finds the channel locked off the main peak (R113). -/
  side : Bool
  deriving DecidableEq, Repr

/-- A loop channel's pad held low: CROOK_A 0 or CROOK_B 1, and for how long, in µs (R342). -/
structure PadLow where
  ch : Nat
  us : Nat
  deriving DecidableEq, Repr

/-- What the antennas and the base's own solution give at an epoch (R116 to R126): algorithms the manual does not give come
in as operands, so that no value is assumed (assumption 8). -/
structure EpochObs where
  sigs : List SigObs
  /-- RX_BIAS in ps and RX_DRIFT in ps/s. -/
  bias : Int
  drift : Int
  /-- The smoothed solution's distance from the base position, mm. -/
  posDiff : Nat
  /-- ANT_A's carrier-smoothed single-epoch solution, ECEF in mm, where there is one (R135). -/
  sol : Option (Int × Int × Int)
  /-- The solution's discipline input: pasture time less reference and standard deviation, ns (R176, R179). -/
  disc : Option (Int × Nat)
  /-- Leap seconds the navigation data give, with an announced change (R173). -/
  nav : Option (Int × Option (Int × Nat))
  /-- Satellites whose ephemeris came in, and those whose almanac came in, each with the data (R112). -/
  eph : List (Nat × Bytes)
  alm : List (Nat × Bytes)
  deriving DecidableEq, Repr

/-- One entry of the candidate list before ranking (R111). -/
structure Cand where
  sys : Nat
  svid : Nat
  signal : Nat
  ant : Nat
  elev : Int
  /-- Where the acquisition engine sees the satellite's peak: Doppler in Hz and code phase in chips off the search's centre. -/
  found : Option (Int × Int)
  deriving DecidableEq, Repr

/-- What the step at a tick boundary takes from outside the block's rules (assumption 8): the epoch's observations, and how
far the hardware's own running time, which the manual bounds and does not give, carries each step. -/
structure TickObs where
  /-- The GNSS observations, when an epoch falls on the boundary (R35, R116). -/
  epoch : Option EpochObs
  /-- Units of admitted work that a line completes in its window, by line code, or 60 for the robots whose link upkeep the control cores
  complete; a line not listed completes all (R54). -/
  done : List (Nat × Nat)
  /-- Segment requests that the Reserve phase has decided by 0.60 T (R39). -/
  early : Nat
  /-- Residue failures in this tick: engine, and the robot whose fix was in it (R160). -/
  engines : List (Nat × Option Nat)
  /-- How long each robot's fix runs on its engine, in µs; under 256, the base's own solution on engine 0 (R157). -/
  us : List (Nat × Nat)
  /-- Measured use by line code (R53). -/
  uses : List (Nat × Nat)
  /-- Die temperature in °C and VIN in mV, for the Archive's metrics (R558). -/
  dieTemp : Int
  vinMv : Int
  /-- The copy of new control firmware has ended (R532). -/
  copied : Bool
  /-- As the active of a resynchronisation: what remains to copy fits one tick (R493). -/
  ready : Bool
  /-- Words that firmware reads through queues' read windows in the tick, by queue number, in order (R435). -/
  window : List Nat
  /-- As a standby that yielded for a lost link: a beacon of the partner was verified in the tick (R492). -/
  beacon : Bool
  deriving DecidableEq, Repr

/-- A native air frame as a chain receives it (R193, R212, R221): MCS and FCS type from the PHR, PSDU length, FCS result, frame
counter, whether the MIC verifies under the key of the slot's kind, SNR in dB, and the payload after security. -/
structure AirRx where
  chain : Nat
  /-- When its SHR began, in µs from the slot's start (R197). -/
  shr : Nat
  mcs : Nat
  len : Nat
  fcs4 : Bool
  fcsOk : Bool
  /-- The Security Control byte of its auxiliary header (R222). -/
  sec : Nat
  ctr : Nat
  micOk : Bool
  snr : Int
  payload : Bytes
  deriving DecidableEq, Repr



/-- A fold message as received (R451): the link it came on (0 to 2 Ethernet, 3 and 4 CAN), its source MAC, the ingress
stamp, and the message's header fields, body and CRC. -/
structure FoldRx where
  link : Nat
  mac : Nat
  stamp : Nat
  ver : Nat
  fold : Nat
  src : Nat
  dst : Nat
  seq : Nat
  body : Bytes
  crc : Nat
  deriving DecidableEq, Repr

/-- A CAN frame on the bus (R402, R408). -/
structure CanFrame where
  ide : Bool
  fdf : Bool
  rtr : Bool
  brs : Bool
  esi : Bool
  dlc : Nat
  /-- Identifier; a base identifier stands in bits 28 to 18. -/
  id : Nat
  data : Bytes
  deriving DecidableEq, Repr

/-- The identity of an input of the merge (R482). -/
inductive PairId where
  /-- A numbered packet: SESSION, ACCESSION, PCRC. -/
  | numbered (sess acc pcrc : Nat)
  /-- An unnumbered packet: whether the active received it, and its order of receipt. -/
  | unnumbered (byActive : Bool) (order : Nat)
  /-- A verified air frame: chain and ASN. -/
  | air (chain asn : Nat)
  /-- A fold message: FOLD_ID, SRC, SEQ. -/
  | fold (fold src seq : Nat)
  deriving DecidableEq, Repr

/-- An input forwarded to the partner in an ITEM (R481, R482). -/
inductive PairIn where
  | cmd (opcode : Nat) (p : Pkt) (order : Nat)
  /-- A verified air frame of KIND 0 uplink, 1 COR, 2 join request, with its ASN. -/
  | air (kind asn : Nat) (f : AirRx)
  | fold (typ : Nat) (f : FoldRx)
  deriving DecidableEq, Repr

/-- A CX-240 robot frame as it is received (R571, R572): the slot pair's first slot, the source's short address, the nine payload
bytes, whether the MIC verifies for that slot's counter under the network key, and RSSI in dBm. -/
structure CxRx where
  slot : Nat
  src : Nat
  payload : Bytes
  micOk : Bool
  rssi : Int
  deriving DecidableEq, Repr

/-- MERGE with the active's measurement set (R483): the identities it names in order, and the set, if an epoch falls on the boundary. -/
structure MergeMsg where
  ids : List PairId
  mset : Option EpochObs
  deriving DecidableEq, Repr

/-- Bytes received on a line that may be UART1's: a GPIO pad, or UART1_RX (R103, R415). -/
structure SerialRx where
  pad : Option Nat
  data : Bytes
  deriving DecidableEq, Repr

end Sys2Proof
end

