-- ==== Sys2Proof/Machine/Blocks.lean ====
section
/-! DEFINITION. The parts of the state as plain data, one structure per chapter of the manual with the structures its fields hold; the
outputs a command gives. -/

namespace Sys2Proof.Machine

/-- The class of an event (R18). -/
inductive Cls where
  | notice | warning | fault
  deriving DecidableEq, Repr

/-- An event record (R18, R98). -/
structure Event where
  seq : Nat
  tick : Nat
  time : Nat
  timeValid : Bool
  acked : Bool
  noFw : Bool
  code : Nat
  cls : Cls
  level : Nat
  kind : Nat
  idx : Nat
  /-- The eight DATA bytes, byte 0 lowest. -/
  data : Nat
  deriving DecidableEq, Repr

/-- An event that waits to be matched against the standing orders, with what R22 reads at the instant of raising. -/
structure MatchItem where
  code : Nat
  level : Nat
  kind : Nat
  idx : Nat
  /-- The robot's class at that instant, for a robot-scope event. -/
  rclass : Option Nat
  /-- The paddocks in the robot's current ZONES. -/
  zones : List Nat
  deriving DecidableEq, Repr

/-- A status with its detail and body (R79). -/
structure Ans where
  status : Nat
  detail : Nat
  body : Bytes
  deriving DecidableEq, Repr

/-- A reply or completion packet, before its CRCs are computed (R79, R86). -/
structure Reply where
  /-- VERSION, echoed from the command's header (R79). -/
  ver : Nat
  opcode : Nat
  flags : Nat
  acc : Nat
  sess : Nat
  /-- The fold-path bytes carried back (R77, R467). -/
  pre : Bytes
  ans : Ans
  deriving DecidableEq, Repr

/-- A numbered work command the journal holds (R90). -/
structure JEntry where
  sess : Nat
  acc : Nat
  opcode : Nat
  flags : Nat
  pre : Bytes
  pcrc : Nat
  params : Bytes
  /-- The largest result body reserved at acceptance (R85). -/
  reserve : Nat
  /-- Whether the command was answered ACCEPTED, so that a completion packet is due (R86). -/
  later : Bool
  /-- The completion, once the command has ended. -/
  result : Option Ans
  /-- Whether the completion packet has been sent. -/
  sent : Bool
  /-- The reply withheld until the partner confirms the journal write (R495). -/
  awaitConf : Option Ans
  /-- The entry of a SESSION_CLOSE whose reply is withheld, and where that reply goes: its session is freed already (R89). -/
  close : Option Via
  deriving DecidableEq, Repr

/-- A partial reassembly of a fragmented command (R93). -/
structure Partial where
  acc : Nat
  opcode : Nat
  count : Nat
  parts : List Bytes
  /-- When its newest fragment arrived, on the model's own clock. -/
  last : Nat
  deriving DecidableEq, Repr

/-- A roadmap node record (R250). -/
structure Node where
  e : Int
  n : Int
  flags : Nat
  extra : Nat
  deriving DecidableEq, Repr

/-- The tables and values that a session stages and COMMIT carries (R25, R94, R252, R255, R456). -/
structure Shadow where
  params : Tab Nat
  orders : Tab Nat
  nodes : Tab Bytes
  lanes : Tab Bytes
  /-- Staged paddocks; an empty record deletes the paddock. -/
  pads : Tab Bytes
  /-- Staged roster entries, keyed by FOLD_ID × 4096 + MEMBER; the EUI plus 1, and 0 deletes. -/
  roster : Tab Nat
  deriving DecidableEq, Repr

/-- A session (R69 to R72, R82, R88). -/
structure Session where
  tag : Nat
  agreed : Nat
  via : Via
  /-- E of R82. -/
  next : Nat
  shadow : Shadow
  /-- When its newest packet arrived. -/
  heard : Nat
  part : Option Partial
  /-- Numbered packets that wait for the effects of earlier ones (R84), each with its opcode and its parameters, reassembled. -/
  waiting : List (Nat × Pkt × Bytes)
  deriving DecidableEq, Repr

/-- Link counters of one transport, in the order of COUNTERS_READ (R99). -/
abbrev LinkCounts := List Nat

/-- Sessions, journal and the packets that wait for SPI (chapter of command packets). -/
structure Ses where
  sessions : Tab Session
  /-- Accepted, unacknowledged work commands in journal order (R90). -/
  journal : List JEntry
  /-- JOURNAL_FAULT stands (R91). -/
  journalFault : Bool
  /-- UDP, SPI and fold counters. -/
  counts : List LinkCounts
  /-- Hardware queue 3: replies waiting for SPI, oldest first (R107), and the number of the next one published (R434). -/
  spiOut : List Reply
  spiSeq : Nat
  /-- The number given to the newest session, for choosing the next. -/
  lastSession : Nat
  /-- Set aside while the recovery ROM serves the host: the sessions that MRAM keeps (R540). -/
  romKept : Option (Tab Session)
  deriving DecidableEq, Repr

/-- The commit domains (R542). -/
inductive Domain where
  | SYS | GNS | FIX | CLK | AIR | PAS | PRF | TSK | CRK | AXS | ETH | CAN | QUE | MEM | FLD | PAI | VIT | UPD | ARC
  deriving DecidableEq, Repr

/-- One configuration generation in full (R542, R544). A parameter not listed holds its default. -/
structure Gen where
  num : Nat
  params : Tab Nat
  orders : Tab Nat
  nodes : Tab Bytes
  lanes : Tab Bytes
  pads : Tab Bytes
  roster : Tab Nat
  deriving DecidableEq, Repr

/-- An accepted COMMIT that is not yet in effect in every domain (R96, R542). -/
structure PendCommit where
  gen : Nat
  sess : Nat
  acc : Nat
  shadow : Shadow
  /-- Domains touched that have not taken effect. -/
  todo : List Domain
  /-- When the commit was accepted, in superframes since load, for the AIR boundary. -/
  accSf : Nat
  /-- In-place replacement of the pasture tables (R545). -/
  inPlace : Bool
  /-- Overlap of two roadmaps (R546). -/
  overlap : Bool
  /-- The tick-length change this commit carries, with its instant in pasture time (R37). -/
  tickAt : Option (Nat × Nat)
  /-- When the GNS_EPOCH_RATE or another late value takes effect (R115). -/
  lateAt : Option Nat
  /-- The COMMIT was accepted before the last reset and runs again (R62, R543). -/
  again : Bool
  deriving DecidableEq, Repr

/-- The configuration area (R542 to R546). -/
structure Conf where
  /-- The values in effect, domain by domain. -/
  eff : Gen
  /-- The newest generation marked in effect: what a reset loads (R543). -/
  stored : Gen
  /-- Accepted COMMITs not yet in effect, oldest first. -/
  pend : List PendCommit
  /-- Both copies of the configuration area are lost (R441). -/
  lost : Bool
  /-- An earlier roadmap that held entries still refer to (R546): nodes, lanes, and the robots and grants of those entries. -/
  old : Option (Tab Bytes × Tab Bytes × List (Nat × Nat))
  /-- The claims in effect with the generation that made them: (resource, (group, instance), generation) (R31). -/
  claims : List (Nat × (Nat × Nat) × Nat)
  deriving DecidableEq, Repr

/-- The power states (R65), and the state with neither supply. -/
inductive Power where
  | run | standby | backup | off
  deriving DecidableEq, Repr

/-- What the cores run. -/
inductive Fw where
  /-- Control firmware runs ticks. -/
  | running
  /-- A control-firmware handover pause (R531, R532). -/
  | paused
  /-- The recovery ROM serves the host (R540). -/
  | recovery
  /-- Nothing: Standby, Backup or off. -/
  | none
  deriving DecidableEq, Repr

/-- A part that self-test can fail (R61): its kind code is that of the SELFTEST_FAIL scope. -/
inductive Part where
  | bank (n : Nat) | engine (n : Nat) | chain (n : Nat) | gnss | pairLink | mram | core (n : Nat)
  deriving DecidableEq, Repr

/-- A reset that waits for its tick boundary (R58). -/
structure PendReset where
  recovery : Bool
  cause : Nat
  /-- A DEVICE_RESET remedy asks for it (R22). -/
  device : Bool
  /-- An IMAGE_ROLLBACK remedy asks for it (R22, R538). -/
  rollback : Bool
  /-- The command whose answer must have left the port first: session and accession (R58, R535). -/
  reply : Option (Nat × Nat)
  deriving DecidableEq, Repr

/-- POWER_STANDBY accepted: its wake mask, and the command whose answer must have left the port first (R66). -/
structure PendStandby where
  mask : Nat
  reply : Nat × Nat
  deriving DecidableEq, Repr

/-- A capture or compare channel's own state (R101). -/
structure CcState where
  /-- Stamps held, oldest first: time, falling edge, time valid. -/
  stamps : List (Nat × Bool × Bool)
  lost : Nat
  /-- A run of lost stamps is open. -/
  run : Bool
  /-- The newest compare rising edge, on the model's own clock. -/
  lastRise : Option Nat
  level : Bool
  deriving DecidableEq, Repr

/-- A running frame capture (R104): port, filter, end instant, and the accession of its command. -/
structure EthCap where
  port : Nat
  filter : Nat
  started : Bool
  maxNs : Nat
  since : Nat
  sess : Nat
  acc : Nat
  deriving DecidableEq, Repr

/-- A running RF test (R105). -/
structure RfTest where
  mode : Nat
  channel : Nat
  power : Int
  mcs : Nat
  started : Nat
  durNs : Nat
  sess : Nat
  acc : Nat
  /-- MODE 00h has stopped it. -/
  stopped : Bool
  deriving DecidableEq, Repr

/-- Close work of a tick that its window did not complete (R54, R55): die temperature and supply, entries and READY tasks. -/
structure HeldClose where
  /-- TICK_SEQ, and in a pair the input and the output digest (R486). -/
  tick : Nat
  digests : Option (Nat × Nat)
  dieTemp : Int
  vinMv : Int
  entries : Nat
  ready : Nat
  deriving DecidableEq, Repr

/-- The system block: tick, events, standing-order matching, resets, power, watchdog, GPIO and diagnostics functions
(chapters of architecture, tick, start-up and command packets). -/
structure Sys where
  power : Power
  fw : Fw
  /-- CX mode rather than native mode (R1). -/
  cx : Bool
  /-- SYS_RESET_CAUSE (R57). -/
  resetCause : Nat
  pendReset : Option PendReset
  /-- POWER_STANDBY accepted, waiting for its tick boundary: the wake mask (R66). -/
  pendStandby : Option PendStandby
  /-- The wake mask in force in Standby (R67). -/
  wakeMask : Nat
  /-- Standby snapshots without a solution, reported at wake (R68). -/
  snapFails : Nat
  /-- When Standby's newest snapshot was due. -/
  snapLast : Nat
  /-- Tick sequence number (R38). -/
  tick : Nat
  /-- Ticks since the newest superframe boundary. -/
  sfTick : Nat
  /-- Superframe boundaries since load. -/
  sfCount : Nat
  /-- SYS_TICK_SLOTS in effect on the ticks (R37). -/
  slots : Nat
  /-- Whether the boundary lies off its aligned instant and is being realigned, with its offset in ns (R36). -/
  misalign : Option Int
  /-- The 4,096 newest event records, oldest first (R98). -/
  events : List Event
  nextSeq : Nat
  toMatch : List MatchItem
  /-- Fault-class events not acknowledged, by SEQ, that may have left the queue (R19). -/
  unacked : List Nat
  /-- Standing orders as they stood at the start of the tick (R24). -/
  orders : Tab Nat
  /-- The table in effect when the present tick began, which the next tick matches against (R24). -/
  ordersAt : Tab Nat
  /-- The watchdog unit's copy: armed DEVICE_RESET orders for 0090h (R64). -/
  wdtOrders : Tab Nat
  /-- Ticks since a WATCHDOG event that a DEVICE_RESET order matches and that has not been applied (R64). -/
  wdtWait : Option Nat
  /-- Cores halted by the watchdog (R63). -/
  halted : List Nat
  /-- Parts that self-test or a fault took out of service. -/
  badParts : List Part
  /-- Overrun ticks since reset (R53). -/
  overruns : Nat
  /-- Consecutive overruns per line, CLOSE included as code 10 (R54). -/
  runs : Tab Nat
  /-- Largest use per line since reset (R53). -/
  peaks : Tab Nat
  /-- Close work held back by an overrun, oldest first, and Close work that waits for the partner's DIGEST (R13, R54). -/
  closeHeld : List HeldClose
  closeDue : Option HeldClose
  cc : List CcState
  /-- Until when the event output pad is high (R100). -/
  evHigh : Option Nat
  /-- Console lines waiting, oldest first (R103). -/
  console : List Bytes
  consoleDropped : Nat
  ethCap : Option EthCap
  /-- Records of the snapshot buffer that a frame capture made, and their count. -/
  capBuf : Bytes
  capFrames : Nat
  /-- A completed frame capture stands in the buffer. -/
  capDone : Bool
  rfTest : Option RfTest
  /-- The first beacons wait for a COMMIT that writes AIR_CHAINS (R62). -/
  beacons : Bool
  deriving DecidableEq, Repr

/-- A measurement set (R118): its header fields and its 32-byte records in order (R119). -/
structure MeasSet where
  epoch : Nat
  tick : Nat
  timeQ : Nat
  flags : Nat
  bias : Int
  drift : Int
  /-- Each record with the observation it was made from and its STATE and INTEG bytes. -/
  recs : List (Nat × SigObs × Nat × Nat)
  deriving DecidableEq, Repr

/-- What the integrity checks keep of one signal on one antenna (R122 to R128). -/
structure Integ where
  /-- The failed checks, without the clock check's. -/
  bits : Nat
  /-- Consecutive epochs in which the direction test failed, and in which C/N0 was high. -/
  dirRun : Nat
  cn0Run : Nat
  /-- When its present unbroken run of passed checks began; none while it is not tracked (assumption 140). -/
  passFrom : Option Nat
  /-- The channel on which the C/N0 run was counted (R125). -/
  chan : Nat
  deriving DecidableEq, Repr

/-- How a channel tracks its signal (R113, R114). -/
structure SigTrack where
  /-- Coherent integration time in ms. -/
  coh : Nat
  /-- Bit or secondary-code synchronisation is held. -/
  sync : Bool
  /-- Very early, early, prompt, late and very late, off prompt in half milli-chips. -/
  taps : List Int
  /-- Noise bandwidths of the DLL and the PLL in mHz, and whether the FLL still pulls the PLL in. -/
  dll : Nat
  pll : Nat
  fll : Bool
  deriving DecidableEq, Repr

/-- The search for a signal that holds a channel and is not tracked yet (R112). -/
structure Search where
  /-- Acquired by handover from the satellite's tracked L1-band signal. -/
  handover : Bool
  /-- Half range of the Doppler search in Hz, and of the code search in chips; none is the full code phase. -/
  doppler : Nat
  chips : Option Nat
  deriving DecidableEq, Repr

/-- What a survey has averaged (R135): how many solutions, their sum, and the sum of their squared lengths, in mm and mm². -/
structure SurveyAcc where
  n : Nat
  sum : Int × Int × Int
  sq : Int
  deriving DecidableEq, Repr

/-- Code-minus-carrier reference of a satellite on one antenna (R125): C_1 and C_5 at t0, in 1/65,536 µm. -/
abbrev CmcRef := Int × Int

/-- A pending or running snapshot capture (R130): the start instant on the model's own clock, once known, and whether START
was given. -/
structure SnapCap where
  streams : Nat
  ms : Nat
  start : Option Nat
  sess : Nat
  acc : Nat
  deriving DecidableEq, Repr

/-- The header of the last completed capture (R131). -/
structure SnapDone where
  start : Nat
  valid : Bool
  streams : Nat
  ms : Nat
  deriving DecidableEq, Repr

/-- The GNSS baseband (its chapter). -/
structure Gns where
  /-- The newest measurement sets, newest first: GNS_MEAS_READ returns the newest two, and the fixes of a second need at most
  21 (R118, R157). -/
  sets : List MeasSet
  /-- The channel of each tracked signal, by signal key (R111). -/
  chans : Tab Nat
  /-- How each channel tracks, and the search for each signal not tracked yet, by signal key (R112 to R114). -/
  trk : Tab SigTrack
  srch : Tab Search
  /-- The level CHANNELS_SHORT was last raised with. -/
  short : Nat
  integ : Tab Integ
  /-- By antenna × 2^16 + system × 256 + SVID. -/
  cmc : Tab CmcRef
  /-- Open and cut, ANT_A then ANT_B (R110). -/
  antOpen : Bool × Bool
  antCut : Bool × Bool
  /-- β of the L1 and L5 bands in 10^-9 cycle (R123). -/
  beta : Option Int × Option Int
  /-- Epochs of calibration done, to 16. -/
  calib : Nat
  dirState : Nat
  /-- Suspect signals at the previous epoch, by key. -/
  wasSuspect : List Nat
  /-- Cluster groups with how many consecutive epochs each has formed, and whether SPOOF_DIRECTION was raised for it (R124). -/
  groups : List (List Nat × Nat × Bool)
  /-- Members of clusters whose spoofing alarm stands. -/
  alarm : List Nat
  /-- RX_BIAS and RX_DRIFT of the previous epoch with its instant (R126). -/
  rxPrev : Option (Int × Int × Nat)
  disagree : Bool
  /-- A degraded run is open, with the level last raised (R129). -/
  degraded : Option Nat
  /-- Sets dropped (R121), and whether the next set written carries FLAGS bit 5. -/
  dropped : Nat
  dropFlag : Bool
  cap : Option SnapCap
  capEnd : Option SnapDone
  /-- Bytes of the snapshot buffer that differ from 0. -/
  buf : Tab Byte
  /-- GNS_SNAP_SOLVE running: session and accession (R133). -/
  solve : Option (Nat × Nat)
  /-- A survey: when it began on the model's own clock, and the command that asked (R135). -/
  survey : Option (Nat × Option (Nat × Nat))
  /-- What the running survey has averaged (R135). -/
  acc : SurveyAcc
  /-- The candidate list last formed (R111). -/
  cands : List Cand
  /-- The latest ephemeris and the latest almanac of each satellite, in MRAM, by 256 times the system plus SVID (R112). -/
  eph : Tab Bytes
  alm : Tab Bytes
  /-- The observations of the signals tracked at the last epoch, those whose transmit time is not decoded among them (R112, R114). -/
  obs : List SigObs
  /-- The stored survey result in MRAM: X, Y, Z in mm and SIGMA. -/
  surveyed : Option (Int × Int × Int × Nat)
  /-- A baseline measurement: its end, session, accession, and whether an alarm was raised in it (R136). -/
  baseline : Option (Nat × Nat × Nat × Bool)
  deriving DecidableEq, Repr

/-- A fix record (R161); the covariance is held as six mm² integers times 1024 of the solver's F32 values' bit codes. -/
structure FixRec where
  epoch : Nat
  tick : Nat
  robot : Nat
  typ : Nat
  source : Nat
  reason : Nat
  flags : Nat
  age : Nat
  sats : Nat
  sigs : Nat
  fixedAmb : Nat
  timeQ : Nat
  enu : Int × Int × Int
  xyz : Int × Int × Int
  /-- EE, EN, EU, NN, NU, UU as the bits of their F32 codes. -/
  cov : List Nat
  ratio : Nat
  resid : Nat
  deriving DecidableEq, Repr

/-- What the K9 holds of one signal of a robot to decode deltas (R154): at its newest decoded epoch `n`, the code X in mm,
the carrier Y in 1/256 cycle, and Y one epoch earlier, which a key stands in for. -/
structure SigState where
  n : Nat
  x : Int
  y : Int
  yPrev : Int
  half : Bool
  /-- The epoch of the newest fix that used the signal (R164). -/
  used : Nat
  deriving DecidableEq, Repr

/-- A decoded signal handed to the solver: SAT byte, band, X, Y, half-cycle state, and whether its ambiguity starts anew
(R164). -/
structure ObsSig where
  sat : Nat
  band : Nat
  x : Int
  y : Int
  half : Bool
  fresh : Bool
  deriving DecidableEq, Repr

/-- A decoded COR that waits for the next tick's solver step (R157). -/
structure CorIn where
  robot : Nat
  epoch : Nat
  arrived : Nat
  clock : Int
  sigs : List ObsSig
  /-- Reason 02h: the record was discarded (R156). -/
  bad : Bool
  /-- The epoch's instant, under the rate that the robot had (R142). -/
  instant : Nat
  /-- Every entry decoded; an entry was an undecodable delta (R154, R165). -/
  whole : Bool
  undecodable : Bool
  late : Bool
  deriving DecidableEq, Repr

/-- A pending change of mode (R143). -/
structure ModeChange where
  base : Bool
  rate : Nat
  /-- Its instant of pasture time. -/
  instant : Nat
  sess : Nat
  acc : Nat
  deriving DecidableEq, Repr

/-- Fix state of one robot (R141 to R168). -/
structure FixRobot where
  /-- Base-solved, with the fix rate; kept in the configuration (R141). -/
  base : Bool
  rate : Nat
  pend : Option ModeChange
  newest : Option FixRec
  /-- The newest base-solved record, whose feedback the downlinks carry, with its EPOCH_IDX (R162). -/
  own : Option (FixRec × Nat)
  corsIn : Nat
  corsMissed : Nat
  /-- Consecutive missed epochs. -/
  missRun : Nat
  /-- Signals held for decoding, keyed by 2 × SAT + band. -/
  sigs : Tab SigState
  /-- The epoch of the newest COR taken. -/
  lastEpoch : Option Nat
  /-- A run of undecodable deltas stands: EPOCH_IDX of its oldest COR (R165). -/
  keyFrom : Option Nat
  /-- KEY_REQ is due because no decode state survives a reset (R165). -/
  keyFirst : Bool
  /-- The filter's state, a value only the solver reads (R159). -/
  filter : Int
  /-- The filter has started. -/
  started : Bool
  typ : Nat
  /-- Consecutive epochs that meet the entry test of FIXED (R163). -/
  validRun : Nat
  /-- The last fix released every fixed ambiguity (R163). -/
  released : Bool
  arRun : Bool
  /-- When a decodable COR last came, from which FIX_HOLD_S is judged (R165). -/
  lastGood : Nat
  /-- Signals, by 2 × SAT + band, whose ambiguity reset no computed fix has taken yet (R164). -/
  resets : List Nat
  /-- Instants from which on the robot's next fix restarts the filter (R143, R165, R168). -/
  restarts : List Nat
  deriving DecidableEq, Repr

/-- A CCS part formed for the newest epoch (R145, R147): the order key it starts from, the one that the next part goes on from, the signals
whose SLIP bit it carries, and whether it was sent on a chain or dropped on one (R208). -/
structure CcsPart where
  start : Nat
  after : Nat
  slips : List Nat
  sent : Bool
  dropped : Bool
  deriving DecidableEq, Repr

/-- Corrections and fixes (their chapter). -/
structure Fix where
  robots : Tab FixRobot
  inbox : List CorIn
  /-- SPR payloads received in the last tick: robot and the 28 bytes. -/
  sprIn : List (Nat × Bytes)
  /-- Causes of CORR_WITHHELD that stand: position invalid, ANT_A withheld (R149). -/
  withheld : Bool × Bool
  /-- Solver engines out of service (R160). -/
  enginesBad : List Nat
  /-- The order key from which the next CCS frame goes on, while every part of the newest epoch goes out; 0 begins a rotation (R147). -/
  ccsNext : Nat
  /-- The parts of the newest epoch. -/
  ccsParts : List CcsPart
  /-- Per covered signal: the carrier's integer, and whether lock restarted since its previous entry (R146). -/
  ccsSig : Tab (Int × Bool)
  /-- The newest base epochs at which a base signal showed a cycle slip or a loss of lock, by 2 × SAT + band, newest first (R164). -/
  baseSlip : Tab (List Nat)
  /-- Whole second of the newest 1005. -/
  rtcm1005 : Nat
  deriving DecidableEq, Repr

/-- The time states (R174). -/
inductive TimeState where
  | none | calendar | locked | slewing | holdover | expired | freerun
  deriving DecidableEq, Repr

/-- The time unit and the calendar clock (chapter of time). -/
structure Clk where
  /-- Pasture time, ns since the GPS epoch (R10, R172). -/
  count : Nat
  state : TimeState
  /-- Time has been valid in this boot. -/
  wasValid : Bool
  /-- The timebase is locked to REFIN (R177). -/
  refin : Bool
  /-- Remaining slew offset Δ in ns, pasture less reference (R180). -/
  slew : Int
  slewOn : Bool
  /-- ppb·ns of slew not yet worth a nanosecond. -/
  slewFrac : Nat
  /-- e0 of R178 in ns; none: unknown. -/
  e0 : Option Nat
  /-- d of R178 in ppb. -/
  d : Nat
  /-- Whether the quadratic term of R178 applies. -/
  quad : Bool
  /-- When the present holdover, calendar or locked span began. -/
  since : Nat
  /-- When HOLDOVER was entered, from which CLK_HOLDOVER_S counts (R178). -/
  holdAt : Nat
  /-- When LOCKED was last entered. -/
  lockedAt : Option Nat
  /-- How long the newest finished LOCKED span lasted, ns. -/
  lockedSpan : Nat
  /-- Consecutive discipline inputs (R179). -/
  consec : Nat
  /-- A step armed for the next tick boundary (R180). -/
  step : Option Int
  /-- Δ measured on restored discipline, not yet acted on (R180). -/
  offset : Option Int
  /-- GPS time less UTC, s (R173). -/
  leap : Int
  leapBoot : Bool
  /-- An announced change: the new LEAP and the pasture time at which the inserted or deleted second begins. -/
  leapAnn : Option (Int × Nat)
  /-- The boundaries are to be compared with their aligned instants at the next one (R36). -/
  align : Bool
  /-- The steered frequency of the timebase, in the loop's own unit (R176, assumption 137). -/
  freq : Int
  /-- As a standby on the active's time: the newest offset of its own discipline, which checks the active (R186). -/
  check : Option Int
  /-- The calendar holds a copy, with its s of R184 in ns. -/
  calCopy : Option Nat
  /-- The calendar's count in 1/32,768 s at the newest copy, and when that was, on the model's own clock (R183). -/
  cal : Nat
  calAt : Nat
  /-- The stored trim, in 0.1 ppm, and when the crystal was last measured in this boot (R183). -/
  calTrim : Option Int
  trimAt : Option Nat
  /-- PPS_OUT pulses have begun (R181). -/
  ppsOn : Bool
  ppsOk : Bool
  /-- When the newest pulse rose, on the model's own clock. -/
  ppsLast : Option Nat
  /-- The PTP source as slave has been lost (R176). -/
  ptpLost : Bool
  deriving DecidableEq, Repr

/-- The slot types in the order of R203. -/
inductive SlotType where
  | beacon | rejoin | legacy | broadcast | cor | downlink | echo | uplink | free
  deriving DecidableEq, Repr

/-- One periodic item of a chain's map (R204): it takes slot `slot` of every tick whose number, counted from pasture time
0, is `offset` modulo `period`. -/
structure SlotItem where
  chain : Nat
  typ : SlotType
  robot : Option Nat
  /-- Broadcast part, or 0 for the first and 1 for the second slot of a legacy pair; legacy uplinks add 2. -/
  part : Nat
  period : Nat
  offset : Nat
  slot : Nat
  deriving DecidableEq, Repr

/-- A robot's positions (R214). `none` stands for FFh. -/
structure Pos where
  chain : Nat
  ulTick : Nat
  ulSlot : Nat
  dlTick : Nat
  dlSlot : Nat
  echo : Option Nat
  corOff : Option Nat
  corSlot : Nat
  deriving DecidableEq, Repr

/-- A map with its robots' positions. -/
structure SlotMap where
  items : List SlotItem
  pos : Tab Pos
  deriving DecidableEq, Repr

/-- A frame the plan puts in a slot (R206): its payload before security, with the robot for downlinks. -/
structure PlanFrame where
  /-- The elements of its payload, for a downlink: TYPE and value (R229). -/
  elems : List (Nat × Bytes)
  chain : Nat
  slot : Nat
  typ : SlotType
  robot : Option Nat
  mcs : Nat
  payload : Bytes
  /-- The parcels it carries (R233), and the number of a broadcast part (R145). -/
  dsns : List Nat
  part : Nat
  deriving DecidableEq, Repr

/-- One air chain (R191, R208, R213, R214). -/
structure ChainState where
  bad : Bool
  sent : Nat
  rcvd : Nat
  runts : Nat
  oversize : Nat
  discards : Nat
  deferrals : Nat
  format : Nat
  /-- Transmissions metered: channel, when, airtime in ns (R208). -/
  meter : List (Nat × Nat × Nat)
  /-- A run of deferrals is open. -/
  defRun : Bool
  /-- A deferral has happened in this tick. -/
  defTick : Bool
  /-- An air plan overran: no downlink but the beacon in the next tick (R54). -/
  planLate : Bool
  /-- AIR_OVERRUN withholds the chain in this tick, but for its beacon (R54). -/
  quiet : Bool
  /-- The ASN of the last slot that a stop frame took (R352). -/
  stopAsn : Option Nat
  deriving DecidableEq, Repr

/-- The air interface (its chapter). -/
structure Air where
  chains : List ChainState
  /-- The absolute slot number of the present slot (R198). -/
  asn : Nat
  /-- The ASN is set anew at the next superframe boundary (R198). -/
  jump : Bool
  /-- The number of the present tick, counted from pasture time 0. -/
  tick : Nat
  map : SlotMap
  /-- Maps waiting for their superframe, oldest first: superframes since load, map. -/
  next : List (Nat × SlotMap)
  /-- The map placed for a pending tick length, with the number of the superframe in which it takes effect (R205). -/
  tickMap : Option (Nat × SlotMap)
  /-- Frames planned for the present tick, and for the next (R206). -/
  plan : List PlanFrame
  planNext : List PlanFrame
  /-- The slot that SLOT_START opened last within the tick. -/
  slot : Nat
  /-- When it started, on the model's own clock. -/
  slotAt : Nat
  /-- Uplink and COR slots since the last boundary in which a frame was due, and those in which one was verified: robot and ASN (R210). -/
  due : List (Nat × Nat)
  got : List (Nat × Nat)
  deriving DecidableEq, Repr

/-- The link states (R218). -/
inductive LinkState where
  | registered | joined | asleep | lost | leaving
  deriving DecidableEq, Repr

/-- A downlink parcel not yet acknowledged (R232, R233). -/
structure Parcel where
  dsn : Nat
  content : Bytes
  /-- When it was last sent; none: not yet. -/
  sentAt : Option Nat
  /-- A verified frame after the last sending neither covered nor marked it. -/
  missed : Bool
  deriving DecidableEq, Repr

/-- A join answer that waits for its slot (R227). -/
structure JoinAns where
  reqCtr : Nat
  gen : Nat
  start : Nat
  result : Nat
  chain : Nat
  /-- The superframe of the answer. -/
  sf : Nat
  roam : Bool
  sleep : Bool
  /-- The ASN of the request's slot, and its superframe counted since load (R226). -/
  asn : Nat
  reqSf : Nat
  /-- The join key under which it is secured, and from which the link key of its generation is derived (R223, R509). -/
  key : Nat
  deriving DecidableEq, Repr

/-- A verified join request (R226), and as a roaming join one that waits for the former member (R241): request counter, chain,
superframe, sleep asked, ASN, join key, and the superframe of the first request since the former member was asked. -/
structure RoamWait where
  reqCtr : Nat
  chain : Nat
  sf : Nat
  sleep : Bool
  asn : Nat
  key : Nat
  since : Nat
  deriving DecidableEq, Repr

/-- One registered robot (R218 to R246). -/
structure Robot where
  eui : Nat
  cls : Nat
  legacy : Bool
  sleepOk : Bool
  keySlot : Nat
  chain : Nat
  link : LinkState
  /-- The highest link generation issued (R223, kept in MRAM). -/
  genIssued : Nat
  gen : Nat
  /-- The join key of its last join, under which its link keys are derived (R223, R509). -/
  joinKey : Nat
  /-- The last join counter accepted, and the K9's own join-key counter (R224, kept in MRAM). -/
  joinRx : Option Nat
  /-- The payload of the last join request accepted, to tell an echo. -/
  joinLast : Bytes
  joinTx : Nat
  txCtr : Nat
  rxCtr : Option Nat
  /-- The newest accepted frame, to tell an echo (R224). -/
  rxLast : Bytes
  dsnNext : Nat
  unacked : List Parcel
  /-- SEG elements of acknowledged parcels, until their last: inner type and bytes. -/
  ackSeg : Option (Nat × Bytes)
  /-- Reliable elements that wait for a parcel, oldest first: encoded element bytes. -/
  queue : List Bytes
  /-- Unreliable elements due in the next downlink (R230). -/
  unrel : List Bytes
  /-- The highest DSN delivered in order (R229), and parcels held beyond it (R232). -/
  ackIn : Nat
  held : List (Nat × Bytes)
  /-- SEG reassembly: inner type and bytes so far (R231). -/
  seg : Option (Nat × Bytes)
  /-- RESUME of this generation is delivered (R235). -/
  resumed : Bool
  /-- The CLASS elements of this generation: the superframe of EFF, counted since load, and the record (R294). -/
  classes : List (Nat × Bytes)
  rekey : Option (Nat × Nat)
  /-- PERIOD, FIRST as a whole superframe number, and RATE of the WAKE granted (R239). -/
  wake : Nat × Nat × Nat
  /-- Consecutive wake superframes without a verified frame (R240). -/
  wakeMiss : Nat
  doubleRate : Bool
  /-- A wake superframe has ended without a verified frame and is not yet reported. -/
  missDue : Bool
  /-- Superframes without a verified frame, and whether one has come in this superframe. -/
  missSf : Nat
  seen : Bool
  frames : Nat
  secDisc : Nat
  secRun : Bool
  /-- Its LEAVE is delivered: the link generation ends after the next downlink (R605). -/
  bye : Bool
  answer : Option JoinAns
  roam : Option RoamWait
  /-- The device number of the member that released it to this one (R470). -/
  roamFrom : Option Nat
  /-- A removal in progress: session, accession, superframes waited (R220). -/
  removing : Option (Nat × Nat × Nat)
  dlMcs : Nat
  ulMcs : Nat
  ulSnr : Option Int
  dlSnr : Option Int
  /-- The newest inputs, oldest first, at most 8 (R210). -/
  ulHist : List Int
  dlHist : List Int
  /-- Consecutive lost frames per direction. -/
  ulLost : Nat
  dlLost : Nat
  /-- The superframes of the newest steps up (R210). -/
  ulUp : Option Nat
  dlUp : Option Nat
  /-- LINK_AT_FLOOR is raised in the present run of losses, per direction (R211). -/
  ulFloor : Bool
  dlFloor : Bool
  /-- When a verified frame last came, and when a downlink was last sent. -/
  lastFrame : Nat
  lastDown : Nat
  /-- Unreliable elements and duplicates skipped and counted (R230, R232). -/
  skipped : Nat
  deriving DecidableEq, Repr

/-- The flock's link state (its chapter). -/
structure Lnk where
  robots : Tab Robot
  /-- Delivered uplink elements that wait for the tick boundary, in the order received: robot, type, value. A TASK parcel
  that the robot acknowledged stands here as its downlink type 30h (R326). -/
  intake : List (Nat × Nat × Bytes)
  /-- The flock key's generation and counter; the key, a free value; the next generation with its EFF and
  key (R223, R225). -/
  flockGen : Nat
  flockCtr : Nat
  flockKey : Nat
  flockNext : Option (Nat × Nat × Nat)
  /-- EUIs already reported by JOIN_UNKNOWN in this superframe (R226). -/
  unknown : List Nat
  /-- AIR_FLOCK_EUI in use since the last reset (R244). -/
  flockEui : Nat
  /-- Robots whose link upkeep an overrun holds back, in order (R54, R55). -/
  upkeep : List Nat
  deriving DecidableEq, Repr

/-- A profile record (R290): seven phase durations in µs. -/
structure ProfileRec where
  startUs : Nat
  vIn : Nat
  jAcc : Int
  jDec : Int
  dur : List Nat
  deriving DecidableEq, Repr

/-- A straight line on the site frame, mm: a lane with its end points, or a node twice. -/
structure Geo where
  x1 : Int
  y1 : Int
  x2 : Int
  y2 : Int
  deriving DecidableEq, Repr

/-- One segment of a granted track: its lane with the lane's own geometry, S0, exact start in µs of RT, T_START and T_END in
ms of RT, and record. RT is held unwrapped, as counted from the ASN (R259). -/
structure TSeg where
  lane : Nat
  geo : Geo
  s0 : Nat
  start : Nat
  tStart : Nat
  tEnd : Nat
  rcd : ProfileRec
  deriving DecidableEq, Repr

/-- The footprint values an entry is tested with (R254): r + m, f, k, margin and τ in ms. -/
structure Shape where
  r : Nat
  f : Nat
  k : Nat
  m : Nat
  tau : Nat
  deriving DecidableEq, Repr

/-- A reservation entry (R260, R284). -/
structure Entry where
  robot : Nat
  /-- KIND of R284. -/
  kind : Nat
  grant : Nat
  place : Nat
  seg : Nat
  cls : Nat
  shape : Shape
  geo : Geo
  /-- Window in ms of RT; none: open-ended. -/
  tIn : Nat
  tOut : Option Nat
  /-- The segment driven, for a lane entry. -/
  tseg : Option TSeg
  late : Bool
  border : Bool
  breach : Bool
  conflict : Bool
  /-- What the audit has found it in conflict with: hurdles, and 1,024 + paddock (R258). -/
  hits : List Nat
  /-- The XID under which a neighbour's entries are prepared (R283). -/
  xid : Option Nat
  deriving DecidableEq, Repr

/-- A hurdle in place (R257), its times in ms of RT. -/
structure Hurdle where
  geo : Geo
  radius : Nat
  fromRt : Nat
  untilRt : Option Nat
  deriving DecidableEq, Repr

/-- A segment request (R268 to R271). -/
structure SegReq where
  routeId : Nat
  leg : Nat
  seq : Nat
  from0 : Nat
  count : Nat
  resume : Bool
  s0 : Nat
  /-- EARLIEST in ms of unwrapped RT. -/
  earliest : Nat
  /-- When it arrived, on the model's own clock. -/
  since : Nat
  /-- Pair tests already spent on it (R47). -/
  done : Nat
  pending : Bool
  reason : Nat
  blocker : Nat
  /-- The start of the last try. -/
  lastTry : Option Nat
  /-- The robot through whose open hold alone the last try failed (R273). -/
  holdOnly : Option Nat
  late : Bool
  /-- Its place in the order of the tick that held it back (R55). -/
  place : Nat
  deriving DecidableEq, Repr

/-- A robot's route (R267): legs of lane indices, how many legs have been sent, and how many lanes have been granted. -/
structure Route where
  id : Nat
  legs : List (List Nat)
  sent : Nat
  granted : Nat
  /-- The planning was held back by an overrun (R54). -/
  late : Bool
  deriving DecidableEq, Repr

/-- A planning request (R267): the nodes to reach in turn; whether it is a PAS_MOVE's; whether it is late (R54). -/
structure PlanReq where
  dests : List Nat
  move : Bool
  late : Bool
  deriving DecidableEq, Repr

/-- A granted track (R260). -/
structure Track where
  id : Nat
  segs : List TSeg
  /-- 1,000 × q with which it was planned (R304). -/
  q : Nat
  deriving DecidableEq, Repr

/-- A deadlock that the planner resolves (R274): its members, and the plans still to be tried, as member and how: 1 a reroute,
2 a sidestep. -/
structure WayOut where
  cycle : List Nat
  left : List (Nat × Nat)
  deriving DecidableEq, Repr

/-- A run that waits for border votes (R282): XID, neighbours that have not voted, since which tick, and the run, with the class record
under which it was planned. -/
structure BorderWait where
  xid : Nat
  robot : Nat
  waiting : List Nat
  voted : List Nat
  since : Nat
  segs : List TSeg
  q : Nat
  cls : Bytes
  deriving DecidableEq, Repr

/-- Evidence on one held lane entry: grant, segment, the first and the last such fix as epoch in ns of RT and route position in mm with
128 fraction bits (R304). -/
structure EvidRun where
  grant : Nat
  seg : Nat
  first : Nat × Int
  last : Nat × Int
  count : Nat
  deriving DecidableEq, Repr

/-- What the pasture and the profile unit keep of one robot. -/
structure PasRobot where
  route : Option Route
  nextRoute : Nat
  req : Option SegReq
  lastGrant : Nat
  plan : Option PlanReq
  /-- A pending PAS_MOVE: DEST, session, accession (R284). -/
  move : Option (Nat × Nat × Nat)
  tracks : List Track
  /-- OVERSTAY is raised once per run (R277). -/
  overRun : Bool
  /-- The progress factor in 1/1,000 (R304), in MRAM. -/
  p : Nat
  /-- A p that applies from the next tick on. -/
  pNext : Option Nat
  clampRun : Bool
  /-- The open deviation run: fixes in it, whether DEV_BREACH was raised in it, and the highest level raised (R301). -/
  devRun : Nat
  devRaised : Bool
  devMax : Nat
  ea : Int
  ec : Int
  breaches : Nat
  /-- e_a is not formed until a new grant (R302). -/
  eaOff : Bool
  /-- The last RT in ms at which a stop is known to have covered it (R304). -/
  stopAt : Option Nat
  /-- When evidence last completed, and whether this gap is reported (R303). -/
  lastEvid : Nat
  gapDone : Bool
  evid : List EvidRun
  deriving DecidableEq, Repr

/-- A PREPARE that waits for the next Reserve phase (R283): coordinator's device number, XID, entries. -/
structure PrepIn where
  device : Nat
  xid : Nat
  entries : List Entry
  deriving DecidableEq, Repr

/-- The pasture (its chapter) and the profile unit's robots. -/
structure Pas where
  entries : List Entry
  hurdles : Tab Hurdle
  /-- Hurdle changes that wait for the tick boundary: index, hurdle, session, accession. -/
  hurdleNext : List (Nat × Option Hurdle × Nat × Nat)
  robots : Tab PasRobot
  peak : Nat
  grants : Nat
  refusals : Nat
  deadlocks : Nat
  fullRun : Bool
  /-- Audit positions: by hurdle, and by 1,024 + paddock (R258). -/
  audit : Tab Nat
  borders : List BorderWait
  nextXid : Nat
  prepIn : List PrepIn
  /-- Cycles reported, as sorted robot indices (R273). -/
  cycles : List (List Nat)
  /-- Planning requests waiting, robots in order of arrival (R267). -/
  planQueue : List Nat
  /-- Deadlocks that the planner has still to resolve (R274). -/
  ways : List WayOut
  /-- Messages that wait for the fold: device number, type, body (R282, R455). -/
  outbox : List (Nat × Nat × Bytes)
  deriving DecidableEq, Repr

/-- One task of the store (R309 to R312). -/
structure Task where
  /-- The 64-byte record. -/
  record : Bytes
  /-- 0 to 5 of R310; 6 until the boundary that takes it in. -/
  state : Nat
  robot : Option Nat
  /-- The robot it was allotted to last (R332). -/
  last : Option Nat
  /-- The planner was asked for its route when it was staged (R324, R326). -/
  planned : Bool
  /-- Release boundary as pasture time; 0 while DELAYED. -/
  release : Nat
  /-- Its TSK_SUBMIT's place in journal order, and its record index. -/
  order : Nat
  idx : Nat
  /-- The session that holds it (R314). -/
  sess : Nat
  eta : Nat
  /-- Robots that declined it (R330). -/
  declined : List Nat
  /-- An accepted TSK_CANCEL: session and accession. -/
  cancel : Option (Nat × Nat)
  resultSeq : Nat
  outcome : Nat
  code : Nat
  result : Nat
  /-- Pasture time at which it became FINAL. -/
  time : Nat
  deriving DecidableEq, Repr

/-- A robot's travel table (R318): ready node, when built, ms by the PICKUP of each task that was DELAYED or READY then, and the tasks
that had been released. -/
structure Travel where
  node : Nat
  built : Nat
  times : Tab Nat
  released : List Nat
  deriving DecidableEq, Repr

/-- A firmware job (R334, R335): priority, release, order key, kind and what it works on. A job whose release lies ahead is on the
pool's delay list; any other is on the ready list of its priority. -/
structure Job where
  prio : Nat
  release : Nat
  key : Nat
  kind : Nat
  arg : Nat
  deriving DecidableEq, Repr

/-- The tasks block and the Drover (its chapter). -/
structure Tsk where
  /-- The last serial issued (R309, in MRAM). -/
  serial : Nat
  tasks : Tab Task
  /-- Proxy records of other members' tasks that robots of this K9 hold (R470, in MRAM); they are no tasks of the store. -/
  proxies : Tab Task
  /-- TSK_CANCELs that wait for the boundary: task, session, accession. -/
  cancels : List (Nat × Nat × Nat)
  /-- The last RESULT_SEQ (R332, in MRAM). -/
  resultSeq : Nat
  /-- How many TSK_SUBMITs have been accepted, for journal order. -/
  submits : Nat
  travel : Tab Travel
  /-- Newest TASK_STATE of the present link generation: battery and FLAGS. -/
  tstate : Tab (Nat × Nat)
  /-- The last round's considered tasks, candidates, bids and allotments. -/
  last : Nat × Nat × Nat × Nat
  rounds : Nat
  allotments : Nat
  declines : Nat
  wAge : Nat
  /-- The bound at which w_age stands: 0 none, 1 upper, 2 lower. -/
  wRun : Nat
  fullRun : Bool
  /-- Tasks chosen in this tick's round with their robots, until Stage. -/
  chosen : List (Nat × Nat)
  /-- The job pool, and for cores 2 to 7 the current and the staged job (R334). -/
  jobs : List Job
  cores : List (Option Job × Option Job)
  jobKey : Nat
  deriving DecidableEq, Repr

/-- A scoped entry of the stop table (R346): holders by source with their ramps (1 emergency). -/
structure StopEntry where
  kind : Nat
  index : Nat
  holders : Tab Nat
  /-- The count of beacons sent when it was last carried (R350). -/
  carried : Option Nat
  deriving DecidableEq, Repr

/-- The confirmation state of one stop (R358): KIND 0 for the all-stop. -/
structure StopWatch where
  kind : Nat
  index : Nat
  /-- When it took effect, on the model's own clock. -/
  since : Nat
  done : Bool
  /-- Robots reported unconfirmed, and robots confirmed. -/
  late : List Nat
  conf : List Nat
  deriving DecidableEq, Repr

/-- A covered robot's newest STOP_STATE (R355): at standstill, RAMP, STILL_RT. -/
structure StopConf where
  rest : Bool
  ramp : Nat
  still : Nat
  deriving DecidableEq, Repr

/-- A change of the stop state: the source, the scope, the ramp, and whether the holder is set or released (R346, R362). -/
structure StopChange where
  src : Nat
  kind : Nat
  index : Nat
  ramp : Nat
  set : Bool
  deriving DecidableEq, Repr

/-- Crook (its chapter). -/
structure Crk where
  /-- Holders of the all-stop: source and ramp (R346). -/
  all : Tab Nat
  table : List StopEntry
  /-- Open channels, CROOK_A then CROOK_B. -/
  openA : Bool
  openB : Bool
  /-- Since when exactly one channel has been open, and whether LOOP_DISCREPANCY was raised for it (R343). -/
  discFrom : Option Nat
  discDone : Bool
  disc : Bool
  /-- After a discrepancy, both channels have been open together (R343). -/
  bothOpen : Bool
  /-- Since when both channels have been closed together (R343). -/
  togetherAt : Option Nat
  latched : Bool
  /-- The token of the newest beacon sent, and the ticks with a beacon, counted for R350. -/
  token : Nat
  beacons : Nat
  /-- The token chosen for this tick's beacons, and the scope of the entry in it (R350). -/
  pick : Nat
  pickOf : Option (Nat × Nat)
  watch : List StopWatch
  conf : Tab StopConf
  /-- ZONES of each robot: the list it holds, and after it, oldest first, the lists sent and not delivered yet (R348). -/
  zones : Tab (List (List Nat))
  /-- CRK_RELEASEs that wait for the boundary: TARGET, KIND, INDEX, session, accession (R359). -/
  releases : List (Nat × Nat × Nat × Nat × Nat)
  /-- Stop-frame occasions: chain and instant on the model's own clock (R352). -/
  frames : List (Nat × Nat)
  framesLost : Nat
  /-- The stop states that changes of the newest 150 µs replaced, oldest first: when, holders of the all-stop, table (R201). -/
  past : List (Nat × Tab Nat × List StopEntry)
  /-- The superframes in which the newest releases fell (R351). -/
  releasedSf : List Nat
  /-- The backup-domain copy of CRK_LOOP_ENABLE, FILTER_US, DISC_MS, LOOP_RAMP and LOOP_REARM (R345). -/
  backup : List Nat
  /-- A change of the all-stop's loop or host holders waits for the fold (R363). -/
  forward : Bool
  /-- Changes that both units of a pair apply together, each with its instant on the model's own clock, in order (R362). -/
  due : List (Nat × StopChange)
  /-- The stop state that MRAM holds while the backup domain's copy is lost: holders of the all-stop, and the table (R361). -/
  mram : Option (Tab Nat × List StopEntry)
  deriving DecidableEq, Repr

/-- A motion that runs on an axis (R372, R380 to R382): direction, start on the model's own clock, start position, speed and
acceleration in the exact units of `phaseStep`, and its phases. -/
structure Motion where
  neg : Bool
  start : Nat
  p0 : Int
  v0 : Int
  a0 : Int
  phases : List (Int × Nat)
  /-- Where it ends, for a move that reaches it. -/
  target : Option Int
  /-- The OUTCOME it ends with. -/
  outcome : Nat
  ramp : Bool
  homing : Bool
  /-- The ramp that runs is the emergency ramp. -/
  emerg : Bool
  deriving DecidableEq, Repr

/-- An AXS_MOVE or AXS_HOME that waits for the tick boundary: MODE (3 home), TARGET, SPEED. -/
structure AxisCmd where
  mode : Nat
  target : Int
  speed : Nat
  deriving DecidableEq, Repr

/-- One site axis (its chapter). -/
structure Axis where
  p : Int
  motion : Option Motion
  wait : Option AxisCmd
  /-- The move or home that runs: session, accession; OFFSET of a home. -/
  cmd : Option (Nat × Nat)
  offset : Int
  /-- AXS_HALTs that wait for standstill. -/
  halts : List (Nat × Nat)
  /-- AXS_HALTs that wait for the tick boundary: RAMP, session, accession. -/
  haltNext : List (Nat × Nat × Nat)
  count : Int
  suspended : Bool
  /-- REF_LATCH, AUX_LATCH and the count at the last index edge. -/
  refP : Int
  refCount : Int
  auxP : Int
  auxCount : Int
  zCount : Int
  refActive : Bool
  d : Int
  /-- The level last raised in the open deviation run; none: no run. -/
  devRun : Option Nat
  delta : Nat
  stallRun : Nat
  /-- Consecutive PWM periods with the duty held at 1. -/
  fullRun : Nat
  /-- Amplitude in mV and duty in 10^-6 of the newest PWM period (R371). -/
  uMv : Nat
  duty : Nat
  /-- The ramp the all-stop asks for, until the hardware path applies it (R377): 0 normal, 1 emergency. -/
  stopDue : Option Nat
  deriving DecidableEq, Repr

/-- What a transmit frame is. -/
inductive EthKind where
  /-- A reply or completion packet, or one fragment of it. -/
  | reply (sess acc : Nat)
  | arp
  | icmp
  /-- A PTP message of type `typ` with its sequence number (R395). -/
  | ptp (typ seq : Nat)
  /-- Probe `index` of an ETH_PROBE, named by session and accession (R396). -/
  | probe (sess acc index : Nat)
  /-- A fold message of type `typ` on fold `fold` (R450). -/
  | fold (typ fold : Nat)
  deriving DecidableEq, Repr

/-- A frame that waits to be sent: its traffic class by its field of ETH_QMAP (R392), destination, length L of R391, and
the bytes after the EtherType where the model builds them. -/
structure EthFrame where
  cls : Nat
  dst : Nat
  len : Nat
  kind : EthKind
  data : Bytes
  deriving DecidableEq, Repr

/-- One Ethernet port (R386 to R398). -/
structure EthPort where
  /-- LINK of R398, and the mode last resolved (R387): 0 down, 1 1000 full, 2 100 full, 3 refused, 4 10BASE-T1S. -/
  link : Nat
  seen : Nat
  /-- PLCA of R398. -/
  plca : Nat
  /-- The nine counters in the order of ETH_PORT_READ. -/
  counts : List Nat
  /-- Transmit queues 0 to 7, oldest frame first. -/
  queues : List (List EthFrame)
  /-- Frames that wait until their queue has room (R392). -/
  waiting : List EthFrame
  /-- The frame in progress. -/
  busy : Option EthFrame
  /-- Egress stamps since the last Close, in wire order; none: lost (R394). -/
  stamps : List (EthKind × Option Nat)
  tsRun : Bool
  collRun : Bool
  /-- As PTP master: when Sync and Announce were last sent, and the next sequence number. -/
  syncAt : Option Nat
  annAt : Option Nat
  ptpSeq : Nat
  deriving DecidableEq, Repr

/-- A running ETH_PROBE (R396): results by INDEX, FLAGS and stamp. -/
structure Probe where
  port : Nat
  count : Nat
  len : Nat
  dst : Nat
  sess : Nat
  acc : Nat
  started : Bool
  res : Tab (Nat × Nat)
  deriving DecidableEq, Repr

/-- An IP datagram in reassembly (R390). -/
structure IpPart where
  src : Nat
  id : Nat
  proto : Nat
  since : Nat
  parts : List (Nat × Bytes)
  /-- The datagram's length, once its last fragment is in. -/
  total : Option Nat
  /-- It is too long: what still comes of it goes with it. -/
  dead : Bool
  deriving DecidableEq, Repr

/-- The Ethernet ports (their chapter). -/
structure Eth where
  ports : List EthPort
  parts : List IpPart
  probes : List Probe
  /-- As PTP slave: the master's identity, when its Announce last came, and its announce interval's log. -/
  master : Option (Nat × Nat × Int)
  /-- The master was lost: the next one taken raises PTP_MASTER_CHANGED (R395). -/
  masterGone : Bool
  /-- The newest Delay_Req's egress stamp is lost, so its exchange gives no input (R394). -/
  delayLost : Bool
  /-- The newest HEARTBEAT's egress stamp by fold, 0 when lost (R458). -/
  hbStamps : Tab Nat
  /-- A two-step Sync that waits for its Follow_Up: sequence number and when it came. -/
  sync : Option (Nat × Nat)
  /-- The sequence number of the newest Sync of the master (R179). -/
  syncSeq : Option Nat
  /-- The source MAC of the frame that last came from a host's IP address (R390). -/
  peers : Tab Nat
  deriving DecidableEq, Repr

/-- What the module holds from manufacture (R386, R57, R500). -/
structure Factory where
  /-- The EUI-64. -/
  eui : Nat
  /-- MAC0's EUI-48; MAC1 and MAC2 follow it (R386). -/
  mac : Nat
  /-- The bands that the regulatory table permits, as catalogue bits 104 to 106 (R71, R194). -/
  bands : List Nat
  /-- The device certificate (R512). -/
  cert : Bytes
  /-- The recovery ROM's version (R547). -/
  rom : Nat
  /-- The part images the module is delivered with, in bank 0 of each part (R522, R523). -/
  images : List Bytes
  deriving DecidableEq, Repr

/-- A pending transmission of a CAN buffer (R410 to R412). -/
structure CanTx where
  frame : CanFrame
  sess : Nat
  acc : Nat
  /-- The intake that loads it has come (R410). -/
  loaded : Bool
  attempts : Nat
  /-- Consecutive ACK errors. -/
  noAck : Nat
  /-- CAN_TX_ABORTs that wait for the attempt in progress: session, accession, or none for an urgent one. -/
  aborts : List (Option (Nat × Nat))
  deriving DecidableEq, Repr

/-- One message buffer (R406 to R410). -/
structure CanMb where
  isNew : Bool
  overrun : Bool
  /-- Since when the read lock is held. -/
  lock : Option Nat
  /-- The stored frame with its TIME. -/
  frame : Option (CanFrame × Nat)
  tx : Option CanTx
  deriving DecidableEq, Repr

/-- The states of R416. -/
inductive CanState where
  | off | active | passive | busOff | integrating
  deriving DecidableEq, Repr

/-- One CAN controller. -/
structure CanPort where
  state : CanState
  tec : Nat
  rcv : Nat
  /-- Recessive sequences counted in bus-off, and whether the count runs (R413). -/
  seqs : Nat
  counting : Bool
  /-- Sent, received, arbitration lost, errors, overruns (R416). -/
  counts : List Nat
  filtered : Nat
  protExc : Nat
  lockDrops : Nat
  mbs : Tab CanMb
  /-- The buffer whose frame is on the bus. -/
  onBus : Option Nat
  overRun : Bool
  deriving DecidableEq, Repr

/-- CAN controllers and the site-device serial link (their chapter). -/
structure Can where
  ports : List CanPort
  /-- Serial bytes waiting: session, accession, bytes, oldest first. -/
  serTx : List (Nat × Nat × Bytes)
  serDropped : Nat
  deriving DecidableEq, Repr

/-- The state of one SRAM bank (R428, R429, R443). -/
inductive BankState where
  | inService | onSpare | outOfService | spareInUse
  deriving DecidableEq, Repr

/-- One SRAM bank (R420, R425, R426). -/
structure Bank where
  state : BankState
  correctable : Nat
  uncorrectable : Nat
  /-- Distinct words with correctable errors in the present scrub pass. -/
  ceWords : List Nat
  /-- Poisoned words, by byte address. -/
  poisoned : List Nat
  /-- Words known to stand in the bank since a read found an error in them, by byte address: data d0 to d7, then check c0 to c3. -/
  words : Tab (List Nat)
  deriving DecidableEq, Repr

/-- A hardware queue Q16 to Q63 with storage (R431 to R438). -/
structure Queue where
  /-- Block group of the stream's feature. -/
  holder : Nat
  size : Nat
  /-- Offset of its storage in the pool. -/
  base : Nat
  wp : Nat
  rp : Nat
  /-- Packets held, oldest first: sequence number and data. -/
  packets : List (Nat × Bytes)
  nextSeq : Nat
  underrun : Bool
  dropped : Bool
  drops : Nat
  underruns : Nat
  /-- A run of drops is open (R121). -/
  dropRun : Bool
  disabled : Bool
  /-- The read window's own pointer: bytes read beyond RP; and the last word it returned (R435). -/
  winOff : Nat
  winLast : Nat
  deriving DecidableEq, Repr

/-- The read window of a queue from Q0 to Q15 (R430, R435). -/
structure Window where
  off : Nat
  last : Nat
  underruns : Nat
  /-- Packets dropped while the queue is disabled (R429). -/
  drops : Nat
  deriving DecidableEq, Repr

/-- Queues and memory (chapter of hardware queues). -/
structure Mem where
  banks : List Bank
  /-- The bank whose addresses the spare serves. -/
  spareFor : Option Nat
  /-- The copy onto the spare that runs (R428). -/
  copying : Option Nat
  queues : Tab Queue
  /-- The read windows of Q0 to Q15 that have been read (R435). -/
  windows : Tab Window
  /-- When the present scrub pass began. -/
  scrubStart : Nat
  scrubLate : Bool
  scrubPasses : Nat
  scrubLastMs : Nat
  mramCe : Nat
  mramUe : Nat
  deriving DecidableEq, Repr

/-- What a bellwether keeps of one member of its fold (R456 to R462). -/
structure FldMember where
  /-- Its place in the order of admission. -/
  order : Nat
  eui : Nat
  /-- SUBDEPTH of its JOIN: 1 for a device, more for a subfold. -/
  subdepth : Nat
  /-- Devices in its subtree, its DEVMAP and its catalogue, as it sent them last. -/
  devices : Nat
  devmap : Nat
  cat : Nat
  /-- The fold catalogue when it was admitted (R462). -/
  catAdm : Nat
  absent : Bool
  /-- A HEARTBEAT has come in the present superframe, and superframes without one. -/
  seen : Bool
  missSf : Nat
  /-- Since which superframe FOLD_GEN or the digest has differed; consecutive HEARTBEATs with another stop digest. -/
  differs : Option Nat
  stopDiff : Nat
  /-- Ingress stamp of its previous HEARTBEAT, when time was valid at both ends, and consecutive offsets out of tolerance. -/
  prevIn : Option Nat
  offRun : Nat
  /-- Marked for size by the top bellwether (R457). -/
  oversize : Bool
  /-- The lowest failing reason while out of step; 0 in step (R462). -/
  reason : Nat
  /-- Consecutive HEARTBEATs that passed every test. -/
  passes : Nat
  deriving DecidableEq, Repr

/-- A STOP that its members have not all acknowledged (R468): the tier it goes out on, its content, and the members that still
owe STOP_ACK. -/
structure StopSend where
  tier : Nat
  origin : Nat
  state : Nat
  seq : Nat
  owed : List Nat
  deriving DecidableEq, Repr

/-- A relayed message that is sent again once per superframe until its answer comes (R452, R455): TO, TYPE, body. -/
structure RelaySend where
  dev : Nat
  typ : Nat
  body : Bytes
  deriving DecidableEq, Repr

/-- A fold message in reassembly on a CAN link (R453). -/
structure CanMsg where
  link : Nat
  src : Nat
  msg : Nat
  total : Nat
  since : Nat
  parts : Tab Bytes
  deriving DecidableEq, Repr

/-- The fold block (its chapter). -/
structure Fld where
  /-- Admitted to the one fold of the chain in which this device is not member 0 (R457). -/
  admitted : Bool
  /-- LEVEL of that fold, as its bellwether gave it. -/
  upLevel : Nat
  /-- STATE and REASON of the newest HB_ANSWER (R462). -/
  upState : Nat
  upReason : Nat
  /-- HB_ANSWER has come in the present superframe, and superframes without one. -/
  seen : Bool
  missSf : Nat
  /-- Devices and catalogue of the hierarchy, as HB_ANSWER gave them. -/
  hierDevices : Nat
  hierCat : Nat
  /-- This device's judgement of itself as a bellwether: reason and passes. -/
  ownReason : Nat
  ownPasses : Nat
  /-- Members admitted, by FOLD_ID × 4096 + index, and the admissions so far. -/
  members : Tab FldMember
  admissions : Nat
  /-- The MAC address of each peer's newest frame, by FOLD_ID × 4096 + index (R450). -/
  macs : Tab Nat
  /-- The SEQ sent last, by FOLD_ID (R451). -/
  seqs : Tab Nat
  /-- The source 3 set with each ORIGIN's STATE and STOP_SEQ; STATE 0 is outside the set (R468). -/
  stops : Tab (Nat × Nat)
  /-- STOPs that wait for the tick boundary: ORIGIN, STATE, STOP_SEQ. -/
  stopIn : List (Nat × Nat × Nat)
  /-- STOP_SET parts so far, and a whole set that waits for the tick boundary. -/
  setParts : Tab Nat
  setIn : Option (Tab Nat)
  stopSends : List StopSend
  /-- STOP_SEQ sent last. -/
  stopSeq : Nat
  relays : List RelaySend
  /-- Relayed messages that wait for the tick boundary: FROM, TYPE, body. -/
  inbox : List (Nat × Nat × Bytes)
  /-- Routed commands for this device that wait for the tick boundary: VERSION, OPCODE, packet (R465). -/
  routedIn : List (Nat × Nat × Pkt)
  /-- At the entry device: path bytes and session with the host's address (R467). -/
  paths : List ((Bytes × Nat) × Via)
  canMsgs : List CanMsg
  /-- Robots released to another member, by EUI: the device, and whether RELEASE has been sent (R241, R469). -/
  roamOut : Tab (Nat × Bool)
  /-- Tasks of other issuers that RESUME listed and whose issuer has not answered: robot, and whether CURRENT (R470). -/
  foreign : Tab (Nat × Bool)
  /-- The newest border digest of each neighbour, and the neighbours whose mismatch is reported (R471). -/
  digests : Tab Nat
  borderBad : List Nat
  /-- FOLD_OVERSIZE stands. -/
  oversize : Bool
  /-- Superframes since BORDER_DIGEST was last sent. -/
  digestSf : Nat
  /-- STOP resends, messages discarded, RELAYs forwarded and discarded (R472). -/
  stopResends : Nat
  discarded : Nat
  relayFwd : Nat
  relayDisc : Nat
  deriving DecidableEq, Repr

/-- STATE of PAI_STATE_READ (R496). -/
inductive PairMode where
  | alone | resync | lockstep | yielded | withheld
  deriving DecidableEq, Repr

/-- An input of the merge (R482): KIND, identity, the input whole, whether the partner holds it, and the tick it came in. -/
structure PairItem where
  inp : PairIn
  tick : Nat
  deriving DecidableEq, Repr

/-- A mismatch test (R488): this unit's result and the partner's: 0 running, 1 passed, 2 failed. -/
structure PairTest where
  own : Nat
  partner : Nat
  since : Nat
  deriving DecidableEq, Repr

/-- The redundant pair (its chapter). -/
structure Pai where
  /-- 0 none, 1 active, 2 standby (R476). -/
  role : Nat
  mode : PairMode
  /-- The link has trained, with the lanes in service. -/
  trained : Bool
  /-- The link was lost and has not trained since (R479). -/
  linkDown : Bool
  /-- It trained at the self-test of this boot (R72). -/
  bootTrained : Bool
  lane0 : Bool
  lane1 : Bool
  partner : Nat
  lockTicks : Nat
  mismatches : Nat
  resent : Nat
  discarded : Nat
  /-- Inputs that the standby holds until a MERGE names them, oldest first (R483). -/
  items : List PairItem
  /-- Identities that a MERGE named and this unit lacks, with when it came (R483). -/
  owed : List (PairId × Nat)
  /-- MERGE and DIGEST of the present tick are in, and whether the digests match (R483, R487). -/
  merged : Bool
  digested : Bool
  match_ : Bool
  /-- The result of the DIGEST of the present tick, which holds for the frames of the next (R487). -/
  matchNext : Bool
  /-- As the active: identities taken since the boundary, for the next MERGE; unnumbered packets received (R482, R483). -/
  taken : List PairId
  order : Nat
  /-- The identities that this tick's MERGE names, in order (R483, R486). -/
  sealed : List PairId
  /-- JOURNAL_CONFs that came before this unit journaled the command (R495). -/
  confs : List (Nat × Nat)
  /-- As the standby: the tick whose MERGE has not come, or waits for an item that it names. -/
  heldTick : Option TickObs
  /-- The MERGE that waits for the items in `owed` (R483). -/
  mergeDue : Option MergeMsg
  /-- This unit's DIGEST of the tick: input and output digest (R486). -/
  own : Option (Nat × Nat)
  /-- The partner's DIGEST of the tick, come before this unit's: both digests, FLAGS bit 0 and TEST (R486). -/
  their : Option (Nat × Nat × Bool × Nat)
  /-- After a mismatch the standby withholds all but beacons and stop frames (R488). -/
  mute : Bool
  test : Option PairTest
  /-- Reason of the yield still to be raised at the next boot (R498 level 6). -/
  yieldAtBoot : Bool
  /-- The PAI_RESYNCs that wait: session and accession. -/
  syncCmds : List (Nat × Nat)
  /-- When SYNC_REQ was sent, or answered with 00h. -/
  syncFrom : Option Nat
  /-- The named boundary B, in ticks, and the superframe count from which echo slots are filled (R493). -/
  syncAt : Option Nat
  echoFrom : Option Nat
  /-- Parts of the resynchronisation copy taken. -/
  parts : Nat
  /-- The yield was for a lost link, and ticks without a verified partner beacon (R492). -/
  linkYield : Bool
  silent : Nat
  silentDone : Bool
  absentDone : Bool
  /-- Firmware load, on the model's own clock. -/
  loadAt : Nat
  /-- The unit took control or its partner yielded: it runs alone and leaves echo slots Free (R491). -/
  solo : Bool
  /-- A YIELD has gone or come since the link trained (R492). -/
  yieldSeen : Bool
  deriving DecidableEq, Repr

/-- One copy of a key slot (R506). `key` is the key that WRAPPED holds; `macOk` whether its MAC verifies and its check word
decodes (R507). -/
structure SlotCopy where
  gen : Nat
  typ : Nat
  committed : Bool
  key : Nat
  kcv : Nat
  macOk : Bool
  deriving DecidableEq, Repr

/-- A key operation that waits for, or has begun in, a tick (R508, R509): its command, slot, TYPE, key and KCV, and whether its
copy is written. -/
structure KeyOp where
  sess : Nat
  acc : Nat
  slot : Nat
  typ : Nat
  key : Nat
  kcv : Nat
  begun : Bool
  deriving DecidableEq, Repr

/-- An alarm of Standby or Backup, reported at the next boot (R514, R517): source, level, state, and the entries applied. -/
structure LateAlarm where
  source : Nat
  level : Nat
  state : Nat
  applied : List Nat
  deriving DecidableEq, Repr

/-- Vitrine (its chapter). -/
structure Vit where
  /-- Slots 0 to 511 that differ from two unwritten copies: copy A and copy B. -/
  slots : Tab (SlotCopy × SlotCopy)
  /-- Slots already reported by SLOT_REPAIRED in this boot. -/
  repaired : List Nat
  /-- Working keys held, newest use first (R503): 0 the flock key, 1 to 4 the attestation, provisioning, wrap and MAC keys,
  256 + slot, 4096 + robot. -/
  keys : List Nat
  locked : Bool
  /-- Slots have been zeroized since provisioning (R511). -/
  zeroized : Bool
  rootBad : Bool
  rngFault : Bool
  /-- Tamper level latched (R514), the sources active, and alarms since reset. -/
  tamper : Nat
  active : List Nat
  alarms : Nat
  /-- The backup domain's copy of the hardware-held tamper entries (R515) and of VIT_TAMPER, VIT_DETECT and
  VIT_INTERNAL_LEVEL (R519). -/
  orders : Tab Nat
  backup : List Nat
  /-- A slot erase of ZEROIZE_ALL waits for the wake or the next power-on (R517). -/
  erasePend : Bool
  /-- Alarms of Standby and Backup still to be reported. -/
  late : List LateAlarm
  /-- Hardware-held entries applied while no firmware ran, whose REMEDY_APPLIED is due (R515). -/
  applied : List Nat
  /-- Key operations waiting, first in first out. -/
  ops : List KeyOp
  /-- Mask refreshes done (R504). -/
  masks : Nat
  deriving DecidableEq, Repr

/-- The state of an image bank (R536). -/
inductive ImgState where
  | empty | writing | written | confirmed | trial | previous
  deriving DecidableEq, Repr

/-- One image bank: its state, the length begun, the bytes programmed, and whether its erase has ended. -/
structure ImgBank where
  state : ImgState
  len : Nat
  data : Bytes
  erased : Bool
  deriving DecidableEq, Repr

/-- The update lock's holder (R526). -/
structure UpdLock where
  sess : Nat
  via : Via
  tag : Nat
  last : Nat
  deriving DecidableEq, Repr

/-- The stage of a running activation (R531 to R533). -/
inductive ActStage where
  /-- The engines load in the Close phase of this tick; the flip follows at the next boundary. -/
  | engines
  | gnss
  /-- Chain `c` waits for its map, is stopped and loading, or waits for the map that restores it. -/
  | chainMap (c : Nat) | chainLoad (c : Nat) | chainBack (c : Nat)
  | copyFw | pauseFw
  deriving DecidableEq, Repr

/-- A running UPD_ACTIVATE of MODE 00h (R530, R531). -/
structure Activation where
  sess : Nat
  acc : Nat
  todo : List Nat
  flipped : Nat
  lastFlip : Nat
  stage : Option ActStage
  since : Nat
  /-- MODE 01h: every part flips at the next tick boundary, and the device resets (R535). -/
  atReset : Bool
  /-- Robots moved off the chain that loads (R533). -/
  moved : List Nat
  deriving DecidableEq, Repr

/-- The trial that stands (R536 to R538). -/
structure Trial where
  parts : Nat
  bootUsed : Bool
  began : Nat
  reported : Bool
  deriving DecidableEq, Repr

/-- Images, lock and trial (chapter of updates). -/
structure Upd where
  lock : Option UpdLock
  /-- Parts 01h to 04h, each with bank 0 and bank 1. -/
  banks : List (ImgBank × ImgBank)
  /-- The bank each part runs. -/
  running : List Nat
  /-- The epoch floors (R536). -/
  floors : List Nat
  trial : Option Trial
  act : Option Activation
  /-- The commands that wait for a bank's erase: part, session, accession. -/
  erasing : List (Nat × Nat × Nat)
  /-- This boot is the trial boot. -/
  trialBoot : Bool
  /-- The lock was held when the reset came: UPD_LOCK_ENDED is due at the next boot. -/
  lockLost : Bool
  /-- Parts that the boot ROM started from their other bank, without a trial (R536). -/
  fellBack : List Nat
  deriving DecidableEq, Repr

/-- A metric's samples over the open interval (R557, R558). -/
structure Metric where
  samples : Nat
  min : Int
  max : Int
  maxTick : Nat
  sum : Int
  bins : List Nat
  deriving DecidableEq, Repr

/-- What an Archive record says (R551, R554, R557, R559). -/
inductive ArcBody where
  | events (entries : List (Event × Nat))
  | interval (metric lengthS start : Nat) (m : Metric)
  | counts (lengthS start : Nat) (codes : List (Nat × Nat))
  | boot (cause flags boots time : Nat) (versions : List Nat)
  deriving DecidableEq, Repr

/-- An Archive record (R551); `good` false: a word of its slot is uncorrectable (R561). -/
structure ArcRec where
  boot : Nat
  tick : Nat
  body : ArcBody
  good : Bool
  deriving DecidableEq, Repr

/-- The states in which repeats are not merged (R556). -/
inductive Episode where
  | recovery | startup | test
  deriving DecidableEq, Repr

/-- The Archive (its chapter). -/
structure Arc where
  recs : Tab ArcRec
  /-- The next RECORD_SEQ. -/
  next : Nat
  boots : Nat
  /-- The open block: entries in SEQ order with their REPEAT and the model-clock instant of raising. -/
  block : List (Event × Nat × Nat)
  /-- Start of the open interval in pasture time, and on the model's own clock. -/
  start : Nat
  startNow : Nat
  metrics : Tab Metric
  codes : Tab Nat
  suppressed : Nat
  unreadable : Nat
  episode : Option Episode
  epCounts : Tab Nat
  /-- When the start-up state ends. -/
  startupEnd : Nat
  deriving DecidableEq, Repr

/-- A CX-240 robot: registered in CX mode, or a legacy member of the flock (R567, R570 to R573, R580 to R582). -/
structure CxRobot where
  eui : Nat
  /-- Its short address. -/
  addr : Nat
  joined : Bool
  lost : Bool
  /-- The newest position report, E and N in cm, U in dm, and when it came. -/
  report : Option (Int × Int × Int × Nat)
  fix : Nat
  battery : Nat
  rssi : Int
  /-- TASK, E, N in cm, CODE. -/
  task : Nat × Int × Int × Nat
  tState : Nat
  tResult : Nat
  /-- The task part still to be acknowledged: 0 none, else 1 or 2. -/
  part : Nat
  cancel : Bool
  msgs : List Bytes
  /-- A message of the robot's is to be acknowledged. -/
  ack : Bool
  /-- KIND of the poll that waits for its acknowledgement; 6 stands for one with bytes of the RTCM stream. -/
  due : Nat
  /-- Polls since its newest verified uplink. -/
  polls : Nat
  stop : Bool
  /-- Legacy: bytes of the RTCM stream still to be sent, those that join it at the next tick boundary (R14), whether the newest epoch
  was dropped, and whether a run of drops is open (R581); whether a join answer is due. -/
  corr : Bytes
  corrNext : Bytes
  dropDue : Bool
  dropRun : Bool
  answer : Bool
  /-- The task that this tick's legacy slots offer: TASK, E, N in cm, CODE (R14, R582). -/
  offer : Option (Nat × Int × Int × Nat)
  deriving DecidableEq, Repr

/-- The CX configuration (R569). -/
structure CxConf where
  /-- EUI by address. -/
  robots : Tab Nat
  /-- The network key's 16 bytes as a number. -/
  key : Option Nat
  /-- Power in dBm and PAN, once SET_RADIO has turned the radio on. -/
  radio : Option (Int × Nat)
  mask : Nat
  /-- The base position in cm, with its source. -/
  base : Option (Int × Int × Int × Nat)
  /-- SET_RTCM's period and outputs. -/
  rtcm : Nat × Nat
  ant : Bool
  /-- SET_CAN's filter and mask, while the port is enabled. -/
  can : Option (Nat × Nat)
  deriving DecidableEq, Repr

/-- CX mode and the legacy members' CX-era service (the chapter of CX mode). -/
structure Cxm where
  conf : CxConf
  /-- The record that SAVE_CONFIG wrote. -/
  saved : Option CxConf
  robots : Tab CxRobot
  /-- Legacy members of native mode, by robot index. -/
  legacy : Tab CxRobot
  /-- The reply that waits on SPI (R564). -/
  reply : Option Bytes
  /-- GET_COUNTERS: checksum errors, unknown opcodes, partial frames, unread replies, MIC failures, RTCM epochs dropped, robots
  lost. -/
  counts : List Nat
  sent : Nat
  rcvd : Nat
  /-- RTCM bytes for the host buffer and for the air, and the whole seconds of the newest 1074 and 1005 (R574). -/
  host : Bytes
  onAir : Bytes
  last1074 : Nat
  last1005 : Nat
  /-- Messages from robots, oldest first. -/
  inbox : List (Nat × Bytes)
  lineOpen : Bool
  stopAll : Bool
  /-- Received CAN frames with their times of week, and frames to send. -/
  canIn : List (CanFrame × Nat)
  canOut : List CanFrame
  /-- GET_EVENT's store, and the event sequence number up to which it is filled (R577). -/
  events : List (Nat × Nat)
  seen : Nat
  /-- A survey: start and seconds; and the result of the newest: state, elapsed s, deviation in mm. -/
  survey : Option (Nat × Nat)
  surveyed : Nat × Nat × Nat
  /-- The CX tick in progress, the robots it polls, and the address polled last. -/
  k : Nat
  polled : List Nat
  lastPoll : Nat
  /-- Addresses with a join answer due, and addresses joined from the next tick. -/
  joinReq : List Nat
  joining : List Nat
  /-- When a RESET takes effect. -/
  resetAt : Option Nat
  deriving DecidableEq, Repr

/-- Something the K9 gives the outside world in answer to one command. -/
inductive Output where
  /-- A reply or completion packet on its way (R79, R86). -/
  | packet (via : Via) (r : Reply)
  /-- The answer to an SPI read: the oldest waiting packet, or none, for which the length is 0000h (R107). -/
  | spiRead (r : Option Reply)
  /-- JOURNAL_CONF for a command this unit has journaled (R91, R495). -/
  | journalMirror (sess acc : Nat)
  /-- A pair-link stop notice: the stop state of this unit changed (R362). -/
  | pairStop (kind index ramp : Nat) (set : Bool)
  /-- A received input forwarded to the partner in an ITEM (R482). -/
  | pairItem (i : PairIn)
  /-- The sealed intake, as the active (R483). -/
  | pairMerge (ids : List PairId)
  | pairSet (set : MeasSet)
  /-- DIGEST of a tick: TICK_SEQ, input and output digest, FLAGS, TEST (R486). -/
  | pairDigest (tick inD outD flags test : Nat)
  /-- The YIELD ordered set, with the reason code (R480, R490). -/
  | pairYield (reason : Nat)
  /-- SYNC_REQ, and SYNC_ANSWER with its RESULT (R481, R493). -/
  | pairSyncReq
  | pairSyncAnswer (result : Nat)
  /-- A preemptive stop frame on a chain: its channel's centre in kHz, and its PSDU (R202, R353). -/
  | stopFrame (chain khz : Nat) (psdu : Bytes)
  /-- CROOK_OUT changes (R360): true is high. -/
  | crookOut (high : Bool)
  /-- A native frame on a chain: its channel's centre in kHz, MCS, slot type, robot, and PSDU (R202, R206, R221). -/
  | airFrame (chain khz mcs typ : Nat) (robot : Option Nat) (psdu : Bytes)
  /-- A pulse on PPS_OUT, and on the copy pad if one is claimed (R181): width in µs. -/
  | pps (widthUs : Nat) (copy : Option Nat)
  /-- A frame starts on an Ethernet port's wire (R392). -/
  | ethFrame (port : Nat) (f : EthFrame)
  /-- An accepted frame is passed to its protocol (R389, R390): EtherType, and the UDP port or IP protocol of an IPv4
  datagram, with what follows the headers. -/
  | ethUp (port etherType sub : Nat) (data : Bytes)
  /-- A CAN frame's attempt starts, from buffer `mb` (R410). -/
  | canFrame (port mb : Nat) (f : CanFrame)
  /-- A CAN port acknowledges a valid frame (R403, R407). -/
  | canAck (port : Nat)
  /-- A CAN port sends an error flag (R402, R403). -/
  | canErrorFlag (port : Nat)
  /-- A fold message's CAN frame: identifier and data (R453). -/
  | canFold (port ident : Nat) (data : Bytes)
  /-- A pulse on a GPIO pad: width in ns (R473). -/
  | padPulse (pad widthNs : Nat)
  /-- A reply of the CX protocol, on SPI when `spi` (R564, R565). -/
  | cxReply (spi : Bool) (frame : Bytes)
  /-- A CX frame's nine payload bytes: channel, first slot of its pair, destination (R570, R571). -/
  | cxFrame (channel slot dst : Nat) (payload : Bytes)
  /-- Bytes on UART1's transmit line: the GPIO pad it is routed to, or UART1_TX (R103, R415). -/
  | serial (pad : Option Nat) (data : Bytes)
  deriving DecidableEq, Repr

/-- A part of the resynchronisation copy (R493), its instants converted to this unit's own clocks (assumption 178). A part replaces what this
unit holds; the parts of a later change come again. -/
inductive StatePart where
  /-- The configuration in effect, the stored generations, and the COMMITs not yet in effect (area 2). -/
  | config (c : Conf)
  /-- The sessions with their shadow sets, the number given last, and the journal (area 1). -/
  | sessions (t : Tab Session) (last : Nat) (journal : List JEntry)
  /-- The task store and the Drover (area 5). -/
  | tasks (t : Tsk)
  /-- The reservation table, the robots' tracks and requests, and the progress factors (areas 6 and 7). -/
  | pasture (p : Pas)
  /-- Registrations, link generations, counters, flock and link keys (area 7). -/
  | flock (l : Lnk)
  /-- Ephemerides, almanac and survey result (area 8). -/
  | gnss (eph alm : Tab Bytes) (surveyed : Option (Int × Int × Int × Nat))
  /-- LEAP, its announcement and the calendar's trim (area 8). -/
  | leap (leap : Int) (ann : Option (Int × Nat)) (trim : Option Int)
  /-- Holders of the all-stop, and the stop table (area 9). -/
  | stops (all : Tab Nat) (table : List StopEntry)
  /-- What the solver holds of each robot and of the corrections. -/
  | fixes (f : Fix)
  /-- The slot map, the maps that wait, and whether beacons are sent. -/
  | slots (map : SlotMap) (next : List (Nat × SlotMap)) (tickMap : Option (Nat × SlotMap)) (beacons : Bool)
  /-- What the fold's work holds. -/
  | fold (f : Fld)
  /-- The active names the boundary B from which the standby merges, in ticks from the present one. -/
  | boundary (ticks : Nat)
  deriving DecidableEq, Repr

end Sys2Proof.Machine
end

