-- ==== Sys2Proof/Syntax.lean ====
section
/-! DEFINITION. The commands the block takes: one constructor per row of the table, with the row's operands. The first
operand of each, `dt`, is the time in ns on the model's own clock since the previous command (assumption 2). -/

namespace Sys2Proof

open Sys2Proof.Machine

/-- One command: what a host, a robot, a partner device, a pin or the passing of time does to the K9. -/
inductive Instr where
  /-- POWER_ON (R60): VIN rises past its threshold and the K9 runs its boot sequence, cold or from Backup, up to the first tick in the unnegotiated state. -/
  | powerOn (dt : Nat) (o : BootObs)
  /-- EXTERNAL_RESET (R56): RST_N held low for 10 µs or longer resets the device with cause 3h. -/
  | externalReset (dt : Nat) (o : BootObs)
  /-- VIN_FALL (R599): VIN falls below its threshold for 5 µs and the device powers down into Backup under its hold-up. -/
  | vinFall (dt : Nat)
  /-- VBAT_LOSS (R601): VBAT falls below retention while VIN is absent, so the backup domain loses power. -/
  | vbatLoss (dt : Nat)
  /-- RESET_EXECUTE (R58): At the first tick boundary after the reply to a reset request has left the port, the device resets. -/
  | resetExecute (dt : Nat) (o : BootObs)
  /-- STANDBY_ENTRY (R66): At the first tick boundary after the POWER_STANDBY reply, MRAM writes finish, the event is archived and the device powers down. -/
  | standbyEntry (dt : Nat)
  /-- WAKE_PATTERN (R397): A matching wake frame on an enabled port wakes the K9 from Standby with cause 7h. -/
  | wakePattern (dt : Nat) (port : Nat) (frame : Bytes) (fcsOk : Bool) (o : BootObs)
  /-- STANDBY_SNAPSHOT (R68): Every SYS_STBY_SNAP_S seconds in Standby, a GNSS snapshot is captured and solved to set the calendar. -/
  | standbySnapshot (dt : Nat) (solved : Option (Nat × Nat))
  /-- TICK_BOUNDARY (R39): A tick opens: the intake is sealed and the periodic steps of R13 run in their windows. -/
  | tickBoundary (dt : Nat) (o : TickObs)
  /-- WINDOW_OVERRUN (R54): A line's step has not completed its admitted work by the end of its window, so an overrun event is raised. -/
  | windowOverrun (dt : Nat) (line : Nat)
  /-- SUPERFRAME_BOUNDARY (R35): A superframe boundary passes, at which maps, key generations and air changes take effect. -/
  | superframeBoundary (dt : Nat)
  /-- SLOT_START (R197): A slot starts on each chain and its frame is sent or received on the hopped channel. -/
  | slotStart (dt : Nat) (sense : List Int)
  /-- TICK_LENGTH_CHANGE (R37): A pending SYS_TICK_SLOTS takes effect at its superframe instant and TICK_LENGTH_CHANGED is raised. -/
  | tickLengthChange (dt : Nat)
  /-- TICK_REALIGN (R36): When time becomes valid off alignment, ticks are lengthened or shortened until aligned, raising TICK_UNALIGNED and TICK_ALIGNED. -/
  | tickRealign (dt : Nat)
  /-- DOMAIN_TAKES_EFFECT (R542): A committed domain's generation takes effect at its boundary, and the COMMIT completes when every touched domain has taken effect. -/
  | domainTakesEffect (dt : Nat) (dom : Nat)
  /-- WATCHDOG (R63): A core's watchdog is not serviced for SYS_WDT_TICKS ticks, so the core is halted and WATCHDOG is raised. -/
  | watchdog (dt : Nat) (core : Nat)
  /-- WATCHDOG_HW_RESET (R64): An armed DEVICE_RESET for WATCHDOG has not been applied within SYS_WDT_TICKS ticks, so the watchdog unit resets the device. -/
  | watchdogHwReset (dt : Nat) (o : BootObs)
  /-- SESSION_EXPIRY (R89): No packet of a session has arrived for SYS_SESSION_LINGER_S, so it expires and its completions are discarded. -/
  | sessionExpiry (dt : Nat) (n : Nat)
  /-- FRAGMENT_TIMEOUT (R93): A partial reassembly with no fragment for 1 s is discarded. -/
  | fragmentTimeout (dt : Nat)
  /-- BAD_PACKET (R78): A received packet failing sync, HCRC or reply-flag checks is discarded and counted. -/
  | badPacket (dt : Nat) (via : Via) (check : Nat)
  /-- FRAGMENT (R93): A fragment other than the last is stored and answered with FRAGMENT_HELD. -/
  | fragment (dt : Nat) (opcode : Nat) (p : Pkt)
  /-- SPI_READ (R107): An SPI read transaction returns the oldest waiting reply or completion. -/
  | spiRead (dt : Nat) (whole : Bool)
  /-- SESSION_OPEN (R69): Opens a session and agrees the catalogue. -/
  | sessionOpen (dt : Nat) (p : Pkt)
  /-- SESSION_RESUME (R88): Resumes a session, acknowledges completions and resends those held. -/
  | sessionResume (dt : Nat) (p : Pkt)
  /-- SESSION_CLOSE (R89): Closes a session that holds no other credit. -/
  | sessionClose (dt : Nat) (p : Pkt)
  /-- BARRIER (R92): Completes when every earlier work command has completed and orders later ones. -/
  | barrier (dt : Nat) (p : Pkt)
  /-- COMPLETION_ACK (R87): Acknowledges completions up to UPTO and frees credits. -/
  | completionAck (dt : Nat) (p : Pkt)
  /-- COMPLETION_READ (R87): Returns a held completion or the running state of a command. -/
  | completionRead (dt : Nat) (p : Pkt)
  /-- ORDERS_WRITE (R25): Stages one standing-order entry. -/
  | ordersWrite (dt : Nat) (p : Pkt)
  /-- ORDERS_READ (R97): Returns standing-order entries. -/
  | ordersRead (dt : Nat) (p : Pkt)
  /-- FAULT_ACK (R19): Acknowledges fault events up to SEQ. -/
  | faultAck (dt : Nat) (p : Pkt)
  /-- RESMAP_READ (R97): Returns the holders of a resource class. -/
  | resmapRead (dt : Nat) (p : Pkt)
  /-- EVENT_READ (R98): Returns event records from FROM_SEQ. -/
  | eventRead (dt : Nat) (p : Pkt)
  /-- SYS_CAPTURE_READ (R102): Returns and removes the stamps of a capture channel. -/
  | sysCaptureRead (dt : Nat) (p : Pkt)
  /-- BUDGET_READ (R52): Returns the budget block of the configuration in effect. -/
  | budgetRead (dt : Nat) (p : Pkt)
  /-- BUDGET_PROBE (R53): Prices the shadow set with hypothetical additions. -/
  | budgetProbe (dt : Nat) (p : Pkt)
  /-- SYS_RESET (R58): Requests a reset to the normal boot or the recovery ROM. -/
  | sysReset (dt : Nat) (p : Pkt)
  /-- POWER_STANDBY (R67): Requests Standby with a wake mask. -/
  | powerStandby (dt : Nat) (p : Pkt)
  /-- PRM_GET (R94): Returns parameter values in effect or staged. -/
  | prmGet (dt : Nat) (p : Pkt)
  /-- PRM_SET (R95): Stages parameter values into the shadow set. -/
  | prmSet (dt : Nat) (p : Pkt)
  /-- COMMIT (R96): Carries the shadow set to a new configuration generation. -/
  | commit (dt : Nat) (p : Pkt)
  /-- DISCARD (R96): Empties the shadow set. -/
  | discard (dt : Nat) (p : Pkt)
  /-- ECHO (R99): Returns its parameters unchanged. -/
  | echo (dt : Nat) (p : Pkt)
  /-- COUNTERS_READ (R99): Returns the transport link counters. -/
  | countersRead (dt : Nat) (p : Pkt)
  /-- COUNTERS_CLEAR (R99): Clears the link counters. -/
  | countersClear (dt : Nat) (p : Pkt)
  /-- CORE_CAPTURE_READ (R99): Returns the state that the watchdog captured from a halted core. -/
  | coreCaptureRead (dt : Nat) (p : Pkt)
  /-- DIA_ETH_CAPTURE (R104): Captures the frames that one port receives into the snapshot buffer. -/
  | diaEthCapture (dt : Nat) (p : Pkt)
  /-- ETH_CAPTURE_END (R104): A frame capture ends on time, a full buffer or link down, and completes. -/
  | ethCaptureEnd (dt : Nat)
  /-- DIA_CAPTURE_READ (R104): Reads the frame-capture buffer. -/
  | diaCaptureRead (dt : Nat) (p : Pkt)
  /-- DIA_RF_TEST (R105): Starts or stops an RF test on the claimed chain. -/
  | diaRfTest (dt : Nat) (p : Pkt)
  /-- RF_TEST_END (R105): An RF test ends by duration, meter or carrier sense, and completes. -/
  | rfTestEnd (dt : Nat) (busy : Bool) (mean peak : Int) (good bad : Nat)
  /-- CAPTURE_EDGE (R101): An edge on a capture channel's pad is stamped and stored, or lost with CAPTURE_LOST. -/
  | captureEdge (dt : Nat) (ch : Nat) (falling : Bool)
  /-- COMPARE_EDGE (R101): A compare channel's pad rises at each multiple of PERIOD_US and falls after WIDTH_US. -/
  | compareEdge (dt : Nat) (ch : Nat) (rise : Bool)
  /-- GNS_STATUS_READ (R137): Returns the baseband status. -/
  | gnsStatusRead (dt : Nat) (p : Pkt)
  /-- GNS_MEAS_READ (R137): Returns records of a recent measurement set. -/
  | gnsMeasRead (dt : Nat) (p : Pkt)
  /-- GNS_EXCLUDE (R137): Excludes a signal by host order. -/
  | gnsExclude (dt : Nat) (p : Pkt)
  /-- GNS_READMIT (R128): Readmits a suspect or host-excluded signal. -/
  | gnsReadmit (dt : Nat) (p : Pkt)
  /-- GNS_SNAP_START (R130): Schedules a snapshot capture. -/
  | gnsSnapStart (dt : Nat) (p : Pkt)
  /-- SNAPSHOT_CAPTURE (R131): At START the streams are sampled into the buffer, and the capture completes. -/
  | snapshotCapture (dt : Nat) (wave : List (Nat × Byte))
  /-- GNS_SNAP_READ (R132): Returns bytes of the snapshot buffer. -/
  | gnsSnapRead (dt : Nat) (p : Pkt)
  /-- GNS_SNAP_SOLVE (R133): Starts solving the last capture for time and position. -/
  | gnsSnapSolve (dt : Nat) (p : Pkt)
  /-- SNAPSHOT_SOLVE_DONE (R133): The snapshot solve ends and completes with its result. -/
  | snapshotSolveDone (dt : Nat) (result sats time : Nat) (xyz : Int × Int × Int) (tSig pSig : Nat)
  /-- GNS_SURVEY_START (R135): Starts a self-survey of the base position. -/
  | gnsSurveyStart (dt : Nat) (p : Pkt)
  /-- SURVEY_END (R135): A survey meets its duration and deviation, or times out failed, and SURVEY_DONE is raised. `xyz` and `sigma` are
  what it reports where it has too few solutions for them: the manual states none. -/
  | surveyEnd (dt : Nat) (xyz : Int × Int × Int) (sigma : Nat)
  /-- GNS_BASELINE_MEASURE (R136): Starts a measurement of the antenna baseline. -/
  | gnsBaselineMeasure (dt : Nat) (p : Pkt)
  /-- BASELINE_MEASURE_DONE (R136): The baseline measurement duration ends and the command completes. -/
  | baselineMeasureDone (dt : Nat) (e n u : Int) (sigma : Nat) (b1 b5 : Int)
  /-- CHANNEL_ALLOCATION (R111): Once per second, the candidate list is formed and channels are allotted. -/
  | channelAllocation (dt : Nat) (cands : List Cand)
  /-- ANT_OPEN (R110): Bias current stays below 3 mA for 1 s, so the antenna is open. -/
  | antOpen (dt : Nat) (ant : Nat)
  /-- ANT_SHORT (R110): Bias current exceeds 80 mA, so the bias is cut within 10 µs. -/
  | antShort (dt : Nat) (ant : Nat)
  /-- FIX_READ (R168): Returns the newest fix records. -/
  | fixRead (dt : Nat) (p : Pkt)
  /-- FIX_MODE_SET (R143): Schedules a change of a robot's positioning mode or fix rate. -/
  | fixModeSet (dt : Nat) (p : Pkt)
  /-- MODE_CHANGE_INSTANT (R143): A pending mode change takes effect at its whole second and completes. -/
  | modeChangeInstant (dt : Nat)
  /-- FIX_STATE_READ (R168): Returns per-robot fix state. -/
  | fixStateRead (dt : Nat) (p : Pkt)
  /-- FIX_FILTER_RESET (R168): Restarts a robot's filter at its next epoch. -/
  | fixFilterReset (dt : Nat) (p : Pkt)
  /-- CLK_TIME_READ (R187): Returns pasture time, UTC and quality. -/
  | clkTimeRead (dt : Nat) (p : Pkt)
  /-- CLK_TIME_SET (R185): Sets pasture time and the calendar while time is not valid. -/
  | clkTimeSet (dt : Nat) (p : Pkt)
  /-- HOLDOVER_EXPIRY (R178): CLK_HOLDOVER_S passes in holdover, so the state becomes HOLDOVER_EXPIRED. -/
  | holdoverExpiry (dt : Nat)
  /-- TIME_FREERUN (R178): The estimated error passes 1 ms, so the state becomes FREERUN and TIME_INVALID is raised. -/
  | timeFreerun (dt : Nat)
  /-- TIME_OFFSET (R180): On restored discipline, an offset beyond CLK_STEP_NS raises TIME_OFFSET, or a slew starts. -/
  | timeOffset (dt : Nat)
  /-- TIME_STEP (R180): Under an armed entry, the count is stepped by −Δ at the next tick boundary. -/
  | timeStep (dt : Nat)
  /-- SLEW_COMPLETE (R180): A slew removes the offset and the state becomes LOCKED. -/
  | slewComplete (dt : Nat)
  /-- LEAP_SECOND (R173): An announced leap second is applied and LEAP_CHANGED is raised. -/
  | leapSecond (dt : Nat)
  /-- REFIN_LOST (R177): REFIN leaves its tolerance and the timebase returns to the TCXO. -/
  | refinLost (dt : Nat)
  /-- REFIN_RETAKEN (R177): REFIN has been in tolerance for 10 s and is retaken. -/
  | refinRetaken (dt : Nat)
  /-- PPS_PULSE (R181): PPS_OUT rises at each whole second plus the offset. -/
  | ppsPulse (dt : Nat)
  /-- PPS_OK_MIDPOINT (R182): At each midpoint, PPS_OK takes the time state in effect. -/
  | ppsOkMidpoint (dt : Nat)
  /-- CALENDAR_TRIM (R183): Once per 60 s while LOCKED, the calendar is trimmed and copied. -/
  | calendarTrim (dt : Nat)
  /-- AIR_CHAIN_READ (R214): Returns per-chain state and counters. -/
  | airChainRead (dt : Nat) (p : Pkt)
  /-- AIR_MAP_READ (R214): Returns robots' slot positions. -/
  | airMapRead (dt : Nat) (p : Pkt)
  /-- CHAIN_FAULT (R213): A chain check fails and the chain goes out of service. -/
  | chainFault (dt : Nat) (c level : Nat)
  /-- AIR_ROBOT_ADD (R219): Registers a robot and places it on a chain. -/
  | airRobotAdd (dt : Nat) (p : Pkt)
  /-- AIR_ROBOT_REMOVE (R220): Sends LEAVE to a robot and releases its index. -/
  | airRobotRemove (dt : Nat) (p : Pkt)
  /-- ROBOT_RELEASED (R220): The index is released when LEAVE is acknowledged or AIR_LOST_SF passes, and the removal completes. -/
  | robotReleased (dt : Nat) (r : Nat)
  /-- AIR_LINK_READ (R243): Returns per-robot link state. -/
  | airLinkRead (dt : Nat) (p : Pkt)
  /-- JOIN_REQUEST (R226): A join or roam request in a rejoin slot is verified and answered in the next superframe. -/
  | joinRequest (dt : Nat) (f : AirRx)
  /-- UPLINK_FRAME (R229): A secured uplink frame is verified and its acknowledgements and parcels are taken. -/
  | uplinkFrame (dt : Nat) (f : AirRx)
  /-- COR_FRAME (R156): A COR in its slot is validated and decoded for the robot's fix. -/
  | corFrame (dt : Nat) (f : AirRx)
  /-- COR_MISSED (R165): No COR has arrived by the boundary after its epoch's slots, so a NONE record is produced. -/
  | corMissed (dt : Nat) (r : Nat)
  /-- SPR (R150): A self-solved position report is turned into a fix record. -/
  | spr (dt : Nat) (r : Nat) (v : Bytes)
  /-- RESUME (R235): A robot's RESUME parcel lists its local slot and is reconciled with the task records. -/
  | resume (dt : Nat) (r : Nat) (v : Bytes)
  /-- SLEEP_REQ (R239): A robot asks to sleep, and a WAKE element is granted. -/
  | sleepReq (dt : Nat) (r : Nat) (v : Bytes)
  /-- LEAVE (R605): A robot's LEAVE ends its link generation or acknowledges a removal. -/
  | leave (dt : Nat) (r : Nat) (v : Bytes)
  /-- SEG_REQ (R268): A robot requests segments of its route for reservation. -/
  | segReq (dt : Nat) (r : Nat) (v : Bytes)
  /-- RELEASE (R276): A robot releases segments of a grant after KEEP. -/
  | release (dt : Nat) (r : Nat) (v : Bytes)
  /-- TASK_DONE (R326): A robot reports how its task ended, or declines it. -/
  | taskDone (dt : Nat) (r : Nat) (v : Bytes)
  /-- TASK_STATE (R325): A robot reports battery and availability. -/
  | taskState (dt : Nat) (r : Nat) (v : Bytes)
  /-- STOP_STATE (R358): A covered robot reports ramping or standstill, confirming a stop. -/
  | stopState (dt : Nat) (r : Nat) (v : Bytes)
  /-- PARCEL_RETX (R233): AIR_RETX_SF superframes pass without a verified frame, so unacknowledged parcels are sent again. -/
  | parcelRetx (dt : Nat) (r : Nat)
  /-- ROBOT_LOST (R237): No verified frame for AIR_LOST_SF superframes, or missed wakes, put the robot in state 03h. -/
  | robotLost (dt : Nat) (r : Nat)
  /-- WAKE_MISSED (R240): A sleeper sends no verified frame in its wake superframe. -/
  | wakeMissed (dt : Nat) (r : Nat)
  /-- COUNTER_EXHAUSTED (R225): A key's frame counter would reach FFFF_FFFFh, so frames under that key are withheld. -/
  | counterExhausted (dt : Nat) (key : Option Nat)
  /-- PAS_NODES_WRITE (R252): Stages roadmap node records. -/
  | pasNodesWrite (dt : Nat) (p : Pkt)
  /-- PAS_LANES_WRITE (R252): Stages roadmap lane records. -/
  | pasLanesWrite (dt : Nat) (p : Pkt)
  /-- PAS_PADDOCK_WRITE (R255): Stages one paddock. -/
  | pasPaddockWrite (dt : Nat) (p : Pkt)
  /-- PAS_HURDLE_PLACE (R257): Places a hurdle from the next tick boundary. -/
  | pasHurdlePlace (dt : Nat) (p : Pkt)
  /-- PAS_HURDLE_REMOVE (R257): Removes a hurdle. -/
  | pasHurdleRemove (dt : Nat) (p : Pkt)
  /-- PAS_MOVE (R284): Plans a robot to a destination node and completes on arrival. -/
  | pasMove (dt : Nat) (p : Pkt)
  /-- PAS_RESV_READ (R284): Returns reservation records. -/
  | pasResvRead (dt : Nat) (p : Pkt)
  /-- PAS_STATE_READ (R284): Returns reservation table counts. -/
  | pasStateRead (dt : Nat) (p : Pkt)
  /-- PAS_RESV_CLEAR (R276): Frees every entry of a robot. -/
  | pasResvClear (dt : Nat) (p : Pkt)
  /-- OVERSTAY (R277): An entry reaches its window's end unfreed and is converted. -/
  | overstay (dt : Nat)
  /-- BORDER_VOTE_TIMEOUT (R283): No vote arrives within PAS_BORDER_VOTE_TICKS, so the coordinator aborts. -/
  | borderVoteTimeout (dt : Nat)
  /-- PREPARED_ENTRY_EXPIRY (R283): A prepared border entry's window ends without DECIDE. -/
  | preparedEntryExpiry (dt : Nat)
  /-- NO_EVIDENCE (R303): A moving robot has had no evidence fix for PRF_EVIDENCE_GAP_MS. -/
  | noEvidence (dt : Nat) (r : Nat)
  /-- PRF_STATE_READ (R306): Returns deviation state and progress factors. -/
  | prfStateRead (dt : Nat) (p : Pkt)
  /-- PRF_PF_SET (R306): Sets a robot's progress factor. -/
  | prfPfSet (dt : Nat) (p : Pkt)
  /-- PRF_TRACK_READ (R306): Returns a robot's granted track and profiles. -/
  | prfTrackRead (dt : Nat) (p : Pkt)
  /-- TSK_SUBMIT (R313): Submits task records. -/
  | tskSubmit (dt : Nat) (p : Pkt)
  /-- TSK_CANCEL (R329): Cancels a task or recalls it from its robot. -/
  | tskCancel (dt : Nat) (p : Pkt)
  /-- TSK_RESULT_READ (R332): Returns held task results. -/
  | tskResultRead (dt : Nat) (p : Pkt)
  /-- TSK_RESULT_ACK (R332): Frees held results up to UPTO. -/
  | tskResultAck (dt : Nat) (p : Pkt)
  /-- TSK_STATE_READ (R337): Returns task store counts. -/
  | tskStateRead (dt : Nat) (p : Pkt)
  /-- TSK_READ (R337): Returns one task's state and record. -/
  | tskRead (dt : Nat) (p : Pkt)
  /-- DROVER_JOB_END (R334): A core ends its job and its staged job becomes current. -/
  | droverJobEnd (dt : Nat) (core : Nat)
  /-- CRK_STOP (R365): Sets a host stop of a given scope and ramp. -/
  | crkStop (dt : Nat) (p : Pkt)
  /-- CRK_RELEASE (R359): Removes one holder at the next tick boundary. -/
  | crkRelease (dt : Nat) (p : Pkt)
  /-- CRK_STATE_READ (R365): Returns the stop state. -/
  | crkStateRead (dt : Nat) (p : Pkt)
  /-- CRK_ROBOT_READ (R365): Returns per-robot stop coverage. -/
  | crkRobotRead (dt : Nat) (p : Pkt)
  /-- LOOP_OPEN (R342): A loop channel has been low for a time; once that is the filter time, the all-stop takes effect. -/
  | loopOpen (dt : Nat) (low : PadLow)
  /-- LOOP_CLOSE (R344): The loop counts as closed, releasing its stop unless latched. -/
  | loopClose (dt : Nat) (a b : Bool)
  /-- LOOP_DISCREPANCY (R343): One channel is open and the other closed for longer than CRK_DISC_MS. -/
  | loopDiscrepancy (dt : Nat)
  /-- STOP_FRAME_SEND (R352): A preemptive stop frame is sent at the now or next occasion of a stop change. -/
  | stopFrameSend (dt : Nat) (c : Nat) (sense : Int)
  /-- STOP_UNCONFIRMED (R358): A covered robot is not confirmed within T_E plus CRK_CONFIRM_MS. -/
  | stopUnconfirmed (dt : Nat) (r : Nat)
  /-- AXS_MOVE (R372): Starts an axis move. -/
  | axsMove (dt : Nat) (p : Pkt)
  /-- AXS_HALT (R380): Halts an axis with a normal or emergency ramp. -/
  | axsHalt (dt : Nat) (p : Pkt)
  /-- AXS_HOME (R382): Searches for the reference edge and sets the position. -/
  | axsHome (dt : Nat) (p : Pkt)
  /-- AXS_SET_POS (R380): Sets an axis's position. -/
  | axsSetPos (dt : Nat) (p : Pkt)
  /-- AXS_STATE_READ (R382): Returns axis state records. -/
  | axsStateRead (dt : Nat) (p : Pkt)
  /-- AXIS_PWM_PERIOD (R371): Each PWM period advances the position, applies phase voltages and compares the encoder. -/
  | axisPwmPeriod (dt : Nat) (n vbus : Nat) (edges : Int)
  /-- AXIS_MOVE_DONE (R380): An axis reaches its target or stops, and the move completes with its outcome. -/
  | axisMoveDone (dt : Nat) (n : Nat)
  /-- AXIS_STOP_RAMP (R377): A new or raised all-stop makes moving axes ramp by ON_STOP. -/
  | axisStopRamp (dt : Nat)
  /-- AXIS_STALL (R373): The load angle exceeds STALL_ANGLE for STALL_N estimates. -/
  | axisStall (dt : Nat) (n delta : Nat)
  /-- AXIS_REF_EDGE (R376): An active reference or AUX edge latches position and count. -/
  | axisRefEdge (dt : Nat) (n : Nat) (aux active : Bool)
  /-- ENC_INDEX_EDGE (R374): A rising ENC_Z edge latches the encoder count. -/
  | encIndexEdge (dt : Nat) (n : Nat)
  /-- ENC_ERROR (R374): A quadrature or rate error suspends encoder comparison. -/
  | encError (dt : Nat) (n level : Nat)
  /-- ETH_PORT_READ (R398): Returns per-port state and counters. -/
  | ethPortRead (dt : Nat) (p : Pkt)
  /-- ETH_PROBE (R396): Sends probe frames and reports their egress stamps. -/
  | ethProbe (dt : Nat) (p : Pkt)
  /-- ETH_FRAME_RECEIVED (R389): A received frame is filtered, stamped and passed to its protocol. -/
  | ethFrameReceived (dt : Nat) (port : Nat) (frame : Bytes) (fcsOk : Bool)
  /-- ARP_REQUEST (R390): An ARP request for ETH_IP_ADDR is answered. -/
  | arpRequest (dt : Nat) (mac ip target : Nat)
  /-- ICMP_ECHO (R390): An ICMP echo request is answered. -/
  | icmpEcho (dt : Nat) (mac ip : Nat) (data : Bytes)
  /-- IP_REASSEMBLY_TIMEOUT (R390): A reassembly incomplete after 1 s is discarded. -/
  | ipReassemblyTimeout (dt : Nat)
  /-- PHY_POLL (R387): Every 10 ms in RGMII mode, the PHY is polled and link changes are raised. -/
  | phyPoll (dt : Nat) (mode : Nat)
  /-- LINK_CHANGED (R387): A port's link state changes. -/
  | linkChanged (dt : Nat) (port mode : Nat)
  /-- EXCESS_COLLISIONS (R388): A frame meets 16 collisions and is dropped. -/
  | excessCollisions (dt : Nat) (port : Nat)
  /-- PLCA_LOST (R388): The PLCA status goes false or returns. -/
  | plcaLost (dt : Nat) (port : Nat) (active : Bool)
  /-- PTP_SYNC (R395): A Sync exchange as slave gives a discipline input. -/
  | ptpSync (dt : Nat) (port ident : Nat) (delta : Int) (err : Nat)
  /-- PTP_ANNOUNCE_TIMEOUT (R395): Three announce intervals pass without the master, so it is changed. -/
  | ptpAnnounceTimeout (dt : Nat) (next : Option Nat)
  /-- PTP_MASTER_SYNC (R395): As master, Sync and Announce are sent at their intervals. -/
  | ptpMasterSync (dt : Nat) (port : Nat)
  /-- PTP_DELAY_REQ (R395): As master, a Delay_Req `req` from the station `mac` is answered. -/
  | ptpDelayReq (dt : Nat) (port mac : Nat) (req : List Byte)
  /-- CAN_TX (R410): Loads a frame into a transmit buffer and makes it pending. -/
  | canTx (dt : Nat) (p : Pkt)
  /-- CAN_TX_ABORT (R411): Aborts a pending transmission. -/
  | canTxAbort (dt : Nat) (p : Pkt)
  /-- CAN_MB_READ (R409): Reads buffer words, taking and releasing the read lock. -/
  | canMbRead (dt : Nat) (p : Pkt)
  /-- CAN_STATE_READ (R416): Returns CAN port state. -/
  | canStateRead (dt : Nat) (p : Pkt)
  /-- CAN_RECOVER (R413): Starts bus-off recovery counting. -/
  | canRecover (dt : Nat) (p : Pkt)
  /-- CAN_SERIAL_TX (R415): Queues bytes on the site-device serial link. -/
  | canSerialTx (dt : Nat) (p : Pkt)
  /-- SERIAL_TX_DONE (R415): The last stop bit of a serial command ends and it completes. -/
  | serialTxDone (dt : Nat)
  /-- SERIAL_PACKET_END (R415): An idle gap or 256 bytes ends a received serial packet. -/
  | serialPacketEnd (dt : Nat) (r : SerialRx) (age : Nat) (err : Bool)
  /-- CAN_FRAME_RECEIVED (R407): A valid frame goes to a matching buffer or is dropped. -/
  | canFrameReceived (dt : Nat) (port : Nat) (f : CanFrame) (age recErr : Nat)
  /-- CAN_ATTEMPT_END (R410): A transmission attempt succeeds, loses arbitration or errs. -/
  | canAttemptEnd (dt : Nat) (port result age : Nat)
  /-- CAN_BUS_OFF (R413): A port goes bus-off and stops sending. -/
  | canBusOff (dt : Nat) (port : Nat)
  /-- CAN_BUS_ON (R413): 128 recessive sequences return the port to error active. -/
  | canBusOn (dt : Nat) (port seqs : Nat)
  /-- CAN_LOCK_TIMEOUT (R409): A read lock held 1 s is released. -/
  | canLockTimeout (dt : Nat)
  /-- QUE_READ (R436): Returns packets of a host queue. -/
  | queRead (dt : Nat) (p : Pkt)
  /-- QUE_RELEASE (R436): Frees packets up to UPTO. -/
  | queRelease (dt : Nat) (p : Pkt)
  /-- QUE_STATE_READ (R443): Returns queue status words. -/
  | queStateRead (dt : Nat) (p : Pkt)
  /-- MEM_STATE_READ (R443): Returns bank and MRAM state. -/
  | memStateRead (dt : Nat) (p : Pkt)
  /-- MEM_UNCORRECTABLE (R425): A read finds an uncorrectable word and poisons it. -/
  | memUncorrectable (dt : Nat) (b addr : Nat) (w : List Nat)
  /-- BANK_COPY_DONE (R428): The copy onto the spare completes and the spare serves in its place. -/
  | bankCopyDone (dt : Nat)
  /-- SCRUB_PASS_END (R426): A scrub pass ends, or is late at MEM_SCRUB_S. -/
  | scrubPassEnd (dt : Nat) (complete : Bool) (reads : List (Nat × Nat × List Nat × Option (List Nat)))
  /-- MRAM_SCRUB (R441): The daily MRAM scrub corrects or reports words. -/
  | mramScrub (dt : Nat) (ce : List Nat) (bad : List (Nat × Nat × Bool))
  /-- FLD_STATE_READ (R472): Returns fold state. -/
  | fldStateRead (dt : Nat) (p : Pkt)
  /-- FLD_MEMBER_ADD (R456): Stages a roster entry. -/
  | fldMemberAdd (dt : Nat) (p : Pkt)
  /-- FLD_MEMBER_REMOVE (R456): Deletes a roster entry. -/
  | fldMemberRemove (dt : Nat) (p : Pkt)
  /-- FLD_MEMBERS_READ (R472): Returns roster records. -/
  | fldMembersRead (dt : Nat) (p : Pkt)
  /-- JOIN (R457): A device asks to join a fold and the bellwether answers. -/
  | join (dt : Nat) (f : FoldRx)
  /-- JOIN_ANSWER (R457): A device is admitted or refused. -/
  | joinAnswer (dt : Nat) (f : FoldRx)
  /-- HEARTBEAT (R462): A member's heartbeat is judged for step and answered. -/
  | heartbeat (dt : Nat) (f : FoldRx)
  /-- HB_ANSWER (R459): A member takes its state and the fold catalogue. -/
  | hbAnswer (dt : Nat) (f : FoldRx)
  /-- FOLD_PERIODIC_SEND (R458): Each superframe, a device sends JOIN or HEARTBEAT and resends unanswered messages. -/
  | foldPeriodicSend (dt : Nat)
  /-- MEMBER_ABSENT (R458): No heartbeat for FLD_MISS_SF superframes marks a member absent. -/
  | memberAbsent (dt : Nat) (fold m : Nat)
  /-- FOLD_LOST (R458): No HB_ANSWER for FLD_MISS_SF superframes, so the member joins again. -/
  | foldLost (dt : Nat)
  /-- ROUTED (R465): A routed packet is forwarded along its path or taken by its target. -/
  | routed (dt : Nat) (f : FoldRx)
  /-- STOP (R468): A fold STOP is forwarded, acknowledged and applied to the source 3 set. -/
  | stop (dt : Nat) (f : FoldRx)
  /-- STOP_ACK (R452): Ends resends of a fold STOP. -/
  | stopAck (dt : Nat) (f : FoldRx)
  /-- STOP_SET (R468): A member replaces its source 3 set. -/
  | stopSet (dt : Nat) (f : FoldRx)
  /-- RELEASE_REQ (R241): A member releases a roaming robot. -/
  | releaseReq (dt : Nat) (dev : Nat) (body : Bytes)
  /-- FOLD_RELEASE (R469): The new member takes the robot's hold and acknowledges. -/
  | foldRelease (dt : Nat) (dev : Nat) (body : Bytes)
  /-- RELEASE_ACK (R469): The former member frees the hold. -/
  | releaseAck (dt : Nat) (dev : Nat) (body : Bytes)
  /-- PREPARE (R283): A neighbour tests border entries and votes. -/
  | prepare (dt : Nat) (dev : Nat) (body : Bytes)
  /-- VOTE (R282): The coordinator collects a border vote and grants or aborts. -/
  | vote (dt : Nat) (dev : Nat) (body : Bytes)
  /-- DECIDE (R283): Prepared entries are committed or freed. -/
  | decide (dt : Nat) (dev : Nat) (body : Bytes)
  /-- RESUME_NOTE (R470): A member applies a roamed robot's RESUME to its own tasks. -/
  | resumeNote (dt : Nat) (dev : Nat) (body : Bytes)
  /-- NOTE_ACK (R452): Ends resends of RESUME_NOTE. -/
  | noteAck (dt : Nat) (dev : Nat) (body : Bytes)
  /-- TASK_REPORT (R470): An issuer counts a delivery or completion of its task. -/
  | taskReport (dt : Nat) (dev : Nat) (body : Bytes)
  /-- REPORT_ACK (R470): The serving member frees or recalls its proxy record. -/
  | reportAck (dt : Nat) (dev : Nat) (body : Bytes)
  /-- BORDER_DIGEST (R471): A neighbour's border digest is compared with the member's own. -/
  | borderDigest (dt : Nat) (dev : Nat) (body : Bytes)
  /-- RELAY (R455): A relayed message is forwarded by device number or taken. -/
  | relay (dt : Nat) (f : FoldRx)
  /-- FOLD_PART_TIMEOUT (R453): A CAN fold message incomplete after 100 ms is discarded. -/
  | foldPartTimeout (dt : Nat)
  /-- PAI_STATE_READ (R496): Returns pair state. -/
  | paiStateRead (dt : Nat) (p : Pkt)
  /-- PAI_RESYNC (R493): Starts resynchronisation of the standby. -/
  | paiResync (dt : Nat) (p : Pkt)
  /-- PAI_ROLE_SET (R476): Sets the unit's pair role. -/
  | paiRoleSet (dt : Nat) (p : Pkt)
  /-- PAI_YIELD (R489): Makes a named unit yield. -/
  | paiYield (dt : Nat) (p : Pkt)
  /-- PAIR_TICK (R480): The standby takes tick boundaries and time from the active. -/
  | pairTick (dt : Nat) (count : Nat)
  /-- PAIR_STOP (R362): A partner's stop change is applied as source 4. -/
  | pairStop (dt : Nat) (kind index ramp : Nat) (set : Bool)
  /-- YIELD (R491): The partner has yielded, so this unit takes control. -/
  | yield (dt : Nat) (reason : Nat)
  /-- ITEM (R482): A partner's received input is added to the merge. -/
  | item (dt : Nat) (inp : PairIn)
  /-- MERGE (R483): The standby takes the sealed intake. -/
  | merge (dt : Nat) (m : MergeMsg)
  /-- JOURNAL_CONF (R495): The partner confirms a journal write, allowing the reply. -/
  | journalConf (dt : Nat) (sess acc : Nat)
  /-- DIGEST (R487): Tick digests are compared and the next plan released. -/
  | digest (dt : Nat) (inD outD : Nat) (written : Bool) (test : Nat)
  /-- MISMATCH_TEST_DONE (R488): The mismatch test results decide which unit yields. -/
  | mismatchTestDone (dt : Nat) (passed : Bool)
  /-- SYNC_REQ (R493): The active answers and starts streaming state. -/
  | syncReq (dt : Nat) (eui role : Nat) (images keys : Bool)
  /-- SYNC_ANSWER (R493): The standby learns whether resynchronisation proceeds. -/
  | syncAnswer (dt : Nat) (result : Nat)
  /-- PAIR_STATE_FRAME (R493): The standby takes a part of the resynchronisation copy. -/
  | pairStateFrame (dt : Nat) (part : StatePart)
  /-- PAIR_LINK_TRAINED (R493): The link trains, and a standby with PAI_AUTO_SYNC sends SYNC_REQ. -/
  | pairLinkTrained (dt : Nat) (lane0 lane1 : Bool)
  /-- PAIR_LANE_DOWN (R479): A lane loses lock or fails, and traffic continues on the other. -/
  | pairLaneDown (dt : Nat) (lane : Nat)
  /-- PAIR_LINK_LOST (R492): The link is lost without YIELD, so the standby yields. -/
  | pairLinkLost (dt : Nat)
  /-- PARTNER_SILENT (R492): A yielded standby verifies no beacon for PAI_SILENT_TICKS. -/
  | partnerSilent (dt : Nat)
  /-- PARTNER_ABSENT (R493): A standby is not in lockstep PAI_FORM_S after load. -/
  | partnerAbsent (dt : Nat)
  /-- RESYNC_TIMEOUT (R493): Resynchronisation exceeds 60 s and fails. -/
  | resyncTimeout (dt : Nat)
  /-- ITEM_DISCARD (R483): An item named by no MERGE within 10 ticks is discarded. -/
  | itemDiscard (dt : Nat)
  /-- VIT_KEY_LOAD (R508): Loads a wrapped key into a slot. -/
  | vitKeyLoad (dt : Nat) (p : Pkt)
  /-- VIT_KEY_ERASE (R509): Empties a slot. -/
  | vitKeyErase (dt : Nat) (p : Pkt)
  /-- VIT_SLOT_READ (R518): Returns slot records. -/
  | vitSlotRead (dt : Nat) (p : Pkt)
  /-- VIT_ATTEST (R511): Returns a signed attestation statement. -/
  | vitAttest (dt : Nat) (p : Pkt)
  /-- VIT_CERT_READ (R512): Returns the device certificate. -/
  | vitCertRead (dt : Nat) (p : Pkt)
  /-- VIT_STATE_READ (R518): Returns Vitrine state. -/
  | vitStateRead (dt : Nat) (p : Pkt)
  /-- VIT_TAMPER_CLEAR (R514): Clears the latched tamper level. -/
  | vitTamperClear (dt : Nat) (p : Pkt)
  /-- TAMPER_ALARM (R517): A tamper source alarms and hardware-held entries zeroize keys. -/
  | tamperAlarm (dt : Nat) (source : Nat) (active : Bool)
  /-- KEY_REMASK (R504): Working-key shares are remasked. -/
  | keyRemask (dt : Nat)
  /-- RNG_FAULT (R502): A noise-source health test fails. -/
  | rngFault (dt : Nat)
  /-- UPD_OPEN (R525): Takes the update lock. -/
  | updOpen (dt : Nat) (p : Pkt)
  /-- UPD_BEGIN (R527): Starts a download into the non-running bank and erases it. -/
  | updBegin (dt : Nat) (p : Pkt)
  /-- BANK_ERASE_DONE (R527): The erase finishes and UPD_BEGIN completes. -/
  | bankEraseDone (dt : Nat) (part : Nat)
  /-- UPD_WRITE (R528): Programs image bytes at the next offset. -/
  | updWrite (dt : Nat) (p : Pkt)
  /-- UPD_VERIFY (R529): Checks a written bank. -/
  | updVerify (dt : Nat) (p : Pkt)
  /-- UPD_ACTIVATE (R530): Activates new banks by handover or at reset. -/
  | updActivate (dt : Nat) (p : Pkt)
  /-- HANDOVER_PAUSE (R531): A part's handover pause ends and its boot entry flips. -/
  | handoverPause (dt : Nat) (part c us : Nat)
  /-- HANDOVER_FAIL (R534): New firmware does not resume by B + 3 T, or a chain fails after loading. -/
  | handoverFail (dt : Nat) (part c : Nat) (again : Bool)
  /-- UPD_CONFIRM (R537): Confirms the trial banks. -/
  | updConfirm (dt : Nat) (p : Pkt)
  /-- UPD_CLOSE (R525): Ends the update lock. -/
  | updClose (dt : Nat) (p : Pkt)
  /-- UPD_STATE_READ (R547): Returns update state. -/
  | updStateRead (dt : Nat) (p : Pkt)
  /-- UPD_IDLE_TIMEOUT (R525): UPD_IDLE_S passes without an update command, so the lock ends. -/
  | updIdleTimeout (dt : Nat)
  /-- TRIAL_UNCONFIRMED (R538): UPD_TRIAL_S passes without confirmation. -/
  | trialUnconfirmed (dt : Nat)
  /-- ARC_READ (R560): Returns Archive records. -/
  | arcRead (dt : Nat) (p : Pkt)
  /-- ARC_STATE_READ (R560): Returns Archive state. -/
  | arcStateRead (dt : Nat) (p : Pkt)
  /-- ARCHIVE_INTERVAL_END (R557): An interval ends and its interval and count records are written. -/
  | archiveIntervalEnd (dt : Nat)
  /-- CX_BAD_FRAME (R565): A CX frame with LEN 0 or cut short is discarded and counted. -/
  | cxBadFrame (dt : Nat)
  /-- PING (R567): CX opcode 01h, answered with OK. -/
  | ping (dt : Nat) (spi : Bool) (data : Bytes)
  /-- GET_VERSION (R567): Returns CX hardware and firmware versions. -/
  | getVersion (dt : Nat) (spi : Bool) (data : Bytes)
  /-- RESET (R567): CX reset 20 ms after the reply. -/
  | reset (dt : Nat) (spi : Bool) (data : Bytes)
  /-- GET_STATUS (R567): Returns CX status. -/
  | getStatus (dt : Nat) (spi : Bool) (data : Bytes)
  /-- GET_TIME (R567): Returns GPS week and time of week. -/
  | getTime (dt : Nat) (spi : Bool) (data : Bytes)
  /-- SET_BASE_POS (R567): Fixes the base position. -/
  | setBasePos (dt : Nat) (spi : Bool) (data : Bytes)
  /-- GET_BASE_POS (R567): Returns the base position. -/
  | getBasePos (dt : Nat) (spi : Bool) (data : Bytes)
  /-- START_SURVEY (R567): Starts or restarts a survey. -/
  | startSurvey (dt : Nat) (spi : Bool) (data : Bytes)
  /-- GET_SURVEY (R567): Returns survey state. -/
  | getSurvey (dt : Nat) (spi : Bool) (data : Bytes)
  /-- SET_ELEV_MASK (R567): Sets the elevation mask. -/
  | setElevMask (dt : Nat) (spi : Bool) (data : Bytes)
  /-- GET_SAT_INFO (R567): Returns satellite information. -/
  | getSatInfo (dt : Nat) (spi : Bool) (data : Bytes)
  /-- SET_RTCM (R574): Sets the RTCM period and outputs. -/
  | setRtcm (dt : Nat) (spi : Bool) (data : Bytes)
  /-- READ_RTCM (R567): Returns bytes of the RTCM host buffer. -/
  | readRtcm (dt : Nat) (spi : Bool) (data : Bytes)
  /-- SET_RADIO (R567): Sets domain, power and PAN. -/
  | setRadio (dt : Nat) (spi : Bool) (data : Bytes)
  /-- GET_RADIO (R567): Returns radio settings and counts. -/
  | getRadio (dt : Nat) (spi : Bool) (data : Bytes)
  /-- ADD_ROBOT (R567): Registers a CX robot. -/
  | addRobot (dt : Nat) (spi : Bool) (data : Bytes)
  /-- REMOVE_ROBOT (R567): Removes a CX robot. -/
  | removeRobot (dt : Nat) (spi : Bool) (data : Bytes)
  /-- LIST_ROBOTS (R567): Lists registered robots. -/
  | listRobots (dt : Nat) (spi : Bool) (data : Bytes)
  /-- GET_ROBOT (R567): Returns a robot's newest report. -/
  | getRobot (dt : Nat) (spi : Bool) (data : Bytes)
  /-- SEND_TASK (R567): Sends a task to a robot. -/
  | sendTask (dt : Nat) (spi : Bool) (data : Bytes)
  /-- CANCEL_TASK (R567): Cancels a robot's task. -/
  | cancelTask (dt : Nat) (spi : Bool) (data : Bytes)
  /-- GET_TASK (R567): Returns a robot's task state. -/
  | getTask (dt : Nat) (spi : Bool) (data : Bytes)
  /-- SEND_MSG (R567): Queues a message to a robot. -/
  | sendMsg (dt : Nat) (spi : Bool) (data : Bytes)
  /-- READ_MSG (R567): Returns the oldest robot message. -/
  | readMsg (dt : Nat) (spi : Bool) (data : Bytes)
  /-- STOP_ALL (R575): Holds a CX all-stop. -/
  | stopAll (dt : Nat) (spi : Bool) (data : Bytes)
  /-- RELEASE_STOP (R575): Releases STOP_ALL. -/
  | releaseStop (dt : Nat) (spi : Bool) (data : Bytes)
  /-- STOP_ROBOT (R575): Stops or releases one robot. -/
  | stopRobot (dt : Nat) (spi : Bool) (data : Bytes)
  /-- GET_STOP (R567): Returns the stop state. -/
  | getStop (dt : Nat) (spi : Bool) (data : Bytes)
  /-- SET_CAN (R576): Enables CAN port 0 with a filter. -/
  | setCan (dt : Nat) (spi : Bool) (data : Bytes)
  /-- CAN_SEND (R576): Queues a CAN frame. -/
  | canSend (dt : Nat) (spi : Bool) (data : Bytes)
  /-- CAN_READ (R576): Returns the oldest received CAN frame. -/
  | canRead (dt : Nat) (spi : Bool) (data : Bytes)
  /-- SET_NETKEY (R567): Sets the CX network key. -/
  | setNetkey (dt : Nat) (spi : Bool) (data : Bytes)
  /-- SET_ANT (R567): Sets antenna bias. -/
  | setAnt (dt : Nat) (spi : Bool) (data : Bytes)
  /-- GET_EVENT (R577): Returns and removes the oldest CX event. -/
  | getEvent (dt : Nat) (spi : Bool) (data : Bytes)
  /-- SAVE_CONFIG (R569): Saves the CX configuration to MRAM. -/
  | saveConfig (dt : Nat) (spi : Bool) (data : Bytes)
  /-- LOAD_DEFAULTS (R567): Loads default CX settings. -/
  | loadDefaults (dt : Nat) (spi : Bool) (data : Bytes)
  /-- GET_COUNTERS (R567): Returns CX counters. -/
  | getCounters (dt : Nat) (spi : Bool) (data : Bytes)
  /-- K9_INFO (R568): Returns K9 identity or catalogue. -/
  | k9Info (dt : Nat) (spi : Bool) (data : Bytes)
  /-- CX_TICK (R570): A 50 ms CX tick begins and its slots carry beacon, corrections, polls and join. -/
  | cxTick (dt : Nat)
  /-- CX_JOIN_REQUEST (R572): A CX join request is verified and answered in the next odd tick. -/
  | cxJoinRequest (dt : Nat) (f : CxRx)
  /-- CX_POSITION_REPORT (R581): A CX position report is stored, or made a fix record for a legacy member. -/
  | cxPositionReport (dt : Nat) (f : CxRx)
  /-- CX_MESSAGE_FRAME (R571): A robot's message is queued for READ_MSG. -/
  | cxMessageFrame (dt : Nat) (f : CxRx)
  /-- CX_STATUS_FRAME (R571): A robot's status acknowledges a poll and reports its task. -/
  | cxStatusFrame (dt : Nat) (f : CxRx)
  /-- CX_ROBOT_LOST (R573): A robot is polled 20 times without a verified uplink. -/
  | cxRobotLost (dt : Nat) (a : Nat)
  /-- CX_STOP_LINE (R575): CROOK_A opens after 100 µs low, or closes, setting or releasing the line stop. -/
  | cxStopLine (dt : Nat) (isOpen : Bool)
  /-- LEGACY_CORR_DROPPED (R581): A legacy member lacks an epoch's bytes before the next is due. -/
  | legacyCorrDropped (dt : Nat) (r : Nat)
  /-- BAD_OPCODE (R78): A native packet that passes the sync, HCRC and reply-flag checks but carries a bad version or an unassigned opcode is refused with BAD_OPCODE. -/
  | badOpcode (dt : Nat) (opcode version : Nat) (p : Pkt)
  /-- CX_UNKNOWN_OPCODE (R566): A whole CX frame with a wrong CHK or an opcode outside R567 is answered with status 01h or 02h. -/
  | cxUnknownOpcode (dt : Nat) (spi : Bool) (op : Nat) (chkOk : Bool)
  /-- ETH_FRAME_SENT (R392): A frame finishes on a port's wire, the next frame of the highest non-empty transmit queue starts and is egress-stamped, possibly losing its stamp. -/
  | ethFrameSent (dt : Nat) (port : Nat)
  /-- CONSOLE_LINE_SENT (R103): A diagnostics console line finishes on UART1, freeing buffer room so that the D line of dropped lines can be written. -/
  | consoleLineSent (dt : Nat)
  /-- EVENT_OUTPUT_FALL (R100): The event output pad falls 100 µs after the newest qualifying event. -/
  | eventOutputFall (dt : Nat)
  /-- FOLLOW_UP_TIMEOUT (R395): A two-step Sync whose Follow_Up has not arrived within 1 s is discarded. -/
  | followUpTimeout (dt : Nat)
  deriving DecidableEq, Repr

end Sys2Proof
end

