-- ==== Sys2Proof/Decode.lean ====
section
/-! DEFINITION. No row of the opcode table gives a command any bits: commands are packets, frames, pad events and the passing of
time, and no word spells one. -/

namespace Sys2Proof

/-- The command that a word spells by the table's bits: the table gives no row any, so no word spells a command. -/
def decodeTableWord (_nbits _w : Nat) : Option Instr := none

end Sys2Proof
end

