-- ==== Sys2Proof/Config.lean ====
section
/-! DEFINITION. What the spec leaves to the implementation or does not compute: values with no body, so that no proof
can rest on one (free values). Each is applied to plain data and named in the assumption log. -/

namespace Sys2Proof.Config

/-- A free value of `w` bits for the `n`-th draw (assumption 5). -/
opaque freeNat (w n : Nat) : Nat

/-- The circular mean of phases, in 10^-9 cycle, whose unit vectors sum to 0 (R123 gives none; assumption 26). -/
opaque circFree (phases : List Int) : Int

/-- The profile unit's search (R296: how it searches is not part of the manual): which of the tracks that end as early as R291 allows,
from the class record, the progress factor, the start in ms, S0 and the lanes (assumption 22). -/
opaque chooseTrack (cls : List (BitVec 8)) (p start s0 : Nat) (lanes : List Nat) : Nat

/-- The PRIORITY of another member's task, by its TASK_ID: no message brings it to the member that serves the robot (R269, R470;
assumption 173). -/
opaque proxyPriority (task : Nat) : Nat

/-- The second-order loop that steers the timebase (R176 gives its order and its time constant and no gains; assumption 137): the new
frequency from the one held, an input's offset in ns, and the time constant in s. -/
opaque loopSteer (freq delta : Int) (tc : Nat) : Int

/-- The first 8 bytes of SHA-256 over a tick digest's contents (R486 names the contents in their order and not their bytes;
assumption 134). -/
opaque tickDigest (contents : List (BitVec 8)) : Nat

/-- The transmission time in ns of a PSDU of `len` bytes at an MCS of an option (R197, R208: the manual gives only its bound,
1.05 ms). -/
opaque airtimeNs (option mcs len : Nat) : Nat

/-- The checksum field of a UDP datagram that the K9 sends, which R390 leaves to it: 0000h, or the sum
(assumption 153). -/
opaque udpSum (d : List (BitVec 8)) : Nat

/-- CCM* of IEEE 802.15.4 (R222): byte `i` of the key stream of a key and nonce (assumption 145). -/
opaque ccmStream (key : Nat) (nonce : List (BitVec 8)) (i : Nat) : BitVec 8

/-- CCM* of IEEE 802.15.4 (R222): the MIC-32 of a header and a payload under a key and nonce (assumption 145). -/
opaque ccmMic (key : Nat) (nonce head payload : List (BitVec 8)) : Nat

/-- The filter step of a base-solved fix (R158, R159: a function of the decoded observations, the base set, the filter and the
parameters alone): the new filter state, and X, Y, Z in mm, the covariance as six F32 codes, RATIO, RESID, FIXED_AMB, the
satellites with usable carrier, and whether the search limit was reached and whether ambiguities used are float. -/
opaque solveFix (filter : Int) (obs base params : List Int) : Int × List Int

/-- A field of an RTCM 10403.3 message, by its data field number, that R148 leaves to the standard (assumption 144). -/
opaque rtcmField (df : Nat) : Nat

/-- The satellite and signal data of an MSM, as one number of the bits that follow its masks: the standard's scaling (R148;
assumption 144). -/
opaque rtcmCells (msg : Nat) (data : List Int) : Nat

/-- Whether an ECDSA P-256 signature over a digest verifies under an Attalune image-signing key (R523). -/
opaque imageSig (keyId : Nat) (digest sig : List (BitVec 8)) : Bool

/-- The key that VIT_KEY_LOAD's host public key and wrapped key spell under the provisioning key, whose root no command reads
(R501, R508): none for a point off the curve or a failed unwrap. -/
opaque unwrapLoad (pub wrapped : List (BitVec 8)) : Option Nat

/-- The KCV of a key (R506): the first 4 bytes of AES-128 over 16 zero bytes. -/
opaque kcv (key : Nat) : Nat

/-- The provisioning public key, x then y (R501, R511). -/
opaque provPub : List (BitVec 8)

/-- The signature of a statement under the attestation key (R501, R511): r then s. -/
opaque attestSig (statement : List (BitVec 8)) : List (BitVec 8)

end Sys2Proof.Config
end

