-- ==== Sys2Proof/Machine/Bytes.lean ====
section
/-! DEFINITION. Byte order, field access and the two CRCs of the native packet (R5, R8, R76). -/

namespace Sys2Proof.Machine

/-- `v` in `n` bytes, least significant byte first (R5). -/
def le : Nat → Nat → Bytes
  | 0, _ => []
  | n + 1, v => BitVec.ofNat 8 v :: le n (v / 256)

/-- `v` in `n` bytes, most significant byte first. -/
def be (n v : Nat) : Bytes := (le n v).reverse

/-- A signed value in `n` bytes (R8). -/
def leS (n : Nat) (i : Int) : Bytes := le n (ofSigned (8 * n) i)

/-- The number a little-endian byte string spells. -/
def ofLe : Bytes → Nat
  | [] => 0
  | b :: t => b.toNat + 256 * ofLe t

/-- The number a big-endian byte string spells. -/
def ofBe (b : Bytes) : Nat := ofLe b.reverse

/-- `n` bytes from offset `o`. -/
def slice (b : Bytes) (o n : Nat) : Bytes := (b.drop o).take n

/-- The `n`-byte field at offset `o`, read least significant byte first; bytes past the end read as 0. -/
def rd (b : Bytes) (o n : Nat) : Nat := ofLe (slice b o n)

/-- The U8 at offset `o`. -/
def u8 (b : Bytes) (o : Nat) : Nat := rd b o 1
/-- The U16 at offset `o`. -/
def u16 (b : Bytes) (o : Nat) : Nat := rd b o 2
/-- The U32 at offset `o`. -/
def u32 (b : Bytes) (o : Nat) : Nat := rd b o 4
/-- The U64 at offset `o`. -/
def u64 (b : Bytes) (o : Nat) : Nat := rd b o 8
/-- The I32 at offset `o`. -/
def i32 (b : Bytes) (o : Nat) : Int := toSigned 32 (u32 b o)
/-- The I16 at offset `o`. -/
def i16 (b : Bytes) (o : Nat) : Int := toSigned 16 (u16 b o)
/-- The I8 at offset `o`. -/
def i8 (b : Bytes) (o : Nat) : Int := toSigned 8 (u8 b o)

/-- `n` zero bytes. -/
def zeros (n : Nat) : Bytes := List.replicate n 0

/-- A byte string padded with zero bytes to a multiple of `m`. -/
def padMul (m : Nat) (b : Bytes) : Bytes := b ++ zeros ((m - b.length % m) % m)

/-- One bit step of CRC-16 with polynomial 1021h, not reflected. -/
def crc16Bit (c : Nat) : Nat :=
  if c.testBit 15 then ((c <<< 1) ^^^ 0x1021) % 0x10000 else (c <<< 1) % 0x10000

/-- One byte step of CRC-16. -/
def crc16Byte (c : Nat) (b : Byte) : Nat :=
  let x := c ^^^ (b.toNat <<< 8)
  crc16Bit (crc16Bit (crc16Bit (crc16Bit (crc16Bit (crc16Bit (crc16Bit (crc16Bit x)))))))

/-- One bit step of CRC-16 with polynomial 1021h, reflected. -/
def fcsBit (c : Nat) : Nat := if c.testBit 0 then (c >>> 1) ^^^ 0x8408 else c >>> 1

/-- The FCS of IEEE 802.15.4 (R199): polynomial 1021h, initial 0000h, reflected, no final XOR (assumption 145). -/
def fcs16 (b : Bytes) : Nat :=
  b.foldl (fun c x => fcsBit (fcsBit (fcsBit (fcsBit (fcsBit (fcsBit (fcsBit (fcsBit (c ^^^ x.toNat))))))))) 0

/-- HCRC (R76): polynomial 1021h, initial FFFFh, no reflection, no final XOR. -/
def crc16 (b : Bytes) : Nat := b.foldl crc16Byte 0xFFFF

/-- One bit step of the reflected CRC-32C. -/
def crc32cBit (c : Nat) : Nat :=
  if c.testBit 0 then (c >>> 1) ^^^ 0x82F63B78 else c >>> 1

/-- One byte step of CRC-32C. -/
def crc32cByte (c : Nat) (b : Byte) : Nat :=
  let x := c ^^^ b.toNat
  crc32cBit (crc32cBit (crc32cBit (crc32cBit (crc32cBit (crc32cBit (crc32cBit (crc32cBit x)))))))

/-- PCRC (R76): polynomial 1EDC_6F41h reflected, initial and final XOR FFFF_FFFFh. -/
def crc32c (b : Bytes) : Nat := (b.foldl crc32cByte 0xFFFFFFFF) ^^^ 0xFFFFFFFF

/-- The ASCII code of a hexadecimal digit. -/
def hexDigit (n : Nat) : Byte := BitVec.ofNat 8 (if n < 10 then 48 + n else 55 + n)

/-- `n` hexadecimal digits of `v`, most significant first. -/
def hexStr (n v : Nat) : Bytes := (List.range n).map (fun i => hexDigit ((v >>> (4 * (n - 1 - i))) % 16))

end Sys2Proof.Machine
end

