-- ==== Sys2Proof/Machine/State.lean ====
section
/-! DEFINITION. The state of the K9 as plain data: the chapters' parts joined in `State`; `Fault` and `Refusal`; and
`State.reset`. -/

namespace Sys2Proof.Machine

/-- The whole block. -/
structure State where
  /-- Commands that wait, first in first out. -/
  pending : List Instr
  /-- The model's own clock: ns since the model began, counted by the commands' `dt`. -/
  now : Nat
  /-- Outputs of the newest command (the model's own field). -/
  out : List Output
  /-- The model's own counter of free values drawn. -/
  free : Nat
  sys : Sys
  ses : Ses
  cfg : Conf
  clk : Clk
  mem : Mem
  upd : Upd
  arc : Arc
  gns : Gns
  fix : Fix
  air : Air
  lnk : Lnk
  pas : Pas
  tsk : Tsk
  crk : Crk
  /-- Site axes 0 to 3. -/
  axs : List Axis
  eth : Eth
  can : Can
  fld : Fld
  pai : Pai
  vit : Vit
  cx : Cxm
  fac : Factory
  deriving DecidableEq, Repr

/-- What stops the machine. -/
inductive Fault where
  /-- Raised by an event command whose operand names a robot, chain, port, axis, queue or other unit that the K9 does not
  have (an operand `WellFormed` refuses). Safe: no such unit exists to act. -/
  | noSuchUnit (mnemonic : String)
  deriving DecidableEq, Repr

/-- Why a command is not run. -/
inductive Refusal where
  /-- Raised by an arm of `exec` whose command has no meaning yet. Safe. -/
  | notModelled (mnemonic : String)
  deriving DecidableEq, Repr

/-! ### Reset: the values right after a cold power-on with no stored configuration (assumptions 9 to 13) -/

/-- The image a part is delivered with: a header with no payload (R523). -/
def factoryImage (part : Nat) : Bytes :=
  [0x31, 0x49, 0x4D, 0x4A, 1, 0, BitVec.ofNat 8 part, 0, 0, 0, 0, 1] ++ List.replicate 4 0 ++ [0x10, 0x0E] ++ List.replicate 14 0 ++
  [227, 176, 196, 66, 152, 252, 28, 20, 154, 251, 244, 200, 153, 111, 185, 36, 39, 174, 65, 228, 100, 155, 147, 76, 164, 149, 153, 27,
    120, 82, 184, 85] ++ List.replicate 64 0

/-- What the module holds from manufacture. -/
def Factory.reset : Factory := {
  eui := 0, mac := 0, bands := [104, 105, 106], cert := [], rom := 0, images := [1, 2, 3, 4].map factoryImage }

/-- A capture or compare channel with nothing held. -/
def CcState.reset : CcState := { stamps := [], lost := 0, run := false, lastRise := none, level := false }

/-- RESET_REPORT of a cold power-on (R57, R60). -/
def firstEvent : Event := {
  seq := 1, tick := 0, time := 0, timeValid := false, acked := false, noFw := false, code := 0x0091, cls := .notice, level := 1, kind := 0
  idx := 0, data := 0 }

/-- CALENDAR_INVALID of a cold power-on (R184). -/
def calendarEvent : Event := { firstEvent with seq := 2, code := 0x0408 }

/-- The system block after a cold power-on. -/
def Sys.reset : Sys := {
  power := .run, fw := .running, cx := false, resetCause := 0x0101, pendReset := none, pendStandby := none, wakeMask := 0, snapFails := 0
  snapLast := 0, tick := 0, sfTick := 0, sfCount := 0, slots := 8, misalign := none, events := [firstEvent, calendarEvent], nextSeq := 3
  toMatch := [], unacked := [], orders := [], ordersAt := [], wdtOrders := [], wdtWait := none, halted := [], badParts := []
  overruns := 0, runs := [], peaks := [], closeHeld := [], closeDue := none, cc := List.replicate 4 CcState.reset, evHigh := none, console := [], consoleDropped := 0
  ethCap := none, capBuf := [], capFrames := 0, capDone := false, rfTest := none, beacons := false }

/-- No session and an empty journal. -/
def Ses.reset : Ses := {
  sessions := [], journal := [], journalFault := false, counts := List.replicate 3 (List.replicate 8 0), spiOut := [], spiSeq := 1, lastSession := 0
  romKept := none }

/-- The generation with no stored configuration. -/
def Gen.reset : Gen := { num := 0, params := [], orders := [], nodes := [], lanes := [], pads := [], roster := [] }

/-- No stored configuration. -/
def Conf.reset : Conf := { eff := Gen.reset, stored := Gen.reset, pend := [], lost := false, old := none, claims := [] }

/-- No time is known (R174). -/
def Clk.reset : Clk := {
  count := 0, state := .none, wasValid := false, refin := false, slew := 0, slewOn := false, slewFrac := 0, e0 := none, d := 50
  quad := true, since := 0, holdAt := 0, lockedAt := none, lockedSpan := 0, consec := 0, step := none, offset := none, leap := 0, leapBoot := false
  leapAnn := none, align := false, freq := 0, check := none, calCopy := none, cal := 0, calAt := 0, calTrim := none, trimAt := none, ppsOn := false, ppsOk := false, ppsLast := none, ptpLost := false }

/-- A bank in service without errors. -/
def Bank.reset : Bank := { state := .inService, correctable := 0, uncorrectable := 0, ceWords := [], poisoned := [], words := [] }

/-- Every bank in service, no host queue. -/
def Mem.reset : Mem := {
  banks := List.replicate 48 Bank.reset, spareFor := none, copying := none, queues := [], windows := [], scrubStart := 0, scrubLate := false
  scrubPasses := 0, scrubLastMs := 0, mramCe := 0, mramUe := 0 }

/-- An empty bank. -/
def ImgBank.none : ImgBank := ⟨.empty, 0, [], true⟩

/-- Bank 0 of each part holds the delivered image, confirmed. -/
def Upd.reset : Upd := {
  lock := none, banks := [1, 2, 3, 4].map (fun p => (⟨.confirmed, 128, factoryImage p, true⟩, ImgBank.none)), running := [0, 0, 0, 0]
  floors := [0, 0, 0, 0], trial := none, act := none, erasing := [], trialBoot := false, lockLost := false, fellBack := [] }

/-- The Archive with the boot record of the first boot, and RESET_REPORT and CALENDAR_INVALID in the open block. -/
def Arc.reset : Arc := {
  recs := [(1, { boot := 1, tick := 0, body := .boot 0x0101 0 1 0 [0x1000000, 0x1000000, 0x1000000, 0x1000000], good := true })], next := 2
  boots := 1, block := [(firstEvent, 0, 0), (calendarEvent, 0, 0)], start := 0, startNow := 0, metrics := [], codes := [(0x0091, 1), (0x0408, 1)], suppressed := 0
  unreadable := 0, episode := some .startup, epCounts := [(0x0091, 1), (0x0408, 1)], startupEnd := 60000000000 }

/-- The baseband before its first epoch; the survey of R135 runs. -/
def Gns.reset : Gns := {
  sets := [], chans := [], trk := [], srch := [], short := 0, integ := [], cmc := [], antOpen := (false, false), antCut := (false, false), beta := (none, none)
  calib := 0, dirState := 0, wasSuspect := [], groups := [], alarm := [], rxPrev := none, disagree := false, degraded := none
  dropped := 0, dropFlag := false, cap := none, capEnd := none, buf := [], solve := none, survey := some (0, none), acc := ⟨0, (0, 0, 0), 0⟩, cands := [], eph := [], alm := [], obs := [], surveyed := none
  baseline := none }

/-- No fix. -/
def Fix.reset : Fix := {
  robots := [], inbox := [], sprIn := [], withheld := (false, false), enginesBad := [], ccsNext := 0, ccsParts := [], ccsSig := [], baseSlip := []
  rtcm1005 := 0 }

/-- An air chain that has sent nothing. -/
def ChainState.reset : ChainState := {
  bad := false, sent := 0, rcvd := 0, runts := 0, oversize := 0, discards := 0, deferrals := 0, format := 0, meter := [], defRun := false
  defTick := false, planLate := false, quiet := false, stopAsn := none }

/-- The air interface without a map. -/
def Air.reset : Air := {
  chains := List.replicate 4 ChainState.reset, asn := 0, jump := false, tick := 0, map := ⟨[], []⟩, next := [], tickMap := none, plan := [], planNext := []
  slot := 0, slotAt := 0, due := [], got := [] }

/-- No robot; the first flock key. -/
def Lnk.reset : Lnk := {
  robots := [], intake := [], flockGen := 1, flockCtr := 0, flockKey := 0, flockNext := none, unknown := []
  flockEui := 0, upkeep := [] }

/-- An empty pasture. -/
def Pas.reset : Pas := {
  entries := [], hurdles := [], hurdleNext := [], robots := [], peak := 0, grants := 0, refusals := 0, deadlocks := 0, fullRun := false
  audit := [], borders := [], nextXid := 0, prepIn := [], cycles := [], planQueue := [], ways := [], outbox := [] }

/-- No task. -/
def Tsk.reset : Tsk := {
  serial := 0, tasks := [], proxies := [], cancels := [], resultSeq := 0, submits := 0, travel := [], tstate := [], last := (0, 0, 0, 0), rounds := 0
  allotments := 0, declines := 0, wAge := 100, wRun := 0, fullRun := false, chosen := [], jobs := []
  cores := List.replicate 6 (none, none), jobKey := 0 }

/-- No stop, the loop closed. -/
def Crk.reset : Crk := {
  all := [], table := [], openA := false, openB := false, discFrom := none, disc := false, bothOpen := false, togetherAt := none, latched := false, token := 0
  beacons := 0, watch := [], conf := [], zones := [], releases := [], frames := [], framesLost := 0, past := [], releasedSf := []
  backup := [1, 100, 50, 1, 1], forward := false, discDone := false, pick := 0, pickOf := none, due := [], mram := none }

/-- An axis at rest. -/
def Axis.reset : Axis := {
  p := 0, motion := none, wait := none, cmd := none, offset := 0, halts := [], haltNext := [], count := 0, suspended := false, refP := 0
  refCount := 0, auxP := 0, auxCount := 0, zCount := 0, refActive := false, d := 0, devRun := none, delta := 0, stallRun := 0
  fullRun := 0, uMv := 0, duty := 0, stopDue := none }

/-- A port without link. -/
def EthPort.reset : EthPort := {
  link := 0, seen := 0, plca := 0, counts := List.replicate 9 0, queues := List.replicate 8 [], waiting := [], busy := none, stamps := []
  tsRun := false, collRun := false, syncAt := none, annAt := none, ptpSeq := 0 }

/-- Three ports without link. -/
def Eth.reset : Eth := {
  ports := List.replicate 3 EthPort.reset, parts := [], probes := [], master := none, masterGone := false, delayLost := false, hbStamps := []
  sync := none, syncSeq := none, peers := [] }

/-- A controller that is off. -/
def CanPort.reset : CanPort := {
  state := .off, tec := 0, rcv := 0, seqs := 0, counting := false, counts := List.replicate 5 0, filtered := 0, protExc := 0, lockDrops := 0
  mbs := [], onBus := none, overRun := false }

/-- Both controllers off. -/
def Can.reset : Can := { ports := List.replicate 2 CanPort.reset, serTx := [], serDropped := 0 }

/-- In no fold. -/
def Fld.reset : Fld := {
  admitted := false, upLevel := 0, upState := 0, upReason := 0, seen := false, missSf := 0, hierDevices := 0, hierCat := 0, ownReason := 0
  ownPasses := 0, members := [], admissions := 0, macs := [], seqs := [], stops := [], stopIn := [], setParts := [], setIn := none
  stopSends := [], stopSeq := 0, relays := [], inbox := [], routedIn := [], paths := [], canMsgs := [], roamOut := [], foreign := []
  digests := [], borderBad := [], oversize := false, digestSf := 0, stopResends := 0, discarded := 0, relayFwd := 0, relayDisc := 0 }

/-- In no pair. -/
def Pai.reset : Pai := {
  role := 0, mode := .alone, trained := false, linkDown := false, bootTrained := false, lane0 := false, lane1 := false, partner := 0, lockTicks := 0
  mismatches := 0, resent := 0, discarded := 0, items := [], owed := [], merged := false, digested := false, match_ := false
  matchNext := false, taken := [], order := 0, sealed := [], confs := [], heldTick := none, mergeDue := none, own := none, their := none, mute := false, test := none, yieldAtBoot := false
  syncCmds := [], syncFrom := none, syncAt := none, echoFrom := none, parts := 0, linkYield := false, silent := 0, silentDone := false
  absentDone := false, loadAt := 0, solo := false, yieldSeen := false }

/-- No key. -/
def Vit.reset : Vit := {
  slots := [], repaired := [], keys := [], locked := false, zeroized := false, rootBad := false, rngFault := false, tamper := 0, active := []
  alarms := 0, orders := [], backup := [262400, 262400, 262400, 262400, 7, 2], erasePend := false, late := [], applied := [], ops := []
  masks := 0 }

/-- Nothing of CX mode. -/
def Cxm.reset : Cxm := {
  conf := { robots := [], key := none, radio := none, mask := 10, base := none, rtcm := (0, 0), ant := false, can := none }
  saved := none, robots := [], legacy := [], reply := none, counts := List.replicate 7 0, sent := 0, rcvd := 0, host := [], onAir := []
  last1074 := 0, last1005 := 0, inbox := [], lineOpen := false, stopAll := false, canIn := [], canOut := [], events := [], seen := 1
  survey := none, surveyed := (0, 0, 0), k := 0, polled := [], lastPoll := 0, joinReq := [], joining := [], resetAt := none }

/-- The machine right after a cold power-on in native mode with no stored configuration: the first tick has started, with number 0,
in the unnegotiated state (R60, R62). -/
def State.reset : State := {
  pending := [], now := 0, out := [], free := 0, sys := Sys.reset, ses := Ses.reset, cfg := Conf.reset, clk := Clk.reset
  mem := Mem.reset, upd := Upd.reset, arc := Arc.reset, gns := Gns.reset, fix := Fix.reset, air := Air.reset, lnk := Lnk.reset
  pas := Pas.reset, tsk := Tsk.reset, crk := Crk.reset, axs := List.replicate 4 Axis.reset, eth := Eth.reset, can := Can.reset
  fld := Fld.reset, pai := Pai.reset, vit := Vit.reset, cx := Cxm.reset, fac := Factory.reset }

end Sys2Proof.Machine
end

