-- ==== Sys2Proof/Machine/Records.lean ====
section
/-! DEFINITION. Range tests, defaults and catalogue needs of parameter values, and the layouts of the record-typed
parameters of every chapter (R8, R11). -/

namespace Sys2Proof.Machine

/-- A value from `a` to `b`, both included (R11). -/
def rng (a b : Nat) : Nat → Nat → Bool := fun _ v => decide (a ≤ v ∧ v ≤ b)

/-- A value from `a` to `b`, or the one value `c`. -/
def rngOr (a b c : Nat) : Nat → Nat → Bool := fun _ v => decide (a ≤ v ∧ v ≤ b) || v == c

/-- A signed `w`-bit value from `a` to `b`. -/
def rngS (w : Nat) (a b : Int) : Nat → Nat → Bool := fun _ v => decide (a ≤ toSigned w v ∧ toSigned w v ≤ b)

/-- One of the listed codes (ENUM8, R8). -/
def oneOf (l : List Nat) : Nat → Nat → Bool := fun _ v => l.contains v

/-- Any value of the type. -/
def anyVal : Nat → Nat → Bool := fun _ _ => true

/-- No value: the parameter is read only. -/
def never : Nat → Nat → Bool := fun _ _ => false

/-- No catalogue bit is needed. -/
def noNeed : Nat → Nat → List Nat := fun _ _ => []

/-- Bit `n` is needed whatever the value. -/
def needAlways (n : Nat) : Nat → Nat → List Nat := fun _ _ => [n]

/-- Bit `n` is needed for the value `v`. -/
def needIf (v n : Nat) : Nat → Nat → List Nat := fun _ x => if x = v then [n] else []

/-- Bit `n` is needed for every value but `v`. -/
def needUnless (v n : Nat) : Nat → Nat → List Nat := fun _ x => if x = v then [] else [n]

/-- The value of a record parameter as its bytes. -/
def recBytes (n v : Nat) : Bytes := le n v

/-- The value that a record's bytes give the parameter. -/
def recVal (b : Bytes) : Nat := ofLe b

/-! ### System records (R101, R103) -/

/-- A capture and compare record (R101): pad, mode, timer, reserved, period and width in range. -/
def ccOk : Nat → Nat → Bool := fun _ v =>
  let b := recBytes 12 v
  (decide (u8 b 0 ≤ 47) || u8 b 0 == 0xFF) && decide (u8 b 1 ≤ 4) && decide (u8 b 2 ≤ 15) && u8 b 3 == 0 &&
  decide (10 ≤ u32 b 4 ∧ u32 b 4 ≤ 1000000) && decide (1 ≤ u32 b 8 ∧ u32 b 8 ≤ 999999)

/-- The default capture and compare record (R101). -/
def ccDefault : Nat := recVal ([0xFF, 0, 0, 0] ++ le 4 1000000 ++ le 4 100000)

/-- DIA_UART1_PINS (R103): FFFFh, or two different pads from 0 to 47. -/
def uartPinsOk : Nat → Nat → Bool := fun _ v =>
  v == 0xFFFF || (decide (v % 256 ≤ 47) && decide (v / 256 ≤ 47) && v % 256 != v / 256)

/-! ### Fixes (R148) -/

/-- FIX_RTCM_MSM: MSM7 needs bit 64, MSM4 bit 65 (R72, R169). -/
def msmNeed : Nat → Nat → List Nat := fun _ v => if v = 7 then [64] else if v = 4 then [65] else []

/-! ### Air (R194, R192) -/

/-- AIR_DOMAIN: each band needs its bit (R194). -/
def domainNeed : Nat → Nat → List Nat := fun _ v => if v = 1 then [105] else if v = 2 then [104] else if v = 3 then [106] else []

/-- AIR_OFDM_OPTION: option 1 needs bit 96, option 2 bit 97 (R192). -/
def optionNeed : Nat → Nat → List Nat := fun _ v => if v = 1 then [96] else if v = 2 then [97] else []

/-! ### Queues (R431) -/

/-- QUE_SIZE_n: a power of two from 256 to 1,048,576. -/
def queSizeOk : Nat → Nat → Bool := fun _ v => (List.range 13).any (fun i => v == 2 ^ (8 + i))

/-! ### Folds (R448, R449) -/

/-- A tier record: FOLD_ID any, MEMBER at most 4,095, LINK listed, reserved bytes 0. -/
def tierOk : Nat → Nat → Bool := fun _ v =>
  let b := recBytes 8 v
  decide (u16 b 2 ≤ 4095) && decide (u8 b 4 ≤ 4) && rd b 5 3 == 0

/-- The default tier record: not used. -/
def tierDefault : Nat := 0xFFFF

/-- A used tier above 0 needs bit 225 (R449). -/
def tierNeed : Nat → Nat → List Nat := fun i v => if i ≠ 0 ∧ v % 65536 ≠ 0xFFFF then [225] else []

/-- PAS_CLASS ranges (R254). -/
def pasClassOk : Nat → Nat → Bool := fun _ v =>
  let b := recBytes 16 v
  decide (50 ≤ u16 b 0 ∧ u16 b 0 ≤ 5000 ∧ u16 b 2 ≤ 20000 ∧ u16 b 4 ≤ 20000 ∧ u16 b 6 ≤ 2000 ∧ u16 b 8 ≤ 2000) &&
  decide (-20000 ≤ i16 b 10 ∧ i16 b 10 ≤ 20000) && rd b 12 4 == 0

/-- The default PAS_CLASS record (R254). -/
def pasClassDefault : Nat := recVal (le 2 500 ++ le 2 600 ++ le 2 600 ++ le 2 200 ++ le 2 200 ++ le 2 0 ++ zeros 4)

/-- PRF_CLASS ranges of single fields (R293); VNODE, EDMAX and EJMAX are judged against their bounds at COMMIT. -/
def prfClassOk : Nat → Nat → Bool := fun _ v =>
  let b := recBytes 32 v
  let r (o n lo hi : Nat) : Bool := decide (lo ≤ rd b o n ∧ rd b o n ≤ hi)
  r 0 2 1 20000 && r 2 2 0 20000 && r 4 2 10 20000 && r 6 2 10 20000 && r 8 4 10 1000000 && r 12 2 10 50000 &&
  r 14 2 0 0 && r 16 4 10 1000000 && r 20 2 10 20000 && r 22 2 10 5000 && r 24 1 1 20 && r 25 1 0 0 &&
  r 26 2 500 1000 && r 28 2 1000 2000 && r 30 2 0 0

/-- The default PRF_CLASS record (R293). -/
def prfClassDefault : Nat := recVal (le 2 1000 ++ le 2 300 ++ le 2 500 ++ le 2 500 ++ le 4 1000 ++ le 2 2000 ++ le 2 0 ++
  le 4 10000 ++ le 2 1000 ++ le 2 500 ++ [2, 0] ++ le 2 800 ++ le 2 1500 ++ le 2 0)
/-- A site-axis record's own ranges (R383); EDMAX and EJMAX against AMAX and JMAX are judged at COMMIT. -/
def axisOk : Nat → Nat → Bool := fun _ v =>
  let b := recBytes 52 v
  let r (o n lo hi : Nat) : Bool := decide (lo ≤ rd b o n ∧ rd b o n ≤ hi)
  r 0 4 1 2000000 && r 4 4 10 10000000 && r 8 4 10 100000000 && r 12 4 10 100000000 && r 16 4 10 1000000000 &&
  r 20 2 0 48000 && r 22 2 0 48000 && r 24 2 0 10000 && r 26 2 10 60000 && r 28 2 10 60000 && r 30 2 0 1024 &&
  r 32 4 1 1048576 && r 36 4 100000 1570796 && r 40 4 0 2000000 && r 44 1 1 255 && r 45 1 0 7 && r 46 1 0 2 &&
  r 47 1 0 15 && (r 48 1 0 47 || r 48 1 0xFF 0xFF) && rd b 49 3 == 0

/-- The default record of axis `n` (R383). -/
def axisDefaultOf (n : Nat) : Nat := recVal (le 4 51200 ++ le 4 102400 ++ le 4 1024000 ++ le 4 409600 ++ le 4 10240000 ++
  le 2 1000 ++ le 2 2000 ++ le 2 100 ++ le 2 1000 ++ le 2 2000 ++ le 2 0 ++ le 4 512 ++ le 4 1309000 ++ le 4 25600 ++
  [4, 0, 2] ++ le 1 n ++ [0xFF, 0, 0, 0])

/-- The default record of axis 0. -/
def axisDefault : Nat := axisDefaultOf 0

/-- An encoder comparison needs bit 166 (R383); every parameter of the chapter needs bit 165. -/
def axisNeed : Nat → Nat → List Nat := fun _ v => 165 :: (if u16 (recBytes 52 v) 30 = 0 then [] else [166])
/-- ETH_T1S ranges (R399). -/
def t1sOk : Nat → Nat → Bool := fun _ v =>
  let b := recBytes 8 v
  decide (u8 b 0 ≤ 1 ∧ u8 b 1 ≤ 254 ∧ 1 ≤ u8 b 2 ∧ 1 ≤ u8 b 3 ∧ 1 ≤ u8 b 5) && u16 b 6 == 0

/-- The default ETH_T1S record (R399). -/
def t1sDefault : Nat := recVal [0, 0, 8, 32, 0, 128, 0, 0]

/-- PLCA_EN 01h needs bit 193 (R388). -/
def t1sNeed : Nat → Nat → List Nat := fun _ v => if v % 256 = 1 then [193] else []

/-- MAC1 and MAC2 need bit 192 (R386). -/
def ethPortsNeed : Nat → Nat → List Nat := fun _ v => if v / 2 = 0 then [] else [192]
/-- A CAN port record's own ranges (R417); rates, NSJW, DSJW and TRIPLE are judged at COMMIT (R404, R405). -/
def canCfgOk : Nat → Nat → Bool := fun _ v =>
  let b := recBytes 24 v
  let r (o n lo hi : Nat) : Bool := decide (lo ≤ rd b o n ∧ rd b o n ≤ hi)
  r 0 1 0 2 && r 1 1 0 15 && r 2 2 1 256 && r 4 2 2 256 && r 6 1 1 128 && r 7 1 1 128 && r 8 1 1 32 && r 9 1 1 32 &&
  r 10 1 1 16 && r 11 1 1 16 && r 12 1 0 127 && (r 13 1 0 47 || r 13 1 0xFF 0xFF) && (r 14 1 0 0 || r 14 1 16 63) &&
  r 15 1 0 0 && r 16 2 1 65535 && r 20 4 0 0

/-- The default CAN port record (R417): 500 kb/s at 80 %, 2 Mb/s at 75 %. -/
def canCfgDefault : Nat := recVal ([0, 5] ++ le 2 1 ++ le 2 127 ++ [32, 32, 1, 29, 10, 10, 30, 0xFF, 0, 0] ++ le 2 128 ++
  le 2 0 ++ zeros 4)

/-- CAN_SERIAL ranges (R415). -/
def serialOk : Nat → Nat → Bool := fun _ v =>
  let b := recBytes 8 v
  (u32 b 0 == 0 || decide (1200 ≤ u32 b 0 ∧ u32 b 0 ≤ 3000000)) && decide (u8 b 4 ≤ 2) &&
  (decide (u8 b 5 ≤ 47) || u8 b 5 == 0xFF) && (u8 b 6 == 0 || decide (16 ≤ u8 b 6 ∧ u8 b 6 ≤ 63)) && u8 b 7 == 0

/-- The default CAN_SERIAL record (R415). -/
def serialDefault : Nat := recVal [0, 0, 0, 0, 0, 0xFF, 0, 0]

/-- A message-buffer record's ranges (R406). -/
def mbOk : Nat → Nat → Bool := fun _ v =>
  let b := recBytes 16 v
  decide (u8 b 0 ≤ 2 ∧ u8 b 1 ≤ 15 ∧ u32 b 4 < 2 ^ 29 ∧ u32 b 8 < 2 ^ 29) && u16 b 2 == 0 && u32 b 12 == 0

/-- The default message-buffer record (R406). -/
def mbDefault : Nat := 0
/-- The tamper record (R519). -/
def tamperOk : Nat → Nat → Bool := fun _ v =>
  let b := recBytes 4 v
  decide (u8 b 0 ≤ 3 ∧ 1 ≤ u8 b 1 ∧ u8 b 1 ≤ 3 ∧ 1 ≤ u8 b 2 ∧ u8 b 2 ≤ 16 ∧ u8 b 3 = 0)
def tamperDefault : Nat := recVal [0, 1, 4, 0]

end Sys2Proof.Machine
end

