-- ==== Sys2Proof/Machine/Params.lean ====
section
/-! DEFINITION. The parameter tables of every chapter (R8, R11, R34 to R1302h): identifier range, size in bytes, default,
commit domain, range and the catalogue bits a value needs. -/

namespace Sys2Proof.Machine

/-- One row of a parameter table: identifiers `lo` to `hi`, size, default, domain, the range test of a value of the
entry at an offset from `lo`, and the catalogue bits that writing the value needs. -/
structure ParamDef where
  lo : Nat
  hi : Nat
  size : Nat
  dflt : Nat
  dom : Domain
  ok : Nat → Nat → Bool
  need : Nat → Nat → List Nat

/-- Group 00h: SYS_TICK_SLOTS, SYS_PT_PER_ROBOT, SYS_PLANS_PER_TICK, SYS_BUDGET_MARGIN, SYS_RESET_CAUSE, SYS_WDT_TICKS, SYS_STBY_SNAP_S, SYS_SESSION_CREDITS, SYS_SESSION_LINGER_S, SYS_UDP_PORT, SYS_EVENT_GPIO, SYS_EVENT_CLASS, SYS_GPIO_CC_0. -/
def params00 : List ParamDef := [
  ⟨0x0010, 0x0010, 1, 8, .SYS, rng 4 40, noNeed⟩,
  ⟨0x0011, 0x0011, 2, 1024, .SYS, rng 256 4096, noNeed⟩,
  ⟨0x0012, 0x0012, 1, 8, .SYS, rng 1 64, noNeed⟩,
  ⟨0x0013, 0x0013, 1, 0, .SYS, rng 0 50, noNeed⟩,
  ⟨0x0014, 0x0014, 2, 0, .SYS, never, noNeed⟩,
  ⟨0x0015, 0x0015, 1, 10, .SYS, rng 2 255, noNeed⟩,
  ⟨0x0016, 0x0016, 4, 0, .SYS, rngOr 60 86400 0, noNeed⟩,
  ⟨0x0017, 0x0017, 2, 128, .SYS, rng 1 1024, noNeed⟩,
  ⟨0x0018, 0x0018, 4, 3600, .SYS, rng 10 604800, noNeed⟩,
  ⟨0x0019, 0x0019, 2, 41990, .ETH, rng 1024 65535, noNeed⟩,
  ⟨0x001A, 0x001A, 1, 0xFF, .SYS, rngOr 0 47 0xFF, noNeed⟩,
  ⟨0x001B, 0x001B, 1, 0x02, .SYS, oneOf [0x00, 0x01, 0x02], noNeed⟩,
  ⟨0x001C, 0x001F, 12, ccDefault, .SYS, ccOk, noNeed⟩ ]

/-- Group 02h: GNS_SIGNALS, GNS_EPOCH_RATE, GNS_ELEV_MASK, GNS_CN0_MASK, GNS_ANT_A_BIAS, GNS_ANT_B_BIAS, GNS_CHAN_PLAN, GNS_SPACING_L1, GNS_SPACING_L5, GNS_DLL_BW, GNS_PLL_BW, GNS_COH_MS, GNS_INTEG_MODE, GNS_BASELINE_E, GNS_BASELINE_N, GNS_BASELINE_U, GNS_DIR_THRESH, GNS_DIR_EPOCHS, GNS_CLUSTER_MIN, GNS_CN0_HIGH, GNS_DOPPLER_THRESH, GNS_CMC_THRESH, GNS_CLOCK_THRESH, GNS_READMIT_S, GNS_POS_MODE, GNS_BASE_X, GNS_BASE_Y, GNS_BASE_Z, GNS_SURVEY_S, GNS_SURVEY_SIGMA, GNS_POS_CHECK_MM, GNS_MEAS_QUEUE, GNS_SNAP_CLAIM. -/
def params02 : List ParamDef := [
  ⟨0x0200, 0x0200, 1, 0x3F, .GNS, rng 0x01 0x3F, noNeed⟩,
  ⟨0x0201, 0x0201, 1, 10, .GNS, oneOf [1, 2, 5, 10, 20], noNeed⟩,
  ⟨0x0202, 0x0202, 4, 174533, .GNS, rng 0 785398, noNeed⟩,
  ⟨0x0203, 0x0203, 1, 30, .GNS, rng 20 45, noNeed⟩,
  ⟨0x0204, 0x0204, 1, 0x01, .GNS, rng 0x00 0x02, noNeed⟩,
  ⟨0x0205, 0x0205, 1, 0x01, .GNS, rng 0x00 0x02, noNeed⟩,
  ⟨0x0206, 0x0206, 1, 0x00, .GNS, rng 0 1, noNeed⟩,
  ⟨0x0207, 0x0207, 2, 100, .GNS, rng 30 1000, needUnless 100 42⟩,
  ⟨0x0208, 0x0208, 2, 500, .GNS, rng 30 1000, needUnless 500 42⟩,
  ⟨0x0209, 0x0209, 2, 500, .GNS, rng 50 5000, noNeed⟩,
  ⟨0x020A, 0x020A, 2, 10000, .GNS, rng 1000 30000, noNeed⟩,
  ⟨0x020B, 0x020B, 1, 4, .GNS, oneOf [1, 2, 4, 5, 10, 20], noNeed⟩,
  ⟨0x020C, 0x020C, 1, 0x01, .GNS, rng 0 1, noNeed⟩,
  ⟨0x020D, 0x020D, 4, 0, .GNS, rngS 32 (-5000) (5000), noNeed⟩,
  ⟨0x020E, 0x020E, 4, 0, .GNS, rngS 32 (-5000) (5000), noNeed⟩,
  ⟨0x020F, 0x020F, 4, 0, .GNS, rngS 32 (-5000) (5000), noNeed⟩,
  ⟨0x0210, 0x0210, 2, 100, .GNS, rng 20 250, noNeed⟩,
  ⟨0x0211, 0x0211, 1, 5, .GNS, rng 1 50, noNeed⟩,
  ⟨0x0212, 0x0212, 1, 4, .GNS, rng 3 12, noNeed⟩,
  ⟨0x0213, 0x0213, 1, 55, .GNS, rng 45 60, noNeed⟩,
  ⟨0x0214, 0x0214, 2, 500, .GNS, rng 50 5000, noNeed⟩,
  ⟨0x0215, 0x0215, 2, 2000, .GNS, rng 100 10000, noNeed⟩,
  ⟨0x0216, 0x0216, 4, 100, .GNS, rng 10 100000, noNeed⟩,
  ⟨0x0217, 0x0217, 2, 60, .GNS, rng 10 3600, noNeed⟩,
  ⟨0x0218, 0x0218, 1, 0x01, .GNS, rng 0 1, noNeed⟩,
  ⟨0x0219, 0x0219, 8, 0, .GNS, anyVal, noNeed⟩,
  ⟨0x021A, 0x021A, 8, 0, .GNS, anyVal, noNeed⟩,
  ⟨0x021B, 0x021B, 8, 0, .GNS, anyVal, noNeed⟩,
  ⟨0x021C, 0x021C, 4, 1800, .GNS, rng 60 86400, noNeed⟩,
  ⟨0x021D, 0x021D, 2, 20, .GNS, rng 5 5000, noNeed⟩,
  ⟨0x021E, 0x021E, 2, 1000, .GNS, rng 100 50000, noNeed⟩,
  ⟨0x021F, 0x021F, 1, 0, .GNS, rngOr 16 63 0, needUnless 0 43⟩,
  ⟨0x0220, 0x0220, 1, 0x00, .GNS, rng 0 1, needIf 1 39⟩ ]

/-- Group 03h: FIX_QUEUE, FIX_RTCM_QUEUE, FIX_RTCM_MSM, FIX_RTCM_RATE, FIX_RTCM_1005_S, FIX_RTCM_STATION, FIX_RATIO_MIN, FIX_MIN_FIXED, FIX_VALIDATE_EPOCHS, FIX_HOLD_S, FIX_MISS_LIMIT, FIX_SLIP_GF, FIX_RESID_MAX. -/
def params03 : List ParamDef := [
  ⟨0x0300, 0x0300, 1, 0, .FIX, rngOr 16 63 0, needUnless 0 195⟩,
  ⟨0x0301, 0x0301, 1, 0, .FIX, rngOr 16 63 0, noNeed⟩,
  ⟨0x0302, 0x0302, 1, 0x00, .FIX, oneOf [0, 4, 7], msmNeed⟩,
  ⟨0x0303, 0x0303, 1, 1, .FIX, oneOf [1, 2, 5, 10, 20], noNeed⟩,
  ⟨0x0304, 0x0304, 1, 10, .FIX, rng 1 60, noNeed⟩,
  ⟨0x0305, 0x0305, 2, 0, .FIX, rng 0 4095, noNeed⟩,
  ⟨0x0306, 0x0306, 2, 300, .FIX, rng 100 1000, noNeed⟩,
  ⟨0x0307, 0x0307, 1, 5, .FIX, rng 4 16, noNeed⟩,
  ⟨0x0308, 0x0308, 1, 3, .FIX, rng 1 20, noNeed⟩,
  ⟨0x0309, 0x0309, 1, 5, .FIX, rng 1 60, noNeed⟩,
  ⟨0x030A, 0x030A, 1, 5, .FIX, rng 1 255, noNeed⟩,
  ⟨0x030B, 0x030B, 2, 50, .FIX, rng 10 500, noNeed⟩,
  ⟨0x030C, 0x030C, 2, 20, .FIX, rng 5 100, noNeed⟩ ]

/-- Group 04h: CLK_SOURCE, CLK_REFIN_MODE, CLK_REFIN_PPB, CLK_HOLDOVER_S, CLK_RETURN_EPOCHS, CLK_SLEW_PPB, CLK_STEP_NS, CLK_PPS_ENABLE, CLK_PPS_WIDTH_US, CLK_PPS_OFFSET_NS, CLK_LOOP_TC_S, CLK_PPS_COPY. -/
def params04 : List ParamDef := [
  ⟨0x0400, 0x0400, 1, 0x00, .CLK, rng 0 3, needUnless 0 72⟩,
  ⟨0x0401, 0x0401, 1, 0x00, .CLK, rng 0 1, needIf 1 71⟩,
  ⟨0x0402, 0x0402, 2, 10, .CLK, rng 1 1000, noNeed⟩,
  ⟨0x0403, 0x0403, 4, 600, .CLK, rng 10 86400, noNeed⟩,
  ⟨0x0404, 0x0404, 1, 10, .CLK, rng 1 100, noNeed⟩,
  ⟨0x0405, 0x0405, 4, 1000, .CLK, rng 10 100000, noNeed⟩,
  ⟨0x0406, 0x0406, 4, 100000, .CLK, rng 1000 1000000000, noNeed⟩,
  ⟨0x0407, 0x0407, 1, 0x01, .CLK, rng 0 1, needAlways 70⟩,
  ⟨0x0408, 0x0408, 4, 100000, .CLK, rng 1 500000, needAlways 70⟩,
  ⟨0x0409, 0x0409, 4, 0, .CLK, rngS 32 (-1000000) (1000000), needAlways 70⟩,
  ⟨0x040A, 0x040A, 2, 60, .CLK, rng 1 1000, noNeed⟩,
  ⟨0x040B, 0x040B, 1, 0xFF, .CLK, rngOr 0 47 0xFF, needAlways 70⟩ ]

/-- Group 05h: AIR_DOMAIN, AIR_CHAINS, AIR_OFDM_OPTION, AIR_HOP_MASK, AIR_HOP_STRIDE, AIR_HOP_OFFSET, AIR_BEACON_MCS, AIR_BCAST_MCS, AIR_MCS_MIN, AIR_MCS_MAX, AIR_MCS_MARGIN, AIR_TXPWR_A, AIR_TXPWR_B, AIR_TXPWR_C, AIR_TXPWR_D, AIR_LEGACY_CHAIN, AIR_LBT_DBM, AIR_FLOCK_EUI, AIR_LOST_SF, AIR_BEACON_LOSS, AIR_GUARD_BASE_US, AIR_DRIFT_MIN_PPM, AIR_WAKE_MAX_SF, AIR_RETX_SF. -/
def params05 : List ParamDef := [
  ⟨0x0500, 0x0500, 1, 0x00, .AIR, rng 0x00 0x03, domainNeed⟩,
  ⟨0x0501, 0x0501, 1, 0x00, .AIR, rng 0x00 0x0F, noNeed⟩,
  ⟨0x0502, 0x0502, 1, 0x01, .AIR, oneOf [1, 2], optionNeed⟩,
  ⟨0x0503, 0x0503, 8, 0xFFFFFFFFFFFFFFFF, .AIR, anyVal, noNeed⟩,
  ⟨0x0504, 0x0504, 1, 7, .AIR, rng 1 63, noNeed⟩,
  ⟨0x0505, 0x0505, 1, 0, .AIR, rng 0 63, noNeed⟩,
  ⟨0x0506, 0x0506, 1, 1, .AIR, rng 0 5, noNeed⟩,
  ⟨0x0507, 0x0507, 1, 3, .AIR, rng 0 5, noNeed⟩,
  ⟨0x0508, 0x0508, 1, 1, .AIR, rng 0 5, noNeed⟩,
  ⟨0x0509, 0x0509, 1, 3, .AIR, rng 0 5, noNeed⟩,
  ⟨0x050A, 0x050A, 1, 3, .AIR, rng 0 10, noNeed⟩,
  ⟨0x050B, 0x050B, 1, 10, .AIR, rngS 8 (-10) 20, noNeed⟩,
  ⟨0x050C, 0x050C, 1, 10, .AIR, rngS 8 (-10) 20, noNeed⟩,
  ⟨0x050D, 0x050D, 1, 10, .AIR, rngS 8 (-10) 20, noNeed⟩,
  ⟨0x050E, 0x050E, 1, 10, .AIR, rngS 8 (-10) 20, noNeed⟩,
  ⟨0x050F, 0x050F, 1, 0xFF, .AIR, rngOr 0 3 0xFF, fun _ v => if v = 0xFF then [] else [98, 99]⟩,
  ⟨0x0510, 0x0510, 1, (ofSigned 8 (-80)), .AIR, rngS 8 (-100) (-60), noNeed⟩,
  ⟨0x0511, 0x0511, 8, 0, .AIR, anyVal, noNeed⟩,
  ⟨0x0512, 0x0512, 1, 10, .AIR, rng 2 255, noNeed⟩,
  ⟨0x0513, 0x0513, 1, 10, .AIR, rng 2 100, noNeed⟩,
  ⟨0x0514, 0x0514, 1, 20, .AIR, rng 5 60, noNeed⟩,
  ⟨0x0515, 0x0515, 1, 10, .AIR, rng 1 100, noNeed⟩,
  ⟨0x0516, 0x0516, 2, 600, .AIR, rng 1 3000, noNeed⟩,
  ⟨0x0517, 0x0517, 1, 1, .AIR, rng 1 10, noNeed⟩ ]

/-- Group 06h: PAS_FRAME_ENABLE, PAS_ORIGIN_LAT, PAS_ORIGIN_LON, PAS_ORIGIN_H, PAS_FRAME_ROT, PAS_NODE_COUNT, PAS_LANE_COUNT, PAS_HORIZON_MS, PAS_LEAD_MS, PAS_WAIT_STEP_MS, PAS_SHIFT_TRIES, PAS_CLEAR_SIGMA_MM, PAS_SIDESTEP_MM, PAS_BORDER_VOTE_TICKS, PAS_DEADLOCK_RESOLVE, PAS_CLASS_0. -/
def params06 : List ParamDef := [
  ⟨0x0600, 0x0600, 1, 0x00, .PAS, rng 0 1, noNeed⟩,
  ⟨0x0601, 0x0601, 8, 0, .PAS, rngS 64 (-1570796327) (1570796327), noNeed⟩,
  ⟨0x0602, 0x0602, 8, 0, .PAS, rngS 64 (-3141592654) (3141592654), noNeed⟩,
  ⟨0x0603, 0x0603, 4, 0, .PAS, rngS 32 (-1000000) (10000000), noNeed⟩,
  ⟨0x0604, 0x0604, 4, 0, .PAS, rngS 32 (-3141593) (3141593), noNeed⟩,
  ⟨0x0605, 0x0605, 4, 0, .PAS, rng 0 65536, noNeed⟩,
  ⟨0x0606, 0x0606, 4, 0, .PAS, rng 0 131072, noNeed⟩,
  ⟨0x0607, 0x0607, 2, 30000, .PAS, rng 1000 60000, noNeed⟩,
  ⟨0x0608, 0x0608, 2, 1000, .PAS, rng 500 10000, noNeed⟩,
  ⟨0x0609, 0x0609, 2, 250, .PAS, rng 10 5000, noNeed⟩,
  ⟨0x060A, 0x060A, 1, 16, .PAS, rng 1 32, noNeed⟩,
  ⟨0x060B, 0x060B, 2, 100, .PAS, rng 10 1000, noNeed⟩,
  ⟨0x060C, 0x060C, 4, 50000, .PAS, rng 0 1000000, noNeed⟩,
  ⟨0x060D, 0x060D, 1, 10, .PAS, rng 2 100, noNeed⟩,
  ⟨0x060E, 0x060E, 1, 0x01, .PAS, rng 0 1, needIf 1 131⟩,
  ⟨0x0610, 0x061F, 16, pasClassDefault, .PAS, pasClassOk, noNeed⟩ ]

/-- Group 07h: PRF_CLASS_0, PRF_DEV_ENABLE, PRF_PF_LEARN, PRF_PF_WEIGHT, PRF_EVIDENCE_GAP_MS. -/
def params07 : List ParamDef := [
  ⟨0x0700, 0x070F, 32, prfClassDefault, .PRF, prfClassOk, noNeed⟩,
  ⟨0x0710, 0x0710, 1, 0x00, .PRF, rng 0 1, needIf 1 133⟩,
  ⟨0x0711, 0x0711, 1, 0x00, .PRF, rng 0 1, needIf 1 134⟩,
  ⟨0x0712, 0x0712, 1, 16, .PRF, rng 2 64, noNeed⟩,
  ⟨0x0713, 0x0713, 2, 1000, .PRF, rng 100 10000, noNeed⟩ ]

/-- Group 08h: TSK_ROUND_TASKS, TSK_SESSION_MAX, TSK_W_TRAVEL, TSK_W_BATT, TSK_BATT_REF, TSK_W_FIT, TSK_W_PRIO, TSK_W_AGE, TSK_W_AGE_MIN, TSK_W_AGE_MAX, TSK_AGE_TARGET_S, TSK_RETUNE, TSK_EPS_MS, TSK_RESULT_QUEUE, TSK_STAGE. -/
def params08 : List ParamDef := [
  ⟨0x0800, 0x0800, 2, 256, .TSK, rng 1 1024, noNeed⟩,
  ⟨0x0801, 0x0801, 2, 4096, .TSK, rng 1 4096, noNeed⟩,
  ⟨0x0802, 0x0802, 1, 16, .TSK, rng 0 64, noNeed⟩,
  ⟨0x0803, 0x0803, 2, 500, .TSK, rng 0 10000, noNeed⟩,
  ⟨0x0804, 0x0804, 1, 50, .TSK, rng 0 100, noNeed⟩,
  ⟨0x0805, 0x0805, 4, 10000, .TSK, rng 0 600000, noNeed⟩,
  ⟨0x0806, 0x0806, 4, 2000, .TSK, rng 0 600000, noNeed⟩,
  ⟨0x0807, 0x0807, 2, 100, .TSK, rng 0 1000, noNeed⟩,
  ⟨0x0808, 0x0808, 2, 0, .TSK, rng 0 1000, noNeed⟩,
  ⟨0x0809, 0x0809, 2, 1000, .TSK, rng 0 1000, noNeed⟩,
  ⟨0x080A, 0x080A, 2, 120, .TSK, rng 10 3600, noNeed⟩,
  ⟨0x080B, 0x080B, 1, 0x00, .TSK, rng 0 1, needIf 1 162⟩,
  ⟨0x080C, 0x080C, 2, 100, .TSK, rng 1 10000, noNeed⟩,
  ⟨0x080D, 0x080D, 1, 0, .TSK, rngOr 16 63 0, noNeed⟩,
  ⟨0x080E, 0x080E, 1, 0x00, .TSK, rng 0 1, needIf 1 161⟩ ]

/-- Group 09h: CRK_LOOP_ENABLE, CRK_LOOP_FILTER_US, CRK_DISC_MS, CRK_LOOP_RAMP, CRK_LOOP_REARM, CRK_PREEMPT, CRK_CONFIRM_MS, CRK_FOLD_FORWARD. -/
def params09 : List ParamDef := [
  ⟨0x0900, 0x0900, 1, 0x01, .CRK, rng 0 1, noNeed⟩,
  ⟨0x0901, 0x0901, 2, 100, .CRK, rng 10 900, noNeed⟩,
  ⟨0x0902, 0x0902, 2, 50, .CRK, rng 1 1000, noNeed⟩,
  ⟨0x0903, 0x0903, 1, 0x01, .CRK, rng 0 1, needIf 1 135⟩,
  ⟨0x0904, 0x0904, 1, 0x01, .CRK, rng 0 1, noNeed⟩,
  ⟨0x0905, 0x0905, 1, 0x00, .CRK, rng 0 1, needIf 1 164⟩,
  ⟨0x0906, 0x0906, 2, 2000, .CRK, rng 100 60000, noNeed⟩,
  ⟨0x0907, 0x0907, 1, 0x00, .CRK, rng 0 1, needIf 1 224⟩ ]

/-- Group 0Ah: AXS_ENABLE, AXS_PWM_HZ, AXS_DEADTIME_NS, AXS_AXIS_0. -/
def params0A : List ParamDef := [
  ⟨0x0A00, 0x0A00, 1, 0x00, .AXS, rng 0x00 0x0F, noNeed⟩,
  ⟨0x0A01, 0x0A01, 4, 25000, .AXS, rng 16000 100000, noNeed⟩,
  ⟨0x0A02, 0x0A02, 2, 300, .AXS, rng 50 2000, noNeed⟩,
  ⟨0x0A10, 0x0A13, 52, axisDefault, .AXS, axisOk, axisNeed⟩ ]

/-- Group 0Bh: ETH_PORTS, ETH_MAC0_IF, ETH_PHY_ADDR, ETH_MAC0_MTU, ETH_MAC0_TX_LAT_NS, ETH_MAC0_RX_LAT_NS, ETH_IP_ADDR, ETH_QMAP, ETH_T1S_1, ETH_T1S_2, ETH_PTP_DOMAIN, ETH_PTP_MASTER, ETH_PTP_SYNC_LOG, ETH_PTP_TRANSPORT, ETH_WAKE_KEY. -/
def params0B : List ParamDef := [
  ⟨0x0B00, 0x0B00, 1, 0x01, .ETH, rng 0x00 0x07, ethPortsNeed⟩,
  ⟨0x0B01, 0x0B01, 1, 0x00, .ETH, rng 0 1, noNeed⟩,
  ⟨0x0B02, 0x0B02, 1, 0, .ETH, rng 0 31, noNeed⟩,
  ⟨0x0B03, 0x0B03, 2, 1500, .ETH, rng 1500 4200, noNeed⟩,
  ⟨0x0B04, 0x0B04, 2, 0, .ETH, rng 0 1000, noNeed⟩,
  ⟨0x0B05, 0x0B05, 2, 0, .ETH, rng 0 1000, noNeed⟩,
  ⟨0x0B06, 0x0B06, 4, 0, .ETH, anyVal, noNeed⟩,
  ⟨0x0B07, 0x0B07, 4, 0x00053977, .ETH, rng 0 0x1FFFFF, noNeed⟩,
  ⟨0x0B08, 0x0B08, 8, t1sDefault, .ETH, t1sOk, t1sNeed⟩,
  ⟨0x0B09, 0x0B09, 8, t1sDefault, .ETH, t1sOk, t1sNeed⟩,
  ⟨0x0B0A, 0x0B0A, 1, 0, .ETH, rng 0 127, noNeed⟩,
  ⟨0x0B0B, 0x0B0B, 1, 0x00, .ETH, rng 0x00 0x07, needUnless 0 72⟩,
  ⟨0x0B0C, 0x0B0C, 1, 0, .ETH, rngS 8 (-4) (0), noNeed⟩,
  ⟨0x0B0D, 0x0B0D, 1, 0x00, .ETH, rng 0 1, noNeed⟩,
  ⟨0x0B0E, 0x0B0E, 2, 0x0000, .ETH, anyVal, noNeed⟩ ]

/-- Group 0Ch: CAN_ENABLE, CAN_SITE, CAN_PORT0_CFG, CAN_SERIAL, CAN_PORT0_MB_0, CAN_PORT1_MB_0. -/
def params0C : List ParamDef := [
  ⟨0x0C00, 0x0C00, 1, 0x00, .CAN, rng 0x00 0x03, noNeed⟩,
  ⟨0x0C01, 0x0C01, 1, 0x00, .CAN, rng 0x00 0x03, noNeed⟩,
  ⟨0x0C02, 0x0C03, 24, canCfgDefault, .CAN, canCfgOk, noNeed⟩,
  ⟨0x0C04, 0x0C04, 8, serialDefault, .CAN, serialOk, noNeed⟩,
  ⟨0x0C40, 0x0C7F, 16, mbDefault, .CAN, mbOk, noNeed⟩,
  ⟨0x0C80, 0x0CBF, 16, mbDefault, .CAN, mbOk, noNeed⟩ ]

/-- Group 0Dh: QUE_SIZE_16, MEM_SCRUB_S, MEM_RETIRE_CE. -/
def params0D : List ParamDef := [
  ⟨0x0D10, 0x0D3F, 4, 65536, .QUE, queSizeOk, noNeed⟩,
  ⟨0x0D80, 0x0D80, 2, 60, .MEM, rng 1 3600, noNeed⟩,
  ⟨0x0D81, 0x0D81, 2, 64, .MEM, rng 0 65535, noNeed⟩ ]

/-- Group 0Eh: FLD_ENABLE, FLD_TIER_0, FLD_FOLD_GEN, FLD_AGREE_SF, FLD_MISS_SF, FLD_TIME_TOL_NS, FLD_TIME_ERR_MAX, FLD_SYNC_GPIO, FLD_DEVICE_NO. -/
def params0E : List ParamDef := [
  ⟨0x0E00, 0x0E00, 1, 0x00, .FLD, rng 0 1, needIf 1 224⟩,
  ⟨0x0E01, 0x0E0F, 8, tierDefault, .FLD, tierOk, tierNeed⟩,
  ⟨0x0E10, 0x0E10, 4, 0, .FLD, anyVal, noNeed⟩,
  ⟨0x0E11, 0x0E11, 2, 50, .FLD, rng 2 1000, noNeed⟩,
  ⟨0x0E12, 0x0E12, 1, 5, .FLD, rng 2 255, noNeed⟩,
  ⟨0x0E13, 0x0E13, 4, 10000, .FLD, rng 100 1000000, noNeed⟩,
  ⟨0x0E14, 0x0E14, 1, 7, .FLD, rng 0 14, noNeed⟩,
  ⟨0x0E15, 0x0E15, 1, 0xFF, .FLD, rngOr 0 47 0xFF, noNeed⟩,
  ⟨0x0E16, 0x0E16, 2, 0, .FLD, rng 0 4095, noNeed⟩ ]

/-- Group 0Fh: PAI_AUTO_SYNC, PAI_FORM_S, PAI_SILENT_TICKS. -/
def params0F : List ParamDef := [
  ⟨0x0F00, 0x0F00, 1, 0x01, .PAI, rng 0 1, noNeed⟩,
  ⟨0x0F01, 0x0F01, 2, 60, .PAI, rng 10 3600, noNeed⟩,
  ⟨0x0F02, 0x0F02, 1, 4, .PAI, rng 2 100, noNeed⟩ ]

/-- Group 10h: VIT_TAMPER_0, VIT_DETECT, VIT_INTERNAL_LEVEL, VIT_REMASK_MS. -/
def params10 : List ParamDef := [
  ⟨0x1000, 0x1003, 4, tamperDefault, .VIT, tamperOk, noNeed⟩,
  ⟨0x1004, 0x1004, 1, 0x07, .VIT, rng 0x00 0x07, noNeed⟩,
  ⟨0x1005, 0x1005, 1, 2, .VIT, rng 1 3, noNeed⟩,
  ⟨0x1006, 0x1006, 2, 10, .VIT, rng 1 1000, noNeed⟩ ]

/-- Group 11h: UPD_IDLE_S, UPD_TRIAL_S. -/
def params11 : List ParamDef := [
  ⟨0x1100, 0x1100, 2, 300, .UPD, rng 10 3600, noNeed⟩,
  ⟨0x1101, 0x1101, 4, 3600, .UPD, rngOr 60 604800 0, noNeed⟩ ]

/-- Group 12h: ARC_INTERVAL_S, ARC_STARTUP_S, ARC_RATE_LIMIT. -/
def params12 : List ParamDef := [
  ⟨0x1200, 0x1200, 4, 3600, .ARC, rng 60 86400, noNeed⟩,
  ⟨0x1201, 0x1201, 2, 60, .ARC, rng 10 3600, noNeed⟩,
  ⟨0x1202, 0x1202, 1, 4, .ARC, rng 1 64, noNeed⟩ ]

/-- Group 13h: CXM_LEGACY_KEY_SLOT, CXM_LEGACY_PAN, CXM_LEGACY_CORR_S. -/
def params13 : List ParamDef := [
  ⟨0x1300, 0x1300, 2, 1, .AIR, rng 1 511, noNeed⟩,
  ⟨0x1301, 0x1301, 2, 0x0000, .AIR, rng 0x0000 0xFFFE, noNeed⟩,
  ⟨0x1302, 0x1302, 1, 2, .AIR, rng 1 10, noNeed⟩ ]

/-- Group 7Fh: DIA_UART1_USE, DIA_UART1_PINS, DIA_CAPTURE_CLAIM, DIA_RF_CHAIN. -/
def params7F : List ParamDef := [
  ⟨0x7F10, 0x7F10, 1, 0x00, .SYS, oneOf [0x00, 0x01], needIf 1 9⟩,
  ⟨0x7F11, 0x7F11, 2, 0xFFFF, .SYS, uartPinsOk, noNeed⟩,
  ⟨0x7F12, 0x7F12, 1, 0x00, .SYS, rng 0 1, needIf 1 9⟩,
  ⟨0x7F13, 0x7F13, 1, 0xFF, .SYS, rngOr 0 3 0xFF, needUnless 0xFF 9⟩ ]

/-- The parameters of one block group (R27). -/
def paramsOf (group : Nat) : List ParamDef :=
  match group with
  | 0x00 => params00
  | 0x02 => params02
  | 0x03 => params03
  | 0x04 => params04
  | 0x05 => params05
  | 0x06 => params06
  | 0x07 => params07
  | 0x08 => params08
  | 0x09 => params09
  | 0x0A => params0A
  | 0x0B => params0B
  | 0x0C => params0C
  | 0x0D => params0D
  | 0x0E => params0E
  | 0x0F => params0F
  | 0x10 => params10
  | 0x11 => params11
  | 0x12 => params12
  | 0x13 => params13
  | 0x7F => params7F
  | _ => []

/-- The row of a parameter identifier, if it is assigned (R28). -/
def paramDef? (id : Nat) : Option ParamDef :=
  (paramsOf (id / 256)).find? (fun d => decide (d.lo ≤ id ∧ id ≤ d.hi))

/-- The default of a parameter (R11). -/
def paramDefault (id : Nat) : Nat := match paramDef? id with
  | some d => if d.lo = 0x0A10 then axisDefaultOf (id - 0x0A10) else d.dflt
  | none => 0

end Sys2Proof.Machine
end

