-- ==== Sys2Proof/Machine/Ops.lean ====
section
/-! DEFINITION. The named operations every chapter uses: reading parameters, time, outputs, raising events with their
Archive entry, and publishing to hardware queues. -/

namespace Sys2Proof.Machine

/-- The U16 codes of the shared statuses (R80). -/
abbrev stOk : Nat := 0x0000
abbrev stAccepted : Nat := 0x0001
abbrev stDuplicate : Nat := 0x0002
abbrev stOutOfOrder : Nat := 0x0003
abbrev stNoCredit : Nat := 0x0004
abbrev stBadCrc : Nat := 0x0010
abbrev stBadOpcode : Nat := 0x0011
abbrev stBadParam : Nat := 0x0012
abbrev stBadLength : Nat := 0x0013
abbrev stNotNegotiated : Nat := 0x0020
abbrev stResourceHeld : Nat := 0x0021
abbrev stNeedsQuiesce : Nat := 0x0022
abbrev stOverBudget : Nat := 0x0023
abbrev stBusyUpdate : Nat := 0x0030
abbrev stDenied : Nat := 0x0031
abbrev stFault : Nat := 0x0040
abbrev stSessionsFull : Nat := 0x00C0
abbrev stSessionUnknown : Nat := 0x00C1
abbrev stFragmentHeld : Nat := 0x00C2

/-- An answer without a body. -/
def Ans.bare (status detail : Nat) : Ans := ⟨status, detail, []⟩

/-- OK with a body. -/
def Ans.ok (body : Bytes) : Ans := ⟨stOk, 0, body⟩

/-- A parameter of a generation. -/
def Gen.prm (g : Gen) (id : Nat) : Nat := Tab.getD id (paramDefault id) g.params

/-- Writes a parameter, keeping the table to values that differ from their defaults. -/
def putParam (id v : Nat) (t : Tab Nat) : Tab Nat := if v = paramDefault id then Tab.del id t else Tab.put id v t

/-- The domain of a parameter. -/
def paramDom (id : Nat) : Domain := match paramDef? id with | some d => d.dom | none => .SYS

/-- Carries the parameters of domain `d` from a shadow set into a generation (R96). -/
def Gen.takeParams (d : Domain) (h : Shadow) (g : Gen) : Gen :=
  let mine := h.params.filter (fun (e : Nat × Nat) => decide (paramDom e.1 = d))
  { g with params := mine.foldl (fun t (e : Nat × Nat) => putParam e.1 e.2 t) g.params }

/-- The commit domains in the order of R542, by number. -/
def domainList : List Domain :=
  [.SYS, .GNS, .FIX, .CLK, .AIR, .PAS, .PRF, .TSK, .CRK, .AXS, .ETH, .CAN, .QUE, .MEM, .FLD, .PAI, .VIT, .UPD, .ARC]

/-- The domains that a shadow set touches (R542). -/
def Shadow.touched (h : Shadow) : List Domain :=
  domainList.filter (fun d => h.params.any (fun (e : Nat × Nat) => decide (paramDom e.1 = d)) ||
    (d == .SYS && !h.orders.isEmpty) || (d == .PAS && !(h.nodes.isEmpty && h.lanes.isEmpty && h.pads.isEmpty)) ||
    (d == .FLD && !h.roster.isEmpty))

/-- Whether a shadow set holds nothing. -/
def Shadow.isEmpty (h : Shadow) : Bool :=
  h.params.isEmpty && h.orders.isEmpty && h.nodes.isEmpty && h.lanes.isEmpty && h.pads.isEmpty && h.roster.isEmpty

/-- Writes every entry of `b` into `a`. -/
def Tab.union {α : Type} (a b : Tab α) : Tab α := b.foldl (fun t (e : Nat × α) => Tab.put e.1 e.2 t) a

/-- Carries the parts of a shadow set that belong to domain `d` into a generation (R96). -/
def Gen.take (d : Domain) (h : Shadow) (g : Gen) : Gen :=
  let orders := h.orders.foldl (fun t (e : Nat × Nat) => if e.2 = 0 then Tab.del e.1 t else Tab.put e.1 e.2 t) g.orders
  let g := g.takeParams d h
  match d with
  | .SYS => { g with orders := orders }
  | .PAS => { g with
      nodes := Tab.union g.nodes h.nodes, lanes := Tab.union g.lanes h.lanes
      pads := h.pads.foldl (fun t (e : Nat × Bytes) => if e.2 = [] then Tab.del e.1 t else Tab.put e.1 e.2 t) g.pads }
  | .FLD => { g with
      roster := h.roster.foldl (fun t (e : Nat × Nat) => if e.2 = 0 then Tab.del e.1 t else Tab.put e.1 (e.2 - 1) t) g.roster }
  | _ => g

/-- Carries a whole shadow set into a generation. -/
def Gen.takeAll (h : Shadow) (g : Gen) : Gen := domainList.foldl (fun g d => g.take d h) g

/-- A generation after an accepted COMMIT. -/
def Gen.after (g : Gen) (p : PendCommit) : Gen :=
  let g := g.takeAll p.shadow
  let g := match p.tickAt with | some t => { g with params := putParam 0x0010 t.1 g.params } | none => g
  { g with num := p.gen }

namespace State

/-- The configuration after every accepted COMMIT (R96). -/
def newest (s : State) : Gen := s.cfg.pend.foldl Gen.after s.cfg.eff

/-- The number of the newest generation in effect or accepted (R96, R542). -/
def newestNum (s : State) : Nat := match s.cfg.pend.getLast? with | some p => p.gen | none => s.cfg.eff.num

/-- Changes the system block. -/
def mapSys (f : Sys → Sys) (s : State) : State := { s with sys := f s.sys }
/-- Changes sessions and journal. -/
def mapSes (f : Ses → Ses) (s : State) : State := { s with ses := f s.ses }
/-- Changes the configuration area. -/
def mapCfg (f : Conf → Conf) (s : State) : State := { s with cfg := f s.cfg }
/-- Changes the time unit. -/
def mapClk (f : Clk → Clk) (s : State) : State := { s with clk := f s.clk }
/-- Changes queues and memory. -/
def mapMem (f : Mem → Mem) (s : State) : State := { s with mem := f s.mem }
/-- Changes images, lock and trial. -/
def mapUpd (f : Upd → Upd) (s : State) : State := { s with upd := f s.upd }
/-- Changes the Archive. -/
def mapArc (f : Arc → Arc) (s : State) : State := { s with arc := f s.arc }

/-- The value of a parameter in effect (R11, R542). -/
def prm (s : State) (id : Nat) : Nat := Tab.getD id (paramDefault id) s.cfg.eff.params

/-- The value in effect of a signed parameter of `w` bits. -/
def prmS (s : State) (w id : Nat) : Int := toSigned w (s.prm id)

/-- The bytes of a record parameter of `n` bytes in effect. -/
def prmRec (s : State) (n id : Nat) : Bytes := le n (s.prm id)

/-- The tick length in ns (R34): SYS_TICK_SLOTS in effect on the ticks times 1.25 ms. -/
def tickNs (s : State) : Nat := s.sys.slots * 1250000

/-- Time is valid in states 2 to 5 (R174). -/
def timeValid (s : State) : Bool :=
  match s.clk.state with
  | .locked | .slewing | .holdover | .expired => true
  | _ => false

/-- The state code of R174. -/
def timeCode (s : State) : Nat :=
  match s.clk.state with
  | .none => 0 | .calendar => 1 | .locked => 2 | .slewing => 3 | .holdover => 4 | .expired => 5 | .freerun => 6

/-- What R178 adds to e0 after `t` ns, in 1/(2·10^20) ns: d in ppb, and 0.01 ns/s² where the quadratic term applies. -/
def errGrowth (d : Nat) (quad : Bool) (t : Nat) : Nat := d * t * 200000000000 + (if quad then t * t else 0)

/-- The estimated error of pasture time in 1/(2·10^20) ns, as R178 and R184 grow it; none: unknown. -/
def timeErrFine (s : State) : Option Nat :=
  match s.clk.e0 with
  | none => none
  | some e0 =>
    let rest := if s.clk.slewOn then s.clk.slew.natAbs else 0
    match s.clk.state with
    | .none => none
    | .locked => some (e0 * 200000000000000000000)
    | _ => some ((e0 + rest) * 200000000000000000000 + errGrowth s.clk.d s.clk.quad (s.now - s.clk.since))

/-- The estimated error of pasture time in whole ns, rounded down (assumption 32). -/
def timeErr (s : State) : Option Nat := s.timeErrFine.map (fun e => e / 200000000000000000000)

/-- The ERR code of an error in ns (R175): the least k with the error at most 4^(k+1), 15 beyond 14 or unknown. -/
def errCodeOf (e : Option Nat) : Nat :=
  match e with
  | none => 15
  | some v => ((List.range 15).find? (fun k => decide (v ≤ 4 ^ (k + 1)))).getD 15

/-- A halted core holds a job of this kind and argument, which stays unfinished (R63). -/
def jobStuck (s : State) (kind arg : Nat) : Bool :=
  s.tsk.cores.zipIdx.any (fun (x : (Option Job × Option Job) × Nat) => s.sys.halted.contains (x.2 + 2) &&
    (match x.1.1 with | some j => j.kind == kind && j.arg == arg | none => false))

/-- ERR of TIME_Q: the bound holds of the error before any rounding (R175). -/
def errCode (s : State) : Nat := errCodeOf (s.timeErrFine.map (fun e => ceilDiv e 200000000000000000000))

/-- The TIME_Q byte (R175). -/
def timeQ (s : State) : Nat := s.timeCode * 32 + b2n s.clk.refin * 16 + s.errCode

/-- Adds an output of the present command. -/
def emit (o : Output) (s : State) : State := { s with out := s.out ++ [o] }

/-- Draws a free value of `w` bits (assumption 5). -/
def draw (w : Nat) (s : State) : Nat × State :=
  (Config.freeNat w s.free % 2 ^ w, { s with free := s.free + 1 })

/-- This unit is in control of its outputs (R476, R490, R493). -/
def inControl (s : State) : Bool :=
  match s.pai.role, s.pai.mode with
  | 0, _ => true
  | _, .yielded => false
  | 1, .withheld => false
  | 1, _ => true
  | _, .alone => true
  | _, _ => false

/-- The merge runs: in lockstep, or from the named boundary B on (R483, R493). -/
def merging (s : State) : Bool :=
  s.pai.role != 0 && (s.pai.mode == .lockstep ||
    (s.pai.mode == .resync && (match s.pai.syncAt with | some b => decide (b ≤ s.sys.tick) | none => false)))

/-- This unit sends the wired outputs that both units of a pair send (R485, R488, R490). -/
def wiredOut (s : State) : Bool :=
  match s.pai.role, s.pai.mode with
  | 0, _ => true
  | 1, .yielded => false
  | 1, .withheld => false
  | 1, _ => true
  | _, .alone => true
  | _, .lockstep => !s.pai.mute
  | _, _ => false

/-- Whether control firmware runs. -/
def fwRuns (s : State) : Bool := s.sys.fw == .running

/-! ### Events (R18, R19, R98, R100, R103) and their Archive entry (R555, R556) -/

/-- The rank of an event class (R98). -/
def clsCode : Cls → Nat
  | .notice => 0 | .warning => 1 | .fault => 2

/-- The console line of an event (R103). -/
def consoleLine (e : Event) : Bytes :=
  [0x45] ++ hexStr 8 e.seq ++ [0x20] ++ hexStr 8 e.tick ++ [0x20] ++ hexStr 4 e.code ++ [0x20] ++
  [BitVec.ofNat 8 (48 + clsCode e.cls)] ++ [0x20] ++ hexStr 2 e.level ++ [0x20] ++
  hexStr 4 (e.kind * 4096 + e.idx) ++ [0x20] ++ (le 8 e.data).flatMap (fun b => hexStr 2 b.toNat) ++ [0x0D, 0x0A]

/-- UART1's transmit and receive lines where DIA_UART1_PINS routes them to GPIO pads; else UART1_TX and UART1_RX (R103). -/
def uartTx (s : State) : Option Nat := if s.prm 0x7F11 = 0xFFFF then none else some (s.prm 0x7F11 % 256)
def uartRx (s : State) : Option Nat := if s.prm 0x7F11 = 0xFFFF then none else some (s.prm 0x7F11 / 256)

/-- Writes the event's console line when the console holds UART1, dropping one that does not fit 4 KiB (R103). -/
def consoleNote (e : Event) (s : State) : State :=
  if s.prm 0x7F10 = 1 then
    let l := consoleLine e
    if (s.sys.console.map List.length).sum + l.length ≤ 4096 then
      s.mapSys (fun y => { y with console := y.console ++ [l] })
    else s.mapSys (fun y => { y with consoleDropped := y.consoleDropped + 1 })
  else s

/-- Raises the event output pad for a qualifying event (R100). -/
def padNote (e : Event) (s : State) : State :=
  if s.prm 0x001A ≠ 0xFF ∧ s.prm 0x001B ≤ clsCode e.cls then
    s.mapSys (fun y => { y with evHigh := some (s.now + 100000) })
  else s

/-- Whether an open-block entry records the same occurrence (R555). -/
def sameOccurrence (a b : Event) : Bool :=
  a.code == b.code && a.cls == b.cls && a.level == b.level && a.kind == b.kind && a.idx == b.idx && a.data == b.data

/-- The R556 state in force: the start-up state ends by itself. -/
def episode (s : State) : Option Episode :=
  match s.arc.episode with
  | some .startup => if s.now < s.arc.startupEnd then some .startup else none
  | e => e

/-- Enters an event in the Archive's open block; answers also whether it was the first suppression of its code in the
episode (R555, R556). -/
def arcNote (e : Event) (s : State) : State × Bool :=
  let a := { s.arc with codes := Tab.upd e.code 0 inc32 s.arc.codes }
  match s.episode with
  | none =>
    match findIdx (fun (x : Event × Nat × Nat) => sameOccurrence x.1 e) a.block with
    | some (i, _) => ({ s with arc := { a with block := modAt i (fun x => (x.1, inc16 x.2.1, x.2.2)) a.block } }, false)
    | none => ({ s with arc := { a with block := a.block ++ [(e, 0, s.now)] } }, false)
  | some _ =>
    let n := Tab.getD e.code 0 a.epCounts
    let lim := s.prm 0x1202
    let a := { a with epCounts := Tab.put e.code (n + 1) a.epCounts }
    if n < lim then ({ s with arc := { a with block := a.block ++ [(e, 0, s.now)] } }, false)
    else ({ s with arc := { a with suppressed := inc32 a.suppressed } }, n == lim)

/-- The robot's class, for a robot-scope event (R22). -/
def robotClass (s : State) (r : Nat) : Option Nat := (Tab.find? r s.lnk.robots).map (fun b => b.cls)

/-- The paddocks in the robot's current ZONES: the newest list that it holds whole (R22, R348). -/
def robotZones (s : State) (r : Nat) : List Nat := ((Tab.getD r [] s.crk.zones).head?).getD []

/-- The record of an event that is raised now (R98). -/
def eventRecord (s : State) (code : Nat) (cls : Cls) (level kind idx data : Nat) : Event := {
  seq := s.sys.nextSeq, tick := s.sys.tick, time := s.clk.count, timeValid := s.timeValid,
  acked := false, noFw := !s.fwRuns, code := code, cls := cls, level := min level 255, kind := kind, idx := idx,
  data := data % 2 ^ 64 }

/-- Places an event record in the event queue, which keeps the newest 4,096 (R98); what the standing orders match is noted with it
(R22), and a fault waits to be acknowledged (R19). -/
def enterEvent (e : Event) (s : State) : State :=
  let m : MatchItem := {
    code := e.code, level := e.level, kind := e.kind, idx := e.idx,
    rclass := if e.kind = 1 then s.robotClass e.idx else none, zones := if e.kind = 1 then s.robotZones e.idx else [] }
  s.mapSys (fun y => { y with
    events := lastN 4096 (y.events ++ [e]), nextSeq := y.nextSeq + 1, toMatch := y.toMatch ++ [m],
    unacked := if e.cls = .fault then y.unacked ++ [e.seq] else y.unacked })

/-- Places one event record in the event queue (R98) and everywhere an event goes; answers whether the Archive
suppressed the first of its code. -/
def raiseCore (code : Nat) (cls : Cls) (level kind idx data : Nat) (s : State) : State × Bool :=
  let e := s.eventRecord code cls level kind idx data
  arcNote e (padNote e (consoleNote e (s.enterEvent e)))

/-- Raises an event with its DATA (R16, R18), and ARC_SUPPRESSED where R556 asks for it. -/
def raiseD (code : Nat) (cls : Cls) (level kind idx data : Nat) (s : State) : State :=
  let ep := match s.episode with | some .recovery => 1 | some .startup => 2 | _ => 3
  match raiseCore code cls level kind idx data s with
  | (s, false) => s
  | (s, true) =>
    match raiseCore 0x1201 .notice ep 0 0 code s with
    | (s, false) => s
    | (s, true) => (raiseCore 0x1201 .notice ep 0 0 0x1201 s).1

/-- Raises an event whose DATA is 0. -/
def raise (code : Nat) (cls : Cls) (level kind idx : Nat) (s : State) : State := raiseD code cls level kind idx 0 s

/-- A system-scope event of level and DATA given. -/
def raise0 (code : Nat) (cls : Cls) (level data : Nat) (s : State) : State := raiseD code cls level 0 0 data s

/-! ### Archive metrics (R557, R558) -/

/-- LO and STEP of a metric (R558). -/
def metricScale (m : Nat) : Int × Int :=
  if m ≤ 9 then (0, 25) else
  match m with
  | 0x0A => (0, 2) | 0x0B => (0, 5) | 0x0C => (80, 4) | 0x0D => (0, 1) | 0x0E => (-10, 1) | 0x0F => (0, 25)
  | 0x10 => (0, 512) | 0x11 => (0, 128) | 0x12 => (-50, 4) | 0x13 => (8000, 1000) | _ => (0, 1)

/-- The histogram bin of a sample: clamp(floor((x − LO) / STEP), 0, 47) (R557). -/
def metricBin (m : Nat) (x : Int) : Nat :=
  let (lo, st) := metricScale m
  (max 0 (min 47 ((x - lo).fdiv st))).toNat

/-- Takes one sample of a metric. -/
def sample (m : Nat) (x : Int) (s : State) : State :=
  let z : Metric := { samples := 0, min := x, max := x, maxTick := s.sys.tick, sum := 0, bins := List.replicate 48 0 }
  s.mapArc (fun a => { a with metrics := Tab.upd m z (fun k =>
    { samples := inc32 k.samples, min := min k.min x, max := max k.max x,
      maxTick := if k.max < x then s.sys.tick else k.maxTick, sum := k.sum + x,
      bins := modAt (metricBin m x) inc32 k.bins }) a.metrics })

/-! ### Hardware queues (R433, R434, R121) -/

/-- The bytes a packet of `n` data bytes takes (R434). -/
def slotBytes (n : Nat) : Nat := 4 + 4 * ceilDiv n 4

/-- FILL: (WP − RP) modulo twice the size (R433). -/
def queueFill (q : Queue) : Nat := (q.wp + 2 * q.size - q.rp) % (2 * q.size)

/-- The byte addresses of a queue's storage: the pool follows the first 2 MiB of the queue region, which begins at bank 32
(R420, R430). -/
def queueAddr (q : Queue) : Nat := 32 * 524288 + 2097152 + q.base

/-- A poisoned word of the SRAM overlaps the bytes from `lo` up to `hi`: a read of them returns an error (R425). -/
def poisonedIn (s : State) (lo hi : Nat) : Bool :=
  s.mem.banks.any (fun k => k.poisoned.any (fun a => decide (lo < a / 8 * 8 + 8 ∧ a / 8 * 8 < hi)))

/-- Bytes from `lo` up to `hi` have been written: the whole words among them are no longer poisoned, and a poisoned word written in
part stays as it is (R422, R425). -/
def cleanse (lo hi : Nat) (bs : List Bank) : List Bank :=
  bs.map (fun k => { k with poisoned := k.poisoned.filter (fun a => !(decide (lo ≤ a / 8 * 8 ∧ a / 8 * 8 + 8 ≤ hi))) })

/-- A poisoned word overlaps `n` bytes of a queue's storage from pointer `p` (R425, R433). -/
def ringPoisoned (s : State) (q : Queue) (p n : Nat) : Bool :=
  let a := queueAddr q
  let o := p % q.size
  s.poisonedIn (a + o) (a + min q.size (o + n)) || s.poisonedIn a (a + (o + n - q.size))

/-- `n` bytes of a queue's storage have been written from pointer `p`. -/
def ringCleanse (q : Queue) (p n : Nat) (bs : List Bank) : List Bank :=
  let a := queueAddr q
  let o := p % q.size
  cleanse a (a + (o + n - q.size)) (cleanse (a + o) (a + min q.size (o + n)) bs)

/-- The bank that holds a queue from Q0 to Q15: they lie one after the other from the start of the queue region (R420, R430;
DEDUCED, assumption 77). -/
def fixedBank (q : Nat) : Nat := if q ≤ 3 then 32 else if q ≤ 11 then 33 else 34

/-- A queue from Q0 to Q15 is disabled: its bank is out of service (R429). -/
def fixedDown (s : State) (q : Nat) : Bool := (s.mem.banks[fixedBank q]?).any (fun k => k.state == .outOfService)

/-- A packet for a disabled queue from Q0 to Q15 is dropped and counted (R429). -/
def dropFixed (q : Nat) (s : State) : State :=
  s.mapMem (fun m => { m with windows := Tab.upd q ⟨0, 0, 0, 0⟩ (fun w => { w with drops := inc32 w.drops }) m.windows })

/-- Drops `n` packets of a queue's stream and counts them (R121, R148): the first drop of a run raises `full`, the queue-full event of the
stream's owner. -/
def dropPackets (qn n : Nat) (full : State → State) (s : State) : State :=
  match Tab.find? qn s.mem.queues with
  | none => s
  | some q =>
    let s' := s.mapMem (fun m => { m with queues := Tab.put qn { q with
      dropped := true, drops := min 0xFFFFFFFF (q.drops + n), dropRun := true } m.queues })
    if q.dropRun then s' else full s'

/-- Publishes a packet to a queue whole, or drops and counts it when it does not fit (R434, R121). -/
def publish (qn : Nat) (data : Bytes) (full : State → State) (s : State) : State :=
  match Tab.find? qn s.mem.queues with
  | none => s
  | some q =>
    let need := slotBytes data.length
    if q.disabled = false ∧ need ≤ q.size - queueFill q ∧ data.length ≤ 65532 then
      s.mapMem (fun m => { m with banks := ringCleanse q q.wp need m.banks, queues := Tab.put qn { q with
        wp := (q.wp + need) % (2 * q.size), packets := q.packets ++ [(q.nextSeq, data)],
        nextSeq := if q.nextSeq = 0xFFFFFFFF then 1 else q.nextSeq + 1, dropRun := false } m.queues })
    else s.dropPackets qn 1 full

end State

end Sys2Proof.Machine
end

