-- ==== Sys2Proof/Machine/Sessions.lean ====
section
/-! DEFINITION. Reception of native packets, sessions, accession numbers, credits, the journal, completions and
fragments (R69 to R93, R540). The meaning of each opcode comes in as an `OpSpec`. -/

/-! ### Packet fields -/

namespace Sys2Proof.Pkt

open Sys2Proof.Machine

/-- FOLD_ROUTED (R75). -/
def routed (p : Pkt) : Bool := bit p.flags 3
/-- URGENT (R75). -/
def urgent (p : Pkt) : Bool := bit p.flags 2
/-- FRAGMENT (R75). -/
def fragment (p : Pkt) : Bool := bit p.flags 1

/-- A fold-routed packet from a host, not yet on its way over the fold (R464). -/
def far (p : Pkt) : Bool := match p.via with | .fold _ _ => false | _ => p.routed

/-- DEPTH of the fold path (R77). -/
def depth (p : Pkt) : Nat := u8 p.payload 0

/-- The length of the fold-path bytes: two, then DEPTH entries, padded to a multiple of 4 (R77). -/
def pathLen (p : Pkt) : Nat := if p.routed then ((2 + 2 * p.depth + 3) / 4) * 4 else 0

/-- The fold-path bytes with HOP set to `hop` (R79, R467). -/
def pathBack (hop : Nat) (p : Pkt) : Bytes :=
  if p.routed then [BitVec.ofNat 8 p.depth, BitVec.ofNat 8 hop] ++ slice p.payload 2 (p.pathLen - 2) else []

/-- Entry `i` of the path. -/
def pathEntry (p : Pkt) (i : Nat) : Nat := u16 p.payload (2 + 2 * i) % 4096

/-- Where the parameters or the fragment's bytes begin. -/
def bodyStart (p : Pkt) : Nat := p.pathLen + (if p.fragment then 4 else 0)

/-- FRAG_INDEX and FRAG_COUNT (R93). -/
def fragIndex (p : Pkt) : Nat := u16 p.payload p.pathLen
def fragCount (p : Pkt) : Nat := u16 p.payload (p.pathLen + 2)

/-- The parameters this packet carries. -/
def body (p : Pkt) : Bytes := p.payload.drop p.bodyStart

/-- The catalogue bits the packet's own FLAGS need (R75, R72). -/
def flagBits (p : Pkt) : List Nat :=
  (if p.routed then [3] else []) ++ (if p.urgent then [5] else []) ++ (if p.fragment then [6] else [])

end Sys2Proof.Pkt

namespace Sys2Proof.Machine

/-- The three kinds of opcode (R81). -/
inductive OpKind where
  | work | query | control
  deriving DecidableEq, Repr

/-- A command as its opcode's meaning sees it. -/
structure Cmd where
  sess : Nat
  acc : Nat
  opcode : Nat
  params : Bytes
  /-- Bytes of fold-path prefix that the reply carries back (R77). -/
  pre : Nat
  via : Via
  /-- The session's AGREED. -/
  agreed : Nat
  /-- Run again at firmware load (R90): the checks of acceptance and admission are not made again. -/
  replay : Bool
  deriving DecidableEq, Repr

/-- How an opcode's meaning ends. -/
inductive CmdRes where
  /-- Refused: not accepted, no effect (R78 check 14). -/
  | refuse (a : Ans)
  /-- Accepted and ended within its reply (R86). -/
  | fin (a : Ans)
  /-- Accepted: ACCEPTED now, a completion later (R86). -/
  | later
  /-- The meaning has sent its own answer (R87). -/
  | sent
  deriving DecidableEq, Repr

/-- A refusal without a body. -/
def refuse (status detail : Nat) : CmdRes := .refuse (Ans.bare status detail)

/-- OK with a body. -/
def fin (body : Bytes) : CmdRes := .fin (Ans.ok body)

/-- OK with a detail and no body. -/
def finD (detail : Nat) : CmdRes := .fin (Ans.bare stOk detail)

/-- What an opcode's chapter gives it. -/
structure OpSpec where
  code : Nat
  kind : OpKind
  /-- Urgent-capable (R81). -/
  urgent : Bool
  /-- Catalogue bits it needs whatever its parameters. -/
  bits : List Nat
  /-- The largest result body it can return (R85). -/
  maxBody : Nat
  /-- Whether later numbered commands of the session wait until it has completed (R84, assumption 6). -/
  holds : Bool
  /-- Check 14 and the effect. -/
  run : Cmd → State → State × CmdRes

/-! ### Accession numbers (R82) -/

/-- The successor of an accession number. -/
def succAcc (n : Nat) : Nat := if n = 0xFFFFFFFF then 1 else n + 1

/-! ### Packets as bytes (R74, R76, R78) -/

/-- A native packet's header and payload with both CRCs (R74, R76). -/
def packetVer (ver flags opcode acc sess : Nat) (payload : Bytes) : Bytes :=
  let h := ([0xA7, 0x4B] : Bytes) ++ le 1 ver ++ le 1 flags ++ le 2 opcode ++ le 2 payload.length ++ le 4 acc ++ le 2 sess
  h ++ le 2 (crc16 h) ++ payload ++ le 4 (crc32c payload)

/-- A packet of VERSION 02h. -/
def packetWhole (flags opcode acc sess : Nat) (payload : Bytes) : Bytes := packetVer 2 flags opcode acc sess payload

/-- A reply or completion packet whole (R79, R86). -/
def replyWhole (r : Reply) : Bytes :=
  packetVer r.ver r.flags r.opcode r.acc r.sess (r.pre ++ le 2 r.ans.status ++ le 2 r.ans.detail ++ r.ans.body)

/-- The packet that bytes from `via` spell. -/
def pktOf (via : Via) (b : Bytes) : Pkt := {
  via := via, flags := u8 b 3, plen := u16 b 6, delivered := b.length, acc := u32 b 8, sess := u16 b 12
  payload := slice b 16 (u16 b 6), pcrc := u32 b (16 + u16 b 6) }

/-- Which of SYNC and HCRC bytes fail as a packet's header: 1 or 2 (R78). -/
def headFault (b : Bytes) : Option Nat :=
  if b.length < 16 ∨ u8 b 0 ≠ 0xA7 ∨ u8 b 1 ≠ 0x4B then some 1
  else if crc16 (b.take 14) ≠ u16 b 14 then some 2
  else none

/-- How many successor steps lead from `e` to `a`. -/
def accSteps (e a : Nat) : Nat := (a + 0xFFFFFFFF - e) % 0xFFFFFFFF

/-- `a` precedes `e`. -/
def accPrecedes (a e : Nat) : Bool := decide (0x7FFFFFFF < accSteps e a)

/-- `a` is `b` or precedes it. -/
def accLe (a b : Nat) : Bool := a == b || accPrecedes a b

/-- The lowest bit of a list that the agreed catalogue lacks (R73). -/
def missingBit (agreed : Nat) (need : List Nat) : Option Nat :=
  (need.filter (fun b => !bit agreed b)).min?

namespace State

/-! ### Replies and completions on their way -/

/-- Bytes a reply packet takes on the wire (R74). -/
def replyLen (r : Reply) : Nat := 20 + r.pre.length + 4 + r.ans.body.length

/-- Bytes held in hardware queue 3 (R107, R434). -/
def spiFill (s : State) : Nat := (s.ses.spiOut.map (fun r => slotBytes (replyLen r))).sum

/-- Queue 3 has no room for a reply of the largest size, so no packet is taken in over SPI (R107). -/
def spiFull (s : State) : Bool := decide (65536 < s.spiFill + slotBytes 4096)

/-- The opcodes that a unit of a pair answers on wired links even while it withholds (R490). -/
def pairAnswers (op : Nat) : Bool := op / 256 == 0x0F || op / 256 == 0x7F || op == 0x0035

/-- Sends a packet, unless the unit withholds it (R485, R488, R490): over SPI it joins queue 3, unless that is
disabled (R107, R429). -/
def sendPacket (via : Via) (r : Reply) (s : State) : State :=
  if s.wiredOut = false ∧ pairAnswers r.opcode = false then s
  else if via = .spi ∧ s.fixedDown 3 then s.dropFixed 3
  else
  let s := match via with
    | .spi => s.mapSes (fun z => { z with spiOut := z.spiOut ++ [r], spiSeq := succAcc z.spiSeq })
    | _ => s
  s.emit (.packet via r)

/-- The reply to a packet of VERSION 02h: the header echoed with REPLY set (R79). -/
def replyTo (opcode : Nat) (p : Pkt) (a : Ans) : Reply :=
  { ver := 2, opcode := opcode, flags := p.flags ||| 1, acc := p.acc, sess := p.sess, pre := p.pathBack p.depth, ans := a }

/-- Sends a reply to a packet. -/
def reply (opcode : Nat) (p : Pkt) (a : Ans) (s : State) : State := s.sendPacket p.via (replyTo opcode p a)

/-- The transport's row of link counters (R99). -/
def viaIdx : Via → Nat
  | .udp _ _ => 0 | .spi => 1 | .fold _ _ => 2

/-- Counts at position `k` of the transport's link counters (R99). -/
def count (via : Via) (k : Nat) (s : State) : State :=
  s.mapSes (fun z => { z with counts := modAt (viaIdx via) (modAt k inc32) z.counts })

/-- The counter a refusal moves, if COUNTERS_READ names one for its status (R99). -/
def countStatus (via : Via) (status : Nat) (s : State) : State :=
  if status = stBadLength then s.count via 3 else if status = stBadCrc then s.count via 4
  else if status = stOutOfOrder then s.count via 5 else if status = stDuplicate then s.count via 6
  else if status = stNoCredit then s.count via 7 else s

/-- Refuses a packet: the reply carries the status and its counter moves (R78, R99). -/
def refusePkt (opcode : Nat) (p : Pkt) (a : Ans) (s : State) : State :=
  (s.countStatus p.via a.status).reply opcode p a

/-- Refuses a packet of any VERSION, which the reply echoes (R78, R79). -/
def refuseVer (ver opcode : Nat) (p : Pkt) (a : Ans) (s : State) : State :=
  (s.countStatus p.via a.status).sendPacket p.via { replyTo opcode p a with ver := ver }

/-! ### Sessions -/

/-- A session by number. -/
def session (s : State) (n : Nat) : Option Session := Tab.find? n s.ses.sessions

/-- Changes one session. -/
def mapSession (n : Nat) (f : Session → Session) (s : State) : State :=
  match s.session n with
  | some x => s.mapSes (fun z => { z with sessions := Tab.put n (f x) z.sessions })
  | none => s

/-- The session's journal entries. -/
def entriesOf (s : State) (n : Nat) : List JEntry := s.ses.journal.filter (fun e => e.sess == n)

/-- The journal entry of a command. -/
def entry? (s : State) (n acc : Nat) : Option JEntry := s.ses.journal.find? (fun e => e.sess == n && e.acc == acc)

/-- Journal bytes in use (R90): header 256, parameters, and the result or the space reserved for it. -/
def journalUsed (s : State) : Nat :=
  (s.ses.journal.map (fun e => 256 + e.params.length +
    (match e.result with | some a => a.body.length | none => e.reserve))).sum

/-- The size of the journal, 4 MiB (R90). -/
def journalSize : Nat := 4194304

/-- Free credits of a session (R85). -/
def freeCredits (s : State) (n : Nat) : Nat := s.prm 0x0017 - (s.entriesOf n).length

/-- The body of NO_CREDIT: the session's free credits, and a reserved field (R85). -/
def creditBody (s : State) (n : Nat) : Bytes := le 2 (s.freeCredits n) ++ le 2 0

/-- The refusal of check 13, if credit, in-flight capacity or journal space is spent (R85). -/
def creditCheck (s : State) (n plen maxBody : Nat) : Option Ans :=
  let body := s.creditBody n
  if s.prm 0x0017 ≤ (s.entriesOf n).length then some ⟨stNoCredit, 0, body⟩
  else if 1024 ≤ s.ses.journal.length then some ⟨stNoCredit, 1, body⟩
  else if journalSize - s.journalUsed < plen + 256 + maxBody then some ⟨stNoCredit, 2, body⟩
  else none

/-! ### Completions (R86, R87, R91, R92) -/

/-- The completion packet of an entry (R86). -/
def completionOf (e : JEntry) (a : Ans) : Reply :=
  { ver := 2, opcode := e.opcode, flags := e.flags ||| 17, acc := e.acc, sess := e.sess, pre := e.pre, ans := a }

/-- The ACCEPTED reply of an entry. -/
def acceptedOf (e : JEntry) : Reply :=
  { ver := 2, opcode := e.opcode, flags := e.flags ||| 1, acc := e.acc, sess := e.sess, pre := e.pre, ans := Ans.bare stAccepted 0 }

/-- The entries of one session whose completion packets may go out now: ended, answered ACCEPTED, not sent, with no
earlier command of the session still running (R86). -/
def sendable : List JEntry → List JEntry
  | [] => []
  | e :: t =>
    match e.result with
    | none => []
    | some _ => if e.later ∧ e.sent = false ∧ e.awaitConf = none then e :: sendable t else sendable t

/-- Sends the completions of one session that are due, in accession order (R86). -/
def pumpSession (n : Nat) (s : State) : State :=
  match s.session n with
  | none => s
  | some x =>
    let due := sendable (s.entriesOf n)
    let s := due.foldl (fun s e => match e.result with
      | some a => s.sendPacket x.via (completionOf e a)
      | none => s) s
    s.mapSes (fun z => { z with journal := z.journal.map (fun e =>
      if due.any (fun d => d.sess == e.sess && d.acc == e.acc) then { e with sent := true } else e) })

/-- Writes the completion of a command: entry, unused reservation freed, completion packet sent in its turn (R86, R90). The
completion of a session that has ended is discarded (R89). -/
def completeCore (n acc : Nat) (a : Ans) (s : State) : State :=
  if (s.session n).isNone then s.mapSes (fun z => { z with journal := z.journal.filter (fun e => !(e.sess == n && e.acc == acc)) })
  else (s.mapSes (fun z => { z with journal := z.journal.map (fun e =>
    if e.sess = n ∧ e.acc = acc ∧ e.result = none then { e with result := some a } else e) })).pumpSession n

/-- The opcode of BARRIER (R92). -/
abbrev opBarrier : Nat := 0x0004

/-- The BARRIERs that may complete: every work command accepted before them has completed (R92). -/
def ripeBarriers : List JEntry → List JEntry
  | [] => []
  | e :: t =>
    match e.result with
    | some _ => ripeBarriers t
    | none => if e.opcode = opBarrier then e :: ripeBarriers t else []

/-- Completes the BARRIERs that are ripe (R92). -/
def pumpBarriers (s : State) : State :=
  (ripeBarriers s.ses.journal).foldl (fun s e => s.completeCore e.sess e.acc (Ans.bare stOk 0)) s

/-- Completes a command and the BARRIERs that waited for it. -/
def complete (n acc : Nat) (a : Ans) (s : State) : State := (s.completeCore n acc a).pumpBarriers

/-- Completes a command with OK and a body. -/
def completeOk (n acc : Nat) (body : Bytes) (s : State) : State := s.complete n acc (Ans.ok body)

/-- Removes acknowledged completions and frees their credits and journal space (R87, R90). A command whose reply still waits for the
partner's confirmation is no accepted one yet (assumption 151). -/
def ackCompletions (n upto : Nat) (s : State) : State :=
  s.mapSes (fun z => { z with journal := z.journal.filter (fun e =>
    !(e.sess == n && e.result.isSome && e.awaitConf.isNone && accLe e.acc upto)) })

/-! ### Reception (R78) -/

/-- An effect that comes at the next tick boundary is not in place: tasks submitted, or a command of an axis taken, by the session (R84,
R313, R372). Opcode `op` of the same list takes its place behind them. -/
def boundaryDue (op : Nat) (s : State) (n : Nat) : Bool :=
  (op != 0x0800 && s.tsk.tasks.any (fun e => e.2.state == 6 && e.2.sess == n)) ||
  (!(decide (0x0A00 ≤ op) && decide (op ≤ 0x0A02)) &&
    s.axs.any (fun a => (a.wait.isSome && a.cmd.any (fun c => c.1 == n)) || a.haltNext.any (fun h => h.2.1 == n)))

/-- Whether a numbered command of the session must wait for the effects of an earlier one (R84, R92). A second TSK_CANCEL of a task has
no effect and is refused at once (R329). -/
def blocked (holds : Nat → Bool) (op : Nat) (params : Bytes) (s : State) (n : Nat) : Bool :=
  s.ses.journal.any (fun e => e.result.isNone &&
    ((e.sess == n && holds e.opcode && !(op == 0x0801 && e.opcode == 0x0801 && u32 params 0 == u32 e.params 0)) ||
      (e.opcode == opBarrier && u8 e.params 0 == 1))) || boundaryDue op s n

/-- A numbered packet waits its turn behind the packets that wait, and for the effects of earlier commands (R84). -/
def mustWait (holds : Nat → Bool) (op : Nat) (params : Bytes) (x : Session) (s : State) (n : Nat) : Bool :=
  !x.waiting.isEmpty || blocked holds op params s n

/-- Checks 4 to 6 and 8 of R78, with the prefix check of R77. -/
def headCheck (p : Pkt) : Option Ans :=
  if 4076 < p.plen then some (Ans.bare stBadLength 0)
  else if p.delivered ≠ 20 + p.plen then some (Ans.bare stBadLength 1)
  else if p.pcrc ≠ crc32c p.payload then some (Ans.bare stBadCrc 0)
  else if p.routed ∧ (p.depth = 0 ∨ 16 ≤ p.depth) then some (Ans.bare stBadParam 0)
  else none

/-- Check 8: the reserved FLAGS bits (R75). -/
def flagCheck (p : Pkt) : Option Ans :=
  if p.flags / 32 ≠ 0 then some (Ans.bare stBadParam 0xFFFD) else none

/-- The opcodes the recovery ROM accepts (R540); with MRAM failed, only UPD_STATE_READ and SYS_RESET. -/
def romAccepts (s : State) (op : Nat) : Bool :=
  if s.sys.badParts.contains .mram then op == 0x1107 || op == 0x0041
  else [0x0001, 0x0003, 0x0041, 0x0035].contains op || (decide (0x1100 ≤ op) && decide (op ≤ 0x1107))

/-- The detail and body of a duplicate of a numbered command that the journal still holds (R83). -/
def dupOf (e : JEntry) (pcrc : Nat) : Ans :=
  let orig : Ans := match e.result with | some a => a | none => Ans.bare stAccepted 0
  ⟨stDuplicate, if e.pcrc = pcrc then 0 else 3, le 2 orig.status ++ le 2 orig.detail ++ orig.body⟩

/-- Answers a numbered packet whose number precedes E (R83). While the original's reply waits for the partner's confirmation, so does
every answer about it (R91, R495, assumption 151). -/
def duplicate (spec : OpSpec) (p : Pkt) (c : Cmd) (s : State) : State :=
  match s.entry? p.sess p.acc with
  | some e =>
    let s := s.count p.via 6
    if e.awaitConf.isSome then s else s.reply spec.code p (dupOf e p.pcrc)
  | none =>
    if spec.kind = .query then
      match spec.run c s with
      | (_, .fin a) | (_, .refuse a) =>
        (s.count p.via 6).reply spec.code p ⟨stDuplicate, 2, le 2 a.status ++ le 2 a.detail ++ a.body⟩
      | _ => (s.count p.via 6).reply spec.code p (Ans.bare stDuplicate 2)
    else (s.count p.via 6).reply spec.code p (Ans.bare stDuplicate 1)

/-- Journals an accepted work command and answers it. A unit that merges its inputs confirms the entry to its partner, and in lockstep
the reply waits for the partner's confirmation (R91, R495). SESSION_CLOSE has freed its session, and leaves no entry but while its
reply waits (R89). -/
def acceptWork (mirror : Bool) (spec : OpSpec) (p : Pkt) (c : Cmd) (res : Option Ans) (s : State) : State :=
  let ans := match res with | some a => a | none => Ans.bare stAccepted 0
  let e : JEntry := {
    sess := c.sess, acc := c.acc, opcode := c.opcode, flags := p.flags, pre := p.pathBack p.depth,
    pcrc := p.pcrc, params := c.params, reserve := spec.maxBody, later := res.isNone, result := res, sent := false,
    awaitConf := if mirror then some ans else none, close := if (s.session c.sess).isNone then some p.via else none }
  let s := if s.merging then s.emit (.journalMirror c.sess c.acc) else s
  let s := if e.close.isSome ∧ mirror = false then s else s.mapSes (fun z => { z with journal := z.journal ++ [e] })
  let s := s.mapSession c.sess (fun x => { x with next := succAcc c.acc })
  if mirror then s else s.reply spec.code p ans

/-- Runs an accepted number: checks 12 to 14 and the effect (R78, R82 to R85). -/
def judgeNumbered (mirror : Bool) (spec : OpSpec) (p : Pkt) (c : Cmd) (x : Session) (s : State) : State :=
  let rom := s.sys.fw == .recovery
  let d := accSteps x.next p.acc
  if p.acc = 0 ∨ (1 ≤ d ∧ d ≤ 0x7FFFFFFF) then
    s.refusePkt spec.code p ⟨stOutOfOrder, 0, le 4 x.next⟩
  else if d ≠ 0 then s.duplicate spec p c
  else
    match spec.kind with
    | .query =>
      match spec.run c s with
      | (s', .refuse a) => s'.refusePkt spec.code p a
      | (s', .fin a) => (s'.mapSession p.sess (fun x => { x with next := succAcc p.acc })).reply spec.code p a
      | (s', _) => s'.mapSession p.sess (fun x => { x with next := succAcc p.acc })
    | _ =>
      let credit := if rom then none else s.creditCheck p.sess c.params.length spec.maxBody
      if s.ses.journalFault ∧ rom = false then s.refusePkt spec.code p (Ans.bare stFault 1)
      else
      match credit with
      | some a => s.refusePkt spec.code p a
      | none =>
        match spec.run c s with
        | (s', .refuse a) => s'.refusePkt spec.code p a
        | (s', .fin a) =>
          if rom then (s'.mapSession p.sess (fun x => { x with next := succAcc p.acc })).reply spec.code p a
          else (s'.acceptWork mirror spec p c (some a)).pumpBarriers
        | (s', _) => (s'.acceptWork mirror spec p c none).pumpBarriers

/-- A session that a packet of opcode `op` has reached: it has been heard from (R89), and its partial reassembly ends unless the packet
is unnumbered or another fragment of the same command (R93). A numbered packet's source is where completions go (R86). -/
def hear (op : Nat) (p : Pkt) (now : Nat) (x : Session) : Session :=
  let same : Bool := match x.part with
    | some q => p.fragment && q.acc == p.acc && q.opcode == op && q.count == p.fragCount
    | none => true
  { x with heard := now, via := if p.acc = 0 then x.via else p.via, part := if p.acc = 0 ∨ same then x.part else none }

/-- Stores a fragment, or refuses it, or joins the last one to the parts held (R93): the reassembled parameters, or the
state after the answer. -/
def fragmentStep (spec : OpSpec) (p : Pkt) (x : Session) (s : State) : State ⊕ Bytes :=
  if p.fragCount ≤ 1 ∨ 17 ≤ p.fragCount then .inl (s.refusePkt spec.code p (Ans.bare stBadParam 0))
  else
    let held : List Bytes := match x.part with
      | some q => if q.acc = p.acc ∧ q.opcode = spec.code ∧ q.count = p.fragCount then q.parts else []
      | none => []
    if held.length < p.fragIndex then .inl (s.refusePkt spec.code p ⟨stOutOfOrder, 2, le 4 held.length⟩)
    else if p.fragIndex + 1 = p.fragCount ∧ held.length = p.fragIndex then .inr (held.flatten ++ p.body)
    else
      let parts := if p.fragIndex = held.length then held ++ [p.body] else held
      let q : Partial := ⟨p.acc, spec.code, p.fragCount, parts, s.now⟩
      let s := s.mapSession p.sess (fun x => { x with part := some q })
      .inl (s.reply spec.code p (Ans.bare stFragmentHeld p.fragIndex))

/-- Checks 10 to 14 for a packet of a valid session, and its effect. Any numbered opcode is taken in fragments, queries included; a
control or urgent command with FRAGMENT set runs at once on what follows the fragment header, and TSK_SUBMIT, which is never fragmented
(R313), is refused with it (assumption 152). -/
def receiveIn (mirror : Bool) (holds : Nat → Bool) (spec : OpSpec) (p : Pkt) (x : Session) (s : State) : State :=
  let rom := s.sys.fw == .recovery
  if p.urgent ∧ spec.urgent = false then s.refusePkt spec.code p (Ans.bare stBadOpcode 1)
  else if rom ∧ romAccepts s spec.code = false then s.refusePkt spec.code p (Ans.bare stDenied 0x000D)
  else match missingBit x.agreed (p.flagBits ++ spec.bits) with
  | some b => s.refusePkt spec.code p (Ans.bare stNotNegotiated b)
  | none =>
    let kind := if p.urgent then OpKind.control else spec.kind
    let c : Cmd := {
      sess := p.sess, acc := p.acc, opcode := spec.code, params := p.body, pre := p.pathLen, via := p.via,
      agreed := x.agreed, replay := false }
    match kind with
    | .control =>
      if p.acc ≠ 0 then s.refusePkt spec.code p (Ans.bare stBadParam 0xFFFF)
      else match spec.run c s with
        | (s', .refuse a) => s'.refusePkt spec.code p a
        | (s', .fin a) => s'.reply spec.code p a
        | (s', .later) => s'.reply spec.code p (Ans.bare stOk 0)
        | (s', .sent) => s'
    | _ =>
      if p.fragment ∧ spec.code = 0x0800 then s.refusePkt spec.code p (Ans.bare stBadParam 0)
      else if p.fragment then
        match s.fragmentStep spec p x with
        | .inl s' => s'
        | .inr params =>
          let s := s.mapSession p.sess (fun x => { x with part := none })
          if mustWait holds spec.code params x s p.sess ∧ accPrecedes p.acc x.next = false then
            s.mapSession p.sess (fun x => { x with waiting := x.waiting ++ [(spec.code, p, params)] })
          else s.judgeNumbered mirror spec p { c with params := params } x
      else
        let s := s.mapSession p.sess (fun x => { x with part := none })
        if mustWait holds spec.code p.body x s p.sess ∧ accPrecedes p.acc x.next = false then
          s.mapSession p.sess (fun x => { x with waiting := x.waiting ++ [(spec.code, p, p.body)] })
        else s.judgeNumbered mirror spec p c x

/-- Reception from check 4 on of a packet whose opcode is assigned and whose VERSION is 02h (R78). Session 0000h is for
SESSION_OPEN and SESSION_RESUME, which have their own operations. -/
def receive (mirror : Bool) (holds : Nat → Bool) (spec : OpSpec) (p : Pkt) (s : State) : State :=
  match headCheck p with
  | some a => s.refusePkt spec.code p a
  | none =>
    match flagCheck p with
    | some a => s.refusePkt spec.code p a
    | none =>
      if p.sess = 0 then s.refusePkt spec.code p (Ans.bare stNotNegotiated 0xFFFF)
      else match s.session p.sess with
      | none => s.refusePkt spec.code p (Ans.bare stSessionUnknown 0)
      | some x =>
        let s := s.mapSession p.sess (hear spec.code p s.now)
        s.receiveIn mirror holds spec p (hear spec.code p s.now x)

end State

end Sys2Proof.Machine
end

