-- ==== Sys2Proof/Machine/Clock.lean ====
section
/-! DEFINITION. The time unit: the count, discipline, holdover, offsets and steps, the time pulse and the calendar
(R172 to R190), and the realignment of ticks (R36). -/

namespace Sys2Proof.Machine

/-- The offset of an instant from the nearest integer multiple of `t` (R35). -/
def alignOffset (count t : Nat) : Int :=
  if t = 0 then 0 else
  let m := count % t
  if 2 * m ≤ t then (m : Int) else (m : Int) - (t : Int)

/-- Days since 1970-01-01 to year, month and day of the Gregorian calendar. -/
def civil (days : Nat) : Nat × Nat × Nat :=
  let z := days + 719468
  let era := z / 146097
  let doe := z % 146097
  let yoe := (doe - doe / 1460 + doe / 36524 - doe / 146096) / 365
  let doy := doe - (365 * yoe + yoe / 4 - yoe / 100)
  let mp := (5 * doy + 2) / 153
  let d := doy - (153 * mp + 2) / 5 + 1
  let m := if mp < 10 then mp + 3 else mp - 9
  ((yoe + era * 400) + (if m ≤ 2 then 1 else 0), m, d)

namespace State

/-- Pasture time less whole leap seconds, ns since the GPS epoch on the UTC scale. -/
def utcNs (s : State) : Nat := (((s.clk.count : Int) - s.clk.leap * 1000000000)).toNat

/-- During an inserted second UTC shows second 60 (R173). -/
def inLeapSecond (s : State) : Bool :=
  match s.clk.leapAnn with
  | some (n, t0) => decide (n = s.clk.leap + 1 ∧ t0 ≤ s.clk.count ∧ s.clk.count < t0 + 1000000000)
  | none => false

/-- Seconds removed or added by an announced deletion that has begun (R173). -/
def utcSeconds (s : State) : Nat :=
  let u := s.utcNs / 1000000000
  match s.clk.leapAnn with
  | some (n, t0) =>
    if n = s.clk.leap + 1 ∧ t0 ≤ s.clk.count then u - 1
    else if n = s.clk.leap - 1 ∧ t0 ≤ s.clk.count then u + 1 else u
  | none => u

/-- YEAR, MONTH, DAY, HOUR, MINUTE, SECOND of UTC (R187): 10 days and 5 hours count from 1970-01-01 to the GPS epoch. -/
def utcFields (s : State) : Nat × Nat × Nat × Nat × Nat × Nat :=
  let t := s.utcSeconds
  let (y, m, d) := civil (t / 86400 + 3657)
  let r := t % 86400
  (y, m, d, r / 3600, r / 60 % 60, if s.inLeapSecond then 60 else r % 60)

/-- A standby that takes pasture time from the active: its own discipline does not move the count (R186). -/
def follows (s : State) : Bool :=
  s.pai.role == 2 && s.pai.trained && (s.pai.mode == .lockstep || s.pai.mode == .resync)

/-- Lets `dt` ns pass: the model's clock, the count with any slew (R172, R180), and the outputs of the last command go. -/
def advance (dt : Nat) (s : State) : State :=
  let s := { s with now := s.now + dt, out := [] }
  if s.sys.power = .run then
    if s.clk.slewOn ∧ s.follows = false then
      let tot := s.clk.slewFrac + s.prm 0x0405 * dt
      let k := min (tot / 1000000000) s.clk.slew.natAbs
      let c := s.clk
      let pos := decide (0 < c.slew)
      { s with clk := { c with
          count := if pos then c.count + dt - k else c.count + dt + k
          slew := if pos then c.slew - (k : Int) else c.slew + (k : Int)
          slewFrac := tot % 1000000000
          align := c.align || (c.state == .freerun && decide (s.prm 0x0404 ≤ c.consec ∧ c.slew.natAbs - k ≤ 1000000))
          state := if c.state = .freerun ∧ s.prm 0x0404 ≤ c.consec ∧ c.slew.natAbs - k ≤ 1000000
            then .slewing else c.state } }
    else { s with clk := { s.clk with count := s.clk.count + dt } }
  else s

/-- d of R178 in ppb: CLK_REFIN_PPB with REFIN, else 10 after 3,600 s of LOCKED, else 50. -/
def driftPpb (s : State) (span : Nat) : Nat :=
  if s.clk.refin then s.prm 0x0402 else if 3600000000000 ≤ span then 10 else 50

/-- Time has become valid, or the count was stepped, and boundaries may lie off their instants (R36). -/
def checkAlign (s : State) : State :=
  let off := alignOffset s.clk.count s.tickNs
  if off = 0 then { s with sys := { s.sys with misalign := none }, air := { s.air with jump := true } }
  else (s.mapSys (fun y => { y with misalign := some off })).raise0 0x008B .notice 1 (ofSigned 64 off)

/-- The comparison waits for the next tick boundary. -/
def alignLater (s : State) : State := s.mapClk (fun c => { c with align := true })

/-- The comparison that waits is made, at a tick boundary (R36). -/
def alignNow (s : State) : State :=
  if s.clk.align then (s.mapClk (fun c => { c with align := false })).checkAlign else s

/-- The loop takes an input (R176); with REFIN the frequency is REFIN's (R177). -/
def steer (delta : Int) (s : State) : State :=
  if s.clk.refin then s else s.mapClk (fun c => { c with freq := Config.loopSteer c.freq delta (s.prm 0x040A) })

/-- Enters LOCKED and reports it (R174, R189). -/
def enterLocked (s : State) : State :=
  let s := s.mapClk (fun c => { c with
    state := .locked, wasValid := true, lockedAt := some s.now, since := s.now, slew := 0, slewOn := false, slewFrac := 0 })
  s.raise0 0x0406 .notice s.errCode 0

/-- A discipline input of a standby that follows the active: the state goes by it, and the count does not (R186). -/
def followInput (delta : Int) (err : Nat) (s : State) : State :=
  let s := s.mapClk (fun c => { c with check := some delta, e0 := some err, consec := c.consec + 1 })
  match s.clk.state with
  | .none | .calendar => s.enterLocked.alignLater
  | .locked => s
  | _ =>
    if s.prm 0x0404 ≤ s.clk.consec then (if s.timeValid then s.enterLocked else s.enterLocked.alignLater) else s

/-- One discipline input (R174, R176, R179, R180): `delta` is pasture time less reference time in ns, `err` the
estimated error with it. The input that restores discipline measures the offset anew, whatever slew is left; until it, the last steered
frequency is held (R178, R179). -/
def discInput (delta : Int) (err : Nat) (s : State) : State :=
  if s.follows then s.followInput delta err
  else
  match s.clk.state with
  | .none | .calendar =>
    let s := (s.steer delta).mapClk (fun c => { c with count := ((c.count : Int) - delta).toNat, e0 := some err, consec := 1 })
    s.enterLocked.alignLater
  | .locked => (s.steer delta).mapClk (fun c => { c with e0 := some err, consec := c.consec + 1 })
  | .slewing => (s.steer delta).mapClk (fun c => { c with e0 := some err, consec := c.consec + 1, since := s.now })
  | _ =>
    let s := s.mapClk (fun c => { c with consec := c.consec + 1 })
    let s := if s.prm 0x0404 ≤ s.clk.consec then s.steer delta else s
    if s.prm 0x0404 = s.clk.consec ∨ (s.prm 0x0404 ≤ s.clk.consec ∧ s.clk.slewOn = false) then
      s.mapClk (fun c => { c with offset := some delta, e0 := some err, since := s.now })
    else s

/-- HOLDOVER is entered, after a LOCKED span of `span` ns: the error grows from here, without the offset that a slew still removes
(R178). -/
def enterHoldover (span : Nat) (s : State) : State :=
  let rest := if s.clk.slewOn then s.clk.slew.natAbs else 0
  s.mapClk (fun c => { c with
    state := .holdover, e0 := s.timeErr.map (fun v => v - rest), d := s.driftPpb span, quad := !s.clk.refin, since := s.now, holdAt := s.now, consec := 0
    lockedAt := none, lockedSpan := span })

/-- How long LOCKED has lasted, or lasted last. -/
def lockedFor (s : State) : Nat := match s.clk.lockedAt with | some t => s.now - t | none => s.clk.lockedSpan

/-- The growth of the error follows the oscillator from here on (R178, R184, assumption 138). -/
def rebaseErr (s : State) : State :=
  match s.clk.state with
  | .none | .locked => s
  | st =>
    let rest := if s.clk.slewOn then s.clk.slew.natAbs else 0
    s.mapClk (fun c => { c with
      e0 := s.timeErr.map (fun v => v - rest), since := s.now, quad := !c.refin
      d := if st = .calendar then (if c.refin then s.prm 0x0402 else 50) else s.driftPpb s.lockedFor })

/-- An epoch without a discipline input, for reason `level` (R178, R189). -/
def discMissing (level : Nat) (s : State) : State :=
  match s.clk.state with
  | .locked => (s.enterHoldover s.lockedFor).raise0 0x0401 .warning level 0
  | .slewing => (s.enterHoldover s.clk.lockedSpan).raise0 0x0401 .warning level 0
  | _ => s.mapClk (fun c => { c with consec := 0 })

/-- CLK_HOLDOVER_S has elapsed in HOLDOVER (R178). -/
def holdoverExpiry (s : State) : State :=
  if s.clk.state = .holdover ∧ s.prm 0x0403 * 1000000000 ≤ s.now - s.clk.holdAt then
    (s.mapClk (fun c => { c with state := .expired })).raise0 0x0402 .fault 1 0
  else s

/-- The estimated error has passed 1 ms (R178). -/
def timeFreerun (s : State) : State :=
  let past : Bool := match s.timeErrFine with | some e => decide (1000000 * 200000000000000000000 < e) | none => true
  if s.timeValid ∧ s.clk.state ≠ .locked ∧ past then
    (s.mapClk (fun c => { c with state := .freerun })).raise0 0x0403 .fault 1 0
  else s

/-- Starts the slew of Δ (R180). -/
def startSlew (delta : Int) (s : State) : State :=
  let fresh := !s.timeValid
  if delta = 0 then
    let s := (s.mapClk (fun c => { c with offset := none })).enterLocked
    if fresh then s.alignLater else s
  else s.mapClk (fun c => { c with
    offset := none, slew := delta, slewOn := true, slewFrac := 0, align := c.align || (fresh && decide (delta.natAbs ≤ 1000000))
    state := if delta.natAbs ≤ 1000000 then .slewing else .freerun })

/-- On restored discipline: TIME_OFFSET beyond CLK_STEP_NS, and the slew, which is the default (R180). -/
def timeOffset (s : State) : State :=
  match s.clk.offset with
  | none => s
  | some d =>
    let s' := s.startSlew d
    if s.prm 0x0406 < d.natAbs then
      s'.raise0 0x0404 .warning (errCodeOf (some d.natAbs)) (ofSigned 64 d)
    else s'

/-- The TIME_STEP remedy arms a step of the offset still to be removed, in place of its slew (R180). -/
def armStep (s : State) : State :=
  if s.clk.slewOn then s.mapClk (fun c => { c with step := some c.slew, slew := 0, slewOn := false, slewFrac := 0 }) else s

/-- The armed step at a tick boundary: the count moves by −Δ (R172, R180). -/
def timeStep (s : State) : State :=
  match (if s.follows then none else s.clk.step) with
  | none => s
  | some d =>
    let s := s.mapClk (fun c => { c with count := ((c.count : Int) - d).toNat, step := none, offset := none })
    let s := s.raise0 0x0405 .notice (errCodeOf (some d.natAbs)) (ofSigned 64 d)
    s.enterLocked.checkAlign

/-- A slew has removed its offset (R180). -/
def slewComplete (s : State) : State :=
  if s.clk.slewOn ∧ s.clk.slew = 0 then
    if s.clk.state = .slewing ∨ (s.clk.state = .freerun ∧ s.prm 0x0404 ≤ s.clk.consec) then s.enterLocked
    else s.mapClk (fun c => { c with slewOn := false, slewFrac := 0 })
  else s

/-- One tick's step of the realignment: at most 10 µs, then TICK_ALIGNED (R36). -/
def tickRealign (s : State) : State :=
  match s.sys.misalign with
  | none => s
  | some off =>
    let k : Int := max (-10000) (min 10000 off)
    if off = k then ({ s with sys := { s.sys with misalign := none }, air := { s.air with jump := true } }).raise0 0x008C .notice 1 0
    else s.mapSys (fun y => { y with misalign := some (off - k) })

/-- The announced leap second is applied at the UTC second that follows it (R173). -/
def leapSecond (s : State) : State :=
  match s.clk.leapAnn with
  | none => s
  | some (n, t0) =>
    if s.clk.count < (if s.clk.leap < n then t0 + 1000000000 else t0) then s
    else (s.mapClk (fun c => { c with leap := n, leapAnn := none })).raise0 0x0409 .notice (ofSigned 8 n) 0

/-- Navigation data of the present boot gives LEAP, and perhaps an announcement (R173). A LEAP other than the stored one that no
announcement gave is taken at once, without LEAP_CHANGED (DESIGN CHOICE, assumption 167). -/
def navLeap (leap : Int) (ann : Option (Int × Nat)) (s : State) : State :=
  s.mapClk (fun c => { c with leap := leap, leapBoot := true, leapAnn := ann })

/-- REFIN is lost (R177). -/
def refinLost (s : State) : State :=
  if s.clk.refin then (s.mapClk (fun c => { c with refin := false })).rebaseErr.raise0 0x0407 .warning 1 0 else s

/-- REFIN has been in tolerance for 10 s (R177). -/
def refinRetaken (s : State) : State :=
  if s.prm 0x0401 = 1 ∧ s.clk.refin = false then (s.mapClk (fun c => { c with refin := true })).rebaseErr else s

/-- Pasture time stands `at` ns after an instant at which PPS_OUT rises: a whole second plus CLK_PPS_OFFSET_NS (R181, R182). -/
def ppsPhase (s : State) (at_ : Nat) : Bool := ((s.clk.count : Int) - s.prmS 32 0x0409 - at_) % 1000000000 == 0

/-- The time pulse at a whole second plus the offset (R181). -/
def ppsPulse (s : State) : State :=
  if s.prm 0x0407 = 1 ∧ s.clk.wasValid ∧ s.ppsPhase 0 then
    let skip := match s.clk.ppsLast with
      | some t => decide (s.now - t < 500000000)
      | none => false
    if skip then s
    else
      let s := s.mapClk (fun c => { c with ppsOn := true, ppsLast := some s.now })
      s.emit (.pps (s.prm 0x0408) (if s.prm 0x040B ≤ 47 then some (s.prm 0x040B) else none))
  else s

/-- PPS_OK takes the state in effect at the midpoint (R182). -/
def ppsOkMidpoint (s : State) : State :=
  if s.ppsPhase 500000000 then
    s.mapClk (fun c => { c with ppsOk := match c.state with | .locked | .holdover => true | _ => false })
  else s

/-- Pasture time in units of the calendar (R183). -/
def calUnits (t : Nat) : Nat := t * 32768 / 1000000000

/-- The calendar receives a copy of `t` with the deviation `sg` (R183 to R185, R68). -/
def calendarCopy (t sg : Nat) (s : State) : State :=
  s.mapClk (fun c => { c with calCopy := some sg, cal := calUnits t, calAt := s.now })

/-- Once per 60 s while LOCKED, the crystal is measured, the calendar trimmed and given a copy (R183). The trim, in steps of 0.1 ppm, is
what the crystal of this module needs: a free value (assumption 8). -/
def calendarTrim (s : State) : State :=
  let due : Bool := match s.clk.trimAt with | none => true | some t => decide (60000000000 ≤ s.now - t)
  if s.clk.state = .locked ∧ due then
    let (v, s) := s.draw 16
    (s.calendarCopy s.clk.count 30518).mapClk (fun c => { c with calTrim := some (toSigned 16 v), trimAt := some s.now })
  else s

/-- CLK_SOURCE has changed: HOLDOVER until R179 is met from the new source, once time has been valid (R188, assumption 139). -/
def clkSourceChanged (s : State) : State :=
  match s.clk.state with
  | .none | .calendar => s.mapClk (fun c => { c with consec := 0 })
  | _ =>
    let t := (s.enterHoldover (if s.clk.state = .locked then s.lockedFor else s.clk.lockedSpan)).mapClk (fun c => { c with offset := none })
    if s.timeValid then t else t.alignLater

/-- What the calendar shows: its count at the newest copy and what it has counted since, in its own unit; `err` is what its crystal has
gained, in ns (R183, assumption 8). -/
def calendarReads (err : Int) (s : State) : Nat :=
  calUnits ((((s.clk.cal * 1000000000 / 32768 + (s.now - s.clk.calAt) : Nat) : Int) + err).toNat) * 1000000000 / 32768

/-- Pasture time is loaded from the calendar at a boot that is not cold (R184). -/
def loadCalendar (cold : Bool) (err : Int) (s : State) : State :=
  let c0 : Clk := { s.clk with
    count := 0, state := .none, wasValid := false, refin := false, slew := 0, slewOn := false, slewFrac := 0, e0 := none,
    d := 50, quad := true, since := s.now, holdAt := s.now, lockedAt := none, lockedSpan := 0, consec := 0, step := none, offset := none,
    leapBoot := false, leapAnn := none, align := false, freq := 0, check := none, trimAt := none, ppsOn := false, ppsOk := false
    ppsLast := none, ptpLost := false }
  match (if cold then none else s.clk.calCopy) with
  | none => { s with clk := { c0 with calCopy := none, cal := 0 } }
  | some sg =>
    let r := if s.clk.calTrim.isSome then 5 else 50
    { s with clk := { c0 with
        count := s.calendarReads err, state := .calendar, e0 := some (sg + ceilDiv (r * (s.now - s.clk.calAt)) 1000000) } }

/-- CLK_TIME_READ (R187). -/
def runTimeRead (c : Cmd) (s : State) : State × CmdRes :=
  if c.params.length ≠ 0 then (s, refuse stBadLength 0)
  else
    let (y, mo, d, h, mi, se) := s.utcFields
    let err := match s.timeErr with | some e => min e 0xFFFFFFFF | none => 0xFFFFFFFF
    let flags := b2n s.clk.leapBoot + 2 * b2n s.clk.leapAnn.isSome
    (s, fin (le 8 s.clk.count ++ le 1 s.timeQ ++ leS 1 s.clk.leap ++ le 1 flags ++ le 1 0 ++ le 2 y ++ le 1 mo ++ le 1 d ++
      le 1 h ++ le 1 mi ++ le 1 se ++ le 1 0 ++ le 4 (s.clk.count % 1000000000) ++ le 4 err ++
      leS 4 (if s.clk.slewOn then clampS 32 s.clk.slew else 0)))

/-- CLK_TIME_SET (R185, R187, R190). -/
def runTimeSet (c : Cmd) (s : State) : State × CmdRes :=
  if c.params.length ≠ 16 then (s, refuse stBadLength 0)
  else if i8 c.params 12 < 0 ∨ rd c.params 13 3 ≠ 0 then (s, refuse stBadParam 0)
  else if s.timeValid then (s, refuse 0x0440 0)
  else
    let sg := u32 c.params 8
    ((s.calendarCopy (u64 c.params 0) sg).mapClk (fun k => { k with
      count := u64 c.params 0, leap := i8 c.params 12, state := .calendar, e0 := some sg, since := s.now,
      d := if k.refin then s.prm 0x0402 else 50, quad := !k.refin,
      slew := 0, slewOn := false, slewFrac := 0, consec := 0, offset := none, step := none }), fin [])

end State

end Sys2Proof.Machine
end

