-- ==== Sys2Proof/Machine/Code.lean ====
section
/-! DEFINITION. The two-symbol Reed-Solomon code of SRAM and MRAM words (R423, R424), and SHA-256 (cited by R461, R468,
R471, R486, R523). -/

namespace Sys2Proof.Machine

/-- Multiplication by α = 02h in GF(2^8) with field polynomial 11Dh (R424). -/
def gfDouble (a : Nat) : Nat := if a.testBit 7 then ((a <<< 1) ^^^ 0x11D) % 256 else a <<< 1

/-- Product in GF(2^8), over the `n` low bits of `b`. -/
def gfMulAux : Nat → Nat → Nat → Nat
  | 0, _, _ => 0
  | n + 1, a, b => (if b.testBit 0 then a else 0) ^^^ gfMulAux n (gfDouble a) (b >>> 1)

/-- Product in GF(2^8). -/
def gfMul (a b : Nat) : Nat := gfMulAux 8 a b

/-- α to the power `n`. -/
def gfPow : Nat → Nat
  | 0 => 1
  | n + 1 => gfDouble (gfPow n)

/-- The polynomial's value at `x`, its coefficients least first. -/
def gfEval (x : Nat) (p : List Nat) : Nat := p.foldr (fun c acc => c ^^^ gfMul x acc) 0

/-- g(x) = (x + α^0)(x + α^1)(x + α^2)(x + α^3), coefficients of x^0 to x^3 (R424). -/
def rsGen : List Nat :=
  let mulLin (r : Nat) (p : List Nat) : List Nat :=
    List.zipWith (· ^^^ ·) (0 :: p) ((p.map (gfMul r)) ++ [0])
  (mulLin (gfPow 3) (mulLin (gfPow 2) (mulLin (gfPow 1) (mulLin 1 [1])))).take 4

/-- One step of the division by g(x): shifts in the next data symbol. -/
def rsStep (r : List Nat) (d : Nat) : List Nat :=
  let top := (r.getD 3 0) ^^^ d
  List.zipWith (fun a g => a ^^^ gfMul top g) (0 :: r.take 3) rsGen

/-- The check symbols c0 to c3 of eight data symbols: x^4·d(x) mod g(x) (R424). -/
def rsCheck (d : List Nat) : List Nat := d.reverse.foldl rsStep [0, 0, 0, 0]

/-- The syndromes of a stored word: data d0 to d7 then check c0 to c3. -/
def rsSyndromes (w : List Nat) : List Nat :=
  let poly := w.drop 8 ++ w.take 8
  (List.range 4).map (fun j => gfEval (gfPow j) poly)

/-- What a read of a word gives (R424). -/
inductive RsRead where
  | clean
  | corrected
  | uncorrectable
  deriving DecidableEq, Repr

/-- The syndromes an error of value `e` at codeword position `p` gives. -/
def rsErr (p e : Nat) : List Nat := (List.range 4).map (fun j => gfMul e (gfPow (j * p)))

/-- Whether one symbol error explains the syndromes: at position `p` its value is S0. -/
def rsOne (s : List Nat) : Bool := (List.range 12).any (fun p => rsErr p (s.getD 0 0) == s)

/-- Whether two symbol errors explain the syndromes: some pair of positions whose first value runs over the field. -/
def rsTwo (s : List Nat) : Bool :=
  (List.range 12).any (fun p => (List.range p).any (fun q => (List.range 256).any (fun e =>
    List.zipWith (· ^^^ ·) (rsErr p e) (rsErr q (e ^^^ s.getD 0 0)) == s)))

/-- The outcome of reading a stored word (R424). -/
def rsRead (w : List Nat) : RsRead :=
  let s := rsSyndromes w
  if s = [0, 0, 0, 0] then .clean else if rsOne s || rsTwo s then .corrected else .uncorrectable

/-- The codeword with the value `e` added at codeword position `p`. -/
def rsFlip (p e : Nat) (poly : List Nat) : List Nat := poly.mapIdx (fun i x => if i = p then x ^^^ e else x)

/-- The corrected word: the codeword within two symbols of the word read, or the word itself where there is none (R424). -/
def rsFix (w : List Nat) : List Nat :=
  let s := rsSyndromes w
  let s0 := s.getD 0 0
  let poly := w.drop 8 ++ w.take 8
  let back (c : List Nat) : List Nat := c.drop 4 ++ c.take 4
  match (List.range 12).find? (fun p => rsErr p s0 == s) with
  | some p => back (rsFlip p s0 poly)
  | none =>
    match (List.range 12).findSome? (fun p => (List.range p).findSome? (fun q =>
      ((List.range 256).find? (fun e => List.zipWith (· ^^^ ·) (rsErr p e) (rsErr q (e ^^^ s0)) == s)).map (fun e => (p, q, e)))) with
    | some (p, q, e) => back (rsFlip p e (rsFlip q (e ^^^ s0) poly))
    | none => w

/-! ### SHA-256 -/

/-- The low 32 bits. -/
def w32 (n : Nat) : Nat := n % 4294967296

/-- Rotation of a 32-bit word to the right. -/
def rotr (n x : Nat) : Nat := (x >>> n) ||| w32 (x <<< (32 - n))

/-- The first `n` primes, of rising numbers from 2 on (Eratosthenes). -/
def sieve : Nat → List Nat → List Nat
  | n + 1, p :: t => p :: sieve n (t.filter (fun q => q % p != 0))
  | _, _ => []

/-- The greatest number of at most `n` bits whose `k`-th power is at most `v`. -/
def rootOf (k n v : Nat) : Nat :=
  (List.range n).foldl (fun r i => let t := r + 2 ^ (n - 1 - i); if t ^ k ≤ v then t else r) 0

/-- The 64 round constants of SHA-256: the first 32 bits of the fractions of the cube roots of the first 64 primes. -/
def shaK : List Nat := (sieve 64 ((List.range 312).drop 2)).map (fun p => rootOf 3 35 (p <<< 96) % 4294967296)

/-- The initial hash value of SHA-256: the fractions of the square roots of the first 8 primes. -/
def shaInit : List Nat := (sieve 8 ((List.range 20).drop 2)).map (fun p => rootOf 2 35 (p <<< 64) % 4294967296)

/-- The message schedule, newest word first. -/
def shaSchedule : Nat → List Nat → List Nat
  | 0, w => w
  | n + 1, w =>
    let a := w.getD 1 0
    let b := w.getD 14 0
    let s0 := rotr 7 b ^^^ rotr 18 b ^^^ (b >>> 3)
    let s1 := rotr 17 a ^^^ rotr 19 a ^^^ (a >>> 10)
    shaSchedule n (w32 (s1 + w.getD 6 0 + s0 + w.getD 15 0) :: w)

/-- One round. -/
def shaRound (h : List Nat) (kw : Nat × Nat) : List Nat :=
  match h with
  | [a, b, c, d, e, f, g, x] =>
    let s1 := rotr 6 e ^^^ rotr 11 e ^^^ rotr 25 e
    let ch := (e &&& f) ^^^ ((0xFFFFFFFF ^^^ e) &&& g)
    let t1 := x + s1 + ch + kw.1 + kw.2
    let s0 := rotr 2 a ^^^ rotr 13 a ^^^ rotr 22 a
    let mj := (a &&& b) ^^^ (a &&& c) ^^^ (b &&& c)
    [w32 (t1 + s0 + mj), a, b, c, w32 (d + t1), e, f, g]
  | _ => h

/-- One block of 64 bytes. -/
def shaBlock (h : List Nat) (blk : Bytes) : List Nat :=
  let w := ((List.range 16).map (fun i => ofBe (slice blk (4 * i) 4))).reverse
  let ws := (shaSchedule 48 w).reverse
  List.zipWith (fun a b => w32 (a + b)) h ((List.zip shaK ws).foldl shaRound h)

/-- The message padded to whole blocks. -/
def shaPad (b : Bytes) : Bytes :=
  b ++ [0x80] ++ zeros ((119 - b.length % 64) % 64) ++ be 8 (8 * b.length)

/-- SHA-256 of a byte string. -/
def sha256 (b : Bytes) : Bytes :=
  let p := shaPad b
  ((List.range (p.length / 64)).foldl (fun h i => shaBlock h (slice p (64 * i) 64)) shaInit).flatMap (be 4)

/-- The first 8 bytes of SHA-256, as the digests of folds use them (R461, R468, R471). -/
def digest8 (b : Bytes) : Nat := ofLe ((sha256 b).take 8)

/-- HMAC-SHA-256 under a key of at most 64 bytes. -/
def hmacSha256 (key msg : Bytes) : Bytes :=
  let k := padTo 64 0 key
  let pad (v : Byte) : Bytes := k.map (fun x => x ^^^ v)
  sha256 (pad 0x5C ++ sha256 (pad 0x36 ++ msg))

end Sys2Proof.Machine
end

