-- ==== Sys2Proof/Machine/Keys.lean ====
section
/-! DEFINITION. Working keys and key slots (R503 to R510, R516). -/

namespace Sys2Proof.Machine

/-- A slot copy with TYPE 00h, zero contents and a valid MAC, as ZEROIZE_ALL writes it (R516) and as the factory leaves it
(assumption 24). -/
def SlotCopy.blank : SlotCopy := ⟨0, 0, false, 0, 0, true⟩

/-- A copy is valid (R507). -/
def SlotCopy.valid (c : SlotCopy) : Bool := c.macOk && c.committed

namespace State

/-- Changes Vitrine. -/
def mapVit (f : Vit → Vit) (s : State) : State := { s with vit := f s.vit }

/-! ### Working keys (R503, R505) -/

/-- A working key is used: it becomes the newest used, computed again if it was dropped; a 1,025th drops the least recently used
one other than the flock key. -/
def useKey (k : Nat) (s : State) : State :=
  if s.vit.locked then s
  else
    let l := k :: s.vit.keys.filter (fun x => x != k)
    let drop := if 1024 < l.length then (l.filter (fun x => x != 0)).getLast? else none
    s.mapVit (fun v => { v with keys := match drop with | some d => l.filter (fun x => x != d) | none => l })

/-- A working key that no longer exists. -/
def forgetKey (k : Nat) (s : State) : State := s.mapVit (fun v => { v with keys := v.keys.filter (fun x => x != k) })

/-- The key engine can use the keys derived from the root, and the slots under them (R500, R505). -/
def rootKeys (s : State) : Bool := !s.vit.locked && !s.vit.rootBad

/-! ### Slots (R506, R507) -/

/-- The two copies of a slot. -/
def slotCopies (s : State) (n : Nat) : SlotCopy × SlotCopy := Tab.getD n (SlotCopy.blank, SlotCopy.blank) s.vit.slots

/-- Writes a copy: 0 is A. -/
def putCopy (n k : Nat) (c : SlotCopy) (s : State) : State :=
  let p := s.slotCopies n
  let p := if k = 0 then (c, p.2) else (p.1, c)
  s.mapVit (fun v => { v with slots := if p = (SlotCopy.blank, SlotCopy.blank) then Tab.del n v.slots else Tab.put n p v.slots })

/-- The copy that holds a slot's content: the valid one with the higher GEN. -/
def contentCopy (s : State) (n : Nat) : Option (Nat × SlotCopy) :=
  let p := s.slotCopies n
  if p.1.valid ∧ (p.2.valid = false ∨ p.2.gen ≤ p.1.gen) then some (0, p.1)
  else if p.2.valid then some (1, p.2) else none

/-- A slot's content: none when it is empty. -/
def slotContent (s : State) (n : Nat) : Option SlotCopy :=
  match s.contentCopy n with
  | some (_, c) => if c.typ = 0 then none else some c
  | none => none

/-- The slot check value. -/
def slotKcv (s : State) (n : Nat) : Nat := match s.slotContent n with | some c => c.kcv | none => 0

/-- The key-slot hash (R507). -/
def slotHash (s : State) : Bytes := sha256 ((List.range 512).flatMap (fun n => le 4 (s.slotKcv n)))

/-- Reads a slot: a copy that fails its MAC beside a valid one is reported once per boot (R507). -/
def readSlot (n : Nat) (s : State) : State :=
  let p := s.slotCopies n
  let torn := (p.1.valid && !p.2.macOk) || (p.2.valid && !p.1.macOk)
  if torn ∧ s.vit.repaired.contains n = false then
    (s.mapVit (fun v => { v with repaired := n :: v.repaired })).raise0 0x1004 .notice 1 n
  else s

/-- An uncorrectable word of the key-slot area: its copy's MAC or check word fails (R441, R507). Copy A of slot n lies at
128·n and copy B 64 bytes on (assumption 24). -/
def slotDamage (off : Nat) (s : State) : State :=
  if 65536 ≤ off then s
  else
    let n := off / 128
    let k := off / 64 % 2
    let p := s.slotCopies n
    s.putCopy n k { (if k = 0 then p.1 else p.2) with macOk := false }

/-- The robots' join key in a slot can be used: its content is of TYPE 01h (R219, R509). -/
def joinKeyAt (s : State) (n : Nat) : Bool := match s.slotContent n with | some c => c.typ == 1 | none => false

/-- The key in a slot, as the number of its bytes, least significant first. -/
def slotKey (s : State) (n : Nat) : Nat := match s.slotContent n with | some c => c.key | none => 0

/-- A slot holds a network key for legacy members (R580, R584). -/
def legacyKey (s : State) (n : Nat) : Bool := match s.slotContent n with | some c => c.typ == 3 | none => false

/-! ### Zeroizing (R505, R516, R517) -/

/-- Every working key is cleared and the key engine locked; key operations under way end with KEYS_LOCKED (R505, R517). -/
def clearKeys (s : State) : State :=
  let ops := s.vit.ops
  let s := { s with lnk := { s.lnk with
    flockKey := 0, flockNext := s.lnk.flockNext.map (fun (n : Nat × Nat × Nat) => (n.1, n.2.1, 0))
    robots := Tab.mapVals (fun _ (x : Robot) => { x with joinKey := 0 }) s.lnk.robots } }
  let s := s.mapVit (fun v => { v with keys := [], locked := true, ops := [] })
  ops.foldl (fun s o => s.complete o.sess o.acc (Ans.bare 0x1042 0)) s

/-- A zeroizing remedy, 06h or 07h, is already in effect (R22): the key engine is locked, and for ZEROIZE_ALL the slots are empty or their
erase waits. -/
def zeroedFor (remedy : Nat) (s : State) : Bool :=
  s.vit.locked && (remedy != 7 || s.vit.erasePend || (s.vit.zeroized && s.vit.slots.isEmpty))

/-- ZEROIZE_WORKING. -/
def zeroizeWorking (s : State) : State := if s.vit.locked then s else s.clearKeys.raise0 0x1002 .notice 1 0

/-- Both copies of every slot are written empty (R516). -/
def eraseSlots (s : State) : State :=
  let s := { s with cx := { s.cx with
    conf := { s.cx.conf with key := none }, saved := s.cx.saved.map (fun (c : CxConf) => { c with key := none }) } }
  (s.mapVit (fun v => { v with slots := [], zeroized := true, erasePend := false })).raise0 0x1002 .notice 2 0

/-- ZEROIZE_ALL: in Standby and Backup the slot erase waits (R517). -/
def zeroizeAll (s : State) : State :=
  let s := s.zeroizeWorking
  if s.sys.power = .run then s.eraseSlots else s.mapVit (fun v => { v with erasePend := true })

end State

end Sys2Proof.Machine
end

