-- ==== Sys2Proof/Machine/Memory.lean ====
section
/-! DEFINITION. SRAM banks, retirement and scrubbing, MRAM scrub, and the hardware queues the host reads
(R420 to R446). -/

namespace Sys2Proof.Machine

/-! ### The snapshot buffer as addressed memory (R130, R132) -/

/-- A byte of a buffer: 0 where nothing is listed (assumption 18). -/
def Memory.read (t : Tab Byte) (a : Nat) : Byte := Tab.getD a 0 t

/-- Writes a byte, keeping the canonical form: keys rise, and no listed byte is 0. -/
def Memory.write (a : Nat) (v : Byte) (t : Tab Byte) : Tab Byte := if v = 0 then Tab.del a t else Tab.put a v t

/-- Writes the listed bytes in order. -/
def Memory.writeAll (w : List (Nat × Byte)) (t : Tab Byte) : Tab Byte :=
  w.foldl (fun t (e : Nat × Byte) => Memory.write e.1 e.2 t) t

/-- `n` bytes from address `a`. -/
def Memory.bytes (t : Tab Byte) (a n : Nat) : Bytes := (List.range n).map (fun i => Memory.read t (a + i))

/-- The canonical form. -/
def Memory.wf (t : Tab Byte) : Bool := Tab.wf t && t.all (fun (e : Nat × Byte) => e.2 != 0)


/-- The regions of the SRAM banks (R420). -/
inductive Region where
  | snapshot | working | queue | spare
  deriving DecidableEq, Repr

/-- The region of a bank (R420). -/
def regionOf (b : Nat) : Region :=
  if b ≤ 7 then .snapshot else if b ≤ 31 then .working else if b ≤ 46 then .queue else .spare

/-- A bank as self-test leaves it: every word zero with valid check symbols (R420). -/
def Bank.fresh : Bank :=
  { state := .inService, correctable := 0, uncorrectable := 0, ceWords := [], poisoned := [], words := [] }

/-- The bank that holds a byte address of SRAM: 512 KiB each (R420). -/
def bankOfAddr (a : Nat) : Nat := a / 524288

/-- The pool for Q16 to Q63 (R430). -/
abbrev poolSize : Nat := 5767168

/-- Whether a queue has storage in bank `b`. -/
def queueInBank (b : Nat) (q : Queue) : Bool :=
  decide (State.queueAddr q < (b + 1) * 524288 ∧ b * 524288 < State.queueAddr q + q.size)

/-- A queue that has just been claimed or has lost its contents at reset: empty, both pointers 0, next number 1
(R437). -/
def Queue.opened (holder size base : Nat) : Queue :=
  { holder := holder, size := size, base := base, wp := 0, rp := 0, packets := [], nextSeq := 1, underrun := false,
    dropped := false, drops := 0, underruns := 0, dropRun := false, disabled := false, winOff := 0, winLast := 0 }

/-- The lowest-addressed gap of the pool that holds `size` bytes beside the queues placed (R431). -/
def placeQueue (size : Nat) (placed : List (Nat × Nat)) : Option Nat :=
  let sorted := sortBy (fun a b => decide (a.1 ≤ b.1)) placed
  let rec go : Nat → List (Nat × Nat) → Option Nat
    | at0, [] => if at0 + size ≤ poolSize then some at0 else none
    | at0, (b, z) :: t => if at0 + size ≤ b then some at0 else go (max at0 (b + z)) t
  go 0 sorted

namespace State

/-- A bank of the SRAM. -/
def bank (s : State) (b : Nat) : Bank := s.mem.banks.getD b Bank.fresh

/-- Changes one bank. -/
def mapBank (b : Nat) (f : Bank → Bank) (s : State) : State :=
  s.mapMem (fun m => { m with banks := modAt b f m.banks })

/-- Working banks out of service (R429). -/
def workingLost (s : State) : Nat :=
  ((List.range 24).filter (fun i => (s.bank (i + 8)).state == .outOfService)).length

/-- Snapshot banks out of service: snapshot commands complete with FAULT (R429). -/
def snapshotLost (s : State) : Bool :=
  (List.range 8).any (fun i => (s.bank i).state == .outOfService)

/-- What the loss of a bank's contents means for its region (R429). -/
def bankLost (b : Nat) (s : State) : State :=
  match regionOf b with
  | .working => s.raise 0x008A .warning 5 7 b
  | .queue => s.mapMem (fun m => { m with queues := Tab.mapVals (fun _ q =>
      if queueInBank b q then { q with disabled := true } else q) m.queues })
  | _ => s

/-- A retired bank with the spare taken goes out of service (R429). -/
def bankOut (b : Nat) (s : State) : State :=
  ((s.mapBank b (fun k => { k with state := .outOfService })).raise 0x0D02 .fault 2 7 b).bankLost b

/-- The spare is retired while it serves in a bank's place: the place is lost with it (R429, assumption 29). -/
def spareOut (s : State) : State :=
  match s.mem.spareFor with
  | none => s.bankOut 47
  | some b =>
    let s := (s.mapBank b (fun k => { k with state := .outOfService })).mapMem (fun m => { m with spareFor := none })
    (s.bankOut 47).bankLost b

/-- Retires a bank onto the spare, or out of service when the spare is in use (R428, R429). -/
def retireBank (b : Nat) (s : State) : State :=
  if (s.bank b).state = .spareInUse then s.spareOut
  else if (s.bank b).state ≠ .inService ∨ s.mem.copying = some b then s
  else if b = 47 then s.bankOut b
  else match s.mem.spareFor, s.mem.copying, (s.bank 47).state with
  | none, none, .inService =>
    (s.mapMem (fun m => { m with copying := some b })).raise 0x0D02 .fault 1 7 b
  | _, _, _ => s.bankOut b

/-- The copy onto the spare completes and the spare serves in the retired bank's place (R428). -/
def bankCopyDone (s : State) : State :=
  match s.mem.copying with
  | none => s
  | some b =>
    let s := s.mapMem (fun m => { m with copying := none })
    if (s.bank 47).state ≠ .inService then s.bankOut b
    else
      let old := (s.bank b).poisoned
      ((s.mapMem (fun m => { m with spareFor := some b })).mapBank 47 (fun k => { k with
        state := .spareInUse, poisoned := old, words := (s.bank b).words })).mapBank b (fun k => { k with state := .onSpare })

/-- A correctable error at a word (R424), which may retire the bank (R428). -/
def correctWord (b addr : Nat) (s : State) : State :=
  let s := s.mapBank b (fun k => { k with
    correctable := inc32 k.correctable, ceWords := if k.ceWords.contains addr then k.ceWords else addr :: k.ceWords })
  if s.prm 0x0D81 ≠ 0 ∧ s.prm 0x0D81 ≤ (s.bank b).ceWords.length then s.retireBank b else s

/-- A corrected word is written back, unless a newer write has come to the word since the read: then that write stands (R424, R427). -/
def writeBack (b addr : Nat) (w : List Nat) (newer : Option (List Nat)) (s : State) : State :=
  s.mapBank b (fun k => { k with words := Tab.put addr (newer.getD (rsFix w)) k.words })

/-- A read found the stored word `w` of a bank: clean, corrected, or uncorrectable and poisoned; a word found poisoned again retires
nothing (R424, R425, R428, assumption 29). -/
def readWord (b addr : Nat) (w : List Nat) (s : State) : State :=
  match rsRead w with
  | .clean => s
  | .corrected => (s.correctWord b addr).writeBack b addr w none
  | .uncorrectable =>
    let known := (s.bank b).poisoned.contains addr
    let s := s.mapBank b (fun k => { k with
      uncorrectable := inc32 k.uncorrectable, poisoned := if k.poisoned.contains addr then k.poisoned else addr :: k.poisoned })
    let s := s.raiseD 0x0D01 .fault 1 7 b addr
    if known then s else s.retireBank b

/-- The scrubber read the stored word `w`, and a port may have written the word `newer` before the scrubber's write-back: then the
scrubber discards what it would write, and the newer write stands, which also ends a poisoning (R425 to R427). -/
def scrubWord (b addr : Nat) (w : List Nat) (newer : Option (List Nat)) (s : State) : State :=
  match rsRead w, newer with
  | .clean, _ => s
  | .corrected, _ => (s.correctWord b addr).writeBack b addr w newer
  | .uncorrectable, none => s.readWord b addr w
  | .uncorrectable, some x =>
    ((s.readWord b addr w).mapBank b (fun k => { k with poisoned := k.poisoned.filter (fun a => a != addr) })).writeBack b addr w (some x)

/-- The scrubber ends a pass, whose reads found errors in the listed words; or MEM_SCRUB_S passes first (R426). -/
def scrubPassEnd (complete : Bool) (reads : List (Nat × Nat × List Nat × Option (List Nat))) (s : State) : State :=
  let s := reads.foldl (fun s x => s.scrubWord x.1 x.2.1 x.2.2.1 x.2.2.2) s
  let el := s.now - s.mem.scrubStart
  let late := decide (s.prm 0x0D80 * 1000000000 ≤ el)
  let s := if late ∧ s.mem.scrubLate = false ∧ (complete = false ∨ s.prm 0x0D80 * 1000000000 < el)
    then (s.mapMem (fun m => { m with scrubLate := true })).raise0 0x0D03 .notice 1 0 else s
  if complete then
    s.mapMem (fun m => { m with
      scrubPasses := inc32 m.scrubPasses, scrubLastMs := el / 1000000, scrubStart := s.now, scrubLate := false,
      banks := m.banks.map (fun k => { k with ceWords := [] }) })
  else s

/-- One uncorrectable MRAM word (R441): area code, offset, and whether both copies of a configuration record are lost. -/
def mramBad (area off : Nat) (both : Bool) (s : State) : State :=
  let s := (s.mapMem (fun m => { m with mramUe := inc32 m.mramUe })).raiseD 0x0D06 .fault area 0 0 (area + 256 * off)
  if area = 2 ∧ both = false then s.raise0 0x0D05 .notice area 0
  else if area = 1 then (s.mapSes (fun z => { z with journalFault := true })).raise0 0x0096 .fault 1 0
  else if area = 2 then s.mapCfg (fun c => { c with lost := true })
  else if area = 3 then
    let slot := off / 256
    let hit (n : Nat) : Bool := (if n - 1 < 4096 then n - 1 else 4096 + (n - 1 - 4096) % 65536) == slot
    let s := s.mapArc (fun a => { a with
      recs := Tab.mapVals (fun n r => if hit n then { r with good := false } else r) a.recs
      unreadable := if (a.recs.filter (fun e => hit e.1 && e.2.good)).isEmpty then a.unreadable else inc32 a.unreadable })
    s.raise0 0x1202 .warning 1 slot
  else if area = 4 then s.slotDamage off
  else s

/-- The daily MRAM scrub: areas with corrected words, then uncorrectable words (R441). -/
def mramScrub (ceAreas : List Nat) (bad : List (Nat × Nat × Bool)) (s : State) : State :=
  let s := s.mapMem (fun m => { m with mramCe := min 0xFFFFFFFF (m.mramCe + ceAreas.length) })
  let s := ceAreas.dedup.foldl (fun s a => s.raise0 0x0D05 .notice a 0) s
  bad.foldl (fun s x => s.mramBad x.1 x.2.1 x.2.2) s

/-! ### Host queues (R436, R438, R443) -/

/-- The checks every QUE opcode makes of its QUEUE (R443). -/
def queueCheck (q : Nat) (s : State) : Option CmdRes :=
  if 63 < q then some (refuse stBadParam 0)
  else if q ≤ 15 then some (refuse stDenied 0)
  else if Tab.has q s.mem.queues then none else some (refuse 0x0D42 0)

/-- The successor of a packet sequence number (R434). -/
def succSeq (n : Nat) : Nat := if n = 0xFFFFFFFF then 1 else n + 1

/-- The bytes QUE_READ gives of a packet from an offset: slot, then data. -/
def packetBytes (seq : Nat) (d : Bytes) (off : Nat) : Bytes :=
  le 2 d.length ++ le 2 (seq % 65536) ++ padMul 4 (d.drop off)

/-- Takes packets in order while they fit `room` bytes; a packet that does not fit is cut (R436): bytes, count, next
sequence number and offset, whether cut. -/
def takePackets : Nat → Nat → List (Nat × Bytes) → Nat → Bytes × Nat × Nat × Nat × Bool
  | _, _, [], nextSeq => ([], 0, nextSeq, 0, false)
  | room, off, (q, d) :: t, nextSeq =>
    let whole := packetBytes q d off
    if whole.length ≤ room then
      let (b, n, ns, no, cut) := takePackets (room - whole.length) 0 t nextSeq
      (whole ++ b, n + 1, ns, no, cut)
    else if 4 ≤ room then
      let k := (room - 4) / 4 * 4
      (whole.take (4 + k), 1, q, off + k, true)
    else ([], 0, q, off, false)

/-- QUE_READ (R436, R443): FAULT for a disabled queue, and where a word it would return is poisoned (R425, R429). -/
def runQueRead (c : Cmd) (s : State) : State × CmdRes :=
  let b := c.params
  if b.length ≠ 12 then (s, refuse stBadLength 0)
  else
    let mx := u16 b 2
    let seq := u32 b 4
    let off := u32 b 8
    if u8 b 1 ≠ 0 ∨ mx < 4 ∨ 4056 < mx ∨ mx % 4 ≠ 0 ∨ off % 4 ≠ 0 then (s, refuse stBadParam 0)
    else match s.queueCheck (u8 b 0) with
    | some r => (s, r)
    | none =>
      let q := Tab.getD (u8 b 0) (Queue.opened 0 0 0) s.mem.queues
      if q.disabled then (s, .fin (Ans.bare stFault 0))
      else
        let oldest := match q.packets with | (n, _) :: _ => n | [] => q.nextSeq
        let held := q.packets.any (fun e => e.1 == seq)
        let older := seq ≠ 0 ∧ held = false ∧ accPrecedes seq oldest
        if seq ≠ 0 ∧ held = false ∧ seq ≠ q.nextSeq ∧ accPrecedes seq oldest = false then (s, refuse stBadParam 0)
        else
          let from0 := if seq = 0 ∨ older then oldest else seq
          let pk := q.packets.dropWhile (fun e => e.1 != from0)
          let off := if older then 0 else off
          let offBad := match pk with
            | (_, d) :: _ => off ≠ 0 && decide (d.length ≤ off)
            | [] => off != 0
          let at0 := q.rp + ((q.packets.takeWhile (fun e => e.1 != from0)).map (fun e => slotBytes e.2.length)).sum
          let r := takePackets mx off pk q.nextSeq
          if offBad then (s, refuse stBadParam 0)
          else if s.ringPoisoned q at0 (min r.1.length 4) ∨ s.ringPoisoned q (at0 + 4 + off) (r.1.length - 4) then (s, .fin (Ans.bare stFault 0))
          else
            let (bytes, n, ns, no, cut) := r
            (s, fin (le 4 from0 ++ le 2 n ++ le 2 (b2n cut + 2 * b2n older) ++ le 4 ns ++ le 4 no ++ bytes))

/-- QUE_RELEASE (R436, R438, R443). UPTO 0 names no packet, precedes every number and frees nothing. -/
def runQueRelease (c : Cmd) (s : State) : State × CmdRes :=
  let b := c.params
  if b.length ≠ 8 then (s, refuse stBadLength 0)
  else if 1 < u8 b 1 ∨ u16 b 2 ≠ 0 then (s, refuse stBadParam 0)
  else match s.queueCheck (u8 b 0) with
  | some r => (s, r)
  | none =>
    let q := Tab.getD (u8 b 0) (Queue.opened 0 0 0) s.mem.queues
    let upto := u32 b 4
    if upto ≠ 0 ∧ accPrecedes upto q.nextSeq = false then (s, refuse stBadParam 0)
    else
      let frees (e : Nat × Bytes) : Bool := upto != 0 && accLe e.1 upto
      let gone := q.packets.filter frees
      let clear := u8 b 1 = 1
      let q' := { q with
        rp := (q.rp + (gone.map (fun e => slotBytes e.2.length)).sum) % (2 * q.size)
        packets := q.packets.filter (fun e => !frees e)
        winOff := q.winOff - (gone.map (fun e => slotBytes e.2.length)).sum
        underrun := if clear then false else q.underrun
        dropped := if clear then false else q.dropped }
      (s.mapMem (fun m => { m with queues := Tab.put (u8 b 0) q' m.queues }), finD (if gone.isEmpty then 1 else 0))

/-! ### Read windows (R435) -/

/-- The bytes of the packets that a queue holds, oldest first: each slot, then its data (R434). Of Q0 to Q15 only Q3 holds any between
commands (assumption 77). -/
def queueBytes (s : State) (q : Nat) : Bytes :=
  if q = 3 then
    let first := s.ses.spiSeq + 0xFFFFFFFF - s.ses.spiOut.length
    (s.ses.spiOut.mapIdx (fun i r => packetBytes ((first + i - 1) % 0xFFFFFFFF + 1) (replyWhole r) 0)).flatten
  else match Tab.find? q s.mem.queues with
  | some x => x.packets.flatMap (fun e => packetBytes e.1 e.2 0)
  | none => []

/-- A queue's read window: bytes read beyond RP, and the last word returned. -/
def windowOf (s : State) (q : Nat) : Nat × Nat :=
  if q ≤ 15 then (match Tab.find? q s.mem.windows with | some w => (w.off, w.last) | none => (0, 0))
  else match Tab.find? q s.mem.queues with
  | some x => (x.winOff, x.winLast)
  | none => (0, 0)

/-- One read of a queue's window by an internal master: the next word of a queue that holds one; else the last word again, RP unchanged,
with UNDERRUN set, counted and reported (R435, R438). A queue without storage has no window. -/
def windowRead (q : Nat) (s : State) : Nat × State :=
  if 15 < q ∧ Tab.has q s.mem.queues = false then (0, s)
  else
    let b := s.queueBytes q
    let w := s.windowOf q
    let ok := decide (w.1 < b.length)
    let off := if ok then w.1 + 4 else w.1
    let word := if ok then u32 b w.1 else w.2
    let s := s.mapMem (fun m =>
      if q ≤ 15 then
        { m with windows := Tab.upd q ⟨0, 0, 0, 0⟩ (fun x => { x with
            off := off, last := word, underruns := if ok then x.underruns else inc32 x.underruns }) m.windows }
      else match Tab.find? q m.queues with
      | some x => { m with queues := Tab.put q { x with
          winOff := off, winLast := word, underrun := x.underrun || !ok, underruns := if ok then x.underruns else inc32 x.underruns } m.queues }
      | none => m)
    (word, if ok then s else s.raise0 0x0D04 .warning 1 q)

/-- A packet of `n` bytes has left Q3: its window's pointer moves with RP. -/
def releaseSlot (n : Option Nat) (s : State) : State :=
  s.mapMem (fun m => { m with windows := match n, Tab.find? 3 m.windows with
    | some k, some w => Tab.put 3 { w with off := w.off - slotBytes k } m.windows
    | _, _ => m.windows })

/-- The words that firmware reads through read windows in a tick, in order. -/
def windowReads (qs : List Nat) (s : State) : State := qs.foldl (fun s q => (s.windowRead q).2) s

/-- A queue's status word (R438). -/
def queueStatus (q : Queue) : Nat :=
  let f := queueFill q
  f + 2 ^ 27 * b2n q.dropped + 2 ^ 28 * b2n q.underrun + 2 ^ 29 * b2n (decide (f = q.size)) +
    2 ^ 30 * b2n (decide (f = 0)) + 2 ^ 31 * b2n (!q.disabled)

/-- Sizes of Q0 to Q15 in KiB (R430). -/
def fixedQueueKiB : List Nat := [256, 64, 128, 64, 64, 64, 64, 64, 64, 64, 64, 64, 256, 64, 64, 64]

/-- Block groups that hold Q0 to Q15 (R430, R27). -/
def fixedQueueGroup : List Nat := [0, 0, 0x0E, 0, 5, 5, 5, 5, 5, 5, 5, 5, 0x0F, 0x12, 2, 0x7F]

/-- QUE_STATE_READ's record of a queue (R443). The model empties Q0 to Q15 within each command, but for Q3. -/
def queueRecord (s : State) (i : Nat) : Bytes :=
  if i ≤ 15 then
    let size := fixedQueueKiB.getD i 0 * 1024
    let f := if i = 3 then min s.spiFill size else 0
    let w := Tab.getD i ⟨0, 0, 0, 0⟩ s.mem.windows
    let st := f + 2 ^ 27 * b2n (decide (w.drops ≠ 0)) + 2 ^ 28 * b2n (decide (w.underruns ≠ 0)) + 2 ^ 29 * b2n (decide (f = size)) +
      2 ^ 30 * b2n (decide (f = 0)) + 2 ^ 31 * b2n (!s.fixedDown i)
    le 1 i ++ le 1 (fixedQueueGroup.getD i 0) ++ le 2 0 ++ le 4 st ++ le 4 size ++ le 4 (if i = 3 then s.ses.spiSeq else 1) ++
      le 4 w.drops ++ le 4 w.underruns
  else match Tab.find? i s.mem.queues with
  | some q => le 1 i ++ le 1 q.holder ++ le 2 0 ++ le 4 (queueStatus q) ++ le 4 q.size ++ le 4 q.nextSeq ++
      le 4 q.drops ++ le 4 q.underruns
  | none => le 1 i ++ le 1 0xFF ++ le 2 0 ++ le 4 (2 ^ 30) ++ le 4 0 ++ le 4 1 ++ le 4 0 ++ le 4 0

/-- QUE_STATE_READ (R443). -/
def runQueStateRead (c : Cmd) (s : State) : State × CmdRes :=
  if c.params.length ≠ 0 then (s, refuse stBadLength 0)
  else (s, fin ((List.range 64).flatMap s.queueRecord))

/-- The STATE code of a bank (R443). -/
def bankCode : BankState → Nat
  | .inService => 0 | .onSpare => 1 | .outOfService => 2 | .spareInUse => 3

/-- MEM_STATE_READ (R443). -/
def runMemStateRead (c : Cmd) (s : State) : State × CmdRes :=
  if c.params.length ≠ 0 then (s, refuse stBadLength 0)
  else
    let rec1 (i : Nat) : Bytes :=
      let k := s.bank i
      let mapped := if i = 47 then (match s.mem.spareFor with | some b => b | none => 0xFF) else 0xFF
      le 1 i ++ le 1 (bankCode k.state) ++ le 1 mapped ++ le 1 0 ++ le 4 k.correctable ++ le 4 k.uncorrectable
    (s, fin ((List.range 48).flatMap rec1 ++ le 4 s.mem.mramCe ++ le 4 s.mem.mramUe ++ le 4 s.mem.scrubPasses ++
      le 4 s.mem.scrubLastMs))

end State

end Sys2Proof.Machine
end

