-- ==== Sys2Proof/Machine/Trig.lean ====
section
/-! DEFINITION. The trigonometry that R123, R150, R247, R567, R581 and R582 name, in fixed point with 128 fraction bits, and the frames
built from it. R150 and R247 go in F64, in the manual's order; a sine, a cosine and ecef_of are taken as the nearest F64 value
(assumption 26). -/

namespace Sys2Proof.Machine.Trig

/-- One. -/
abbrev one : Int := 2 ^ 128

/-- The product of two fixed-point numbers. -/
def mul (a b : Int) : Int := a * b / one

/-- The quotient; 0 for a divisor of 0. -/
def div (a b : Int) : Int := a * one / b

/-- The square root of a number that is not negative. -/
def sqrt (a : Int) : Int := (Nat.sqrt (a.toNat * 2 ^ 128) : Nat)

/-- π. -/
def pi : Int := 1069028584064966747859680373161870783300

/-- A Taylor series in steps of two powers: `n` more terms after the term `t`, whose successor is `−t x² / ((k+1)(k+2))`. -/
def series (x2 : Int) : Nat → Int → Int → Int
  | 0, _, t => t
  | n + 1, k, t => t + series x2 n (k + 2) (-(mul t x2) / ((k + 1) * (k + 2)))

/-- The sine of an angle in radians from −2π to 2π. -/
def sin (x : Int) : Int := series (mul x x) 40 1 x

/-- The cosine. -/
def cos (x : Int) : Int := series (mul x x) 40 0 one

/-- The series of the arctangent of a small number. -/
def atanSeries (x2 : Int) : Nat → Int → Int → Int
  | 0, _, _ => 0
  | n + 1, k, t => t / k + atanSeries x2 n (k + 2) (-(mul t x2))

/-- Halves the angle of a tangent. -/
def halfTan (t : Int) : Int := div t (one + sqrt (one + mul t t))

/-- The arctangent of a number from 0 to 1. -/
def atan (t : Int) : Int :=
  let h := halfTan (halfTan (halfTan t))
  8 * atanSeries (mul h h) 32 1 h

/-- The angle from the x axis of the direction (x, y), from −π to π; 0 for no direction. -/
def atan2 (y x : Int) : Int :=
  let ay : Int := y.natAbs
  let ax : Int := x.natAbs
  if ax = 0 ∧ ay = 0 then 0
  else
    let q := if ay ≤ ax then atan (div ay ax) else pi / 2 - atan (div ax ay)
    let h := if 0 ≤ x then q else pi - q
    if 0 ≤ y then h else -h

/-- An angle in nrad, or in µrad with a factor of 1,000. -/
def ofNrad (a : Int) : Int := a * one / 1000000000

/-- A fixed-point number rounded half away from zero (R247). -/
def rnd (a : Int) : Int := if 0 ≤ a then (2 * a + one) / (2 * one) else -((2 * -a + one) / (2 * one))

/-! ### Frames (R150, R247) -/

/-- The local axes at a place: sines and cosines of its latitude and longitude, and its ECEF position in mm, in fixed point. -/
structure Axes3 where
  sLat : Int
  cLat : Int
  sLon : Int
  cLon : Int
  x : Int
  y : Int
  z : Int

/-- The WGS 84 semi-major axis in mm, and the square of the eccentricity. -/
def semiMajor : Int := 6378137000
def ecc2 : Int :=
  let f := one * 1000000000 / 298257223563
  2 * f - mul f f

/-- ecef_of (R247): latitude and longitude in nrad, height in mm. -/
def axesAt (lat lon h : Int) : Axes3 :=
  let sLat := sin (ofNrad lat)
  let cLat := cos (ofNrad lat)
  let sLon := sin (ofNrad lon)
  let cLon := cos (ofNrad lon)
  let n := div (semiMajor * one) (sqrt (one - mul ecc2 (mul sLat sLat)))
  let p := mul (n + h * one) cLat
  { sLat := sLat, cLat := cLat, sLon := sLon, cLon := cLon
    x := mul p cLon, y := mul p sLon, z := mul (mul n (one - ecc2) + h * one) sLat }

/-- East, north and up of an ECEF position in mm from a place, in fixed point (R247). -/
def toLocal (o : Axes3) (x y z : Int) : Int × Int × Int :=
  let dx := x * one - o.x
  let dy := y * one - o.y
  let dz := z * one - o.z
  (mul dy o.cLon - mul dx o.sLon,
   mul dz o.cLat - mul (mul dx o.sLat) o.cLon - mul (mul dy o.sLat) o.sLon,
   mul (mul dx o.cLat) o.cLon + mul (mul dy o.cLat) o.sLon + mul dz o.sLat)

/-- Its inverse: the ECEF position in mm, each rounded (R150). -/
def ofLocal (o : Axes3) (e n u : Int) : Int × Int × Int :=
  (rnd (o.x - mul e o.sLon - mul (mul n o.sLat) o.cLon + mul (mul u o.cLat) o.cLon),
   rnd (o.y + mul e o.cLon - mul (mul n o.sLat) o.sLon + mul (mul u o.cLat) o.sLon),
   rnd (o.z + mul n o.cLat + mul u o.sLat))

/-! ### F64 (R150, R247): values in the same fixed point, each with at most 53 significant bits -/

/-- A natural number rounded to 53 significant bits, ties to even. -/
def round53 (n : Nat) : Nat :=
  let e := Nat.log2 n
  if e ≤ 52 then n
  else
    let d := 2 ^ (e - 52)
    let q := n / d
    let r := n % d
    (if 2 * r < d ∨ (2 * r = d ∧ q % 2 = 0) then q else q + 1) * d

/-- The nearest F64 value, ties to even. -/
def f64 (a : Int) : Int := if 0 ≤ a then (round53 a.toNat : Nat) else -((round53 (-a).toNat : Nat) : Int)

/-- The quotient of two whole numbers, or of two fixed-point numbers, as the nearest F64 value: a bit below the last stands for what is
left. -/
def fdiv (n d : Int) : Int :=
  let m := n.natAbs * 2 ^ 192
  let q := m / d.natAbs
  let q := if m % d.natAbs = 0 then 2 * q else 2 * q + 1
  let v : Int := (round53 q / 2 ^ 65 : Nat)
  if decide (n < 0) = decide (d < 0) then v else -v

/-- Sum, difference and product in F64. -/
def fadd (a b : Int) : Int := f64 (a + b)
def fsub (a b : Int) : Int := f64 (a - b)
def fmul (a b : Int) : Int := f64 (a * b) / one

/-- The local axes at a place with every value in F64. -/
def axes64 (lat lon h : Int) : Axes3 :=
  let o := axesAt lat lon h
  ⟨f64 o.sLat, f64 o.cLat, f64 o.sLon, f64 o.cLon, f64 o.x, f64 o.y, f64 o.z⟩

/-- The site frame's origin, and the cosine and sine of its rotation, from [latitude nrad, longitude nrad, height mm, rotation
µrad]. -/
def siteAxes (f : List Int) : Axes3 × Int × Int :=
  let w := ofNrad (f.getD 3 0 * 1000)
  (axes64 (f.getD 0 0) (f.getD 1 0) (f.getD 2 0), f64 (cos w), f64 (sin w))

/-- Site-frame coordinates of an ECEF position, mm, in the order of R247. -/
def siteOfEcef (f : List Int) (x y z : Int) : Int × Int × Int :=
  let (o, cw, sw) := siteAxes f
  let dx := fsub (x * one) o.x
  let dy := fsub (y * one) o.y
  let dz := fsub (z * one) o.z
  let e := fadd (fmul (-o.sLon) dx) (fmul o.cLon dy)
  let n := fadd (fsub (fmul (fmul (-o.sLat) o.cLon) dx) (fmul (fmul o.sLat o.sLon) dy)) (fmul o.cLat dz)
  let u := fadd (fadd (fmul (fmul o.cLat o.cLon) dx) (fmul (fmul o.cLat o.sLon) dy)) (fmul o.sLat dz)
  (rnd (fadd (fmul cw e) (fmul sw n)), rnd (fadd (fmul (-sw) e) (fmul cw n)), rnd u)

/-- The ECEF position of site-frame coordinates, mm, in the order of R150. -/
def ecefOfSite (f : List Int) (ee nn uu : Int) : Int × Int × Int :=
  let (o, cw, sw) := siteAxes f
  let e := fsub (fmul cw (ee * one)) (fmul sw (nn * one))
  let n := fadd (fmul sw (ee * one)) (fmul cw (nn * one))
  let u := uu * one
  (rnd (fadd (fsub (fsub o.x (fmul o.sLon e)) (fmul (fmul o.sLat o.cLon) n)) (fmul (fmul o.cLat o.cLon) u)),
   rnd (fadd (fsub (fadd o.y (fmul o.cLon e)) (fmul (fmul o.sLat o.sLon) n)) (fmul (fmul o.cLat o.sLon) u)),
   rnd (fadd (fadd o.z (fmul o.cLat n)) (fmul o.sLat u)))

/-- Sine and cosine of the geodetic latitude of a point at distance `p` from the axis and height `z` over the equator, both mm:
`k` steps of the iteration tan φ = (z + e² N sin φ) / p. -/
def latitude (p z : Int) : Nat → Int × Int → Int × Int
  | 0, sc => sc
  | k + 1, sc =>
    let n := div (semiMajor * one) (sqrt (one - mul ecc2 (mul sc.1 sc.1)))
    let t := z + mul (mul ecc2 n) sc.1
    let r : Int := Nat.sqrt (t * t + p * p).toNat
    latitude p z k (if r = 0 then sc else (div t r, div p r))

/-- The local frame tangent at an ECEF position in mm (R567); none of it turns on the height. -/
def axesOfEcef (b : List Int) : Axes3 :=
  let x := b.getD 0 0
  let y := b.getD 1 0
  let z := b.getD 2 0
  let r : Int := Nat.sqrt ((x * x + y * y) * one * one).toNat
  let (sLon, cLon) := if r = 0 then (0, one) else (div (y * one) r, div (x * one) r)
  let (sLat, cLat) := latitude r (z * one) 30 (0, one)
  { sLat := sLat, cLat := cLat, sLon := sLon, cLon := cLon, x := x * one, y := y * one, z := z * one }

/-- The ECEF position, mm, of a point of the local frame at a base position (R567, R581). -/
def ecefOfLocal (base : List Int) (e n u : Int) : Int × Int × Int := ofLocal (axesOfEcef base) (e * one) (n * one) (u * one)

/-- East and north, mm, of an ECEF position in the local frame at a base position (R582). -/
def localOfEcef (base : List Int) (x y z : Int) : Int × Int :=
  let (e, n, _) := toLocal (axesOfEcef base) x y z
  (rnd e, rnd n)

/-- The azimuth in degrees, rounded (DESIGN CHOICE, assumption 26), from north through east, of a direction (R567). -/
def azimuth (e n : Int) : Nat :=
  let a := atan2 e n
  (rnd (div ((if a < 0 then a + 2 * pi else a) * 180) pi)).toNat % 360

/-- The circular mean of phases in 10^-9 cycle (R123): the direction of the sum of their unit vectors; `free` where it is 0. -/
def circMean (free : Int) (phases : List Int) : Int :=
  let ang (p : Int) : Int := 2 * (pi * ((p + 500000000) % 1000000000 - 500000000)) / 1000000000
  let s := (phases.map (fun p => sin (ang p))).sum
  let c := (phases.map (fun p => cos (ang p))).sum
  if s = 0 ∧ c = 0 then free else rnd (div (atan2 s c * 1000000000) (2 * pi))

end Sys2Proof.Machine.Trig
end

