-- ==== Sys2Proof/Machine/Gnss.lean ====
section
/-! DEFINITION. The GNSS baseband: antennas, channels, epochs and measurement sets, integrity checks, snapshot capture,
base position and survey (R108 to R140). -/

namespace Sys2Proof.Machine

/-- The key of a signal on an antenna; keys rise in the record order of R118. -/
def sigKey (ant sys svid signal : Nat) : Nat := ((ant * 4 + sys) * 64 + svid) * 8 + signal

/-- The key of an observation. -/
def obsKey (o : SigObs) : Nat := sigKey o.ant o.sys o.svid o.signal

/-- Whether a SIGNAL code lies in the L5 band (R108). -/
def isL5 (signal : Nat) : Bool := signal == 2 || signal == 4 || signal == 6

/-- The band's wavelength in µm (R108). -/
def lambdaUm (signal : Nat) : Int := if isL5 signal then 254828 else 190294

/-- The system that a SIGNAL code belongs to (R119). -/
def sigSys (signal : Nat) : Nat := (signal + 1) / 2

/-- The largest SVID of a system (R108). -/
def svidMax (sys : Nat) : Nat := if sys = 1 then 32 else if sys = 2 then 36 else 63

/-- A SYS, SVID and SIGNAL that name a served signal (R108, R119). -/
def sigOk (sys svid signal : Nat) : Bool :=
  decide (1 ≤ signal ∧ signal ≤ 6 ∧ sys = sigSys signal ∧ 1 ≤ svid ∧ svid ≤ svidMax sys)

/-- Maps a phase in 10^-9 cycle into [-0.5, 0.5) cycle (R122). -/
def wrapPhase (x : Int) : Int := (x + 500000000) % 1000000000 - 500000000

/-- The four DATA bytes of a signal event (R139). -/
def sigData (sys svid signal ant : Nat) : Nat := sys + 256 * svid + 65536 * signal + 16777216 * ant

/-- A signal's integrity state before any check. -/
def Integ.fresh : Integ := ⟨0, 0, 0, none, 0⟩

/-- The phase p of the direction test in 10^-9 cycle, for baseline `b` in mm (R122). -/
def phaseOf (b : Int × Int × Int) (o : SigObs) : Int :=
  (b.1 * o.u.1 + b.2.1 * o.u.2.1 + b.2.2 * o.u.2.2) * 1000 / lambdaUm o.signal

/-- C_k = pseudorange − λ × carrier, in 1/65,536 µm (R125). -/
def codeMinusCarrier (o : SigObs) : Int := (o.pr : Int) * 65536 - lambdaUm o.signal * o.carrier

/-- A signal record (R119). -/
def recBytesOf (x : Nat × SigObs × Nat × Nat) : Bytes :=
  let (ch, o, st, ib) := x
  le 1 o.sys ++ le 1 o.svid ++ le 1 o.signal ++ le 1 o.ant ++ le 2 ch ++ le 1 (min 255 o.cn0) ++ le 1 st ++
  le 8 o.pr ++ leS 8 o.carrier ++ leS 4 o.doppler ++ le 2 (min 0xFFFF o.lockTime) ++ le 1 ib ++ [0]

/-- A set's header (R118). -/
def setHeader (m : MeasSet) : Bytes :=
  le 8 m.epoch ++ le 4 m.tick ++ le 2 m.recs.length ++ le 1 m.timeQ ++ le 1 m.flags ++ leS 4 m.bias ++ leS 4 m.drift ++
  zeros 8

/-- A measurement set in full (R118). -/
def setBytes (m : MeasSet) : Bytes := setHeader m ++ m.recs.flatMap recBytesOf

/-! ### Tracking (R112 to R114) -/

/-- The coherent integration times that a signal allows, in ms (R108). -/
def cohSet (signal : Nat) : List Nat :=
  if signal = 3 then [4, 20] else if signal = 5 then [10, 20] else [1, 2, 4, 5, 10, 20]

/-- The coherent integration time (R114): the largest value of the set at or below `most`, or the smallest of the set where none lies
there, or before synchronisation. -/
def cohMs (signal most : Nat) (sync : Bool) : Nat :=
  let smallest := (cohSet signal).headD 1
  if sync then ((cohSet signal).filter (fun v => decide (v ≤ most))).getLastD smallest else smallest

/-- The five correlators' places for a spacing of `s` milli-chip, in half milli-chips off prompt (R113). -/
def correlators (s : Nat) : List Int := [-2 * (s : Int), -(s : Int), 0, s, 2 * (s : Int)]

/-- The spacing that a signal applies: for E1 and B1C the lesser of the band's and 200 milli-chip (R113). -/
def spacingOf (signal s : Nat) : Nat := if signal = 3 ∨ signal = 5 then min s 200 else s

/-- The SIGNAL code in a signal key. -/
def keySignal (k : Nat) : Nat := k % 8

/-- The satellite of a signal key: 256 times the system plus SVID. -/
def keySat (k : Nat) : Nat := k / 512 % 4 * 256 + k / 8 % 64

/-- A peak that lies within a search (R112). -/
def Search.sees (q : Search) (p : Int × Int) : Bool :=
  q.handover || (decide (|p.1| ≤ (q.doppler : Int)) && (match q.chips with | some c => decide (|p.2| ≤ (c : Int)) | none => true))

/-! ### Survey arithmetic (R135) -/

/-- Nearest integer to `a / n` (assumption 141). -/
def nearestDiv (a : Int) (n : Nat) : Int := (2 * a + n) / (2 * n)

/-- The square of the length of a vector. -/
def lenSq (v : Int × Int × Int) : Int := v.1 * v.1 + v.2.1 * v.2.1 + v.2.2 * v.2.2

/-- One solution more. -/
def SurveyAcc.add (a : SurveyAcc) (v : Int × Int × Int) : SurveyAcc :=
  ⟨a.n + 1, (a.sum.1 + v.1, a.sum.2.1 + v.2.1, a.sum.2.2 + v.2.2), a.sq + lenSq v⟩

/-- The mean of the solutions in mm; `none_` where there was no solution, for which the manual states none (assumption 141). -/
def SurveyAcc.mean (none_ : Int × Int × Int) (a : SurveyAcc) : Int × Int × Int :=
  if a.n = 0 then none_
  else (nearestDiv a.sum.1 a.n, nearestDiv a.sum.2.1 a.n, nearestDiv a.sum.2.2 a.n)

/-- The three-dimensional standard deviation of the mean is at most `d` mm: D / (n (n − 1)) ≤ d², with D the sum of the squared
distances from the mean. -/
def SurveyAcc.within (a : SurveyAcc) (d : Nat) : Bool :=
  decide (2 ≤ a.n ∧ (a.n : Int) * a.sq - lenSq a.sum ≤ ((d * d * a.n * a.n * (a.n - 1) : Nat) : Int))

/-- The standard deviation of the mean in mm, rounded up; `none_` where there were fewer than two solutions (assumption 141). -/
def SurveyAcc.sigma (none_ : Nat) (a : SurveyAcc) : Nat :=
  if a.n < 2 then none_
  else
    let den := a.n * a.n * (a.n - 1)
    let q := (((a.n : Int) * a.sq - lenSq a.sum).toNat + den - 1) / den
    let r := Nat.sqrt q
    if r * r < q then r + 1 else r

/-- Body of SNAP captures' length: MS × 32,768 bytes for each stream (R131). -/
def snapBytes (streams ms : Nat) : Nat := ((List.range 4).filter (fun i => bit streams i)).length * ms * 32768

namespace State

/-- Changes the GNSS block. -/
def mapGns (f : Gns → Gns) (s : State) : State := { s with gns := f s.gns }

/-! ### Base position (R134) -/

/-- The base vector of the parameters, mm. -/
def baseParams (s : State) : Int × Int × Int := (s.prmS 64 0x0219, s.prmS 64 0x021A, s.prmS 64 0x021B)

/-- The position state of R134: 0 unset, 1 surveying, 2 surveyed, 3 fixed. -/
def posState (s : State) : Nat :=
  if s.prm 0x0218 = 0 then (if s.baseParams = (0, 0, 0) then 0 else 3)
  else if s.gns.surveyed.isSome then 2 else if s.gns.survey.isSome then 1 else 0

/-- The base position in effect, mm, where one is valid. -/
def basePos (s : State) : Option (Int × Int × Int) :=
  match s.posState with
  | 3 => some s.baseParams
  | 2 => s.gns.surveyed.map (fun p => (p.1, p.2.1, p.2.2.1))
  | _ => none

/-! ### Antennas (R110) -/

/-- Whether an antenna's bias parameter supplies it. -/
def biasOn (s : State) (ant : Nat) : Bool := s.prm (0x0204 + ant) != 0

/-- Whether an antenna is cut. -/
def antCut (s : State) (ant : Nat) : Bool := if ant = 0 then s.gns.antCut.1 else s.gns.antCut.2

/-- Whether an antenna is open. -/
def antOpen (s : State) (ant : Nat) : Bool := if ant = 0 then s.gns.antOpen.1 else s.gns.antOpen.2

/-- The antenna code of GNS_STATUS_READ (R137). -/
def antCode (s : State) (ant : Nat) : Nat :=
  if s.antCut ant then 3 else if s.biasOn ant = false then 0 else if s.antOpen ant then 2 else 1

/-- ANT_OPEN (R110): while bias is on, once. -/
def antOpenEv (ant : Nat) (s : State) : State :=
  if s.biasOn ant ∧ s.antCut ant = false ∧ s.antOpen ant = false then
    let s := s.mapGns (fun g => { g with antOpen := if ant = 0 then (true, g.antOpen.2) else (g.antOpen.1, true) })
    s.raise0 0x0201 .warning ant ant
  else s

/-- ANT_SHORT (R110): the bias is cut. -/
def antShortEv (ant : Nat) (s : State) : State :=
  if s.biasOn ant ∧ s.antCut ant = false then
    let s := s.mapGns (fun g => { g with antCut := if ant = 0 then (true, g.antCut.2) else (g.antCut.1, true) })
    s.raise0 0x0202 .fault ant ant
  else s

/-- A commit that writes an antenna's bias parameter restores the bias (R110). -/
def biasCommitted (ant : Nat) (s : State) : State :=
  s.mapGns (fun g => { g with
    antCut := if ant = 0 then (false, g.antCut.2) else (g.antCut.1, false)
    antOpen := if ant = 0 then (false, g.antOpen.2) else (g.antOpen.1, false) })

/-- The direction test's calibration starts again (R123). -/
def recalibrate (s : State) : State := s.mapGns (fun g => { g with calib := 0, beta := (none, none) })

/-! ### Channels (R111) -/

/-- R111's ranking, as one number: lower ranks first. -/
def candRank (c : Cand) : Nat :=
  (((c.ant * 2 + b2n (isL5 c.signal)) * 4194304 + (2097152 - (max (-2097152) (min 2097151 c.elev))).toNat) * 4 + c.sys) * 64
    + c.svid

/-- A channel number not in use. -/
def freeChannel (t : Tab Nat) : Nat :=
  ((List.range 192).find? (fun c => !t.any (fun e => e.2 == c))).getD 191

/-- How many channels there are: 192, or 32 in CX mode (R109, R111). -/
def channelCount (s : State) : Nat := if s.sys.cx then 32 else 192

/-- Whether a satellite's ephemeris or almanac is held (R112). -/
def satHeld (s : State) (k : Nat) : Bool := Tab.has (keySat k) s.gns.eph || Tab.has (keySat k) s.gns.alm

/-- Aiding (R112): time valid to within 1 ms, a known base position and the satellite's ephemeris or almanac. -/
def aided (s : State) (k : Nat) : Bool :=
  s.timeValid && (match s.timeErrFine with | some e => decide (e ≤ 1000000 * 200000000000000000000) | none => false) && s.basePos.isSome && s.satHeld k

/-- The signals of a list in carrier lock, by key. -/
def lockedKeys (sigs : List SigObs) : List Nat := (sigs.filter (fun o => o.lock)).map obsKey

/-- The L1-band signal of the same satellite and system on the same antenna. -/
def l1Of (k : Nat) : Nat := k - 1

/-- The search for a signal (R112): an L5-band signal is handed over from its satellite's tracked L1-band signal. -/
def searchOf (s : State) (locked : List Nat) (k : Nat) : Search :=
  let hand := isL5 (keySignal k) && locked.contains (l1Of k)
  if s.aided k then ⟨hand, 300, some 10⟩ else ⟨hand, 6000, none⟩

/-- How a channel tracks its signal, with what the epoch shows of it (R113, R114). -/
def trackOf (s : State) (sigs : List SigObs) (k : Nat) : SigTrack :=
  let sg := keySignal k
  let o := sigs.find? (fun o => obsKey o == k)
  let sync := match o with | some o => o.sync | none => false
  ⟨cohMs sg (s.prm 0x020B) sync, sync, correlators (spacingOf sg (s.prm (if isL5 sg then 0x0208 else 0x0207))), s.prm 0x0209,
    s.prm 0x020A, match o with | some o => !o.lock | none => true⟩

/-- Every channel's tracking, and the search of each signal that is not tracked. -/
def retrack (sigs : List SigObs) (s : State) : State :=
  let locked := lockedKeys sigs
  let keys := s.gns.chans.map Prod.fst
  s.mapGns (fun g => { g with
    trk := keys.foldl (fun t k => Tab.put k (s.trackOf sigs k) t) []
    srch := (keys.filter (fun k => !locked.contains k)).foldl (fun t k => Tab.put k (s.searchOf locked k) t) [] })

/-- The observations of the signals that the last epoch tracked and that still hold a channel. -/
def lastSigs (s : State) : List SigObs := s.gns.obs.filter (fun o => Tab.has (obsKey o) s.gns.chans)

/-- Ranks the candidates and allots the channels: a signal already tracked keeps its channel within the first 192. A satellite is a
candidate when its ephemeris or almanac puts it above the mask, or the acquisition engine has found it within its search; in CX mode
only GPS L1 C/A on ANT_A (R109, R111, R112). -/
def channelAllocation (cands : List Cand) (s : State) : State :=
  let locked := lockedKeys s.lastSigs
  let key (c : Cand) : Nat := sigKey c.ant c.sys c.svid c.signal
  let seen (c : Cand) : Bool := match c.found with | some p => (s.searchOf locked (key c)).sees p | none => false
  let en (c : Cand) : Bool := bit (s.prm 0x0200) (c.signal - 1) && sigOk c.sys c.svid c.signal &&
    (c.ant == 0 || (c.ant == 1 && s.prm 0x0206 == 0)) && (!s.sys.cx || (c.ant == 0 && c.signal == 1)) &&
    (seen c || (s.satHeld (key c) && decide (((s.prm 0x0202 : Nat) : Int) ≤ c.elev)))
  let ranked := sortBy (fun a b => decide (candRank a ≤ candRank b)) ((cands.filter en).dedup)
  let keys := (ranked.take s.channelCount).map (fun c => sigKey c.ant c.sys c.svid c.signal)
  let kept := s.gns.chans.filter (fun e => keys.contains e.1)
  let chans := keys.foldl (fun t k => if Tab.has k t then t else Tab.put k (freeChannel t) t) kept
  let n := ranked.length - s.channelCount
  (s.mapGns (fun g => { g with chans := chans, short := n, cands := cands })).retrack s.lastSigs

/-- CHANNEL_ALLOCATION: once per second (R111), with CHANNELS_SHORT each time the number of candidates left out
changes. -/
def channelAllocationEv (cands : List Cand) (s : State) : State :=
  let before := s.gns.short
  let s := s.channelAllocation cands
  if s.gns.short ≠ 0 ∧ s.gns.short ≠ before then s.raise0 0x0203 .warning s.gns.short 0 else s

/-! ### The direction and cluster tests (R122 to R124) -/

/-- The baseline vector in mm. -/
def baselineVec (s : State) : Int × Int × Int := (s.prmS 32 0x020D, s.prmS 32 0x020E, s.prmS 32 0x020F)

/-- R122's three conditions: 0 and 1 not run, 3 to be run. -/
def dirRunnable (s : State) : Nat :=
  if s.baselineVec = (0, 0, 0) then 0
  else if s.antOpen 1 ∨ s.antCut 1 ∨ s.basePos = none then 1 else 3

/-- A signal that both antennas hold: its key on ANT_A, p and Δφ in 10^-9 cycle, and its band. -/
structure DirSig where
  key : Nat
  p : Int
  dphi : Int
  l5 : Bool
  chan : Nat

/-- The signals tested in an epoch, in channel order (R122, R124). -/
def dirSigs (s : State) (sigs : List SigObs) : List DirSig :=
  let ok (o : SigObs) : Bool := o.lock && o.half
  let pairs := (sigs.filter (fun o => o.ant == 0 && ok o)).filterMap (fun a =>
    (sigs.find? (fun o => o.ant == 1 && ok o && o.sys == a.sys && o.svid == a.svid && o.signal == a.signal)).map (fun b =>
      { key := obsKey a, p := phaseOf s.baselineVec a, dphi := (b.carrier - a.carrier) * 1000000000 / 65536,
        l5 := isL5 a.signal, chan := Tab.getD (obsKey a) 0 s.gns.chans : DirSig }))
  sortBy (fun a b => decide (a.chan ≤ b.chan)) pairs

/-- β of a band. -/
def betaOf (s : State) (l5 : Bool) : Option Int := if l5 then s.gns.beta.2 else s.gns.beta.1

/-- The residual r of R122; none where β is not estimated yet. -/
def dirResid (s : State) (d : DirSig) : Option Int := (s.betaOf d.l5).map (fun b => wrapPhase (d.dphi + d.p - b))

/-- m_k of R123: the circular mean over signals. -/
def meanPhase (ds : List DirSig) : Int :=
  let ps := ds.map (fun d => d.dphi + d.p)
  Trig.circMean (Config.circFree ps) ps

/-- Updates β of one band (R123); `suspect` names the signals suspect in this epoch or the previous one. -/
def nextBeta (s : State) (suspect : List Nat) (ds : List DirSig) (l5 : Bool) : Option Int :=
  let band := ds.filter (fun d => d.l5 == l5)
  match s.betaOf l5 with
  | none => if 6 ≤ band.length then some (meanPhase band) else none
  | some b =>
    let good := band.filter (fun d => !suspect.contains d.key)
    if good.length < 3 then some b
    else some (wrapPhase (b + wrapPhase (meanPhase good - b) / 16))

/-- Whether two signals of one band agree (R124). -/
def clusterAgree (t : Int) (a b : DirSig) : Bool :=
  a.l5 == b.l5 && a.key != b.key && decide (|wrapPhase (a.dphi - b.dphi)| ≤ t) &&
    decide (2 * t < |wrapPhase (a.p - b.p)|)

/-- The groups that form in an epoch, each as sorted keys (R124). -/
def clusterGroups (t : Int) (mn : Nat) (ds : List DirSig) : List (List Nat) :=
  (ds.filterMap (fun a =>
    let o := ds.filter (fun b => clusterAgree t a b)
    if mn ≤ o.length + 1 then some (sortBy (fun x y => decide (x ≤ y)) (a.key :: o.map (fun b => b.key))) else none)).dedup

/-! ### An epoch (R115 to R129) -/

/-- Sets integrity bits of a signal. -/
def flagSig (bits k : Nat) (t : Tab Integ) : Tab Integ :=
  Tab.upd k Integ.fresh (fun i => { i with bits := i.bits ||| bits }) t

/-- D of R125 for an L1 and an L5 observation, times 65,536 × 13,225, in µm; with the reference to keep. -/
def cmcD (ref : Option CmcRef) (a b : SigObs) : Option Int × CmcRef :=
  let c : CmcRef := (codeMinusCarrier a, codeMinusCarrier b)
  match ref with
  | none => (none, c)
  | some r => if a.slip ∨ b.slip then (none, c) else (some (13225 * (c.2 - r.2) - 23716 * (c.1 - r.1)), r)

/-- The satellite key of code-minus-carrier references. -/
def satKey (o : SigObs) : Nat := o.ant * 65536 + o.sys * 256 + o.svid

/-- The code-minus-carrier check over one epoch: references and the keys that fail (R125). A pseudorange that is not whole forms no
value. -/
def cmcCheck (s : State) (sigs : List SigObs) : Tab CmcRef × List Nat :=
  let held := sigs.filter (fun o => o.lock && o.whole)
  (held.filter (fun o => !isL5 o.signal)).foldl (fun acc a =>
    match held.find? (fun b => isL5 b.signal && satKey b == satKey a) with
    | none => acc
    | some b =>
      let (d, r) := cmcD (Tab.find? (satKey a) s.gns.cmc) a b
      let lim : Int := (s.prm 0x0215 : Int) * 1000 * 65536 * 13225
      let bad := match d with | some d => decide (lim < |d|) | none => false
      (Tab.put (satKey a) r acc.1, if bad then obsKey a :: obsKey b :: acc.2 else acc.2)) ([], [])

/-- Suspect: any failed check but the clock's (R127). -/
def suspectSig (t : Tab Integ) (k : Nat) : Bool := (Tab.getD k Integ.fresh t).bits != 0

/-- Excluded: suspect with GNS_INTEG_MODE 01h, or under host exclusion (R127, R137). -/
def excludedSig (s : State) (k : Nat) : Bool :=
  suspectSig s.gns.integ k && (s.prm 0x020C == 1 || bit (Tab.getD k Integ.fresh s.gns.integ).bits 6)

/-- Clears a signal's suspicion and reports it (R128): level 0 by time, 1 by host. -/
def readmit (level k : Nat) (s : State) : State :=
  if suspectSig s.gns.integ k then
    let s := s.mapGns (fun g => { g with
      integ := Tab.del k g.integ, alarm := g.alarm.filter (fun a => a != k) })
    let ant := k / sigKey 1 0 0 0
    let sys := k / 512 % 4
    s.raise0 0x0205 .notice level (sigData sys (k / 8 % 64) (k % 8) ant)
  else s

/-- Raises SIGNAL_EXCLUDED for each key of a list (R127). -/
def raiseExcluded (keys : List Nat) (s : State) : State :=
  keys.foldl (fun s k => s.raise0 0x0204 .warning (Tab.getD k Integ.fresh s.gns.integ).bits
    (sigData (k / 512 % 4) (k / 8 % 64) (k % 8) (k / sigKey 1 0 0 0))) s

/-- The C/N0 run counts consecutive epochs on one channel (R125), and the time passed counts while a signal is tracked (R128): both end
for a signal that the epoch does not hold (assumption 140). -/
def absentSigs (sigs : List SigObs) (t : Tab Integ) : Tab Integ :=
  let keys := sigs.map obsKey
  Tab.mapVals (fun k (i : Integ) => if keys.contains k then i else { i with cn0Run := 0, passFrom := none }) t

/-- Runs the direction, cluster, C/N0, Doppler and code-minus-carrier checks of an epoch over the tracked signals. The direction and
cluster tests flag the signal on ANT_A, the antenna whose measurements are used (R110, R124). A group that goes on forming after a host
has readmitted its members flags them and sets the alarm again, without a new SPOOF_DIRECTION (DESIGN CHOICE, assumption 163). The clock
check's INTEG bit 5 does not break a signal's run of passed checks (DESIGN CHOICE, assumption 165). -/
def integrityChecks (sigs : List SigObs) (s : State) : State :=
  let prev := s.gns.wasSuspect
  let old := absentSigs sigs s.gns.integ
  -- signal checks
  let cn0Lim := 4 * s.prm 0x0213
  let (cmcT, cmcBad) := s.cmcCheck sigs
  let formD : Bool := s.timeValid && s.basePos.isSome
  let t1 := sigs.foldl (fun t o =>
    let k := obsKey o
    let i := Tab.getD k Integ.fresh t
    let ch := Tab.getD k 0 s.gns.chans
    let run := if cn0Lim < o.cn0 then (if i.chan = ch then i.cn0Run else 0) + 1 else 0
    let dop : Bool := formD && (match o.rate with | some r => decide ((s.prm 0x0214 : Int) < |r|) | none => false)
    let cm := cmcBad.contains k
    let b := i.bits ||| (if 3 ≤ run then 4 else 0) ||| (if dop then 8 else 0) ||| (if cm then 16 else 0)
    let bad : Bool := decide (3 ≤ run) || dop || cm
    let pf := if bad then none else match i.passFrom with | some f => some f | none => some s.now
    Tab.put k { i with bits := b, cn0Run := run, chan := ch, passFrom := pf } t) old
  -- direction and cluster tests
  let run := s.dirRunnable
  let ds := if run = 3 then s.dirSigs sigs else []
  let thr : Int := (s.prm 0x0210 : Int) * 1000000
  let calibrated := decide (16 ≤ s.gns.calib)
  let t2 := ds.foldl (fun t d =>
    let fails : Bool := match s.dirResid d with | some r => decide (thr < |r|) | none => false
    let i := Tab.getD d.key Integ.fresh t
    let n := if fails then i.dirRun + 1 else 0
    let flag := calibrated && decide (s.prm 0x0211 ≤ n)
    Tab.put d.key { i with
      dirRun := n, bits := if flag then i.bits ||| 1 else i.bits, passFrom := if fails && calibrated then none else i.passFrom } t) t1
  let formed := clusterGroups thr (s.prm 0x0212) ds
  let counted := formed.map (fun g => (g, match s.gns.groups.find? (fun e => e.1 == g) with | some e => (e.2.1 + 1, e.2.2) | none => (1, false)))
  let held := counted.filter (fun g => decide (s.prm 0x0211 ≤ g.2.1))
  let ripe := held.filter (fun g => !g.2.2)
  let groups := counted.map (fun g => (g.1, g.2.1, g.2.2 || decide (s.prm 0x0211 ≤ g.2.1)))
  let t3 := held.foldl (fun t g => g.1.foldl (fun t k =>
    Tab.upd k Integ.fresh (fun i => { i with bits := i.bits ||| 2, passFrom := none }) t) t) t2
  let suspects := (t3.filter (fun e => e.2.bits != 0)).map Prod.fst
  let fresh := suspects.filter (fun k => !suspectSig old k)
  -- line bias and calibration
  let b1 := if run = 3 then s.nextBeta (prev ++ suspects) ds false else s.gns.beta.1
  let b5 := if run = 3 then s.nextBeta (prev ++ suspects) ds true else s.gns.beta.2
  let calib := if run = 3 then min 16 (s.gns.calib + 1) else s.gns.calib
  let dir := if run ≠ 3 then run else if calib < 16 then 2 else 3
  let alarm := (s.gns.alarm ++ held.flatMap Prod.fst).dedup
  let dirWas := s.gns.dirState
  let s := s.mapGns (fun g => { g with
    integ := t3, cmc := cmcT, groups := groups, wasSuspect := suspects, beta := (b1, b5), calib := calib,
    dirState := dir, alarm := alarm.filter (fun k => suspects.contains k)
    baseline := if ripe = [] then g.baseline else g.baseline.map (fun b => (b.1, b.2.1, b.2.2.1, true)) })
  let s := raiseExcluded fresh s
  let s := ripe.foldl (fun s g => s.raise0 0x0206 .fault g.1.length 0) s
  if dir ≠ dirWas then s.raise0 0x020C .notice dir 0 else s

/-- Readmits the suspect signals that have passed every check for GNS_READMIT_S without a break (R128). -/
def readmitDue (s : State) : State :=
  let due := (s.gns.integ.filter (fun e => e.2.bits != 0 && bit e.2.bits 6 == false &&
    (match e.2.passFrom with | some f => decide (s.prm 0x0217 * 1000000000 ≤ s.now - f) | none => false))).map Prod.fst
  due.foldl (fun s k => s.readmit 0 k) s

/-- The STATE byte of a record (R119). -/
def stateByte (s : State) (o : SigObs) : Nat :=
  let k := obsKey o
  bitsOf ((if o.lock then [0] else []) ++ (if o.half then [1] else []) ++ (if s.excludedSig k then [2] else []) ++
    (if suspectSig s.gns.integ k then [3] else []) ++ (if o.slip then [4] else []) ++
    (if o.cn0 < 4 * s.prm 0x0203 then [5] else []))

/-- A usable signal: carrier lock, not excluded, above both masks (R129). -/
def usableSig (s : State) (o : SigObs) : Bool :=
  o.lock && !s.excludedSig (obsKey o) && decide (4 * s.prm 0x0203 ≤ o.cn0) &&
    decide (((s.prm 0x0202 : Nat) : Int) ≤ o.elev)

/-- How many satellites have a usable ANT_A signal (R129). -/
def usableSats (s : State) (sigs : List SigObs) : Nat :=
  (((sigs.filter (fun o => o.ant == 0 && s.usableSig o)).map satKey).dedup).length

/-- Whether the clock check fails at this epoch (R126): RX_BIAS against the value predicted from the previous epoch. -/
def clockCheckFails (s : State) (o : EpochObs) : Bool :=
  s.basePos.isSome && (match s.gns.rxPrev with
    | none => false
    | some (b, d, t) =>
      let dt : Int := ((s.clk.count - t : Nat) : Int)
      decide ((s.prm 0x0216 : Int) * 1000 < |o.bias - (b + d * dt / 1000000000)|))

/-- The set that goes to the queue next, where GNS_MEAS_QUEUE names one, follows sets that were dropped (R118, R121). -/
def setsDropped (s : State) : Bool := s.gns.dropFlag && decide (s.prm 0x021F ≠ 0)

/-- Queues a measurement set (R121). -/
def queueSet (m : MeasSet) (s : State) : State :=
  let q := s.prm 0x021F
  if q = 0 then s else
    let before : Nat := ((Tab.find? q s.mem.queues).map (fun x => x.drops)).getD 0
    let s := s.publish q (setBytes m) (fun s => s.raise0 0x020B .warning 1 0)
    let after : Nat := ((Tab.find? q s.mem.queues).map (fun x => x.drops)).getD 0
    s.mapGns (fun g => { g with
      dropFlag := before != after, dropped := if before = after then g.dropped else inc32 g.dropped })

/-- The instant of an epoch that falls on the boundary just opened: the boundary's place in pasture time (R35), or the count where
the boundaries lie off it. -/
def epochInstant (s : State) : Nat := if s.sys.misalign.isNone then s.air.tick * s.tickNs else s.clk.count

/-- The survey takes an epoch's solution, but not of one that is degraded, fails the clock check or holds an alarm (R135). -/
def surveyEpoch (sol : Option (Int × Int × Int)) (bad : Bool) (s : State) : State :=
  match sol with
  | none => s
  | some v =>
    if bad ∨ s.gns.alarm ≠ [] ∨ (s.gns.survey.isNone ∧ s.cx.survey.isNone) then s
    else s.mapGns (fun g => { g with acc := g.acc.add v })

/-- Drops the channels that the side-peak check finds off the main peak; each is searched for again (R113). -/
def dropSides (o : EpochObs) (s : State) : State :=
  let off := (o.sigs.filter (fun x => x.side && (x.signal == 3 || x.signal == 5))).map obsKey
  s.mapGns (fun g => { g with chans := g.chans.filter (fun e => !off.contains e.1) })

/-- One epoch (R115 to R129): the set is latched, tested, recorded and queued. A signal enters the set only with its transmit time
decoded (R116). Answers whether the clock check failed. -/
def epochPhase (o : EpochObs) (s : State) : State × Bool :=
  let s := s.dropSides o
  let tracked := (o.sigs.filter (fun x => Tab.has (obsKey x) s.gns.chans && sigOk x.sys x.svid x.signal &&
    decide (x.ant ≤ 1) && !s.antCut x.ant))
  let all := (sortBy (fun a b => decide (obsKey a ≤ obsKey b)) tracked).take 192
  let s := ((s.integrityChecks all).readmitDue).retrack all
  let sigs := all.filter (fun x => x.whole)
  let clk := s.clockCheckFails o
  let s := if clk then s.raise0 0x0207 .warning 1 0 else s
  let far := decide (s.prm 0x021E < o.posDiff)
  let near := decide (2 * o.posDiff < s.prm 0x021E)
  let dis := s.basePos.isSome && (if s.gns.disagree then !near else far)
  let s := if dis && !s.gns.disagree then s.raise0 0x0208 .fault (min 255 (o.posDiff / 1000)) 0 else s
  let n := s.usableSats all
  let s := if n < 5 then
      (if s.gns.degraded = some n then s else s.raise0 0x0209 .warning n 0).mapGns (fun g => { g with degraded := some n })
    else s.mapGns (fun g => { g with degraded := none })
  let recs := sigs.map (fun x =>
    let ib := (Tab.getD (obsKey x) Integ.fresh s.gns.integ).bits ||| (if clk && x.ant == 0 && s.usableSig x then 32 else 0)
    (Tab.getD (obsKey x) 0 s.gns.chans, x, s.stateByte x, ib))
  let fl := bitsOf ((if s.timeValid then [0] else []) ++ (if s.basePos.isSome then [1] else []) ++
    (if s.dirRunnable = 3 then [2] else []) ++ (if s.gns.alarm = [] then [] else [3]) ++ (if n < 5 then [4] else []) ++
    (if s.setsDropped then [5] else []) ++ (if clk then [6] else []) ++ (if dis then [7] else []))
  let m : MeasSet := {
    epoch := s.epochInstant, tick := s.sys.tick, timeQ := s.timeQ, flags := fl, bias := o.bias, drift := o.drift, recs := recs }
  let s := s.mapGns (fun g => { g with
    eph := o.eph.foldl (fun t (e : Nat × Bytes) => Tab.put e.1 e.2 t) g.eph
    alm := o.alm.foldl (fun t (e : Nat × Bytes) => Tab.put e.1 e.2 t) g.alm
    obs := all
    sets := (m :: g.sets).take 22, disagree := dis, rxPrev := some (o.bias, o.drift, s.clk.count) })
  ((s.queueSet m).surveyEpoch o.sol (decide (n < 5) || clk), clk)

/-! ### Snapshot, survey and baseline (R130 to R136) -/

/-- SNAPSHOT_CAPTURE: the streams are in the buffer, and the capture completes (R131). Nothing happens before the instant of
its last sample. -/
def snapshotCapture (wave : List (Nat × Byte)) (s : State) : State :=
  match s.gns.cap with
  | none => s
  | some c =>
    match c.start with
    | none => s
    | some t =>
      if s.now < t + c.ms * 1000000 then s
      else
        let len := snapBytes c.streams c.ms
        let start := s.clk.count - (s.now - t)
        let buf : Tab Byte := Memory.writeAll (wave.filter (fun (e : Nat × Byte) => decide (e.1 < len))) []
        let d : SnapDone := ⟨start, s.timeValid, c.streams, c.ms⟩
        let s := (s.mapGns (fun g => { g with cap := none, capEnd := some d, buf := buf })).mapMem (fun m => { m with banks := cleanse 0 len m.banks })
        s.completeOk c.sess c.acc (le 8 start ++ le 4 len ++ le 1 c.streams ++ le 1 c.ms ++ le 2 (b2n s.timeValid))

/-- SNAPSHOT_SOLVE_DONE (R133): the solver's values are operands; no L1-band stream gives RESULT 04h, and no stored ephemeris
02h. A job that a halted core holds does not end (R63). -/
def snapshotSolveDone (result sats time : Nat) (xyz : Int × Int × Int) (tSig pSig : Nat) (s : State) : State :=
  if s.jobStuck 6 0 then s
  else match s.gns.solve with
  | some (n, a) =>
    let noL1 : Bool := match s.gns.capEnd with | some d => !bit d.streams 0 && !bit d.streams 2 | none => false
    let r := if noL1 then 4 else if s.gns.eph = [] then 2 else if result ≤ 3 then result else 0
    let s := s.mapGns (fun g => { g with solve := none })
    s.completeOk n a (le 1 r ++ le 1 sats ++ le 2 0 ++ le 8 time ++ leS 8 xyz.1 ++ leS 8 xyz.2.1 ++ leS 8 xyz.2.2 ++
      le 4 tSig ++ le 4 pSig ++ le 4 0)
  | none => s

/-- The buffer's holder is the one whose earlier capture may be read (R104): a capture of the other feature is lost. -/
def snapshotPassed (s : State) : State :=
  match s.cfg.claims.find? (fun k => k.1 == 0x03000000) with
  | some k => if k.2.1.1 = 2 then s.mapSys (fun y => { y with capDone := false }) else s.mapGns (fun g => { g with capEnd := none })
  | none => s

/-- A survey begins with nothing averaged (R135). -/
def startSurvey (who : Option (Nat × Nat)) (s : State) : State :=
  s.mapGns (fun g => { g with survey := some (s.now, who), acc := ⟨0, (0, 0, 0), 0⟩ })

/-- SURVEY_END (R135): done once GNS_SURVEY_S has passed and the mean's deviation is met, failed after four times GNS_SURVEY_S. -/
def surveyEnd (noMean : Int × Int × Int) (noSigma : Nat) (s : State) : State :=
  match s.gns.survey with
  | none => s
  | some (t, who) =>
    let xyz := s.gns.acc.mean noMean
    let sigma := s.gns.acc.sigma noSigma
    let need := s.prm 0x021C * 1000000000
    let met := decide (need ≤ s.now - t) && s.gns.acc.within (s.prm 0x021D)
    let late := decide (4 * need ≤ s.now - t)
    if met = false ∧ late = false then s
    else
      let s := s.mapGns (fun g => { g with
        survey := none, surveyed := if met then some (xyz.1, xyz.2.1, xyz.2.2, sigma) else g.surveyed })
      let s := s.raise0 0x020A .notice (b2n (!met)) 0
      match who with
      | none => s
      | some (n, a) => s.completeOk n a (le 1 (b2n (!met)) ++ zeros 3 ++ leS 8 xyz.1 ++ leS 8 xyz.2.1 ++ leS 8 xyz.2.2 ++
          le 4 sigma)

/-- BASELINE_MEASURE_DONE (R136): FAULT when a spoofing alarm was raised during the measurement. -/
def baselineDone (e n u : Int) (sigma : Nat) (b1 b5 : Int) (s : State) : State :=
  match s.gns.baseline with
  | none => s
  | some (t, sess, acc, alarmed) =>
    if s.now < t ∨ s.jobStuck 6 0 then s
    else
      let s := s.mapGns (fun g => { g with baseline := none })
      if alarmed then s.complete sess acc (Ans.bare stFault 0)
      else s.completeOk sess acc (leS 4 e ++ leS 4 n ++ leS 4 u ++ le 4 sigma ++ leS 2 b1 ++ leS 2 b5)

/-! ### Opcodes (R137) -/

/-- The body of GNS_STATUS_READ (R137). -/
def gnsStatus (s : State) : Bytes :=
  let p := s.basePos.getD (0, 0, 0)
  let sg := if s.posState = 2 then (s.gns.surveyed.map (fun r => r.2.2.2)).getD 0 else 0
  let milli (b : Option Int) : Bytes := leS 2 ((b.getD 0) / 1000000)
  let ex := (s.gns.integ.filter (fun e => s.excludedSig e.1)).length
  le 1 s.posState ++ le 1 (s.antCode 0) ++ le 1 (s.antCode 1) ++
    le 1 (if s.dirRunnable = 3 then (if s.gns.calib < 16 then 2 else 3) else s.dirRunnable) ++
    le 2 s.gns.chans.length ++ le 2 ex ++ leS 8 p.1 ++ leS 8 p.2.1 ++ leS 8 p.2.2 ++ le 4 sg ++
    milli s.gns.beta.1 ++ milli s.gns.beta.2 ++ le 4 s.gns.dropped ++ le 4 0

/-- GNS_STATUS_READ (R137). -/
def runGnsStatusRead (c : Cmd) (s : State) : State × CmdRes :=
  if c.params.length ≠ 0 then (s, refuse stBadLength 0) else (s, fin s.gnsStatus)

/-- GNS_MEAS_READ (R137). -/
def runGnsMeasRead (c : Cmd) (s : State) : State × CmdRes :=
  let b := c.params
  if b.length ≠ 12 then (s, refuse stBadLength 0)
  else if 192 ≤ u16 b 8 then (s, refuse stBadParam 0)
  else if u16 b 10 = 0 ∨ 127 ≤ u16 b 10 then (s, refuse stBadParam 0)
  else
    let m := if u64 b 0 = 0 then s.gns.sets.head? else (s.gns.sets.take 2).find? (fun m => m.epoch == u64 b 0)
    match m with
    | none => (s, refuse 0x0242 0)
    | some m => (s, fin (setHeader m ++ ((m.recs.drop (u16 b 8)).take (u16 b 10)).flatMap recBytesOf))

/-- The two antennas' keys that GNS_EXCLUDE and GNS_READMIT name. -/
def namedKeys (b : Bytes) : List Nat := [sigKey 0 (u8 b 0) (u8 b 1) (u8 b 2), sigKey 1 (u8 b 0) (u8 b 1) (u8 b 2)]

/-- GNS_EXCLUDE (R137, R127): INTEG bit 6 on both antennas. -/
def runGnsExclude (c : Cmd) (s : State) : State × CmdRes :=
  let b := c.params
  if b.length ≠ 4 then (s, refuse stBadLength 0)
  else if sigOk (u8 b 0) (u8 b 1) (u8 b 2) = false ∨ u8 b 3 ≠ 0 then (s, refuse stBadParam 0)
  else
    let fresh := (namedKeys b).filter (fun k => !suspectSig s.gns.integ k)
    let s := s.mapGns (fun g => { g with integ := (namedKeys b).foldl (fun t k => flagSig 64 k t) g.integ })
    (raiseExcluded fresh s, fin [])

/-- GNS_READMIT (R128). -/
def runGnsReadmit (c : Cmd) (s : State) : State × CmdRes :=
  let b := c.params
  if b.length ≠ 4 then (s, refuse stBadLength 0)
  else if sigOk (u8 b 0) (u8 b 1) (u8 b 2) = false ∨ u8 b 3 ≠ 0 then (s, refuse stBadParam 0)
  else ((namedKeys b).foldl (fun s k => s.readmit 1 k) s, fin [])

/-- GNS_SNAP_START (R130): FAULT with a snapshot bank out of service (R429). Within check 14 of R78 the buffer's claim is tested before
the fields (DESIGN CHOICE, assumption 143). -/
def runGnsSnapStart (c : Cmd) (s : State) : State × CmdRes :=
  let b := c.params
  if b.length ≠ 12 then (s, refuse stBadLength 0)
  else if s.prm 0x0220 ≠ 1 then (s, refuse stDenied 0)
  else if u8 b 0 = 0 ∨ 16 ≤ u8 b 0 ∨ u16 b 2 ≠ 0 then (s, refuse stBadParam 0)
  else if u8 b 1 = 0 ∨ 33 ≤ u8 b 1 then (s, refuse stBadParam 0)
  else if s.gns.cap.isSome then (s, refuse 0x0241 0)
  else if s.snapshotLost then (s, .fin (Ans.bare stFault 0))
  else
    let st := u64 b 4
    let cap (t : Option Nat) : SnapCap := ⟨u8 b 0, u8 b 1, t, c.sess, c.acc⟩
    if st = 0 then (s.mapGns (fun g => { g with cap := some (cap none) }), .later)
    else if s.timeValid = false then (s, refuse stDenied 0)
    else if st < s.clk.count + 20000000 ∨ s.clk.count + 60000000000 < st then (s, refuse stBadParam 2)
    else (s.mapGns (fun g => { g with cap := some (cap (some (s.now + (st - s.clk.count)))) }), .later)

/-- At a tick boundary, a capture whose START is 0 starts (R130). -/
def snapTick (s : State) : State :=
  s.mapGns (fun g => { g with cap := g.cap.map (fun c => if c.start = none then { c with start := some s.now } else c) })

/-- A capture runs: its first sample has been taken (R132). -/
def captureRuns (s : State) : Bool :=
  match s.gns.cap with
  | some k => (match k.start with | some t => decide (t ≤ s.now) | none => false)
  | none => false

/-- GNS_SNAP_READ (R132): FAULT where a word it would return is poisoned (R425). -/
def runGnsSnapRead (c : Cmd) (s : State) : State × CmdRes :=
  let b := c.params
  if b.length ≠ 6 then (s, refuse stBadLength 0)
  else
    let off := u32 b 0
    let len := u16 b 4
    if off % 16 ≠ 0 ∨ len % 16 ≠ 0 ∨ len < 16 ∨ 4064 < len then (s, refuse stBadParam 0)
    else
      if s.captureRuns then (s, refuse 0x0241 0)
      else match s.gns.capEnd with
      | none => (s, refuse 0x0243 0)
      | some d =>
        if snapBytes d.streams d.ms < off + len then (s, refuse stBadParam 0)
        else if s.poisonedIn off (off + len) then (s, .fin (Ans.bare stFault 0))
        else (s, fin (Memory.bytes s.gns.buf off len))

/-- GNS_SNAP_SOLVE (R133): FAULT with a snapshot bank out of service (R429). A capture that is only pending leaves the last one to be
solved. While a capture or another solve runs, the answer is SNAPSHOT_BUSY (DESIGN CHOICE, assumption 162). -/
def runGnsSnapSolve (c : Cmd) (s : State) : State × CmdRes :=
  if c.params.length ≠ 0 then (s, refuse stBadLength 0)
  else if s.captureRuns ∨ s.gns.solve.isSome then (s, refuse 0x0241 0)
  else if s.snapshotLost then (s, .fin (Ans.bare stFault 0))
  else if s.gns.capEnd = none then (s, refuse 0x0243 0)
  else (s.mapGns (fun g => { g with solve := some (c.sess, c.acc) }), .later)

/-- GNS_SURVEY_START (R135): a survey that already runs is taken over by the newer command. A stored result stays in use until the
new one replaces it (R134). -/
def runGnsSurveyStart (c : Cmd) (s : State) : State × CmdRes :=
  if c.params.length ≠ 0 then (s, refuse stBadLength 0)
  else if s.prm 0x0218 = 0 then (s, refuse stDenied 0)
  else
    let s := match s.gns.survey with
      | some (_, some (n, a)) => s.complete n a (Ans.bare stFault 0)
      | _ => s
    (s.startSurvey (some (c.sess, c.acc)), .later)

/-- GNS_BASELINE_MEASURE (R136). DENIED answers a second one while one runs, and one without a valid base position (DESIGN CHOICE,
assumption 161). -/
def runGnsBaselineMeasure (c : Cmd) (s : State) : State × CmdRes :=
  let b := c.params
  if b.length ≠ 4 then (s, refuse stBadLength 0)
  else if u32 b 0 < 30 ∨ 3600 < u32 b 0 then (s, refuse stBadParam 0)
  else if s.basePos = none ∨ s.gns.alarm ≠ [] ∨ s.gns.baseline.isSome then (s, refuse stDenied 0)
  else (s.mapGns (fun g => { g with baseline := some (s.now + u32 b 0 * 1000000000, c.sess, c.acc, false) }), .later)

end State

end Sys2Proof.Machine
end

