-- ==== Sys2Proof/Machine/Air.lean ====
section
/-! DEFINITION. PHY tables, regulatory domains, hopping, the beacon, and the slot map with its placement
(R191 to R207, R212). -/

namespace Sys2Proof.Machine

/-- The largest PSDU of an MCS in one slot (R192). -/
def phyL (option mcs : Nat) : Nat :=
  if option = 1 then [16, 33, 66, 132].getD mcs 0 else [8, 16, 33, 49, 66, 99].getD mcs 0

/-- The required SNR of an MCS (R192). -/
def phySnr (option mcs : Nat) : Int :=
  if option = 1 then [2, 5, 9, 15].getD mcs 99 else [1, 3, 6, 9, 12, 16].getD mcs 99

/-- The gross rate of an MCS in kb/s (R192). -/
def phyKbps (option mcs : Nat) : Nat :=
  if option = 1 then [100, 200, 400, 800].getD mcs 100 else [50, 100, 200, 300, 400, 600].getD mcs 50

/-- How many MCS an option has (R192). -/
def phyCount (option : Nat) : Nat := if option = 1 then 4 else 6

/-- The largest conducted power of a domain in dBm (R194). -/
def domainPower (d : Nat) : Int := if d = 1 then 20 else if d = 2 then 14 else if d = 3 then 13 else 20

/-- The duty-cycle factor d of a domain, in tenths (R194, R45). -/
def domainDuty10 (d : Nat) : Nat := if d = 2 ∨ d = 3 then 1 else 10

/-- F0 and spacing of a plan in kHz, and its channel count (R195). -/
def channelPlan (domain option : Nat) : Nat × Nat × Nat :=
  match domain, option with
  | 1, 1 => (903200, 1200, 20) | 1, _ => (902800, 800, 31)
  | 2, 1 => (863600, 1200, 5) | 2, _ => (863400, 800, 8)
  | 3, 1 => (920800, 1200, 6) | 3, _ => (920600, 800, 9)
  | _, _ => (0, 0, 0)

/-- The centre of a plan's channel in kHz (R195, R202). -/
def channelKhz (domain option k : Nat) : Nat :=
  let p := channelPlan domain option
  p.1 + k * p.2.1

/-- The hop list: admitted channels in ascending order (R196). -/
def hopList (domain option mask : Nat) : List Nat :=
  (List.range (channelPlan domain option).2.2).filter (fun k => bit mask k)

/-- The channel of chain `c` in the slot with ASN `a` (R202). -/
def hopChannel (list : List Nat) (offset stride a c : Nat) : Nat :=
  let n := list.length
  if n = 0 then 0 else
  let pos := (a + offset + c * (n / 4)) % n
  list.getD ((pos * stride) % n) 0

/-- R196's test of a hop list and stride. -/
def hopOk (list : List Nat) (stride : Nat) : Bool :=
  let n := list.length
  decide (4 ≤ n) && decide (1 ≤ stride ∧ stride ≤ n - 1) && Nat.gcd stride n == 1

/-! ### The configuration as admission and placement see it (R41 to R49, R204) -/

/-- One robot of a site. -/
structure SiteRobot where
  idx : Nat
  chain : Nat
  legacy : Bool
  /-- Fix rate in Hz when base-solved, 0 when self-solving; a pending change counts as made (R48). -/
  rate : Nat
  /-- It takes the broadcast corrections until the instant of a pending change (R143). -/
  selfNow : Bool
  deriving DecidableEq, Repr

/-- What prices and places a configuration. -/
structure Site where
  slots : Nat
  /-- GNS_EPOCH_RATE. -/
  rateG : Nat
  pair : Bool
  robots : List SiteRobot
  hurdles : Nat
  paddocks : Nat
  lanes : Nat
  roundTasks : Nat
  ptPer : Nat
  plans : Nat
  margin : Nat
  domain : Nat
  /-- AIR_CHAINS. -/
  chains : Nat
  /-- Chains out of service. -/
  chainsBad : List Nat
  /-- Solver engines in service. -/
  engines : Nat
  /-- Working banks out of service (R429), and cores halted by the watchdog (R63). -/
  workingLost : Nat
  coresLost : Nat
  legacyChain : Nat
  /-- The COR slots that robots with a pending mode change keep until its instant (R143; assumption 129). -/
  held : List SlotItem
  deriving DecidableEq, Repr

/-- One priced line (R41, R53). -/
structure Line where
  code : Nat
  demand : Nat
  cap : Nat
  /-- The capacity is reduced by a fault (R51). -/
  short : Bool
  disabled : Bool
  deriving DecidableEq, Repr

namespace Site

/-- T in µs. -/
def tUs (z : Site) : Nat := z.slots * 1250

/-- F of the cost model: the fix rates of all base-solved robots. -/
def sumRate (z : Site) : Nat := (z.robots.map (fun r => r.rate)).sum

/-- ceil(F × T / 1,000,000) (R41, R43). -/
def fixesPerTick (z : Site) : Nat := ceilDiv (z.sumRate * z.tUs) 1000000

/-- Applies SYS_BUDGET_MARGIN to the capacity `num / den`, which is rounded down once, with the margin in it (R46). -/
def margined (z : Site) (num : Nat) (den : Nat := 1) : Nat := num * (100 - z.margin) / (100 * den)

/-- The robots of a chain. -/
def on (z : Site) (c : Nat) : List SiteRobot := z.robots.filter (fun r => r.chain == c)

/-- Whether a chain runs: enabled and in service (R191). -/
def runs (z : Site) (c : Nat) : Bool := bit z.chains c && !z.chainsBad.contains c

/-- A value in T_ms (T in ms) times `k`, rounded up: k × T_µs / 1000. -/
def perMs (z : Site) (k : Nat) : Nat := ceilDiv (k * z.tUs) 1000

/-- The correction broadcast term of a chain (R44). -/
def broadcastTerm (z : Site) (c : Nat) : Nat :=
  if (z.on c).any (fun r => !r.legacy && r.rate == 0) then z.perMs (20 * z.rateG * (if z.pair then 2 else 1)) else 0

/-- The slot demand of a chain (R44). -/
def airDemand (z : Site) (c : Nat) : Nat :=
  ((z.on c).map (fun r =>
    if r.legacy then z.perMs 800
    else 2000 + (if z.pair then 1000 else 0) + (if r.rate = 0 then 0 else z.perMs (10 * r.rate)))).sum + z.broadcastTerm c

/-- The downlink demand of a chain (R45). -/
def downDemand (z : Site) (c : Nat) : Nat :=
  10000 + ((z.on c).map (fun r =>
    if r.legacy then ceilDiv (z.perMs 800) 2 else 1000 + (if z.pair then 1000 else 0))).sum + z.broadcastTerm c

/-- The slot capacity of a chain before the margin (R41). -/
def airCap (z : Site) (c : Nat) : Nat := if bit z.chains c then 1000 * (10 * (z.slots - 1) - 1) else 0

/-- The downlink capacity of a chain before the margin (R45). -/
def downCap (z : Site) (c : Nat) : Nat :=
  if bit z.chains c then 1000 * (domainDuty10 z.domain * 10 * z.slots / 10) else 0

/-- The AIR line of a chain: of the two checks the one with the higher ratio (R45), the slot check where they are equal
(assumption 131). -/
def airLine (z : Site) (c : Nat) : Line :=
  let lost := z.chainsBad.contains c
  if bit z.chains c = false then { code := 6 + c, demand := z.airDemand c, cap := 0, short := false, disabled := true }
  else
    let a := z.airDemand c
    let b := z.downDemand c
    let ca := if lost then 0 else z.margined (z.airCap c)
    let cb := if lost then 0 else z.margined (z.downCap c)
    if a * cb ≥ b * ca ∧ ¬ (ca ≥ a ∧ cb < b) then { code := 6 + c, demand := a, cap := ca, short := lost, disabled := false }
    else { code := 6 + c, demand := b, cap := cb, short := lost, disabled := false }

/-- The nine lines in order of code (R41). CORE loses the halted cores' time and a twenty-fourth for each working bank
out of service (R63, R429). -/
def lines (z : Site) : List Line :=
  let n := z.robots.length
  [ { code := 1, demand := 1200 + 2100 * z.fixesPerTick, cap := z.margined (z.engines * (3 * z.tUs)) 4,
      short := decide (z.engines < 4), disabled := false },
    { code := 2, demand := z.sumRate, cap := z.margined 1280, short := false, disabled := false },
    { code := 3, demand := z.ptPer * n + 32 * z.hurdles + 8 * z.paddocks, cap := z.margined (32 * 85 * z.tUs) 100,
      short := false, disabled := false },
    { code := 4, demand := z.roundTasks * n, cap := z.margined (50 * z.tUs), short := false, disabled := false },
    { code := 5, demand := 6 * n + z.plans * (40 + ceilDiv z.lanes 512) + 2 * z.roundTasks + ceilDiv n 2,
      cap := z.margined ((6 - min 6 z.coresLost) * (8 * z.tUs) * (24 - min 24 z.workingLost)) 240,
      short := decide (0 < z.workingLost ∨ 0 < z.coresLost), disabled := false },
    z.airLine 0, z.airLine 1, z.airLine 2, z.airLine 3 ]

/-- The chain with the most remaining capacity on its air line among those that meet a test, the lower letter at a tie (R49). -/
def bestOf (z : Site) (ok : Nat → Bool) : Option Nat :=
  let cs := (List.range 4).filter ok
  cs.foldl (fun best c =>
    let rem (k : Nat) : Int := ((z.airLine k).cap : Int) - ((z.airLine k).demand : Int)
    match best with
    | none => some c
    | some b => if rem b < rem c then some c else some b) none

/-- R49's chain among those enabled and in service. -/
def bestChain (z : Site) : Option Nat := z.bestOf z.runs

/-- The chain on which a native registration is priced: R49's, or with none in service the enabled chain that would have been chosen.
With no chain enabled it is chain A, whose line has no capacity (assumption 130). -/
def pricedChain (z : Site) : Nat :=
  match z.bestChain with
  | some c => c
  | none => (z.bestOf (fun c => bit z.chains c)).getD 0

/-- Whether a line is over capacity. -/
def overLine (l : Line) : Bool := decide (l.cap < l.demand)

/-- The lowest-numbered line that refuses the change from `before` to `z` (R48): over capacity, unless it stands over capacity in
`now` because a fault has taken capacity from it, and its demand does not rise. -/
def refusedBy (now before z : Site) : Option Nat :=
  ((List.zip now.lines (List.zip before.lines z.lines)).find? (fun p =>
    overLine p.2.2 && !(p.1.short && overLine p.1 && decide (p.2.2.demand ≤ p.2.1.demand)))).map (fun p => p.2.2.code)

end Site

/-! ### Placement (R204) -/

/-- Ticks after which an item of period 1/f repeats: lcm(800 / f slots, S) / S. -/
def ratePeriod (slots f : Nat) : Nat := if f = 0 ∨ slots = 0 then 1 else Nat.lcm (800 / f) slots / slots

/-- Two items of one chain and slot meet in some tick when their offsets agree modulo the common divisor of their
periods. -/
def itemsMeet (p1 o1 p2 o2 : Nat) : Bool :=
  let g := Nat.gcd p1 p2
  if g = 0 then true else o1 % g == o2 % g

/-- Whether slot `slot` of chain `c` is free for an item of period `p` and offset `o` in every repetition. -/
def slotFree (items : List SlotItem) (c p o slot : Nat) : Bool :=
  !items.any (fun i => i.chain == c && i.slot == slot && itemsMeet i.period i.offset p o)

/-- The first free slot at or after `from0` below S. -/
def firstSlot (items : List SlotItem) (c p o from0 slots : Nat) : Option Nat :=
  (List.range slots).find? (fun k => decide (from0 ≤ k) && slotFree items c p o k)

/-- Two consecutive free slots. -/
def firstTwo (items : List SlotItem) (c p o slots : Nat) : Option Nat :=
  (List.range (slots - 1)).find? (fun k => slotFree items c p o k && slotFree items c p o (k + 1))

/-- The first of a list of tick offsets at which `f` finds a slot. -/
def firstOffset {β : Type} (f : Nat → Option β) : List Nat → Option (Nat × β)
  | [] => none
  | o :: t => match f o with
    | some b => some (o, b)
    | none => firstOffset f t

/-- The most COR items in one tick among the ticks of offset `o` and period `p` (R43, R204 order 5). -/
def corsAt (items : List SlotItem) (p o : Nat) : Nat :=
  let cors := items.filter (fun i => i.typ == .cor && itemsMeet i.period i.offset p o)
  let cycle := cors.foldl (fun n i => Nat.lcm n (max 1 i.period)) (max 1 p)
  ((List.range (cycle / max 1 p)).map (fun j =>
    (cors.filter (fun i => decide (i.period ≠ 0) && (o + p * j) % i.period == i.offset)).length)).foldl max 0

/-- A failure of placement: the chain and the R204 order of the item (R205). -/
abbrev PlaceErr := Nat × Nat

/-- Places the legacy member `r`: two consecutive downlink slots, then two consecutive uplink slots in each 50 ms. -/
def placeLegacy (slots : Nat) (items : List SlotItem) (r : SiteRobot) : Except PlaceErr (List SlotItem) :=
  let p := 40 / slots
  let two (its : List SlotItem) (part : Nat) : Option (List SlotItem) :=
    (firstOffset (fun o => firstTwo its r.chain p o slots) (List.range p)).map (fun x =>
      its ++ [⟨r.chain, .legacy, some r.idx, part, p, x.1, x.2⟩, ⟨r.chain, .legacy, some r.idx, part + 1, p, x.1, x.2 + 1⟩])
  match two items 0 with
  | none => .error (r.chain, 3)
  | some its => match two its 2 with
    | none => .error (r.chain, 3)
    | some its => .ok its

/-- Places the broadcast parts of a chain and their echoes in the tick after the epoch's tick. -/
def placeBroadcast (z : Site) (items : List SlotItem) (c : Nat) : Except PlaceErr (List SlotItem) :=
  let p := ratePeriod z.slots z.rateG
  let o := 1 % p
  let put (its : List SlotItem) (typ : SlotType) (part from0 : Nat) : Option (List SlotItem × Nat) :=
    (firstSlot its c p o from0 z.slots).map (fun k => (its ++ [⟨c, typ, none, part, p, o, k⟩], k))
  let part (its : List SlotItem) (n : Nat) : Option (List SlotItem) :=
    match put its .broadcast n 0 with
    | none => none
    | some (its, k) => if z.pair then (put its .echo n (k + 1)).map Prod.fst else some its
  match part items 0 with
  | none => .error (c, 4)
  | some its => match part its 1 with
    | none => .error (c, 4)
    | some its => .ok its

/-- Places the COR item of a base-solved robot: offsets in ascending number of CORs placed, then ascending (R204, R43). -/
def placeCor (z : Site) (items : List SlotItem) (r : SiteRobot) : Except PlaceErr (List SlotItem) :=
  let p := ratePeriod z.slots r.rate
  let offs := sortBy (fun a b => decide (corsAt items p a < corsAt items p b ∨
    (corsAt items p a = corsAt items p b ∧ a ≤ b))) (List.range p)
  let offs := offs.filter (fun o => decide (corsAt items p o + 1 ≤ z.fixesPerTick))
  match firstOffset (fun o => firstSlot items r.chain p o 0 z.slots) offs with
  | some (o, k) => .ok (items ++ [⟨r.chain, .cor, some r.idx, 0, p, o, k⟩])
  | none => .error (r.chain, 5)

/-- Places a native robot's downlink, with its echo in a pair. -/
def placeDown (z : Site) (items : List SlotItem) (r : SiteRobot) : Except PlaceErr (List SlotItem) :=
  let try1 (o : Nat) : Option (Nat × Option Nat) :=
    match firstSlot items r.chain 10 o 0 z.slots with
    | none => none
    | some k => if z.pair then (firstSlot items r.chain 10 o (k + 1) z.slots).map (fun e => (k, some e)) else some (k, none)
  match firstOffset try1 (List.range 10) with
  | none => .error (r.chain, 6)
  | some (o, k, e) =>
    .ok (items ++ [⟨r.chain, .downlink, some r.idx, 0, 10, o, k⟩] ++
      (match e with | some e => [⟨r.chain, .echo, some r.idx, 0, 10, o, e⟩] | none => []))

/-- Places a native robot's uplink, from tick (index mod 10) ascending and wrapping. -/
def placeUp (z : Site) (items : List SlotItem) (r : SiteRobot) : Except PlaceErr (List SlotItem) :=
  let offs := (List.range 10).map (fun i => (r.idx + i) % 10)
  match firstOffset (fun o => firstSlot items r.chain 10 o 0 z.slots) offs with
  | some (o, k) => .ok (items ++ [⟨r.chain, .uplink, some r.idx, 0, 10, o, k⟩])
  | none => .error (r.chain, 7)

/-- Folds a placement over a list. -/
def placeAll {β : Type} (f : List SlotItem → β → Except PlaceErr (List SlotItem)) (bs : List β) (items : List SlotItem) :
    Except PlaceErr (List SlotItem) :=
  bs.foldl (fun acc b => match acc with | .ok its => f its b | .error e => .error e) (.ok items)

/-- Every item of one chain, in R204's order. -/
def placeChain (z : Site) (items : List SlotItem) (c : Nat) : Except PlaceErr (List SlotItem) :=
  let rs := sortBy (fun a b => decide (a.idx ≤ b.idx)) (z.on c)
  let native := rs.filter (fun r => !r.legacy)
  let its := items ++ [⟨c, .beacon, none, 0, 1, 0, 0⟩, ⟨c, .rejoin, none, 0, 10, 9, z.slots - 1⟩]
  do
    let its ← placeAll (placeLegacy z.slots) (rs.filter (fun r => r.legacy)) its
    let its ← if native.any (fun r => r.rate == 0 || r.selfNow) then placeBroadcast z its c else .ok its
    let its ← placeAll (placeCor z) (native.filter (fun r => r.rate != 0)) its
    let its ← placeAll (placeDown z) native its
    placeAll (placeUp z) native its

/-- The map of a configuration, chain by chain (R204, R205). -/
def placeItems (z : Site) : Except PlaceErr (List SlotItem) :=
  placeAll (placeChain z) ((List.range 4).filter (fun c => bit z.chains c))
    (z.held.filter (fun i => z.robots.any (fun r => some r.idx == i.robot && r.chain == i.chain)))

/-- A robot's positions in a list of items: the COR position is the one placed last, which a pending change asks for. -/
def posOf (items : List SlotItem) (r : SiteRobot) : Option Pos :=
  let find (t : SlotType) := items.find? (fun i => i.typ == t && i.robot == some r.idx)
  let cor := if r.rate = 0 then none else (items.filter (fun i => i.typ == .cor && i.robot == some r.idx)).getLast?
  match find .downlink, find .uplink with
  | some d, some u =>
    some ⟨r.chain, u.offset, u.slot, d.offset, d.slot, (find .echo).map (fun i => i.slot),
      cor.map (fun i => i.offset), (cor.map (fun i => i.slot)).getD 0⟩
  | _, _ => none

/-- The whole map with every native robot's positions (R205). -/
def placeMap (z : Site) : Except PlaceErr SlotMap :=
  match placeItems z with
  | .error e => .error e
  | .ok items =>
    let add (t : Tab Pos) (r : SiteRobot) : Tab Pos :=
      match posOf items r with
      | some p => Tab.put r.idx p t
      | none => t
    .ok ⟨items, z.robots.foldl add []⟩

/-! ### The beacon (R199, R200) -/

/-- Bytes 7 to 14 of the beacon: ASN_LO, STOP, INFO, ANN. -/
def beaconBytes (asn stop tickIdx : Nat) (pair ccs change : Bool) (pendSlots remain slots domain rateG : Nat) : Bytes :=
  let ann := match tickIdx with
    | 0 => asn / 2 ^ 32 % 256
    | 1 => pendSlots
    | 2 => remain % 256
    | 3 => remain / 256 % 256
    | 4 => slots
    | 5 => domain
    | 6 => rateG
    | _ => 0
  le 4 (asn % 2 ^ 32) ++ le 2 stop ++ le 1 (tickIdx * 16 + 8 * b2n pair + 4 * b2n ccs + 2 * b2n change) ++ le 1 ann

/-- The aligned ASN at an instant of pasture time (R198). -/
def alignedAsn (ns : Nat) : Nat := ns / 1250000 % 2 ^ 40

end Sys2Proof.Machine
end

