-- ==== Sys2Proof/Machine/Roadmap.lean ====
section
/-! DEFINITION. Elements queued for a robot, reservation time, the roadmap's records, lane and paddock geometry, the site
frame's extent, robot classes and the planner (R230, R231, R247 to R259, R267). Places on a line
are compared exactly (assumption 21). -/

namespace Sys2Proof.Machine

/-! ### Elements (R229 to R231) -/

/-- Splits bytes of an element's value into SEG elements of at most `n` data bytes; `first` and `last`: they begin and end the value. -/
def segParts (inner n : Nat) (last : Bool) : Nat → Bool → Bytes → List Bytes
  | 0, _, _ => []
  | fuel + 1, first, v =>
    let fin := decide (v.length ≤ n)
    let part := v.take n
    ([0xFE] ++ le 1 (part.length + 2) ++ le 1 inner ++ le 1 (b2n first + 2 * b2n (fin && last)) ++ part) ::
      (if fin then [] else segParts inner n last fuel false (v.drop n))

/-- An element, or the SEG elements that carry it, for parcels of `mx` bytes of content (R230, R231). -/
def encodeElem (mx typ : Nat) (v : Bytes) : List Bytes :=
  if v.length + 2 ≤ mx ∧ v.length ≤ 255 then [le 1 typ ++ le 1 v.length ++ v]
  else segParts typ (min (mx - 4) 253) true 1024 true v

/-- A queued element as it fits parcels of `mx` bytes of content now: AIR_MCS_MIN may have fallen since it was queued (R231). -/
def refitElem (mx : Nat) (e : Bytes) : List Bytes :=
  if e.length ≤ mx then [e]
  else if u8 e 0 = 0xFE then segParts (u8 e 2) (mx - 4) (bit (u8 e 3) 1) 1024 (bit (u8 e 3) 0) (e.drop 4)
  else encodeElem mx (u8 e 0) (e.drop 2)

/-! ### Geometry in whole numbers -/

/-- The square root rounded up. -/
def ceilSqrt (n : Nat) : Nat := if Nat.sqrt n * Nat.sqrt n = n then Nat.sqrt n else Nat.sqrt n + 1

namespace Geo

def dx (g : Geo) : Int := g.x2 - g.x1
def dy (g : Geo) : Int := g.y2 - g.y1

/-- The squared length in mm². -/
def len2 (g : Geo) : Nat := (g.dx * g.dx + g.dy * g.dy).toNat

/-- The length rounded to the nearest mm (R251). -/
def len (g : Geo) : Nat := (Nat.sqrt (4 * g.len2) + 1) / 2

/-- Cross product of two directions. -/
def cross (g h : Geo) : Int := g.dx * h.dy - g.dy * h.dx

/-- Dot product of two directions. -/
def dot (g h : Geo) : Int := g.dx * h.dx + g.dy * h.dy

/-- Cross and dot products of a line's direction with a point as seen from the line's start. -/
def crossPt (g : Geo) (x y : Int) : Int := g.dx * (y - g.y1) - g.dy * (x - g.x1)
def dotPt (g : Geo) (x y : Int) : Int := g.dx * (x - g.x1) + g.dy * (y - g.y1)

/-- The squared distance of a point from a segment is less than `d`². -/
def near (g : Geo) (d : Int) (x y : Int) : Bool :=
  let t := g.dotPt x y
  let l : Int := g.len2
  if l = 0 ∨ t ≤ 0 then decide ((x - g.x1) ^ 2 + (y - g.y1) ^ 2 < d ^ 2)
  else if l ≤ t then decide ((x - g.x2) ^ 2 + (y - g.y2) ^ 2 < d ^ 2)
  else decide ((g.crossPt x y) ^ 2 < d ^ 2 * l)

/-- Whether two segments cross. -/
def crosses (g h : Geo) : Bool :=
  let a := g.crossPt h.x1 h.y1
  let b := g.crossPt h.x2 h.y2
  let c := h.crossPt g.x1 g.y1
  let e := h.crossPt g.x2 g.y2
  decide ((a < 0 ∧ 0 < b) ∨ (b < 0 ∧ 0 < a)) && decide ((c < 0 ∧ 0 < e) ∨ (e < 0 ∧ 0 < c))

/-- A point lies on a segment, its ends included. -/
def holds (g : Geo) (x y : Int) : Bool :=
  g.crossPt x y == 0 && decide (0 ≤ g.dotPt x y ∧ g.dotPt x y ≤ g.len2 ∧ (x - g.x1) ^ 2 + (y - g.y1) ^ 2 ≤ g.len2)

/-- Two segments have a point in common. -/
def touches (g h : Geo) : Bool :=
  g.crosses h || g.holds h.x1 h.y1 || g.holds h.x2 h.y2 || h.holds g.x1 g.y1 || h.holds g.x2 g.y2

/-- Two segments lie closer than `d` mm (R263, static form). -/
def closer (g h : Geo) (d : Nat) : Bool :=
  g.crosses h || g.near d h.x1 h.y1 || g.near d h.x2 h.y2 || h.near d g.x1 g.y1 || h.near d g.x2 g.y2

end Geo

/-! ### Places on a line, compared exactly (assumption 21) -/

/-- The sign of a number. -/
def sgn (q : Rat) : Int := if q < 0 then -1 else if q = 0 then 0 else 1

/-- The square with the number's own sign: it keeps the order of numbers. -/
def sgnSq (q : Rat) : Rat := q * |q|

/-- The sign of a + √b + √c, where the root of a number below 0 stands for the root of its absolute value with a minus. -/
def sgn3 (a b c : Rat) : Int :=
  let t := sgn (b + c)
  if a = 0 ∨ sgn a = t then t
  else if t = 0 then sgn a
  else sgn a * sgn (sgnSq (a * a - |b| - |c|) - 4 * b * c)

/-- A place on a line of length L: (a + √b) / L mm from its start, a root as in `sgn3`. -/
structure Edge where
  a : Rat
  b : Rat

namespace Edge

/-- The place `x` mm from the start of a line of squared length `m`. -/
def at_ (m : Nat) (x : Rat) : Edge := ⟨0, sgnSq x * m⟩

/-- The sign of the way from a place `f` to a place `e`. -/
def cmp (e f : Edge) : Int := sgn3 (e.a - f.a) e.b (-f.b)

/-- The sign of a place less `x` mm. -/
def less (m : Nat) (e : Edge) (x : Rat) : Int := e.cmp (at_ m x)

/-- The nearer and the farther of two places. -/
def min2 (e f : Edge) : Edge := if e.cmp f ≤ 0 then e else f
def max2 (e f : Edge) : Edge := if e.cmp f ≤ 0 then f else e

end Edge

/-- An interval of places on a line. -/
abbrev Zone := Edge × Edge

/-- The interval in which the line lies closer than `d` mm to a point (R263, point form), or at most `d` mm from it. -/
def discZone (closed : Bool) (g : Geo) (d : Nat) (x y : Int) : Option Zone :=
  let n : Int := (d : Int) ^ 2 * g.len2 - (g.crossPt x y) ^ 2
  if g.len2 = 0 ∨ n < 0 ∨ (n = 0 ∧ closed = false) then none
  else some (⟨g.dotPt x y, -n⟩, ⟨g.dotPt x y, n⟩)

/-- Joins two intervals. -/
def joinZone : Option Zone → Option Zone → Option Zone
  | none, b => b
  | a, none => a
  | some a, some b => some (a.1.min2 b.1, a.2.max2 b.2)

/-- What two intervals have in common. -/
def meetZone (a b : Zone) : Option Zone :=
  let lo := a.1.max2 b.1
  let hi := a.2.min2 b.2
  if lo.cmp hi ≤ 0 then some (lo, hi) else none

/-- The places of a line of squared length `m` at which `c0 + c1·α/L` lies from `lo` to `hi`; none inside: nowhere, or everywhere
where `inside`. -/
def slab (m : Nat) (c0 c1 : Int) (lo hi : Edge) (inside : Bool) : Option (Option Zone) :=
  if c1 = 0 then (if inside then some none else none)
  else
    let k : Rat := (m : Rat) / (c1 : Rat)
    let e (l : Edge) : Edge := ⟨(l.a - c0) * k, l.b * sgnSq k⟩
    some (some ((e lo).min2 (e hi), (e lo).max2 (e hi)))

/-- The interval in which the line lies closer than `d` mm to a capsule's axis (R263, point form), or at most `d` mm from it: the discs
about its ends, and the strip beside it. -/
def capsuleZone (closed : Bool) (g : Geo) (d : Nat) (h : Geo) : Option Zone :=
  let ends := joinZone (discZone closed g d h.x1 h.y1) (discZone closed g d h.x2 h.y2)
  let l2 := h.len2
  if l2 = 0 then ends
  else
    let a0 := h.dotPt g.x1 g.y1
    let c0 := h.crossPt g.x1 g.y1
    let w : Rat := d * d * l2
    let along := slab g.len2 a0 (h.dot g) ⟨0, 0⟩ ⟨l2, 0⟩ (decide (0 ≤ a0 ∧ a0 ≤ l2))
    let acr := slab g.len2 c0 (h.cross g) ⟨0, -w⟩ ⟨0, w⟩ (if closed then decide (c0 ^ 2 ≤ d ^ 2 * l2) else decide (c0 ^ 2 < d ^ 2 * l2))
    match along, acr with
    | some (some a), some (some b) =>
      (match meetZone a b with
       | some z => if closed ∨ z.1.cmp z.2 < 0 then joinZone ends (some z) else ends
       | none => ends)
    | some (some a), some none => joinZone ends (some a)
    | some none, some (some b) => joinZone ends (some b)
    | _, _ => ends

/-- The sign of `c0 + c1·α/L` at the place `α` mm along a line. -/
def Geo.sgnAt (g : Geo) (c0 c1 : Int) (al : Rat) : Int := sgn3 c0 (sgnSq (c1 * al) / g.len2) 0

/-- Whether the point `α` mm along a line lies inside a polygon, by crossings. -/
def inPolygon (v : List (Int × Int)) (g : Geo) (al : Rat) : Bool :=
  let below (a : Int × Int) : Bool := decide (0 ≤ g.sgnAt (g.y1 - a.2) g.dy al)
  ((List.zip v (v.rotateLeft 1)).filter (fun e =>
    let (a, b) := e
    (below a != below b) &&
      (let c := g.sgnAt ((b.1 - a.1) * (g.y1 - a.2) - (g.x1 - a.1) * (b.2 - a.2)) ((b.1 - a.1) * g.dy - g.dx * (b.2 - a.2)) al
       if a.2 < b.2 then decide (0 < c) else decide (c < 0)))).length % 2 == 1

/-- The index of the tile that holds the coordinate `c0 + c1·α/L` mm of the place `α` mm along a line (R262). -/
def Geo.tile (g : Geo) (c0 c1 : Int) (al : Rat) : Int :=
  let r : Rat := c1 * al
  let far : Int := (Nat.sqrt (r * r / g.len2).floor.toNat : Nat)
  let i := (c0 + 8192000 + (if r < 0 then -far else far)) / 65536
  let from_ (k : Int) : Bool := decide (0 ≤ g.sgnAt (c0 + 8192000 - 65536 * k) c1 al)
  if from_ (i + 1) then i + 1 else if from_ i then i else i - 1

/-- The square root of a number that is not negative, to 10^-12. -/
def rootRat (q : Rat) : Rat := (Nat.sqrt (q * 10 ^ 24).floor.toNat : Nat) / 10 ^ 12

/-! ### Records (R250, R251, R254 to R256) -/

/-- The extent of the frame (R248). -/
def inExtent (v : Int) : Bool := decide (-8192000 ≤ v ∧ v ≤ 8191999)

/-- A lane record (R251). -/
structure Lane where
  fromN : Nat
  toN : Nat
  classes : Nat
  speedMax : Nat
  border : Bool
  neighbour : Nat

/-- Reads a lane record. -/
def laneOf (b : Bytes) : Lane := ⟨u16 b 0, u16 b 2, u16 b 4, u16 b 6, bit (u8 b 8) 0, u16 b 10⟩

/-- Reads a node record. -/
def nodeOf (b : Bytes) : Node := ⟨i32 b 0, i32 b 4, u8 b 12, 0⟩

/-- A paddock as PAS_PADDOCK_WRITE gives it (R255). -/
structure Paddock where
  nogo : Nat
  cap : Nat
  excl : Nat
  verts : List (Int × Int)

/-- Reads a paddock's parameters; none where it is not defined. -/
def paddockOf (b : Bytes) : Option Paddock :=
  if bit (u8 b 3) 0 then
    some ⟨u16 b 4, u16 b 6, u8 b 8, (List.range (u8 b 2)).map (fun i => (i32 b (12 + 8 * i), i32 b (16 + 8 * i)))⟩
  else none

/-- A paddock's edges as segments. -/
def Paddock.edges (p : Paddock) : List Geo :=
  (List.zip p.verts (p.verts.rotateLeft 1)).map (fun e => ⟨e.1.1, e.1.2, e.2.1, e.2.2⟩)

/-- The paddock interval I of a lane for a footprint (R256): what lies within R of an edge on the span from −k to length + f, and the
span's ends where they lie inside. -/
def padInterval (g : Geo) (sh : Shape) (p : Paddock) : Option Zone :=
  let lo : Rat := -(sh.k : Rat)
  let hi : Rat := (g.len + sh.f : Nat)
  let span : Zone := (Edge.at_ g.len2 lo, Edge.at_ g.len2 hi)
  let edges := p.edges.foldl (fun z e => joinZone z ((capsuleZone true g sh.r e).bind (meetZone span))) none
  let end_ (al : Rat) (e : Edge) : Option Zone := if inPolygon p.verts g al then some (e, e) else none
  joinZone (joinZone edges (end_ lo span.1)) (end_ hi span.2)

/-- PAS_CLASS ranges (R254). -/
def shapeOf (b : Bytes) : Shape := ⟨u16 b 0 + u16 b 6, u16 b 2, u16 b 4, u16 b 6, u16 b 8⟩

/-- L = max(f, k) (R254). -/
def Shape.big (sh : Shape) : Nat := max sh.f sh.k

/-- ρ = 2L + R (R254). -/
def Shape.rho (sh : Shape) : Nat := 2 * sh.big + sh.r

/-- Lexicographic order on lists of lane indices (R267). -/
def lexLt : List Nat → List Nat → Bool
  | _, [] => false
  | [], _ => true
  | a :: s, b :: t => decide (a < b) || (a == b && lexLt s t)

/-- A lane as the planner sees it: index, ends, and travel time. -/
structure PlanLane where
  idx : Nat
  fromN : Nat
  toN : Nat
  time : Rat

/-- One relaxation of the shortest-route search over every lane. -/
def relaxAll (lanes : List PlanLane) (t : Tab (Rat × List Nat)) : Tab (Rat × List Nat) :=
  lanes.foldl (fun t l =>
    match Tab.find? l.fromN t with
    | none => t
    | some (c, path) =>
      let n : Rat × List Nat := (c + l.time, path ++ [l.idx])
      match Tab.find? l.toN t with
      | none => Tab.put l.toN n t
      | some o => if n.1 < o.1 ∨ (n.1 = o.1 ∧ lexLt n.2 o.2) then Tab.put l.toN n t else t) t

/-- Least travel times and routes from a node to every node it reaches (R267, R318). -/
def routesFrom (lanes : List PlanLane) (start : Nat) : Tab (Rat × List Nat) :=
  (List.range lanes.length).foldl (fun t _ => relaxAll lanes t) [(start, (0, []))]

/-- A route through a list of nodes in turn. -/
def routeThrough (lanes : List PlanLane) : Nat → List Nat → Option (List Nat)
  | _, [] => some []
  | start, d :: ds =>
    match Tab.find? d (routesFrom lanes start) with
    | none => none
    | some (_, path) => (routeThrough lanes d ds).map (fun r => path ++ r)

namespace State

/-- Changes the pasture. -/
def mapPas (f : Pas → Pas) (s : State) : State := { s with pas := f s.pas }

/-- Changes the link chapter's state. -/
def mapLnk (f : Lnk → Lnk) (s : State) : State := { s with lnk := f s.lnk }

/-- Changes one registered robot. -/
def mapRobot (r : Nat) (f : Robot → Robot) (s : State) : State :=
  match Tab.find? r s.lnk.robots with
  | some x => s.mapLnk (fun l => { l with robots := Tab.put r (f x) l.robots })
  | none => s

/-- A registered robot. -/
def robot? (s : State) (r : Nat) : Option Robot := Tab.find? r s.lnk.robots

/-- L(AIR_MCS_MIN) − 21: the largest parcel content (R229). -/
def parcelMax (s : State) : Nat := phyL (s.prm 0x0502) (s.prm 0x0508) - 21

/-- Queues a reliable element for a robot (R230, R231). -/
def sendElem (r typ : Nat) (v : Bytes) (s : State) : State :=
  s.mapRobot r (fun x => { x with queue := x.queue ++ encodeElem s.parcelMax typ v })

/-- Queues an unreliable element for a robot's next downlink; it replaces one of the same type. -/
def sendUnrel (r typ : Nat) (v : Bytes) (s : State) : State :=
  s.mapRobot r (fun x => { x with
    unrel := (x.unrel.filter (fun e => u8 e 0 != typ)) ++ [le 1 typ ++ le 1 v.length ++ v] })

/-- A robot's index is registered and it is joined (R218). -/
def joined (s : State) (r : Nat) : Bool :=
  match s.robot? r with
  | some x => x.link == .joined || x.link == .asleep
  | none => false

/-! ### Reservation time (R259) -/

/-- RT of the present slot in ms, unwrapped: floor(ASN × 5 / 4). -/
def rtNow (s : State) : Nat := s.air.asn * 5 / 4

/-- Unwraps a U32 RT to the value nearest to the present RT (R259). -/
def rtNear (s : State) (v : Nat) : Nat :=
  let n := s.rtNow
  let d : Int := toSigned 32 ((v + 4294967296 - n % 4294967296) % 4294967296)
  ((n : Int) + d).toNat

/-- RT in ns of an instant of pasture time, unwrapped: the instant itself mod 2^32 ms, read as nearest to the present RT (R259,
R300). -/
def rtNsOf (s : State) (epoch : Nat) : Nat :=
  let w : Int := 4294967296000000
  let n : Int := (s.rtNow * 1000000 : Nat)
  (n + ((epoch - n + w / 2) % w - w / 2)).toNat

/-! ### The roadmap in effect -/

/-- A node below PAS_NODE_COUNT. -/
def node? (s : State) (i : Nat) : Option Node :=
  if s.prm 0x0605 ≤ i then none else (some (Tab.getD i (zeros 16) s.cfg.eff.nodes)).map nodeOf

/-- A lane below PAS_LANE_COUNT. -/
def lane? (s : State) (i : Nat) : Option Lane :=
  if s.prm 0x0606 ≤ i then none else (Tab.find? i s.cfg.eff.lanes).map laneOf

/-- Whether a node has HOLD (R250). -/
def holdNode (s : State) (i : Nat) : Bool := match s.node? i with | some n => bit n.flags 0 | none => false

/-- A node's point. -/
def nodeGeo (s : State) (i : Nat) : Geo := match s.node? i with | some n => ⟨n.e, n.n, n.e, n.n⟩ | none => ⟨0, 0, 0, 0⟩

/-- A lane's line. -/
def laneGeo (s : State) (l : Lane) : Geo :=
  let a := s.nodeGeo l.fromN
  let b := s.nodeGeo l.toN
  ⟨a.x1, a.y1, b.x1, b.y1⟩

/-- A lane's line by index. -/
def laneGeoI (s : State) (i : Nat) : Geo := match s.lane? i with | some l => s.laneGeo l | none => ⟨0, 0, 0, 0⟩

/-- The defined paddocks with their indices. -/
def paddocks (s : State) : List (Nat × Paddock) := s.cfg.eff.pads.filterMap (fun e => (paddockOf e.2).map (fun p => (e.1, p)))

/-- The class record's shape (R254). -/
def classShape (s : State) (c : Nat) : Shape := shapeOf (s.prmRec 16 (0x0610 + c))

/-- ANT_FWD of a class. -/
def antFwd (s : State) (c : Nat) : Int := i16 (s.prmRec 16 (0x0610 + c)) 10

/-- A PRF_CLASS record (R293). -/
def prfClass (s : State) (c : Nat) : Bytes := s.prmRec 32 (0x0700 + c)

/-- Whether a hurdle meets a lane for a class (R267). -/
def hurdleMeets (s : State) (c : Nat) (g : Geo) (h : Hurdle) : Bool :=
  let sh := s.classShape c
  match capsuleZone false g (sh.r + h.radius) h.geo with
  | none => false
  | some z => decide (z.1.less g.len2 (g.len + sh.f : Nat) < 0 ∧ 0 < z.2.less g.len2 (-(sh.k : Rat)))

/-- Whether an open-ended hurdle in place meets a lane (R267, R271). -/
def openHurdle (s : State) (c : Nat) (g : Geo) : Bool :=
  s.pas.hurdles.any (fun e => e.2.untilRt.isNone && s.hurdleMeets c g e.2)

/-- Whether a paddock closes a lane to a class (R256). -/
def padCloses (s : State) (c : Nat) (g : Geo) : Bool :=
  s.paddocks.any (fun e => bit e.2.nogo c && (padInterval g (s.classShape c) e.2).isSome)

/-- The lowest SPEED_CAP of the paddocks a lane meets, over SPEED_MAX and a limit (R267, R296). -/
def laneSpeed (s : State) (c limit : Nat) (l : Lane) : Nat :=
  let v := if l.speedMax = 0 then limit else min limit l.speedMax
  s.paddocks.foldl (fun v e =>
    if e.2.cap ≠ 0 ∧ (padInterval (s.laneGeo l) (s.classShape c) e.2).isSome then min v e.2.cap else v) v

/-- The lanes the planner may use for a class, leaving out nodes to avoid. -/
def planLanes (s : State) (c : Nat) (avoid : List Nat) : List PlanLane :=
  (List.range (s.prm 0x0606)).filterMap (fun i =>
    match s.lane? i with
    | none => none
    | some l =>
      let g := s.laneGeo l
      let v := s.laneSpeed c (u16 (s.prfClass c) 0) l
      if bit l.classes c = false ∨ avoid.contains l.toN ∨ s.padCloses c g ∨ s.openHurdle c g ∨ v = 0 then none
      else some ⟨i, l.fromN, l.toN, (g.len : Rat) / (v : Rat)⟩)

/-- A route from a node through others in turn (R267). -/
def planRoute (s : State) (c start : Nat) (avoid dests : List Nat) : Option (List Nat) :=
  routeThrough (s.planLanes c avoid) start dests

end State

end Sys2Proof.Machine
end

