-- ==== Sys2Proof/Machine/Profiles.lean ====
section
/-! DEFINITION. Profile records, the route position they give, their validity, class limits and stopping ramps, and the
coverage of robots by stops (R288 to R299, R346, R347). Route positions are mm in fixed point with 128 fraction bits, formed in F64 in
the manual's order (R289); times of RT inside a track are ps. -/

namespace Sys2Proof.Machine

open Trig (one fadd fsub fmul fdiv)

/-- A route position as a number of mm. -/
def mmOf (p : Int) : Rat := (p : Rat) / (one : Int)

/-- Whole µs and ns of RT in ps. -/
abbrev psUs : Nat := 1000000
abbrev psNs : Nat := 1000

/-- Distance, speed and acceleration inside R289's loop, in F64. -/
structure PhaseState where
  s : Int
  v : Int
  a : Int

/-- `s + v*t + a*t*t/2 + j*t*t*t/6` in F64, and the speed and acceleration after the phase. -/
def phaseStep (x : PhaseState) (j d : Int) : PhaseState :=
  let two := 2 * one
  { s := fadd x.s (fadd (fadd (fmul x.v d) (fdiv (fmul (fmul x.a d) d) two)) (fdiv (fmul (fmul (fmul j d) d) d) (6 * one)))
    v := fadd x.v (fadd (fmul x.a d) (fdiv (fmul (fmul j d) d) two))
    a := fadd x.a (fmul j d) }

/-- The distance `t` s into a phase. -/
def phaseAt (x : PhaseState) (j t : Int) : Int :=
  fadd (fadd (fadd x.s (fmul x.v t)) (fdiv (fmul (fmul x.a t) t) (2 * one))) (fdiv (fmul (fmul (fmul j t) t) t) (6 * one))

namespace ProfileRec

/-- The jerks of the seven phases (R288), mm/s³. -/
def jerks (r : ProfileRec) : List Int := [r.jAcc, 0, -r.jAcc, 0, r.jDec, 0, -r.jDec]

/-- The segment's duration in µs. -/
def total (r : ProfileRec) : Nat := r.dur.sum

/-- The phases as jerk and duration, F64. -/
def phases (r : ProfileRec) : List (Int × Int) := (List.zip r.jerks r.dur).map (fun x => (x.1 * one, fdiv x.2 1000000))

/-- The state at the segment's start. -/
def start (r : ProfileRec) : PhaseState := { s := 0, v := fdiv r.vIn 1000, a := 0 }

/-- R289's loop: none after the last phase. -/
def runPhases : PhaseState → List (Int × Int) → Int → Option Int
  | _, [], _ => none
  | x, (j, d) :: rest, t => if t ≤ d then some (phaseAt x j t) else runPhases (phaseStep x j d) rest (fsub t d)

/-- Distance from S0 `t` ps after the segment's start, on a run of `len` mm (R289). -/
def dist (r : ProfileRec) (len t : Nat) : Int :=
  let most : Int := len * one
  match runPhases r.start r.phases (fdiv t 1000000000000) with
  | some s => min s most
  | none => most

/-- The distance at the segment's end before the min is applied (R291 item 5). -/
def distEnd (r : ProfileRec) : Int := (r.phases.foldl (fun x p => phaseStep x p.1 p.2) r.start).s

/-- The exit speed of R289, mm/s. -/
def exit (r : ProfileRec) : Int :=
  let d (i : Nat) : Int := fdiv (r.dur.getD i 0) 1000000
  let part (j : Int) (a b : Nat) : Int := fmul (fmul (j * one) (d a)) (fadd (d a) (d b))
  fadd (fadd (fdiv r.vIn 1000) (part r.jAcc 0 1)) (part r.jDec 4 5)

/-- The exit speed in µm/s, rounded to the nearest (R291 item 6). -/
def exitUm (r : ProfileRec) : Int := Trig.rnd (1000 * r.exit)

/-- The record's 44 bytes (R290). -/
def bytes (r : ProfileRec) : Bytes :=
  le 2 r.startUs ++ le 2 0 ++ le 4 r.vIn ++ leS 4 r.jAcc ++ leS 4 r.jDec ++ (padTo 7 0 r.dur).flatMap (fun d => le 4 d)

/-- Reads a record. -/
def ofBytes (b : Bytes) : ProfileRec :=
  ⟨u16 b 0, u32 b 4, i32 b 8, i32 b 12, (List.range 7).map (fun i => u32 b (16 + 4 * i))⟩

/-- Speed stays from 0 to `cap` mm/s, exactly: where a phase ends, and where acceleration passes 0 inside one (R291 item 4). -/
def speedOk (r : ProfileRec) (cap : Rat) : Bool :=
  let within (v : Rat) : Bool := decide (0 ≤ v ∧ v ≤ cap)
  let step (acc : Rat × Rat × Bool) (jd : Int × Nat) : Rat × Rat × Bool :=
    let (v, a, ok) := acc
    let j : Rat := jd.1
    let d : Rat := (jd.2 : Rat) / 1000000
    let v' := v + a * d + j * d * d / 2
    let mid : Bool := if j = 0 ∨ -a / j ≤ 0 ∨ d ≤ -a / j then true else within (v - a * a / (2 * j))
    (v', a + j * d, ok && mid && within v')
  let v0 : Rat := (r.vIn : Rat) / 1000
  ((List.zip r.jerks r.dur).foldl step (v0, 0, within v0)).2.2

end ProfileRec

/-- The planning limits of a robot (R295) in mm/s, mm/s² and mm/s³, and min(VNODE, V′) (R296). -/
structure Limits where
  v : Rat
  a : Rat
  d : Rat
  j : Rat
  node : Rat

/-- The limits of a class record under a progress factor (R295). -/
def limitsOf (c : Bytes) (p : Nat) : Limits :=
  let q : Rat := (max p 1000 : Nat) / 1000
  let v : Rat := u16 c 0 / q
  { v := v, a := u16 c 4 / (q * q), d := u16 c 6 / (q * q), j := u32 c 8 / (q * q * q), node := min (u16 c 2 : Rat) v }

/-- A lane of a run as the profile unit sees it: run length in mm, and cap and exit limit in mm/s. -/
structure RunLane where
  len : Nat
  cap : Rat
  exitCap : Rat

/-- Items 1 to 5 of R291 for one record, and the ranges of R290's fields. -/
def recordOk (lim : Limits) (l : RunLane) (r : ProfileRec) : Bool :=
  let d (i : Nat) : Nat := r.dur.getD i 0
  let acc (j : Int) (i : Nat) : Rat := j * d i / 1000000
  r.dur.length == 7 && r.dur.all (fun x => decide (x < 4294967296)) && decide (r.vIn < 4294967296 ∧ r.startUs < 1000) &&
  decide (-2147483648 ≤ min r.jAcc r.jDec ∧ max r.jAcc r.jDec < 2147483648) && d 2 == d 0 && d 6 == d 4 &&
  decide ((|r.jAcc| : Rat) ≤ lim.j ∧ (|r.jDec| : Rat) ≤ lim.j) &&
  decide (-lim.d ≤ acc r.jAcc 0 ∧ acc r.jAcc 0 ≤ lim.a) && decide (-lim.d ≤ acc r.jDec 4 ∧ acc r.jDec 4 ≤ lim.a) &&
  r.speedOk l.cap && decide (|r.distEnd - l.len * one| ≤ one)

/-- Items 1 to 8 of R291 for a track that starts at `t` µs of RT, a whole ms: the exact starts follow. -/
def trackOk (lim : Limits) : Nat → Nat → List RunLane → List ProfileRec → Bool
  | _, _, [], [] => true
  | t, vIn, l :: ls, r :: rs =>
    recordOk lim l r && r.vIn == vIn && r.startUs == t % 1000 &&
    (if ls.isEmpty then decide (|1000 * r.exit| ≤ one) else decide (0 ≤ r.exitUm) && decide (mmOf r.exit ≤ l.exitCap)) &&
    trackOk lim (t + r.total) r.exitUm.toNat ls rs
  | _, _, _, _ => false

/-! ### The choice of R296 -/

/-- The record that the lowest 352 bits of a number spell: eleven fields of 32 bits. -/
def recordAt (n : Nat) : ProfileRec :=
  let d (i : Nat) : Nat := n / 2 ^ (32 * i) % 2 ^ 32
  ⟨d 0, d 1, (d 2 : Int) - 2 ^ 31, (d 3 : Int) - 2 ^ 31, (List.range 7).map (fun i => d (4 + i))⟩

/-- Every track of a run that R291 allows from `t` µs on. -/
def validTracks (lim : Limits) (t : Nat) (runs : List RunLane) : List (List ProfileRec) :=
  ((List.range (2 ^ (352 * runs.length))).map (fun n => (List.range runs.length).map (fun i => recordAt (n / 2 ^ (352 * i))))).filter
    (trackOk lim t 0 runs)

/-- A track's duration in µs. -/
def trackTotal (rs : List ProfileRec) : Nat := (rs.map ProfileRec.total).sum

/-- A track that ends as early as R291 allows (R296); which of several, `pick` says. -/
def earliestTrack (pick : Nat) (all : List (List ProfileRec)) : Option (List ProfileRec) :=
  match all with
  | [] => none
  | r :: rs =>
    let best := rs.foldl (fun m k => min m (trackTotal k)) (trackTotal r)
    let ties := all.filter (fun k => trackTotal k == best)
    ties[pick % ties.length]?

/-- The direction change at a node exceeds 100,000 µrad (R296): 0.1 rad, by sine and cosine compared in whole numbers
(tan 0.1 = 0.10033467208545054506, to 20 places). -/
def turning (a b : Geo) : Bool :=
  let c := (a.cross b).natAbs
  let d := a.dot b
  decide (d ≤ 0) || decide (d * 10033467208545054506 < (c : Int) * 100000000000000000000)

namespace TSeg

/-- The run length of a segment in mm. -/
def runLen (g : TSeg) : Nat := g.geo.len - g.s0

/-- The exact end in µs. -/
def endUs (g : TSeg) : Nat := g.start + g.rcd.total

/-- Position on the lane, from S0 to the lane's length, at `t` ps of RT (R260, R289). -/
def pos (g : TSeg) (t : Nat) : Int := fadd (g.s0 * one) (if t ≤ g.start * psUs then 0 else g.rcd.dist g.runLen (t - g.start * psUs))

end TSeg

/-- The route offset of each segment: the sum of the lengths of the lanes before it, mm (R259). -/
def segBases : Nat → List TSeg → List (Nat × TSeg)
  | _, [] => []
  | b, g :: gs => (b, g) :: segBases (b + g.geo.len) gs

/-- The exact start of a track in µs. -/
def trackStart (segs : List TSeg) : Nat := match segs.head? with | some g => g.start | none => 0

/-- The length of a track's lanes, mm. -/
def trackLen (segs : List TSeg) : Nat := (segs.map (fun g => g.geo.len)).sum

/-- Route position σ of a track at `t` ps (R259). -/
def sigma (segs : List TSeg) (t : Nat) : Int :=
  let bs := segBases 0 segs
  match (bs.filter (fun x => decide (x.2.start * psUs ≤ t))).getLast? with
  | some x => fadd (x.1 * one) (x.2.pos t)
  | none => match bs.head? with | some x => x.2.pos t | none => 0

/-- The least `t` of [lo, lo + 2^n) at which a property that stays true once true holds; lo + 2^n where none does. -/
def leastT (p : Nat → Bool) : Nat → Nat → Nat
  | 0, lo => if p lo then lo else lo + 1
  | n + 1, lo => if p (lo + 2 ^ n - 1) then leastT p n lo else leastT p n (lo + 2 ^ n)

/-- The earliest instant in µs from `t0` on at which a property holds that stays (R264: to within 1 µs). -/
def firstAt (t0 : Nat) (p : Nat → Bool) : Nat := leastT p 36 t0

/-- The latest instant in µs before a property holds that stays. -/
def lastAt (t0 : Nat) (p : Nat → Bool) : Nat := leastT p 36 t0 - 1

/-- Whole ms not above, and not below, an instant in µs. -/
def floorMs (t : Nat) : Nat := t / 1000
def ceilMs (t : Nat) : Nat := (t + 999) / 1000

/-- The ramp time of R299 from VMAX to rest in halves of a ms, rounded up. -/
def rampHalfMs (v e j : Nat) : Nat :=
  if e = 0 ∨ j = 0 then 0
  else if e * e ≤ v * j then ceilDiv (2000 * (v * j + e * e)) (e * j)
  else ceilSqrt (ceilDiv (16000000 * v) j)

namespace State

/-- The class record whose CLASS element is in force at a robot (R294, R297): the newest whose EFF has come, else the one in effect. -/
def classInForce (s : State) (r : Nat) : Bytes :=
  match s.robot? r with
  | some x => ((x.classes.filter (fun e => decide (e.1 ≤ s.sys.sfCount))).getLast?.map Prod.snd).getD (s.prfClass x.cls)
  | none => s.prfClass 0

/-- T_E of a robot's class in ms: 2 T plus the ramp, rounded up (R299); 2 T is five halves of a ms for each slot of the tick. The ramp
is that of the record in force (DEDUCED, assumption 172). -/
def tE (s : State) (r : Nat) : Nat :=
  let b := s.classInForce r
  ceilDiv (5 * s.sys.slots + rampHalfMs (u16 b 0) (u16 b 12) (u32 b 16)) 2

/-! ### Coverage by stops (R346, R347) -/

/-- Whether one entry covers a robot of a class with the zones it may hold. -/
def entryCovers (s : State) (r c : Nat) (e : StopEntry) : Bool :=
  match e.kind with
  | 1 => e.index == r
  | 2 => e.index == c
  | 3 => (Tab.getD r [] s.crk.zones).any (fun z => z.contains e.index)
  | _ => false

/-- The class of a registered robot, 0 for an index that is not registered. -/
def clsOf (s : State) (r : Nat) : Nat := match s.robot? r with | some x => x.cls | none => 0

/-- A robot is covered by some stop. -/
def covered (s : State) (r : Nat) : Bool := !s.crk.all.isEmpty || s.crk.table.any (fun e => s.entryCovers r (s.clsOf r) e)

/-- The strongest ramp among the stops that cover a robot: 1 emergency. -/
def coverRamp (s : State) (r : Nat) : Nat :=
  b2n (s.crk.all.any (fun h => h.2 == 1) ||
    s.crk.table.any (fun e => s.entryCovers r (s.clsOf r) e && e.holders.any (fun h => h.2 == 1)))

/-- A paddock entry stands whose interval a lane meets for a class (R357). -/
def stopPaddock (s : State) (c : Nat) (g : Geo) : Bool :=
  s.crk.table.any (fun e => e.kind == 3 &&
    (match s.paddocks.find? (fun p => p.1 == e.index) with
     | some p => (padInterval g (s.classShape c) p.2).isSome
     | none => false))

end State

end Sys2Proof.Machine
end

