-- ==== Sys2Proof/Machine/Reserve.lean ====
section
/-! DEFINITION. The pair test and the entries of a track (R256 to R266): outcomes over entries, with no state changed. -/

namespace Sys2Proof.Machine

/-- An occupancy in ms of RT; none: open-ended. -/
abbrev Occ := Nat × Option Nat

/-- `a < b` where none is without end. -/
def beforeEnd (a : Nat) : Option Nat → Bool
  | none => true
  | some b => decide (a < b)

/-- Two occupancies conflict (R264): intervals that only touch do not. -/
def occMeet (a b : Occ) : Bool := beforeEnd a.1 b.2 && beforeEnd b.1 a.2

namespace Entry

/-- A lane entry, an overstayed lane or a neighbour's prepared lane (R263). -/
def laneLike (e : Entry) : Bool := e.kind == 0 || e.kind == 2 || e.kind == 3

/-- The radius of an entry that is a disc or capsule (R263, R582). -/
def radius (e : Entry) : Nat := if e.kind = 4 then e.shape.r else e.shape.rho

/-- An entry's window as an occupancy. -/
def window (e : Entry) : Occ := (e.tIn, e.tOut)

/-- An open hold (R260). -/
def openHold (e : Entry) : Bool := e.kind == 1 && e.tOut.isNone

/-- What stands for an entry's robot where robots are counted (R266): a neighbour's run counts as a robot of its own
(DESIGN CHOICE, assumption 170). -/
def who (e : Entry) : Nat × Option Nat := if e.robot < 256 then (e.robot, none) else (e.robot, e.xid)

/-- Two entries that are not tested against each other (R260): of one robot, or sent by one neighbour, which has tested its own robots
against one another (DESIGN CHOICE, assumption 170). -/
def sameSide (c o : Entry) : Bool :=
  c.robot == o.robot && (decide (c.robot < 256) || c.xid.map (fun x => x / 4294967296) == o.xid.map (fun x => x / 4294967296))

/-- The squared length of an entry's line. -/
def line2 (e : Entry) : Nat := e.geo.len2

/-- A lane entry's occupancy of a zone of its lane (R264); an overstayed lane's footprint is fixed (R263). `opn`: the zone's ends lie
outside it (R263, point form). -/
def occ (e : Entry) (opn : Bool) (z : Zone) : Option Occ :=
  let m := e.line2
  let f := e.shape.f
  let k := e.shape.k
  match (if e.kind = 2 then none else e.tseg) with
  | none =>
    let a := z.1.less m (e.geo.len + f : Nat)
    let b := z.2.less m (-(k : Rat))
    if (if opn then a < 0 ∧ 0 < b else a ≤ 0 ∧ 0 ≤ b) then some (e.tIn, e.tOut) else none
  | some g =>
    let tau := e.shape.tau * 1000
    let wlo := g.tStart * 1000 - tau
    let whi := g.tEnd * 1000 + tau
    let s (t : Nat) : Rat := mmOf (g.pos (t * psUs))
    if 0 < z.1.less m (g.geo.len + f : Nat) ∨ z.2.less m ((g.s0 : Rat) - k) < 0 then none
    else
      let tin := if z.1.less m (g.s0 + f : Nat) ≤ 0 then wlo else firstAt wlo (fun t => decide (z.1.less m (s t + f) ≤ 0)) - tau
      let tout := if 0 ≤ z.2.less m ((g.geo.len : Rat) - k) then whi else lastAt wlo (fun t => decide (z.2.less m (s t - k) < 0)) + tau
      let tin := max tin wlo
      let tout := min tout whi
      if tout < tin then none else some (floorMs tin, some (ceilMs tout))

/-- Rear and front of the footprint on the lane at `t` µs (R260), in fixed point. -/
def rear (e : Entry) (t : Nat) : Int :=
  (match (if e.kind = 2 then none else e.tseg) with
  | none => 0
  | some g => g.pos ((t - e.shape.tau * 1000) * psUs)) - e.shape.k * Trig.one
def front (e : Entry) (t : Nat) : Int :=
  (match (if e.kind = 2 then none else e.tseg) with
  | none => e.geo.len * Trig.one
  | some g => g.pos ((t + e.shape.tau * 1000) * psUs)) + e.shape.f * Trig.one

end Entry

/-- Whether a condition may hold at some instant of [lo, min (lo + 2^n) hi], both in µs: `can x y` says whether it may from `x` to `y`,
by the values there. -/
def meetsIn (can : Nat → Nat → Bool) (hi : Nat) : Nat → Nat → Bool
  | n, lo =>
    if can (min lo hi) (min (lo + 2 ^ n) hi) = false then false
    else match n with
      | 0 => true
      | k + 1 => meetsIn can hi k lo || (decide (lo + 2 ^ k ≤ hi) && meetsIn can hi k (lo + 2 ^ k))

/-- The parallel form (R263, R265): on the candidate's line the other lane starts at c, and D_l − c and D_l + c bound the two differences.
All four ends move one way, so their values at the ends of an interval bound them inside. -/
def parallelTest (c o : Entry) : Bool :=
  let g := c.geo
  let m := c.line2
  let d : Int := (c.shape.r + o.shape.r : Nat)
  let t := g.dotPt o.geo.x1 o.geo.y1
  let n := d * d * m - (g.crossPt o.geo.x1 o.geo.y1) ^ 2
  if n ≤ 0 ∨ m = 0 then false
  else
    let same := decide (0 < g.dot o.geo)
    let a' (t : Nat) : Int := if same then o.rear t else -o.front t
    let b' (t : Nat) : Int := if same then o.front t else -o.rear t
    let below (v : Int) (e : Edge) : Bool := decide (0 < e.less m (mmOf v))
    let can (x y : Nat) : Bool :=
      below (min (a' x) (a' y) - max (c.front x) (c.front y)) ⟨-t, n⟩ && below (min (c.rear x) (c.rear y) - max (b' x) (b' y)) ⟨t, n⟩
    let lo := max c.tIn o.tIn
    let hi := match c.tOut, o.tOut with
      | none, none => lo | some p, none => p | none, some q => q | some p, some q => min p q
    if hi < lo then false else meetsIn can (hi * 1000) 36 (lo * 1000)

/-- The crossing form's zones on both lanes (R263). -/
def crossZones (c o : Entry) : Zone × Zone :=
  let x : Rat := c.geo.cross o.geo
  let d : Rat := (c.shape.r + o.shape.r : Nat)
  let px : Geo := ⟨c.geo.x1, c.geo.y1, o.geo.x1, o.geo.y1⟩
  let zone (p m k : Rat) : Zone :=
    let b := d * d * m * m * k / (x * x)
    (⟨m * p / x, -b⟩, ⟨m * p / x, b⟩)
  (zone (px.cross o.geo) c.line2 o.line2, zone (px.cross c.geo) o.line2 c.line2)

/-- The pair test of a candidate and a held entry (R263): whether they conflict and, for a crossing or point conflict, the
candidate's occupancy start and the other's end (R270). -/
def pairTest (c o : Entry) : Bool × Option (Nat × Nat) :=
  let hit (a b : Option Occ) : Bool × Option (Nat × Nat) :=
    match a, b with
    | some a, some b => if occMeet a b then (true, b.2.map (fun e => (a.1, e))) else (false, none)
    | _, _ => (false, none)
  if occMeet c.window o.window = false then (false, none)
  else match c.laneLike, o.laneLike with
  | true, true =>
    if c.geo.cross o.geo = 0 then (parallelTest c o, none)
    else
      let z := crossZones c o
      hit (c.occ false z.1) (o.occ false z.2)
  | true, false =>
    match capsuleZone false c.geo (c.shape.r + o.radius) o.geo with
    | none => (false, none)
    | some z => hit (c.occ true z) (some o.window)
  | false, true =>
    match capsuleZone false o.geo (o.shape.r + c.radius) c.geo with
    | none => (false, none)
    | some z => hit (some c.window) (o.occ true z)
  | false, false => if c.geo.closer o.geo (c.radius + o.radius) then (true, none) else (false, none)

/-- A lane entry's occupancy of a paddock's interval (R256, R266). -/
def Entry.padOcc (e : Entry) (p : Paddock) : Option Occ := (padInterval e.geo e.shape p).bind (e.occ false)

/-- The robots other than an entry's own whose occupancies of a paddock overlap `w` (R266). -/
def padCrowd (c : Entry) (w : Occ) (p : Paddock) (es : List Entry) : Nat :=
  ((es.filter (fun o => o.laneLike && !c.sameSide o && (match o.padOcc p with | none => false | some wo => occMeet w wo))).map
    Entry.who).dedup.length

/-- A lane entry finds an exclusive paddock full (R266). -/
def padFull (c : Entry) (p : Paddock) (es : List Entry) : Bool :=
  p.excl != 0 && c.laneLike && (match c.padOcc p with | none => false | some w => decide (p.excl ≤ padCrowd c w p es))

/-- A hurdle in the form of an entry that is tested as one (R263): a capsule of its radius over its times. -/
def hurdleEntry (h : Hurdle) : Entry :=
  { robot := 256, kind := 4, grant := 0, place := 0, seg := 0, cls := 0, shape := ⟨h.radius, 0, 0, 0, 0⟩, geo := h.geo,
    tIn := h.fromRt, tOut := h.untilRt, tseg := none, late := false, border := false, breach := false,
    conflict := false, hits := [], xid := none }

/-- The tiles of an entry's bounding box (R262), as the least and the greatest index each way: the lane's span from −k to length + f
widened by R, or a disc or a capsule. -/
def entryTiles (e : Entry) : (Int × Int) × (Int × Int) :=
  let g := e.geo
  let w : Int := (if e.laneLike then e.shape.r else e.radius : Nat)
  let (lo, hi) : Rat × Rat := if e.laneLike then (-(e.shape.k : Rat), (g.len + e.shape.f : Nat)) else (0, 0)
  let range (u v : Int) (dir : Int) : Int × Int :=
    if e.laneLike then
      (min (g.tile (u - w) dir lo) (g.tile (u - w) dir hi), max (g.tile (u + w) dir lo) (g.tile (u + w) dir hi))
    else (g.tile (min u v - w) 0 0, g.tile (max u v + w) 0 0)
  (range g.x1 g.x2 g.dx, range g.y1 g.y2 g.dy)

/-- Two ranges of tiles, each way, share a tile. -/
def tileRangesMeet (a b : (Int × Int) × (Int × Int)) : Bool :=
  decide (a.1.1 ≤ b.1.2 ∧ b.1.1 ≤ a.1.2 ∧ a.2.1 ≤ b.2.2 ∧ b.2.1 ≤ a.2.2)

/-- Two entries share a tile of 65,536 mm (R262). -/
def tilesMeet (a b : Entry) : Bool := tileRangesMeet (entryTiles a) (entryTiles b)

/-- A paddock's polygon shares a tile with an entry (R258, R262). -/
def Paddock.tilesMeet (p : Paddock) (e : Entry) : Bool :=
  let t (v : Int) : Int := (v + 8192000) / 65536
  let least (l : List Int) : Int := t (l.foldl min (l.headD 0))
  let most (l : List Int) : Int := t (l.foldl max (l.headD 0))
  let xs := p.verts.map Prod.fst
  let ys := p.verts.map Prod.snd
  tileRangesMeet ((least xs, most xs), (least ys, most ys)) (entryTiles e)

/-- The pair tests that testing a candidate costs (R262). -/
def pairCount (c : Entry) (es : List Entry) : Nat :=
  (es.filter (fun o => !c.sameSide o && tilesMeet c o && occMeet c.window o.window)).length

/-- The time of the hold at a track's node of route position `x` mm (R260), in ms; open-ended where σ never passes L beyond it. None: σ
starts beyond L. -/
def holdTime (sh : Shape) (segs : List TSeg) (x : Nat) : Option Occ :=
  let t0 := trackStart segs
  let f (t : Nat) : Int := sigma segs (t * psUs)
  let big : Int := sh.big * Trig.one
  let at_ : Int := x * Trig.one
  let tau := 1000 * sh.tau
  if at_ + big < f t0 then none
  else
    let tin := floorMs (firstAt t0 (fun t => decide (at_ - big ≤ f t)) - tau)
    let tout := if (trackLen segs : Int) * Trig.one ≤ at_ + big then none
      else some (ceilMs (lastAt t0 (fun t => decide (at_ + big < f t)) + tau))
    some (tin, tout)

/-- The entries of a track (R260): one per lane, and a node hold at each node after the first; at the first too where the track resumes
on an overstayed lane, since the robot holds none there. Nodes come with their points, the first node's first. -/
def trackEntries (robot cls : Nat) (sh : Shape) (late resumed : Bool) (nodes : List (Nat × Geo)) (border : List Bool)
    (segs : List TSeg) : List Entry :=
  let mk (kind place seg : Nat) (g : Geo) (w : Occ) (t : Option TSeg) (b : Bool) : Entry :=
    { robot := robot, kind := kind, grant := 0, place := place, seg := seg, cls := cls, shape := sh, geo := g, tIn := w.1,
      tOut := w.2, tseg := t, late := late, border := b, breach := false, conflict := false, hits := [], xid := none }
  let lanes := (segs.zipIdx).map (fun (g, i) =>
    mk 0 g.lane i g.geo (g.tStart - sh.tau, some (g.tEnd + sh.tau)) (some g) (border.getD i false))
  let places := (segBases 0 segs).map Prod.fst ++ [trackLen segs]
  let holds := ((List.zip places nodes).zipIdx).filterMap (fun (x, i) =>
    if i = 0 ∧ resumed = false then none
    else (holdTime sh segs x.1).map (fun w => mk 1 x.2.1 i x.2.2 w none false))
  lanes ++ holds

/-- A signed 32-bit float code as an exact number of 2^-149 (R161). -/
def f32Units (b : Nat) : Int :=
  let e := b / 8388608 % 256
  let m := b % 8388608
  let v : Int := if e = 0 then (m : Int) else ((m + 8388608) * 2 ^ (e - 1) : Nat)
  if b.testBit 31 then -v else v

end Sys2Proof.Machine
end

