-- ==== Sys2Proof/Machine/Pasture.lean ====
section
/-! DEFINITION. Reservations of the pasture: requests, grants, waits and refusals, routes, deadlocks, release, lapse and
overstay, borders, and the opcodes (R252 to R287, R292, R300 to R304, R348, R357). -/

namespace Sys2Proof.Machine

/-- What the pasture keeps of a robot that has just been registered (R304: p is 1,000). -/
def PasRobot.fresh : PasRobot := {
  route := none, nextRoute := 1, req := none, lastGrant := 0, plan := none, move := none, tracks := [], overRun := false,
  p := 1000, pNext := none, clampRun := false, devRun := 0, devRaised := false, devMax := 0, ea := 0, ec := 0, breaches := 0,
  eaOff := false, stopAt := none, lastEvid := 0, gapDone := false, evid := [] }

/-- The index under which a neighbour's robot holds entries here: none of this member's (R283). -/
abbrev neighbourRobot : Nat := 257

/-- The reservation record of PAS_RESV_READ (R284); a neighbour's robot shows as FFh. -/
def entryRecord (e : Entry) : Bytes :=
  let (s0, ts, te) := match e.tseg with | some g => (g.s0, g.tStart, g.tEnd) | none => (0, 0, 0)
  let m (t : Nat) : Bytes := le 4 (t % 4294967296)
  le 1 (min 0xFF e.robot) ++ le 1 e.kind ++ le 2 e.grant ++ le 4 (if e.kind = 5 then 0xFFFFFFFF else e.place) ++
  le 4 s0 ++ m e.tIn ++ (match e.tOut with | some t => m t | none => le 4 0xFFFFFFFF) ++
  le 1 e.seg ++ le 1 e.cls ++
  le 2 (b2n e.late + 2 * b2n e.border + 4 * b2n e.breach + 8 * b2n e.conflict) ++ m ts ++ m te

namespace State

/-- Changes what the pasture keeps of one robot. -/
def mapPr (r : Nat) (f : PasRobot → PasRobot) (s : State) : State :=
  s.mapPas (fun p => { p with robots := Tab.upd r PasRobot.fresh f p.robots })

/-- What the pasture keeps of one robot. -/
def pr (s : State) (r : Nat) : PasRobot := Tab.getD r PasRobot.fresh s.pas.robots

/-- The entries of a robot. -/
def entriesOfRobot (s : State) (r : Nat) : List Entry := s.pas.entries.filter (fun e => e.robot == r && e.kind != 3)

/-- A robot's open hold (R260): its newest. -/
def openHoldOf (s : State) (r : Nat) : Option Nat :=
  ((s.entriesOfRobot r).filter Entry.openHold).getLast?.map (fun e => e.place)

/-- Frees the entries that meet a test. -/
def freeWhere (p : Entry → Bool) (s : State) : State :=
  s.mapPas (fun t => { t with entries := t.entries.filter (fun e => !p e) })

/-- The most reserved segments (R33). -/
abbrev tableSize : Nat := 16384

/-- Adds entries as far as the table has room (R33), with the peak of PAS_STATE_READ. -/
def addEntries (es : List Entry) (s : State) : State :=
  s.mapPas (fun t =>
    let n := t.entries ++ es.take (tableSize - t.entries.length)
    { t with entries := n, peak := max t.peak n.length })

/-- The priority of a robot's current task, this device's or another's (R269, R326, R470); none ranks below every task. -/
def robotPriority (s : State) (r : Nat) : Option Nat :=
  (List.find? (fun (e : Nat × Task) => e.2.state == 4 && e.2.robot == some r) (s.tsk.tasks ++ s.tsk.proxies)).map (fun e => u8 e.2.record 4)

/-! ### ZONES (R348) -/

/-- The paddocks that a robot's lanes and nodes concern, in ascending order. -/
def zoneList (s : State) (c : Nat) (lanes : List Geo) (nodes : List Geo) : List Nat :=
  let sh := s.classShape c
  (s.paddocks.filter (fun p => lanes.any (fun g => (padInterval g sh p.2).isSome) ||
    nodes.any (fun n => inPolygon p.2.verts n 0 || p.2.edges.any (fun e => e.near sh.r n.x1 n.y1)))).map Prod.fst

/-- Queues ZONES for a robot; the lists before it stay until it is delivered. -/
def sendZones (r gid : Nat) (zs : List Nat) (s : State) : State :=
  let parts := if zs = [] then [[]] else (List.range (ceilDiv zs.length 255)).map (fun i => (zs.drop (255 * i)).take 255)
  let s := (parts.zipIdx).foldl (fun s (p, i) =>
    s.sendElem r 0x38 (le 2 gid ++ le 1 p.length ++ le 1 (b2n (decide (i + 1 < parts.length))) ++
      p.flatMap (fun z => le 2 z))) s
  let old := Tab.getD r [[]] s.crk.zones
  { s with crk := { s.crk with zones := Tab.put r (old ++ [zs]) s.crk.zones } }

/-- ZONES with GRANT_ID 0000h for the robot's open hold or overstayed lane (R348). -/
def sendHoldZones (r : Nat) (s : State) : State :=
  let es := s.entriesOfRobot r
  let lanes := (es.filter (fun e => e.kind == 2)).map (fun e => e.geo)
  let nodes := (es.filter Entry.openHold).map (fun e => e.geo)
  s.sendZones r 0 (s.zoneList (s.clsOf r) lanes nodes)

/-! ### Overstay (R277) -/

/-- An entry's static form from an instant on. -/
def overstayEntry (now : Nat) (e : Entry) : Entry :=
  if e.kind = 0 then { e with kind := 2, tIn := now, tOut := none }
  else if e.kind = 1 then { e with tOut := none } else e

/-- Converts the entries of a robot (R277) whose window starts before `limit`, or all, marking each as a breach when asked. -/
def convertRobot (r : Nat) (limit : Option Nat) (breach : Bool) (s : State) : State :=
  let now := s.rtNow
  let due (e : Entry) : Bool := match limit with | some l => decide (e.tIn < l) | none => true
  let s := s.mapPas (fun p => { p with entries := p.entries.map (fun e =>
    if e.robot = r ∧ (e.kind = 0 ∨ e.kind = 1) ∧ due e then
      overstayEntry now { e with breach := e.breach || breach }
    else if e.robot = r ∧ breach ∧ e.kind ≠ 3 then { e with breach := true } else e) })
  if (s.robot? r).isNone then s
  else
    let s := s.mapPr r (fun x => { x with eaOff := true })
    if (s.entriesOfRobot r).isEmpty then s else s.sendHoldZones r

/-- The conversion of R277's first three cases: windows that start before now plus T_E of the class. -/
def convertNow (r : Nat) (breach : Bool) (s : State) : State := s.convertRobot r (some (s.rtNow + s.tE r)) breach

/-- The conversion at an ASN change, for every robot's entries (R277, R198). -/
def convertAll (s : State) : State :=
  ((s.pas.entries.map (fun e => e.robot)).dedup).foldl (fun s r => s.convertRobot r none false) s

/-- A robot's entries are converted at a window's end or at firmware load: e_a is not formed (R302), and OVERSTAY is raised once per
robot per run (R277, R280). -/
def overstayed (r : Nat) (s : State) : State :=
  let run := (s.pr r).overRun
  let s := s.mapPr r (fun x => { x with overRun := true, eaOff := true })
  if run then s else s.raise 0x0604 .warning 1 1 r

/-- An entry of a grant or a hold whose window has ended (R277). -/
def windowEnded (s : State) (e : Entry) : Bool :=
  (e.kind == 0 || e.kind == 1) && (match e.tOut with | some t => decide (t ≤ s.rtNow) | none => false)

/-- Entries whose window has ended become overstayed, and those prepared for a neighbour end (R277, R283). -/
def overstayDue (s : State) : State :=
  let now := s.rtNow
  let robots := ((s.pas.entries.filter s.windowEnded).map (fun e => e.robot)).dedup
  let s := s.mapPas (fun p => { p with entries := (p.entries.filter (fun e =>
    !(e.kind == 3 && (match e.tOut with | some t => decide (t ≤ now) | none => false)))).map (fun e =>
      if s.windowEnded e then overstayEntry now e else e) })
  (robots.filter (fun r => decide (r < 256))).foldl (fun s r => (s.overstayed r).sendHoldZones r) s

/-- Notes for R304 that stops cover robots now. -/
def noteCover (s : State) : State :=
  ((s.lnk.robots.map Prod.fst).filter s.covered).foldl (fun s r => s.mapPr r (fun x => { x with stopAt := some s.rtNow })) s

/-! ### Routes (R267) -/

/-- The legs of a route: at most 255 lanes each. -/
def legsOf (lanes : List Nat) : List (List Nat) :=
  (List.range (ceilDiv lanes.length 255)).map (fun i => (lanes.drop (255 * i)).take 255)

/-- Sends leg `i` of a robot's route in a ROUTE element. -/
def sendLeg (r i : Nat) (s : State) : State :=
  match (s.pr r).route with
  | none => s
  | some t =>
    match t.legs[i]? with
    | none => s
    | some lanes =>
      s.sendElem r 0x20 (le 2 t.id ++ le 1 i ++ le 1 (b2n (decide (i + 1 = t.legs.length))) ++ lanes.flatMap (fun l => le 4 l))

/-- The fold message types of the border chapter (R452). -/
abbrev msgPrepare : Nat := 0x0C
abbrev msgVote : Nat := 0x0D
abbrev msgDecide : Nat := 0x0E

/-- Sends a border message by device number (R455). -/
def relay (dev typ : Nat) (body : Bytes) (s : State) : State :=
  s.mapPas (fun p => { p with outbox := p.outbox ++ [(dev, typ, body)] })

/-- Sends DECIDE. -/
def decide1 (xid dev : Nat) (abort : Bool) (s : State) : State := s.relay dev msgDecide (le 4 xid ++ le 1 (b2n abort) ++ zeros 3)

/-- Ends a border wait with DECIDE to every neighbour asked (R282, R283). -/
def decideBorder (b : BorderWait) (abort : Bool) (s : State) : State :=
  let s := s.mapPas (fun p => { p with borders := p.borders.filter (fun k => k.xid != b.xid) })
  (b.waiting ++ b.voted).foldl (fun s d => s.decide1 b.xid d abort) s

/-- A robot's request ends without a grant: the votes asked for it are no longer wanted, so its neighbours get an abort, and no event is
raised (DESIGN CHOICE, assumption 171). -/
def endReq (r : Nat) (s : State) : State :=
  let s := (s.pas.borders.filter (fun b => b.robot == r)).foldl (fun s b => s.decideBorder b true) s
  s.mapPr r (fun x => { x with req := none })

/-- Gives a robot a new route: it replaces the old one and ends any request on it. -/
def setRoute (r : Nat) (lanes : List Nat) (late : Bool) (s : State) : State :=
  let x := s.pr r
  let rt : Route := ⟨x.nextRoute, legsOf lanes, 1, 0, late⟩
  let s := (s.endReq r).mapPr r (fun x => { x with
    route := some rt, nextRoute := if x.nextRoute = 0xFFFF then 1 else x.nextRoute + 1 })
  s.sendLeg r 0

/-- Sends the current leg again after an accepted join (R267): the leg of the first lane not yet granted, if there is one. -/
def resendLeg (r : Nat) (s : State) : State :=
  match (s.pr r).route with
  | none => s
  | some t => if t.legs.flatten.length ≤ t.granted then s else s.sendLeg r (t.granted / 255)

/-- Queues a planning request for a robot: it replaces an unplanned earlier one (R267). -/
def askPlan (r : Nat) (q : PlanReq) (s : State) : State :=
  let s := s.mapPr r (fun x => { x with plan := some q })
  s.mapPas (fun p => { p with planQueue := (p.planQueue.filter (fun k => k != r)) ++ [r] })

/-- No route exists (R267): NO_ROUTE, and the PAS_MOVE that asked is refused (R284). -/
def routeFails (r : Nat) (move : Bool) (s : State) : State :=
  let s := s.raise 0x0609 .warning 1 1 r
  match move, (s.pr r).move with
  | true, some (_, n, a) => (s.mapPr r (fun x => { x with move := none })).complete n a (Ans.bare 0x0643 0)
  | _, _ => s

/-- Plans one robot's request; NO_ROUTE where none exists. -/
def planOne (r : Nat) (s : State) : State :=
  let s' := s.mapPas (fun p => { p with planQueue := p.planQueue.filter (fun k => k != r) })
  match (s.pr r).plan with
  | none => s'
  | some q =>
    let s' := s'.mapPr r (fun x => { x with plan := none })
    match (s.openHoldOf r).bind (fun h => s.planRoute (s.clsOf r) h [] q.dests) with
    | some lanes => if lanes = [] then s' else s'.setRoute r lanes q.late
    | none => s'.routeFails r q.move

/-! ### Requests (R268 to R272) -/

/-- SEG_REQ (R268): it replaces any request of the robot that has not been granted. -/
def segReq (r : Nat) (v : Bytes) (s : State) : State :=
  if v.length ≠ 16 then s
  else
    let q : SegReq := {
      routeId := u16 v 0, leg := u8 v 2, seq := u8 v 3, from0 := u8 v 4, count := u8 v 5, resume := bit (u8 v 6) 0,
      s0 := u32 v 8, earliest := s.rtNear (u32 v 12), since := s.now, done := 0, pending := false, reason := 0,
      blocker := 0xFF, lastTry := none, holdOnly := none, late := false, place := 0 }
    (s.endReq r).mapPr r (fun x => { x with req := some q })

/-- The lanes a request names, where they lie in the named leg (R271 reason 01h). -/
def reqLanes (s : State) (r : Nat) (q : SegReq) : Option (List Nat) :=
  match (s.pr r).route with
  | none => none
  | some t =>
    match t.legs[q.leg]? with
    | none => none
    | some lanes =>
      if q.leg < t.sent ∧ 1 ≤ q.count ∧ q.count ≤ 16 ∧ q.from0 + q.count ≤ lanes.length then
        some ((lanes.drop q.from0).take q.count)
      else none

/-- The overstayed entry of a robot on a lane. -/
def overstayedOn (s : State) (r lane : Nat) : Option Entry :=
  s.pas.entries.find? (fun e => e.robot == r && e.kind == 2 && e.place == lane)

/-- R271's refusals in their order 04h, 01h, 05h, 02h, 03h. -/
def reqRefused (s : State) (r : Nat) (q : SegReq) : Option Nat :=
  let c := s.clsOf r
  if (s.pr r).route.map (fun t => t.id) ≠ some q.routeId then some 4
  else match s.reqLanes r q with
  | none => some 1
  | some ls =>
    let recs := ls.filterMap (fun i => s.lane? i)
    if recs.length ≠ ls.length ∨ recs.all (fun l => !s.holdNode l.toN) then some 1
    else
      let first := ls.headD 0
      let g := s.laneGeoI first
      if q.resume = false ∧ (recs.head?.map (fun l => l.fromN)) ≠ s.openHoldOf r then some 1
      else if g.len < q.s0 ∨ (q.resume ∧ (s.overstayedOn r first).isNone) then some 5
      else if recs.any (fun l => s.padCloses c (s.laneGeo l)) then some 2
      else if recs.any (fun l => s.openHurdle c (s.laneGeo l)) then some 3
      else none

/-- The limits with which a robot is planned (R295). -/
def planLimits (s : State) (r : Nat) : Limits := limitsOf (s.prfClass (s.clsOf r)) (s.pr r).p

/-- A robot's run of lanes from S0 on, with the caps and node limits of R296. -/
def runLanes (s : State) (r : Nat) (lanes : List Nat) (s0 : Nat) : List RunLane :=
  let c := s.clsOf r
  let lim := s.planLimits r
  let gs := lanes.map (fun i => s.laneGeoI i)
  (lanes.zipIdx).map (fun (i, k) =>
    let g := s.laneGeoI i
    let cap : Rat := match s.lane? i with | some l => min lim.v (s.laneSpeed c (u16 (s.prfClass c) 0) l) | none => 0
    let exit := match gs[k + 1]? with | none => 0 | some n => if turning g n then lim.node else lim.v
    ⟨g.len - (if k = 0 then s0 else 0), cap, exit⟩)

/-- The profile unit's track for a run of lanes from `t0` ms: one that ends as early as R291 allows (R296). -/
def chooseSegs (s : State) (r : Nat) (lanes : List Nat) (s0 t0 : Nat) : Option (List TSeg) :=
  let b := s.prfClass (s.clsOf r)
  let gs := lanes.map (fun i => s.laneGeoI i)
  (earliestTrack (Config.chooseTrack b (s.pr r).p t0 s0 lanes) (validTracks (s.planLimits r) (t0 * 1000) (s.runLanes r lanes s0))).map (fun recs =>
    let starts := recs.foldl (fun acc r => acc ++ [acc.getLastD 0 + r.total]) [t0 * 1000]
    (List.zip lanes (List.zip gs (List.zip starts recs))).zipIdx.map (fun (x, k) =>
      let (i, g, st, rc) := x
      { lane := i, geo := g, s0 := if k = 0 then s0 else 0, start := st, tStart := st / 1000,
        tEnd := ceilMs (st + rc.total), rcd := rc : TSeg }))

/-- The entries that a run would place, with the grant id still 0. -/
def runEntries (s : State) (r : Nat) (late resumed : Bool) (segs : List TSeg) : List Entry :=
  let c := s.clsOf r
  let node (i : Nat) : Nat × Geo := (i, s.nodeGeo i)
  let lane (g : TSeg) : Option Lane := s.lane? g.lane
  let first := match segs.head?.bind lane with | some l => [node l.fromN] | none => []
  let nodes := segs.map (fun g => match lane g with | some l => node l.toN | none => (0, ⟨0, 0, 0, 0⟩))
  let border := segs.map (fun g => match lane g with | some l => l.border | none => false)
  trackEntries r c (s.classShape c) late resumed (first ++ nodes) border segs

/-- What a candidate entry fails on: another's entry, a hurdle, or a full paddock; with the candidate's start and the other's end of a
crossing or point conflict (R270). -/
inductive Clash where
  | entry (o : Entry) (shift : Option (Nat × Nat))
  | hurdle (shift : Option (Nat × Nat))
  | full

/-- Everything that a candidate entry fails on: the entries of other robots, the hurdles and the exclusive paddocks (R262 to R266). -/
def clashes (s : State) (c : Entry) : List Clash :=
  let others := s.pas.entries.filter (fun o => !c.sameSide o)
  others.filterMap (fun o => match pairTest c o with | (true, sh) => some (.entry o sh) | (false, _) => none) ++
  s.pas.hurdles.filterMap (fun h => match pairTest c (hurdleEntry h.2) with | (true, sh) => some (.hurdle sh) | (false, _) => none) ++
  (if s.paddocks.any (fun p => padFull c p.2 others) then [.full] else [])

/-- Why a try waits: the reason and the blocker of REQ_STATE, R270's shift in ms, and the robot through whose open hold alone it
failed (R273). -/
structure TestFail where
  reason : Nat
  blocker : Nat
  shift : Nat
  only : Option Nat

/-- A reason with no blocker. -/
def TestFail.bare (reason : Nat) : TestFail := ⟨reason, 0xFF, 0, none⟩

/-- What the clashes of a run's entries come to, if there are any. The robot whose open hold a lane entry meets is the BLOCKER (R272), and
then the reason is 02h; the shift is that of the first lane's entries (R270). -/
def failOf (l : List (Entry × Clash)) : Option TestFail :=
  let index (o : Entry) : Nat := if o.robot < 256 then o.robot else 0xFF
  let by_ := l.filterMap (fun x => match x.2 with | .entry o _ => some (x.1, o) | _ => none)
  let span (x : Entry × Clash) : Nat := match x.2 with
    | .entry _ (some w) | .hurdle (some w) => w.2 - w.1
    | _ => 0
  let shift := ((l.filter (fun x => (x.1.kind == 0 && x.1.seg == 0) || (x.1.kind == 1 && x.1.seg == 1))).map span).foldl max 0
  let only := match by_.head? with
    | some (_, o) => if o.robot < 256 ∧ l.all (fun x => match x.2 with
        | .entry k _ => k.openHold && k.robot == o.robot
        | _ => false) then some o.robot else none
    | none => none
  match by_.find? (fun x => x.1.kind == 0 && x.2.openHold), by_.head? with
  | some (_, o), _ => some ⟨2, index o, shift, only⟩
  | none, some (_, o) => some ⟨if o.openHold then 2 else 1, index o, shift, only⟩
  | none, none =>
    if l.any (fun x => match x.2 with | .hurdle _ => true | _ => false) then some ⟨0x0A, 0xFF, shift, none⟩
    else if l.isEmpty then none else some (TestFail.bare 7)

/-- Tests the entries of a run (R262 to R266). -/
def testRun (s : State) (es : List Entry) : Option TestFail := failOf (es.flatMap (fun e => (s.clashes e).map (fun k => (e, k))))

/-- The outcome of one try (R270). -/
inductive TryRes where
  | grant (segs : List TSeg) (entries : List Entry)
  | wait (f : TestFail)

/-- One try from `t0`: the longest run of lanes that passes. Runs are tried from `n` lanes down; the shortest gives the reason, and one
that fails only through an open hold makes the try fail only through it. -/
def tryRun (s : State) (r : Nat) (q : SegReq) (lanes : List Nat) (t0 hz : Nat) : Nat → TestFail → TryRes
  | 0, f => .wait f
  | n + 1, f =>
    let run := lanes.take (n + 1)
    let again (f' : TestFail) : TryRes := tryRun s r q lanes t0 hz n { f' with only := f.only.or f'.only }
    let ends := match run.getLast?.bind (fun i => s.lane? i) with | some l => s.holdNode l.toN | none => false
    if ends = false then again f
    else match s.chooseSegs r run (if q.resume then q.s0 else 0) t0 with
    | none => again f
    | some segs =>
      let tau := (s.classShape (s.clsOf r)).tau
      if segs.any (fun g => decide (hz < g.tEnd + tau)) then again (TestFail.bare 3)
      else
        let es := s.runEntries r q.late q.resume segs
        if tableSize < s.pas.entries.length + es.length then again (TestFail.bare 4)
        else match s.testRun es with
          | none => .grant segs es
          | some t => again t

/-- The pair tests a request's entries cost in one try (R47). -/
def reqCost (s : State) (r : Nat) (q : SegReq) (lanes : List Nat) (t0 : Nat) : Nat :=
  match s.chooseSegs r lanes (if q.resume then q.s0 else 0) t0 with
  | none => 0
  | some segs => ((s.runEntries r q.late q.resume segs).map (fun e =>
      pairCount e (s.pas.entries ++ s.pas.hurdles.map (fun h => hurdleEntry h.2)))).sum

/-- What a tick's tries of a request come to: the outcome, the start of the last try made, and the pair tests of all (R47, R270). -/
structure Tried where
  res : TryRes
  last : Option Nat
  cost : Nat

/-- The tries of one tick (R270): `k` more, the next from `t0`. -/
def tries (s : State) (r : Nat) (q : SegReq) (lanes : List Nat) (hz : Nat) : Nat → Nat → Tried → Tried
  | 0, _, a => a
  | k + 1, t0, a =>
    if hz < t0 then a
    else
      let cost := a.cost + s.reqCost r q lanes t0
      match s.tryRun r q lanes t0 hz lanes.length (TestFail.bare 1) with
      | .grant g e => ⟨.grant g e, some t0, cost⟩
      | .wait f => tries s r q lanes hz k (max (t0 + s.prm 0x0609) (t0 + f.shift)) ⟨.wait f, some t0, cost⟩

/-- Places a grant (R260, R268, R272, R292, R348): the entries, then GRANT, its PROFILEs and ZONES. -/
def placeGrant (r seq : Nat) (q : Nat) (segs : List TSeg) (es : List Entry) (s : State) : State :=
  let x := s.pr r
  let gid := if x.lastGrant = 0xFFFF then 1 else x.lastGrant + 1
  let c := s.clsOf r
  let sh := s.classShape c
  let first := segs.head?.map (fun g => g.lane)
  let startNode := (first.bind (fun i => s.lane? i)).map (fun l => l.fromN)
  let resumed : Bool := match x.req with | some rq => rq.resume | none => false
  let upto : Nat := match x.req, x.route with
    | some rq, some t => ((t.legs.take rq.leg).map List.length).sum + rq.from0 + segs.length
    | _, _ => 0
  let s := if resumed then s.freeWhere (fun e => e.robot == r && e.kind == 2 && some e.place == first) else s
  let s := s.mapPas (fun p => { p with entries := p.entries.map (fun e =>
    if e.robot = r ∧ e.openHold ∧ resumed = false ∧ some e.place = startNode then
      { e with tOut := (holdTime sh segs 0).bind Prod.snd, grant := gid, seg := 0 } else e) })
  let s := s.addEntries (es.map (fun e => { e with grant := gid }))
  let s := s.mapPr r (fun x => { x with
    lastGrant := gid, req := none, overRun := false, eaOff := false
    tracks := x.tracks ++ [⟨gid, segs, q⟩]
    route := x.route.map (fun t => { t with granted := max t.granted upto }) })
  let s := s.mapPas (fun p => { p with grants := inc32 p.grants })
  let m (t : Nat) : Bytes := le 4 (t % 4294967296)
  let s := s.sendElem r 0x21 (le 2 gid ++ le 1 seq ++ le 1 segs.length ++
    segs.flatMap (fun g => le 4 g.lane ++ le 4 g.s0 ++ m g.tStart ++ m g.tEnd))
  let s := (segs.zipIdx).foldl (fun s (g, i) => s.sendElem r 0x28 (le 2 gid ++ le 1 i ++ le 1 0 ++ g.rcd.bytes)) s
  let nodes := segs.flatMap (fun g => [(⟨g.geo.x1, g.geo.y1, g.geo.x1, g.geo.y1⟩ : Geo), ⟨g.geo.x2, g.geo.y2, g.geo.x2, g.geo.y2⟩])
  let s := s.sendZones r gid (s.zoneList c (segs.map (fun g => g.geo)) nodes)
  match (s.pr r).route with
  | some t =>
    if t.sent < t.legs.length ∧ ((t.legs.take t.sent).map List.length).sum ≤ t.granted then
      (s.mapPr r (fun x => { x with route := x.route.map (fun t => { t with sent := t.sent + 1 }) })).sendLeg r t.sent
    else s
  | none => s

/-- PREPARE's entry (R282). -/
def prepareEntry (e : Entry) : Bytes :=
  let m (t : Nat) : Bytes := le 4 (t % 4294967296)
  match e.tseg with
  | none => []
  | some g =>
    le 4 g.lane ++ le 4 g.s0 ++ m g.tStart ++ m g.tEnd ++ le 1 e.cls ++ le 1 0 ++ le 2 (e.shape.r - e.shape.m) ++
    le 2 e.shape.f ++ le 2 e.shape.k ++ le 2 e.shape.m ++ le 2 e.shape.tau ++ g.rcd.bytes

/-- This device is out of step in a fold (R462): by its bellwether's HB_ANSWER, or by its own judgement. -/
def outOfStep (s : State) : Bool := s.prm 0x0E00 == 1 && (s.fld.upState != 0 || s.fld.ownReason != 0)

/-- Border work with a neighbour is withheld (R463, R471): this device or that member is out of step or absent, or the border
digests differ. -/
def borderBarred (s : State) (dev : Nat) : Bool :=
  s.outOfStep || s.fld.borderBad.contains dev ||
    s.fld.members.any (fun (e : Nat × FldMember) => bit e.2.devmap dev && (e.2.absent || e.2.reason != 0))

/-- The neighbour that a lane entry's BORDER lane names. -/
def entryDev (s : State) (e : Entry) : Nat := match s.lane? e.place with | some l => l.neighbour | none => 0

/-- A run that passed its own table and has BORDER lanes: PREPARE goes to each neighbour named (R282). -/
def askBorder (r : Nat) (q : Nat) (segs : List TSeg) (es : List Entry) (s : State) : State :=
  let devOf (e : Entry) : Nat := s.entryDev e
  let bs := es.filter (fun e => e.kind == 0 && e.border)
  let devs := (bs.map devOf).dedup
  let x := s.pas.nextXid
  let s := s.mapPas (fun p => { p with
    nextXid := p.nextXid + 1, borders := p.borders ++ [⟨x, r, devs, [], s.sys.tick, segs, q, s.prfClass (s.clsOf r)⟩] })
  devs.foldl (fun s d =>
    let mine := bs.filter (fun e => devOf e == d)
    s.relay d msgPrepare (le 4 x ++ le 2 mine.length ++ le 2 0 ++ mine.flatMap prepareEntry)) s

/-- Sets a request's waiting reason, and reports it to the robot (R268, R271). The tests paid for a try that has ended are spent (R47). -/
def waitReq (r : Nat) (pend : Bool) (f : TestFail) (lastT : Option Nat) (s : State) : State :=
  let s := s.mapPr r (fun x => { x with req := x.req.map (fun q => { q with
    pending := pend, reason := f.reason, blocker := f.blocker, holdOnly := f.only, done := if pend then q.done else 0
    lastTry := match lastT with | some t => some t | none => q.lastTry }) })
  match (s.pr r).req with
  | some q => s.sendUnrel r 0x22 (le 1 q.seq ++ le 1 (b2n (!pend)) ++ le 1 f.reason ++ le 1 f.blocker)
  | none => s

/-- Refuses a request (R271). -/
def refuseReq (r reason : Nat) (s : State) : State :=
  match (s.pr r).req with
  | none => s
  | some q =>
    let s := (s.endReq r).mapPas (fun p => { p with refusals := inc32 p.refusals })
    s.sendElem r 0x23 (le 1 q.seq ++ le 1 reason ++ le 2 0)

/-- Whether a pasture replacement in place runs (R545). -/
def pastureReplaced (s : State) : Bool := s.cfg.pend.any (fun p => p.inPlace && p.todo.contains .PAS)

/-- Whether a realignment runs or is pending (R36, R269). -/
def realigning (s : State) : Bool := s.sys.misalign.isSome

/-- The waiting reason for which a request gets no grant now (R269, R357, R545). -/
def grantBar (s : State) (r : Nat) (q : SegReq) : Option Nat :=
  let lanes := (s.reqLanes r q).getD []
  if s.timeValid = false ∨ s.realigning then some 5
  else if s.covered r ∨ lanes.any (fun i => s.stopPaddock (s.clsOf r) (s.laneGeoI i)) then some 8
  else if s.pastureReplaced then some 9 else none

/-- The waiting reason of a request that is not tried in this tick (R269, R271, R282, R357, R545). -/
def reqHeld (s : State) (r : Nat) (q : SegReq) : Option Nat :=
  (s.grantBar r q).or (if s.pas.borders.any (fun b => b.robot == r) then some 6 else none)

/-- What a request meets before it is tried: every request waits while time is not valid (R269), then a refusal (R271), then another
wait. -/
inductive ReqGate where
  | wait (reason : Nat)
  | refuse (reason : Nat)
  | try_

/-- What a request meets in this tick. -/
def reqGate (s : State) (r : Nat) (q : SegReq) : ReqGate :=
  match s.reqHeld r q, s.reqRefused r q with
  | some 5, _ => .wait 5
  | _, some why => .refuse why
  | some why, none => .wait why
  | none, none => .try_

/-- The tries that a request gets in this tick (R270). -/
def reqTries (s : State) (r : Nat) (q : SegReq) : Tried :=
  let next := (s.air.asn + s.sys.slots) * 5 / 4
  let lead := max q.earliest (next + s.prm 0x0608)
  let t0 := match q.lastTry with | some t => max lead (t + s.prm 0x0609) | none => lead
  s.tries r q ((s.reqLanes r q).getD []) (s.rtNow + s.prm 0x0607) (s.prm 0x060A) t0 ⟨.wait (TestFail.bare 3), none, 0⟩

/-- The pair tests that a robot's request still needs in this tick, beyond those made for it in earlier ones (R47). -/
def reqNeed (s : State) (r : Nat) : Nat :=
  match (s.pr r).req with
  | none => 0
  | some q => match s.reqGate r q with
    | .try_ => (s.reqTries r q).cost - q.done
    | _ => 0

/-- The pair tests of the allowances that robots leave unused in this tick (R47; assumption 35). -/
def unusedPool (s : State) : Nat :=
  let own := s.prm 0x0011
  (s.lnk.robots.map (fun (e : Nat × Robot) => own - s.reqNeed e.1)).sum

/-- One request in the Reserve phase (R269 to R272, R357), with the pair tests left in the unused pool (R47). -/
def oneRequest (pool : Nat) (r : Nat) (s : State) : State × Nat :=
  match (s.pr r).req with
  | none => (s, pool)
  | some q =>
    match s.reqGate r q with
    | .refuse why => (s.refuseReq r why, pool)
    | .wait why => (s.waitReq r false (TestFail.bare why) none, pool)
    | .try_ =>
      let tried := s.reqTries r q
      let need := tried.cost - q.done
      let own := s.prm 0x0011
      if own + pool < need then
        ((s.mapPr r (fun x => { x with req := x.req.map (fun q => { q with done := q.done + own + pool }) })).waitReq
          r true (TestFail.bare 0) none, 0)
      else
        let pool := pool - (need - own)
        match tried.res with
        | .grant segs es =>
          if es.any (fun e => e.border && s.borderBarred (s.entryDev e)) then (s.waitReq r false (TestFail.bare 6) tried.last, pool)
          else if es.any (fun e => e.border) then
            ((s.askBorder r (max (s.pr r).p 1000) segs es).waitReq r false (TestFail.bare 6) tried.last, pool)
          else (s.placeGrant r q.seq (max (s.pr r).p 1000) segs es, pool)
        | .wait f =>
          let s := if f.reason = 4 ∧ s.pas.fullRun = false then
              (s.mapPas (fun p => { p with fullRun := true })).raise0 0x0601 .warning 1 0 else s
          (s.waitReq r false f tried.last, pool)

/-- Rank of two requests (R269): the current task's priority, none lowest, then age, then index. -/
def rankBefore (s : State) (a b : Nat × SegReq) : Bool :=
  let rank (e : Nat × SegReq) : Nat := match s.robotPriority e.1 with | some p => p + 1 | none => 0
  if rank a ≠ rank b then decide (rank b < rank a)
  else if a.2.since ≠ b.2.since then decide (a.2.since < b.2.since) else decide (a.1 ≤ b.1)

/-- The outstanding requests. -/
def requests (s : State) : List (Nat × SegReq) := s.pas.robots.filterMap (fun e => e.2.req.map (fun q => (e.1, q)))

/-- R269's order of the requests: those still under test first, in the order in which they were held back (R55), then by rank. -/
def reqOrder (s : State) : List Nat :=
  let before (a b : Nat × SegReq) : Bool :=
    if a.2.pending ≠ b.2.pending then a.2.pending
    else if a.2.pending ∧ a.2.place ≠ b.2.place then decide (a.2.place < b.2.place)
    else s.rankBefore a b
  (sortBy before s.requests).map Prod.fst

/-! ### Borders (R283) -/

/-- Aborts a border wait (R283): level 1 a vote no, 2 no vote in time. The request retries. -/
def abortBorder (b : BorderWait) (level : Nat) (s : State) : State := (s.decideBorder b true).raise 0x060A .notice level 1 b.robot

/-- VOTE arrives (R282): with the last yes the run is granted, if nothing has come in its way since it was planned: a bar on grants
(R269, R357, R545), a refusal, new class limits (R294), a full table (R279) or a conflict. Otherwise it is aborted as a vote no is, and
the request retries (DESIGN CHOICE, assumption 171). -/
def borderVote (dev xid : Nat) (yes : Bool) (s : State) : State :=
  match s.pas.borders.find? (fun b => b.xid == xid && b.waiting.contains dev) with
  | none => s
  | some b =>
    if yes = false then s.abortBorder b 1
    else
      let b' := { b with waiting := b.waiting.filter (fun d => d != dev), voted := b.voted ++ [dev] }
      if b'.waiting ≠ [] then
        s.mapPas (fun p => { p with borders := p.borders.map (fun k => if k.xid = xid then b' else k) })
      else
        match (s.pr b.robot).req with
        | none => s.abortBorder b' 1
        | some q =>
          let es := s.runEntries b.robot q.late q.resume b.segs
          if (s.grantBar b.robot q).isSome ∨ (s.reqRefused b.robot q).isSome ∨ s.prfClass (s.clsOf b.robot) ≠ b.cls ∨
              tableSize < s.pas.entries.length + es.length ∨ (s.testRun es).isSome then s.abortBorder b' 1
          else (s.decideBorder b' false).placeGrant b.robot q.seq b.q b.segs es

/-- BORDER_VOTE_TIMEOUT (R283): waits older than PAS_BORDER_VOTE_TICKS are aborted. -/
def borderTimeouts (s : State) : State :=
  (s.pas.borders.filter (fun b => decide (b.since + s.prm 0x060D ≤ s.sys.tick))).foldl (fun s b => s.abortBorder b 2) s

/-- Reads PREPARE's entries as prepared entries of KIND 03h (R282, R283). `xid` has the coordinator's device number above its
32 bits. -/
def preparedOf (s : State) (xid : Nat) (body : Bytes) : List Entry :=
  (List.range (u16 body 4)).map (fun i =>
    let b := body.drop (8 + 72 * i)
    let lane := u32 b 0
    let g := s.laneGeoI lane
    let sh : Shape := ⟨u16 b 18 + u16 b 24, u16 b 20, u16 b 22, u16 b 24, u16 b 26⟩
    let rcd := ProfileRec.ofBytes (slice b 28 44)
    let ts := s.rtNear (u32 b 8)
    let te := s.rtNear (u32 b 12)
    let t : TSeg := ⟨lane, g, u32 b 4, ts * 1000 + rcd.startUs, ts, te, rcd⟩
    { robot := neighbourRobot, kind := 3, grant := 0, place := lane, seg := i, cls := u8 b 16, shape := sh, geo := g,
      tIn := ts - sh.tau, tOut := some (te + sh.tau), tseg := some t, late := false, border := true, breach := false,
      conflict := false, hits := [], xid := some xid })

/-- PREPARE arrives: it is tested in the next Reserve phase (R283). -/
def borderPrepare (dev : Nat) (body : Bytes) (s : State) : State :=
  let xid := u32 body 0
  s.mapPas (fun p => { p with prepIn := p.prepIn ++ [⟨dev, xid, s.preparedOf (dev * 4294967296 + xid) body⟩] })

/-- Tests the PREPAREs that wait, ahead of own requests (R283). -/
def prepPhase (s : State) : State :=
  s.pas.prepIn.foldl (fun s p =>
    let s := s.mapPas (fun q => { q with prepIn := q.prepIn.drop 1 })
    let fails := p.entries.zipIdx.filterMap (fun (e, i) => (s.testRun [e]).map (fun t => (i, t)))
    let full := decide (tableSize < s.pas.entries.length + p.entries.length)
    if s.outOfStep ∨ s.fld.borderBad.contains p.device then s.relay p.device msgVote (le 4 p.xid ++ le 1 1 ++ le 1 6 ++ le 2 0)
    else match fails.head?, full with
    | some (i, t), _ => s.relay p.device msgVote (le 4 p.xid ++ le 1 1 ++ le 1 t.reason ++ le 2 i)
    | none, true => s.relay p.device msgVote (le 4 p.xid ++ le 1 1 ++ le 1 4 ++ le 2 0)
    | none, false => (s.addEntries p.entries).relay p.device msgVote (le 4 p.xid ++ zeros 4)) s

/-- DECIDE arrives (R283), its XID with the coordinator's device number above it. -/
def borderDecide (xid : Nat) (abort : Bool) (s : State) : State :=
  if abort then s.freeWhere (fun e => e.xid == some xid && e.kind == 3)
  else s.mapPas (fun p => { p with entries := p.entries.map (fun e =>
    if e.xid = some xid ∧ e.kind = 3 then { e with kind := 0 } else e) })

/-! ### The audit and deadlocks (R258, R273, R274) -/

/-- The next `n` entries of a list from a cursor, wrapping, with the new cursor. -/
def auditSlice {α : Type} (l : List α) (cur n : Nat) : List α × Nat :=
  if l = [] then ([], 0)
  else
    let k := cur % l.length
    (((l.drop k) ++ (l.take k)).take n, (k + min n l.length) % l.length)

/-- Flags an entry that conflicts with a hurdle or a paddock, `key` in `hits`, and raises the event once for its robot (R258); for a
neighbour's robot none is raised (DESIGN CHOICE, assumption 170). -/
def flagConflict (code idx key : Nat) (e : Entry) (s : State) : State :=
  if e.hits.contains key then s
  else
    let known := s.pas.entries.any (fun k => k.robot == e.robot && k.hits.contains key)
    let s := s.mapPas (fun p => { p with entries := p.entries.map (fun k =>
      if k = e then { k with conflict := true, hits := key :: k.hits } else k) })
    if known ∨ 256 ≤ e.robot then s else s.raiseD code .warning 1 1 e.robot idx

/-- A hurdle or paddock changes: what the audit found of the one before it is forgotten. -/
def forgetHits (key : Nat) (s : State) : State :=
  s.mapPas (fun p => { p with entries := p.entries.map (fun e => { e with hits := e.hits.filter (fun k => k != key) }) })

/-- A lane entry conflicts with a paddock: it is closed to the robot's class, or holds too many robots (R256, R258). -/
def padConflict (s : State) (p : Paddock) (e : Entry) : Bool :=
  e.laneLike && (padInterval e.geo e.shape p).isSome && (bit p.nogo e.cls || padFull e p s.pas.entries)

/-- One step of the audit: the next `n` of the entries of one hurdle or paddock, and the event for those in conflict. -/
def auditOne (code idx key n : Nat) (meets conflicts : Entry → Bool) (s : State) : State :=
  let (part, cur) := auditSlice (s.pas.entries.filter meets) (Tab.getD key 0 s.pas.audit) n
  let s := s.mapPas (fun p => { p with audit := Tab.put key cur p.audit })
  (part.filter conflicts).foldl (fun s e => s.flagConflict code idx key e) s

/-- The audit of one tick's Reserve phase (R258). -/
def auditPhase (s : State) : State :=
  let s := s.pas.hurdles.foldl (fun s h =>
    let he := hurdleEntry h.2
    s.auditOne 0x0602 h.1 h.1 32 (tilesMeet he) (fun e => (pairTest e he).1)) s
  (s.paddocks.filter (fun pd => pd.2.excl != 0 || pd.2.nogo != 0)).foldl (fun s pd =>
    s.auditOne 0x0603 pd.1 (1024 + pd.1) 8 pd.2.tilesMeet (s.padConflict pd.2)) s

/-- Whom a waiting robot waits on, where only the other's open hold failed its last try (R273). -/
def waitsOn (s : State) (r : Nat) : Option Nat := (s.pr r).req.bind (fun q => q.holdOnly)

/-- Follows the waits from a robot for `n` steps: the cycle through it, if there is one. -/
def cycleFrom (s : State) (start : Nat) : Nat → Nat → List Nat → Option (List Nat)
  | 0, _, _ => none
  | n + 1, r, acc =>
    match s.waitsOn r with
    | none => none
    | some b => if b = start then some (acc ++ [r]) else if (acc ++ [r]).contains b then none
      else cycleFrom s start n b (acc ++ [r])

/-- Members of a cycle by the rank of R269, lowest first. -/
def byRank (s : State) (rs : List Nat) : List Nat :=
  ((sortBy s.rankBefore (s.requests.filter (fun e => rs.contains e.1))).map Prod.fst).reverse

/-- The squared distance of two nodes in mm². -/
def nodeDist2 (s : State) (a b : Nat) : Nat :=
  let g := s.nodeGeo a
  let h := s.nodeGeo b
  (⟨g.x1, g.y1, h.x1, h.y1⟩ : Geo).len2

/-- One plan for a member of a deadlock (R274): 1 a route round every node held open by a member, 2 a route by the nearest HOLD node
within reach that no member holds or needs. -/
def wayOut (s : State) (cyc : List Nat) (r how : Nat) : Option (List Nat) :=
  let held := cyc.filterMap (fun k => s.openHoldOf k)
  let ends (i : Nat) : Option Nat := (s.lane? i).map (fun l => l.toN)
  match s.openHoldOf r, (s.pr r).route.bind (fun t => t.legs.flatten.getLast?.bind ends) with
  | some h, some d =>
    let c := s.clsOf r
    if how = 1 then s.planRoute c h (held.filter (fun k => k != h)) [d]
    else
      let needs := cyc.flatMap (fun k => match (s.pr k).route with | some t => t.legs.flatten.filterMap ends | none => [])
      let near := (List.range (s.prm 0x0605)).filter (fun n => s.holdNode n && n != h && !held.contains n && !needs.contains n &&
        decide (s.nodeDist2 h n ≤ s.prm 0x060C ^ 2))
      if s.prm 0x060C = 0 then none
      else (sortBy (fun a b => decide (s.nodeDist2 h a ≤ s.nodeDist2 h b)) near).head?.bind (fun n => s.planRoute c h [] [n, d])
  | _, _ => none

/-- Up to `n` plans for the deadlocks that stand (R274), within the planner's share of the tick (R267); answers the plans left. The first
member for which one succeeds gets the route. -/
def wayPhase : Nat → State → State × Nat
  | 0, s => (s, 0)
  | n + 1, s =>
    match s.pas.ways with
    | [] => (s, n + 1)
    | w :: rest =>
      let drop := s.mapPas (fun p => { p with ways := rest })
      match w.left with
      | [] => wayPhase n drop
      | (r, how) :: left =>
        if s.pas.cycles.contains (sortBy (fun a b => decide (a ≤ b)) w.cycle) = false then wayPhase n drop
        else match s.wayOut w.cycle r how with
        | some lanes => wayPhase n (((drop.refuseReq r 4).setRoute r lanes false).raise 0x0608 .notice how 1 r)
        | none => wayPhase n (s.mapPas (fun p => { p with ways := if left = [] then rest else ⟨w.cycle, left⟩ :: rest }))

/-- The Firmware phase's planning (R54, R267): of the `adm` requests admitted, oldest first, the first `n` are planned and the others
held back, as late; then deadlocks, which rank below them (R335). Answers how many plans were made. -/
def planPhase (n adm : Nat) (s : State) : State × Nat :=
  let q := s.pas.planQueue.take (min n adm)
  let held := (s.pas.planQueue.take adm).drop n
  let s := q.foldl (fun s r => s.planOne r) s
  let s := held.foldl (fun s r => s.mapPr r (fun x => { x with plan := x.plan.map (fun p => { p with late := true }) })) s
  let (s, left) := s.wayPhase (min n adm - q.length)
  (s, min n adm - left)

/-- The deadlock search at the end of the Reserve phase (R273, R274): the plans for a new cycle wait for the planner. -/
def deadlockPhase (s : State) : State :=
  let rs := s.pas.robots.map Prod.fst
  let cycles := ((rs.filterMap (fun r => s.cycleFrom r 256 r [])).map
    (fun c => sortBy (fun a b => decide (a ≤ b)) c)).dedup
  let fresh := cycles.filter (fun c => !s.pas.cycles.contains c)
  let s := s.mapPas (fun p => { p with
    cycles := cycles, ways := p.ways.filter (fun w => cycles.contains (sortBy (fun a b => decide (a ≤ b)) w.cycle)) })
  fresh.foldl (fun s c =>
    let order := s.byRank c
    let s := s.mapPas (fun p => { p with
      deadlocks := inc32 p.deadlocks
      ways := if s.prm 0x060E = 0 then p.ways else p.ways ++ [⟨c, order.flatMap (fun r => [(r, 1), (r, 2)])⟩] })
    s.raise 0x0607 .warning (min 255 c.length) 1 (order.headD 0)) s

/-- The Reserve phase (R39, R269): PREPAREs, requests in order, audit, deadlocks. The engine completes the tests of `done` requests
in its window; the others continue in the next tick, ahead of it, and their outcome is late (R54). The pasture as it stands when the
first `early` of them are decided, at 0.60 T, comes back with the state. -/
def reservePhase (done early : Nat) (s : State) : State × Pas :=
  let s := s.prepPhase
  let order := s.reqOrder
  let run (rs : List Nat) (a : State × Nat) : State × Nat := rs.foldl (fun (acc : State × Nat) r => acc.1.oneRequest acc.2 r) a
  let ready := run ((order.take done).take early) (s, s.unusedPool)
  let at60 := ready.1.pas
  let s := (run ((order.take done).drop early) ready).1
  let s := (order.drop done).foldl (fun s r =>
    (s.mapPr r (fun x => { x with req := x.req.map (fun q => { q with late := true }) })).waitReq r true (TestFail.bare 0) none) s
  let s := order.zipIdx.foldl (fun s (r, i) =>
    s.mapPr r (fun x => { x with req := x.req.map (fun q => { q with place := i }) })) s
  let s := s.mapPas (fun p => { p with fullRun := p.fullRun && p.robots.any (fun e => e.2.req.any (fun q => q.reason == 4)) })
  (s.auditPhase.deadlockPhase, at60)

/-- Runs `f`, which changes nothing of the pasture, on the pasture as it stood earlier in the tick. -/
def withPas (p : Pas) (f : State → State) (s : State) : State := { f { s with pas := p } with pas := s.pas }

/-! ### Evidence (R275, R276, R278, R300 to R304) -/

/-- The distances along and beside a line, mm, of a point. -/
def alongOf (g : Geo) (x y : Rat) : Rat × Rat :=
  let l := rootRat g.len2
  if g.len2 = 0 then (0, 0) else ((g.dx * (x - g.x1) + g.dy * (y - g.y1)) / l, (g.dx * (y - g.y1) - g.dy * (x - g.x1)) / l)

/-- A lane of a robot's granted track: the grant, the lane's place in it, its start in the grant's own track, and its start in all of the
robot's tracks laid end to end, mm. -/
structure ChainLane where
  grant : Nat
  i : Nat
  base : Nat
  off : Nat
  seg : TSeg

/-- The place, in the lanes of a track, where the next one starts: the last lane that starts where that does, else the end. -/
def joinAt (a b : List TSeg) : Nat :=
  match b.head? with
  | none => trackLen a
  | some g =>
    let starts (x y : Int) : Bool := x == g.geo.x1 && y == g.geo.y1
    if (match a.getLast? with | some e => starts e.geo.x2 e.geo.y2 | none => true) then trackLen a
    else match ((segBases 0 a).filter (fun x => starts x.2.geo.x1 x.2.geo.y1)).getLast? with
      | some x => x.1
      | none => trackLen a

/-- A robot's tracks laid end to end, from an offset on. -/
def chainOf : Nat → List Track → List (Nat × Track)
  | _, [] => []
  | b, [k] => [(b, k)]
  | b, k :: n :: ts => (b, k) :: chainOf (b + joinAt k.segs n.segs) (n :: ts)

/-- The lanes of a chain. -/
def chainLanes (ch : List (Nat × Track)) : List ChainLane :=
  ch.flatMap (fun (b, k) => (segBases 0 k.segs).zipIdx.map (fun (x, i) => ⟨k.id, i, x.1, b + x.1, x.2⟩))

/-- σ along a chain at `t` ps: that of the newest track that has started, else of the first. -/
def chainSigma (ch : List (Nat × Track)) (t : Nat) : Rat :=
  match (ch.filter (fun x => decide (trackStart x.2.segs * psUs ≤ t))).getLast?.or ch.head? with
  | some (b, k) => b + mmOf (sigma k.segs t)
  | none => 0

/-- Where a point lies on a chain: the number of the nearest lane, the place along it, and the distance beside it, mm. -/
structure OnTrack where
  n : Nat
  lane : ChainLane
  along : Rat
  lateral : Rat

/-- The route position on the chain. -/
def OnTrack.pos (o : OnTrack) : Rat := o.lane.off + o.along

/-- The nearest point of a chain to a point in mm. -/
def nearestOn (ls : List ChainLane) (x y : Rat) : Option OnTrack :=
  (ls.zipIdx.foldl (fun (best : Option (Rat × OnTrack)) (l, i) =>
    let (al, la) := alongOf l.seg.geo x y
    let cl := max 0 (min al (l.seg.geo.len : Rat))
    let d2 := (al - cl) ^ 2 + la ^ 2
    match best with
    | some b => if b.1 ≤ d2 then best else some (d2, ⟨i, l, cl, la⟩)
    | none => some (d2, ⟨i, l, cl, la⟩)) none).map Prod.snd

/-- The reference point of a fix at (x, y): less ANT_FWD along the heading of the lane on which it projects; the fix's position itself
where no lane gives one (R275). -/
def refPoint (s : State) (c : Nat) (ls : List ChainLane) (x y : Rat) : Rat × Rat :=
  match nearestOn ls x y with
  | none => (x, y)
  | some o =>
    let g := o.lane.seg.geo
    let l := rootRat g.len2
    let f : Rat := s.antFwd c
    if g.len2 = 0 then (x, y) else (x - f * g.dx / l, y - f * g.dy / l)

/-- A robot's tracks of which a lane entry is still held, oldest first. -/
def liveTracks (s : State) (r : Nat) : List Track :=
  let held := (s.entriesOfRobot r).filter (fun e => e.kind == 0 || e.kind == 2)
  (s.pr r).tracks.filter (fun k => held.any (fun e => e.grant == k.id))

/-- The track that plans a robot at an instant in ps of RT: the newest that has started, else the oldest. -/
def trackAt (s : State) (r t : Nat) : Option Track :=
  let ts := s.liveTracks r
  (ts.filter (fun k => decide (trackStart k.segs * psUs ≤ t))).getLast?.or ts.head?

/-- A track has not ended at an instant in ps. -/
def trackLive (k : Track) (t : Nat) : Bool := match k.segs.getLast? with | some g => decide (t ≤ g.endUs * psUs) | none => false

/-- A robot's grant has not ended at an instant in ps. -/
def grantLive (s : State) (r t : Nat) : Bool := match s.trackAt r t with | some k => trackLive k t | none => false

/-- What evidence says of a robot: the epoch in ps of RT, its tracks end to end with their lanes, and the reference point (R275). -/
structure Evidence where
  t : Nat
  chain : List (Nat × Track)
  lanes : List ChainLane
  x : Rat
  y : Rat

/-- Reads an evidence fix against the robot's grants; one whose grant has ended keeps the fix's position (R275). -/
def evidenceOf (s : State) (f : FixRec) : Evidence :=
  let t := s.rtNsOf f.epoch * psNs
  let ch := chainOf 0 (s.liveTracks f.robot)
  let ls := chainLanes ch
  let p : Rat × Rat := (f.enu.1, f.enu.2.1)
  let p := if s.grantLive f.robot t then s.refPoint (s.clsOf f.robot) ls p.1 p.2 else p
  ⟨t, ch, ls, p.1, p.2⟩

/-- A fix is evidence (R275). -/
def isEvidence (s : State) (f : FixRec) : Bool :=
  (f.typ == 2 || f.typ == 3) && bit f.flags 4 &&
  decide (0 ≤ f32Units (f.cov.getD 0 0) + f32Units (f.cov.getD 3 0) ∧
    f32Units (f.cov.getD 0 0) + f32Units (f.cov.getD 3 0) ≤ ((s.prm 0x060B ^ 2 : Nat) : Int) * 2 ^ 149)

/-- Half-widths of the class's window in mm, and DW_FIXES. -/
def devWindow (s : State) (c : Nat) : Nat × Nat × Nat :=
  let b := s.prfClass c
  (u16 b 20, u16 b 22, u8 b 24)

/-- Rounds a rational half away from zero. -/
def rndRat (q : Rat) : Int := if 0 ≤ q then (q + 1 / 2).floor else -((-q + 1 / 2).floor)

/-- The deviation check of one evidence fix (R300 to R302): the errors in mm, the first where it is formed. -/
def devCheck (r : Nat) (ea : Option Rat) (ec : Rat) (s : State) : State :=
  let (wa, wc, nf) := s.devWindow (s.clsOf r)
  let x := s.pr r
  let a := ea.getD 0
  let s := s.mapPr r (fun x => { x with ea := (ea.map rndRat).getD x.ea, ec := rndRat ec })
  if (wa : Rat) < |a| ∨ (wc : Rat) < |ec| then
    let ratio := (max (|a| / (max 1 wa : Nat)) (|ec| / (max 1 wc : Nat))).floor.toNat
    let run := x.devRun + 1
    let due := if x.devRaised then decide (x.devMax < ratio) else decide (nf ≤ run)
    let level := min 255 ratio
    let s := s.mapPr r (fun x => { x with
      devRun := run, devRaised := x.devRaised || due, devMax := if due then max x.devMax level else x.devMax
      breaches := if due then inc32 x.breaches else x.breaches })
    if due then s.raiseD 0x0701 .warning level 1 r (ofSigned 32 (rndRat a) + 4294967296 * ofSigned 32 (rndRat ec)) else s
  else
    let s' := s.mapPr r (fun x => { x with devRun := 0, devRaised := false, devMax := 0 })
    if x.devRaised then s'.raise 0x0702 .notice x.devMax 1 r else s'

/-- e_a, unless a stop or a conversion has put it off (R302). -/
def formed (s : State) (r : Nat) (ea : Rat) : Option Rat := if (s.pr r).eaOff then none else some ea

/-- The deviation check of a robot with no live grant: planned at the node of its open hold (R300). -/
def checkAtHold (r : Nat) (x y : Rat) (s : State) : State :=
  match s.openHoldOf r with
  | none => s
  | some h =>
    let n := s.nodeGeo h
    s.devCheck r (s.formed r (rootRat ((x - n.x1) ^ 2 + (y - n.y1) ^ 2))) 0

/-- The cross-track error of R300: within L of a node, to the nearer of the lines of the lanes that meet there. -/
def crossError (big : Nat) (ls : List ChainLane) (o : OnTrack) (x y : Rat) : Rat :=
  let beside (n : Nat) : List Rat := match ls[n]? with | some l => [|(alongOf l.seg.geo x y).2|] | none => []
  let before := if o.along ≤ big ∧ 0 < o.n then beside (o.n - 1) else []
  let after := if (o.lane.seg.geo.len : Rat) - big ≤ o.along then beside (o.n + 1) else []
  (before ++ after).foldl min |o.lateral|

/-- The Check phase for one fix: the deviation window against the planned position (R300, R302). -/
def checkFix (f : FixRec) (s : State) : State :=
  let r := f.robot
  if s.isEvidence f = false then s
  else
    let s := s.mapPr r (fun x => { x with lastEvid := s.now, gapDone := false })
    if s.prm 0x0710 = 0 then s
    else
      let e := s.evidenceOf f
      if s.grantLive r e.t then
        match nearestOn e.lanes e.x e.y with
        | none => s
        | some o => s.devCheck r (s.formed r (o.pos - chainSigma e.chain e.t)) (crossError (s.classShape (s.clsOf r)).big e.lanes o e.x e.y)
      else s.checkAtHold r e.x e.y

/-- One progress sample from a freed lane entry (R304): the planned times to 1 ps (assumption 32). -/
def progressSample (r : Nat) (k : Track) (e : Entry) (s : State) : State :=
  let x := s.pr r
  let stopped : Bool := match x.stopAt with | some t => decide (e.tIn ≤ t) | none => false
  match x.evid.find? (fun v => v.grant == k.id && v.seg == e.seg) with
  | none => s
  | some v =>
    if s.prm 0x0711 = 0 ∨ e.late ∨ e.breach ∨ e.conflict ∨ stopped ∨ v.count < 2 then s
    else
      let reached (p : Int) : Nat := leastT (fun t => decide (p ≤ sigma k.segs t)) 56 (trackStart k.segs * psUs)
      let t1 := reached v.first.2
      let t2 := reached v.last.2
      if t2 < t1 + 1000000000000 then s
      else
        let old := x.pNext.getD x.p
        let ratio : Rat := 1000 * psNs * ((v.last.1 : Int) - v.first.1 : Int) / ((t2 : Int) - t1 : Int)
        let sample : Rat := (k.q : Rat) / 1000 * ratio
        let b := s.prfClass (s.clsOf r)
        let p : Int := old + rndRat ((sample - old) / s.prm 0x0712)
        let pc := max (u16 b 26 : Int) (min (u16 b 28 : Int) p)
        let clamped := pc != p
        let s := s.mapPr r (fun x => { x with pNext := some pc.toNat, clampRun := clamped })
        if clamped && !x.clampRun then s.raise 0x0704 .notice (if p < u16 b 26 then 1 else 2) 1 r else s

/-- A p computed in the tick before applies (R304). -/
def progressTick (s : State) : State :=
  s.mapPas (fun t => { t with robots := Tab.mapVals (fun _ (x : PasRobot) => { x with p := x.pNext.getD x.p, pNext := none }) t.robots })

/-- The first other robot whose entries conflict with a robot's marked entries (R278). -/
def firstConflict (s : State) (r : Nat) : Nat :=
  let mine := s.pas.entries.filter (fun e => e.robot == r && e.breach)
  match s.pas.entries.find? (fun o => o.robot != r && decide (o.robot < 256) && mine.any (fun e => (pairTest e o).1)) with
  | some o => o.robot
  | none => 0xFF

/-- Completes a PAS_MOVE whose DEST is the robot's open hold, where evidence lies within L of the node (R284), and gives a
robot that holds no entry an open hold at a HOLD node it stands at (assumption 23). -/
def evidenceHold (r : Nat) (x y : Rat) (s : State) : State :=
  let c := s.clsOf r
  let sh := s.classShape c
  let near (n : Nat) : Bool := let g := s.nodeGeo n; decide ((x - g.x1) ^ 2 + (y - g.y1) ^ 2 ≤ (sh.big : Rat) ^ 2)
  let s := if (s.entriesOfRobot r).isEmpty then
      match (List.range (s.prm 0x0605)).find? (fun n => s.holdNode n && near n) with
      | none => s
      | some n =>
        s.addEntries [{ robot := r, kind := 1, grant := 0, place := n, seg := 0, cls := c, shape := sh, geo := s.nodeGeo n,
                        tIn := s.rtNow, tOut := none, tseg := none, late := false, border := false, breach := false,
                        conflict := false, hits := [], xid := none }]
    else s
  match (s.pr r).move, s.openHoldOf r with
  | some (d, n, a), some h =>
    if d = h ∧ near d then (s.mapPr r (fun x => { x with move := none })).completeOk n a [] else s
  | _, _ => s

/-- Frees a grant's segments from the `j`-th on with their node holds; the hold where the `j`-th starts becomes open-ended
(R276). -/
def freeFrom (s : State) (r gid j : Nat) : State :=
  let s := s.freeWhere (fun e => e.robot == r && e.grant == gid && ((e.kind == 0 && decide (j ≤ e.seg)) ||
    (e.kind == 1 && decide (j < e.seg))))
  let s := s.mapPas (fun p => { p with entries := p.entries.map (fun e =>
    if e.robot = r ∧ e.grant = gid ∧ e.kind = 1 ∧ e.seg = j then { e with tOut := none } else e) })
  s.mapPr r (fun x => { x with tracks := x.tracks.map (fun k => if k.id = gid then { k with segs := k.segs.take j } else k) })

/-- Evidence on a lane, for its progress sample (R304). -/
def noteEvidence (r ns : Nat) (o : OnTrack) (s : State) : State :=
  let l := o.lane
  let at_ : Nat × Int := (ns, ((l.base + o.along) * Trig.one).floor)
  let mine (v : EvidRun) : Bool := v.grant == l.grant && v.seg == l.i
  s.mapPr r (fun x =>
    let v : EvidRun := match x.evid.find? mine with
      | some v => { v with last := at_, count := v.count + 1 }
      | none => ⟨l.grant, l.i, at_, at_, 1⟩
    { x with evid := v :: x.evid.filter (fun w => !mine w) })

/-- The level of ENVELOPE_BREACH that evidence shows, 0 for none (R278): 1 cross-track, 2 lag, 3 lead; lag only while no stop covers the
robot. It is judged inside the granted track, outside the span within L of a node. -/
def envelopeLevel (s : State) (r : Nat) (e : Evidence) (o : OnTrack) : Nat :=
  let sh := s.classShape (s.clsOf r)
  let tau := sh.tau * 1000 * psUs
  let started : Bool := match s.trackAt r e.t with | some k => decide (trackStart k.segs * psUs ≤ e.t) | none => false
  let held := s.pas.entries.any (fun k => k.robot == r && k.grant == o.lane.grant && (k.kind == 0 || k.kind == 2))
  if s.grantLive r e.t = false ∨ started = false ∨ held = false ∨ o.along ≤ sh.big ∨ (o.lane.seg.geo.len : Rat) - sh.big ≤ o.along then 0
  else if (sh.m : Rat) < |o.lateral| then 1
  else if s.covered r = false ∧ o.pos < chainSigma e.chain (e.t - tau) then 2
  else if chainSigma e.chain (e.t + tau) < o.pos then 3 else 0

/-- The lanes that evidence shows the robot to have passed by k, of every track, are freed with every entry before them (R276, first
case). -/
def passLanes (r : Nat) (e : Evidence) (pos : Rat) (s : State) : State :=
  let sh := s.classShape (s.clsOf r)
  e.chain.foldl (fun s (_, k) =>
    match (e.lanes.filter (fun l => l.grant == k.id && decide (((l.off + l.seg.geo.len + sh.k : Nat) : Rat) ≤ pos))).getLast? with
    | none => s
    | some l =>
      let gone (x : Entry) : Bool := x.robot == r && x.grant == k.id && decide (x.seg ≤ l.i) && decide (x.kind ≤ 2)
      let freed := s.pas.entries.filter (fun x => gone x && x.kind == 0)
      (freed.foldl (fun s x => s.progressSample r k x) s).freeWhere gone) s

/-- Lanes short of which evidence shows the robot after T_START + τ lapse, with the later ones of their grant (R276, second case). -/
def lapseLanes (r : Nat) (e : Evidence) (pos : Rat) (s : State) : State :=
  let tau := (s.classShape (s.clsOf r)).tau
  e.chain.foldl (fun s (_, k) =>
    let holds (j : Nat) (x : Entry) : Bool := x.robot == r && x.grant == k.id && x.kind == 0 && x.seg == j
    match e.lanes.find? (fun l => l.grant == k.id && decide ((l.seg.tStart + tau) * 1000 * psUs < e.t) && decide (pos < l.off) &&
        s.pas.entries.any (holds l.i)) with
    | none => s
    | some l =>
      let n := (s.pas.entries.filter (fun x => x.robot == r && x.grant == k.id && x.kind == 0 && decide (l.i ≤ x.seg))).length
      (s.freeFrom r k.id l.i).raise 0x0605 .notice n 1 r) s

/-- Evidence places the robot off an overstayed lane (R277): beyond its end by k, or further than R + L from its line. -/
def offLane (sh : Shape) (x y : Rat) (e : Entry) : Bool :=
  let (al, la) := alongOf e.geo x y
  e.kind == 2 && decide (((e.geo.len + sh.k : Nat) : Rat) ≤ al ∨ ((sh.r + sh.big : Nat) : Rat) < |la|)

/-- The Reserve phase's use of one evidence fix: release, lapse and breach (R276 to R278). -/
def evidenceFix (f : FixRec) (s : State) : State :=
  let r := f.robot
  if s.isEvidence f = false then s
  else
    let e := s.evidenceOf f
    let sh := s.classShape (s.clsOf r)
    let s := s.freeWhere (fun k => k.robot == r && offLane sh e.x e.y k)
    match nearestOn e.lanes e.x e.y with
    | none => s.evidenceHold r e.x e.y
    | some o =>
      let s := s.noteEvidence r (e.t / psNs) o
      let lvl := s.envelopeLevel r e o
      let s := if lvl = 0 then s
        else
          let s := s.convertNow r true
          s.raiseD 0x0606 .warning lvl 1 r (s.firstConflict r)
      ((s.passLanes r e o.pos).lapseLanes r e o.pos).evidenceHold r e.x e.y

/-- RELEASE for a grant (R276, R292): CAUSE 01h raises PROFILE_REJECTED, whatever of the grant is still held. -/
def releaseElem (r : Nat) (v : Bytes) (s : State) : State :=
  let gid := u16 v 0
  let keep := u8 v 2
  if v.length ≠ 4 ∨ 16 < keep ∨ 2 ≤ u8 v 3 ∨
      (s.pas.entries.any (fun e => e.robot == r && e.grant == gid && decide (e.kind ≤ 2)) || (s.pr r).tracks.any (fun k => k.id == gid)) = false then s
  else
    let later := s.pas.entries.any (fun e => e.robot == r && e.grant == gid && e.kind == 0 && decide (keep ≤ e.seg))
    let s := if later then s.freeFrom r gid keep else s
    if u8 v 3 = 1 then s.raise 0x0705 .warning keep 1 r else s

/-- σ of the robot's grant changes at the present RT (R303). -/
def moving (s : State) (r : Nat) : Bool :=
  let t := s.rtNow * 1000 * psUs
  match s.trackAt r t with
  | some k => trackLive k t && sigma k.segs t != sigma k.segs (t + 1000 * psUs)
  | none => false

/-- No gap runs for a robot that is not moving (R303): at a tick its gap starts anew. Tracks of ended grants are forgotten. -/
def gapTick (s : State) : State :=
  s.mapPas (fun p => { p with robots := p.robots.map (fun (e : Nat × PasRobot) =>
    let go := s.moving e.1
    (e.1, { e.2 with
      lastEvid := if go then e.2.lastEvid else s.now
      gapDone := go && e.2.gapDone
      tracks := s.liveTracks e.1 })) })

/-- NO_EVIDENCE (R303): a moving robot without evidence for PRF_EVIDENCE_GAP_MS, once per gap. -/
def noEvidence (r : Nat) (s : State) : State :=
  let x := s.pr r
  if s.moving r ∧ x.gapDone = false ∧ s.prm 0x0713 * 1000000 ≤ s.now - x.lastEvid then
    (s.mapPr r (fun x => { x with gapDone := true })).raise 0x0703 .warning 1 1 r
  else s

/-! ### Opcodes (R252, R255, R257, R284, R306) -/

/-- Stages a change into the session's shadow set (R94). -/
def mapShadow (n : Nat) (f : Shadow → Shadow) (s : State) : State := s.mapSession n (fun x => { x with shadow := f x.shadow })

/-- Splits a table's records. -/
def recordsOf (n count : Nat) (b : Bytes) : List Bytes := (List.range count).map (fun i => slice b (8 + n * i) n)

/-- A node record's own checks (R252). -/
def nodeRecOk (b : Bytes) : Bool := decide (u8 b 12 < 2) && rd b 13 3 == 0

/-- A lane record's own checks (R252). -/
def laneRecOk (b : Bytes) : Bool :=
  decide (u8 b 8 < 2) && u8 b 9 == 0 && (if bit (u8 b 8) 0 then decide (u16 b 10 ≤ 4095) else u16 b 10 == 0xFFFF)

/-- PAS_NODES_WRITE and PAS_LANES_WRITE (R252). -/
def runTableWrite (lanes : Bool) (c : Cmd) (s : State) : State × CmdRes :=
  let b := c.params
  let size := if lanes then 12 else 16
  let first := u32 b 0
  let count := u16 b 4
  if b.length < 8 then (s, refuse stBadLength 0)
  else if (if lanes then 131072 else 65536) < first + count ∨ count = 0 ∨ u16 b 6 ≠ 0 then (s, refuse stBadParam 0xFFF0)
  else if b.length ≠ 8 + size * count then (s, refuse stBadLength 0)
  else
    let recs := recordsOf size count b
    match findIdx (fun x => !(if lanes then laneRecOk x else nodeRecOk x)) recs with
    | some (i, _) => (s, refuse stBadParam i)
    | none =>
      if lanes ∧ recs.any (fun x => bit (u8 x 8) 0) ∧ bit c.agreed 132 = false then (s, refuse stNotNegotiated 132)
      else
        let put (t : Tab Bytes) : Tab Bytes := (recs.zipIdx).foldl (fun t (x, i) => Tab.put (first + i) x t) t
        (s.mapShadow c.sess (fun h => if lanes then { h with lanes := put h.lanes } else { h with nodes := put h.nodes }), fin [])

/-- PAS_NODES_WRITE. -/
def runPasNodesWrite (c : Cmd) (s : State) : State × CmdRes := s.runTableWrite false c
/-- PAS_LANES_WRITE. -/
def runPasLanesWrite (c : Cmd) (s : State) : State × CmdRes := s.runTableWrite true c

/-- PAS_PADDOCK_WRITE (R255). -/
def runPasPaddockWrite (c : Cmd) (s : State) : State × CmdRes :=
  let b := c.params
  if b.length < 12 then (s, refuse stBadLength 0)
  else if 1024 ≤ u16 b 0 ∨ u8 b 2 < 3 ∨ 32 < u8 b 2 ∨ 2 ≤ u8 b 3 ∨ rd b 9 3 ≠ 0 then (s, refuse stBadParam 0)
  else if b.length ≠ 12 + 8 * u8 b 2 then (s, refuse stBadLength 0)
  else (s.mapShadow c.sess (fun h => { h with pads := Tab.put (u16 b 0) (if bit (u8 b 3) 0 then b else []) h.pads }), fin [])

/-- The COR slots of base-solved robots with a pending mode change: they stay where the newest map has them until its instant
(R143; assumption 129). -/
def heldCors (s : State) : List SlotItem :=
  let m := match s.air.next.getLast? with | some m => m.2 | none => s.air.map
  m.items.filter (fun i => i.typ == .cor && (match i.robot.bind (fun r => Tab.find? r s.fix.robots) with
    | some f => f.base && f.pend.isSome && ratePeriod s.sys.slots f.rate == i.period
    | none => false))

/-- The configuration as admission prices it (R41). A halted core takes a sixth off the CORE line, cores 0 and 1 included
(assumption 132). -/
def siteOf (s : State) (p : Nat → Nat) (robots : List SiteRobot) (hurdles paddocks : Nat) : Site :=
  { slots := p 0x0010, rateG := p 0x0201, pair := s.pai.role != 0, robots := robots, hurdles := hurdles, paddocks := paddocks,
    lanes := p 0x0606, roundTasks := p 0x0800, ptPer := p 0x0011, plans := p 0x0012, margin := p 0x0013,
    domain := p 0x0500, chains := p 0x0501,
    chainsBad := (s.air.chains.zipIdx.filter (fun x => x.1.bad)).map Prod.snd,
    engines := 4 - s.fix.enginesBad.length,
    workingLost := ((s.mem.banks.zipIdx).filter (fun x => decide (8 ≤ x.2 ∧ x.2 ≤ 31) && x.1.state == .outOfService)).length,
    coresLost := s.sys.halted.length + (s.sys.badParts.filter (fun p => match p with | .core _ => true | _ => false)).length, legacyChain := p 0x050F
    held := if p 0x0010 = s.sys.slots then s.heldCors else [] }

/-- The registered robots as admission sees them: a pending mode change counts as made (R48, R143). -/
def siteRobots (s : State) : List SiteRobot :=
  s.lnk.robots.map (fun e => {
    idx := e.1, chain := e.2.chain, legacy := e.2.legacy
    selfNow := match Tab.find? e.1 s.fix.robots with | some f => !f.base | none => true
    rate := match Tab.find? e.1 s.fix.robots with
      | some f => (match f.pend with
        | some m => if m.base then m.rate else 0
        | none => if f.base then f.rate else 0)
      | none => 0 })

/-- The site that BUDGET_READ prices: each robot at the mode and rate in effect (R52, R143). -/
def siteEffect (s : State) : Site :=
  s.siteOf s.prm (s.siteRobots.map (fun r => { r with rate := match Tab.find? r.idx s.fix.robots with
    | some f => if f.base then f.rate else 0
    | none => 0 })) s.pas.hurdles.length s.paddocks.length

/-- The site in effect, with a pending mode change counted as made. -/
def siteNow (s : State) : Site := s.siteOf s.prm s.siteRobots s.pas.hurdles.length s.paddocks.length

/-- The hurdles with every change accepted, each counted once (R48, R257). -/
def hurdlesAccepted (s : State) : Tab Hurdle :=
  s.pas.hurdleNext.foldl (fun t x => match x.2.1 with
    | some h => Tab.put x.1 h t
    | none => Tab.del x.1 t) s.pas.hurdles

/-- The site that a generation makes of the robots, hurdles and paddocks held (R48): legacy members follow AIR_LEGACY_CHAIN. -/
def siteFor (s : State) (g : Gen) : Site :=
  let lc := g.prm 0x050F
  s.siteOf g.prm (s.siteRobots.map (fun r => if r.legacy ∧ lc ≤ 3 then { r with chain := lc } else r))
    s.hurdlesAccepted.length (g.pads.filter (fun (e : Nat × Bytes) => bit (u8 e.2 3) 0)).length

/-- The site whose map a generation is placed by at a tick length (R205). -/
def siteAt (s : State) (g : Gen) (n : Nat) : Site :=
  { s.siteFor g with slots := n, held := if n = s.sys.slots then s.heldCors else [] }

/-- The site whose map a change accepted now is placed by (R205): with every COMMIT accepted before, at the length in effect. -/
def siteMap (s : State) : Site := s.siteAt s.newest s.sys.slots

/-- The site in effect with the hurdle changes accepted: what a command's addition is priced on (R48). -/
def siteAdmit (s : State) : Site := { s.siteNow with hurdles := s.hurdlesAccepted.length }

/-- The 16-byte line records of a budget block (R53). -/
def lineBytes (peaks : Tab Nat) (l : Line) : Bytes :=
  le 1 l.code ++ le 1 (b2n (decide (l.cap < l.demand)) + 2 * b2n l.short + 4 * b2n l.disabled) ++ le 2 0 ++
  le 4 (min 0xFFFFFFFF l.demand) ++ le 4 (min 0xFFFFFFFF l.cap) ++ le 4 (Tab.getD l.code 0 peaks)

/-- The budget block (R53). -/
def budgetBlock (s : State) (probe : Bool) (z : Site) : Bytes :=
  le 4 s.sys.tick ++ le 4 s.sys.overruns ++ le 1 9 ++ zeros 7 ++ z.lines.flatMap (lineBytes (if probe then [] else s.sys.peaks))

/-- The tick length that a COMMIT has set for later (R37). -/
def pendLength (s : State) : Option Nat := s.cfg.pend.findSome? (fun p => p.tickAt.map Prod.fst)

/-- The refusal OVER_BUDGET that pricing a changed site gives, if any, at the length in effect and at a pending one (R48, R37): which
line stands over capacity is seen at the length in effect. -/
def overBudget (s : State) (z : Site) : Option Ans :=
  let price (n : Nat) : Option Ans :=
    let y : Site := { z with slots := n }
    (Site.refusedBy s.siteNow { s.siteAdmit with slots := n } y).map (fun l => ⟨stOverBudget, l, s.budgetBlock false y⟩)
  match price z.slots with
  | some a => some a
  | none => s.pendLength.bind price

/-- The hurdle that the parameters of PAS_HURDLE_PLACE describe (R257). -/
def hurdleOf (s : State) (b : Bytes) : Hurdle :=
  ⟨⟨i32 b 4, i32 b 8, i32 b 12, i32 b 16⟩, u32 b 20, s.rtNear (u32 b 24), if u32 b 28 = 0 then none else some (s.rtNear (u32 b 28))⟩

/-- The refusal OVER_BUDGET that one more hurdle gives, if any; a hurdle that replaces another adds none (R257, R48). -/
def hurdlePriced (s : State) (b : Bytes) : Option Ans :=
  s.overBudget { s.siteAdmit with hurdles := s.siteAdmit.hurdles + b2n (!(Tab.has (u16 b 0) s.hurdlesAccepted)) }

/-- PAS_HURDLE_PLACE (R257). -/
def runPasHurdlePlace (c : Cmd) (s : State) : State × CmdRes :=
  let b := c.params
  if b.length ≠ 32 then (s, refuse stBadLength 0)
  else if 1024 ≤ u16 b 0 ∨ u16 b 2 ≠ 0 ∨ u32 b 20 = 0 ∨ 100000 < u32 b 20 then (s, refuse stBadParam 0)
  else
    let t := s.mapPas (fun p => { p with hurdleNext := p.hurdleNext ++ [(u16 b 0, some (s.hurdleOf b), c.sess, c.acc)] })
    match s.hurdlePriced b with
    | some a => if c.replay then (t, .later) else (s, .refuse a)
    | none => (t, .later)

/-- PAS_HURDLE_REMOVE (R257). -/
def runPasHurdleRemove (c : Cmd) (s : State) : State × CmdRes :=
  let b := c.params
  if b.length ≠ 4 then (s, refuse stBadLength 0)
  else if 1024 ≤ u16 b 0 ∨ u16 b 2 ≠ 0 then (s, refuse stBadParam 0)
  else (s.mapPas (fun p => { p with hurdleNext := p.hurdleNext ++ [(u16 b 0, none, c.sess, c.acc)] }), .later)

/-- Hurdle changes take effect at the tick boundary, and their commands complete (R257). -/
def hurdleTick (s : State) : State :=
  let q := s.pas.hurdleNext
  let s := s.mapPas (fun p => { p with
    hurdleNext := []
    hurdles := q.foldl (fun t x => match x.2.1 with | some h => Tab.put x.1 h t | none => Tab.del x.1 t) p.hurdles })
  let s := q.foldl (fun s x => s.forgetHits x.1) s
  q.foldl (fun s x => s.completeOk x.2.2.1 x.2.2.2 []) s

/-- PAS_MOVE (R284): the planner answers NO_ROUTE_FOUND in its own share of a tick (R267). -/
def runPasMove (c : Cmd) (s : State) : State × CmdRes :=
  let b := c.params
  let r := u8 b 0
  if b.length ≠ 8 then (s, refuse stBadLength 0)
  else if rd b 1 3 ≠ 0 ∨ s.holdNode (u32 b 4) = false then (s, refuse stBadParam 0)
  else if (s.robot? r).isNone then (s, refuse 0x0341 0)
  else if (s.robotPriority r).isSome then (s, refuse 0x0644 0)
  else
    let s := match (s.pr r).move with
      | some (_, n, a) => s.complete n a (Ans.bare stDenied 5)
      | none => s
    ((s.mapPr r (fun x => { x with move := some (u32 b 4, c.sess, c.acc) })).askPlan r ⟨[u32 b 4], true, false⟩, .later)

/-- PAS_RESV_READ (R284). -/
def runPasResvRead (c : Cmd) (s : State) : State × CmdRes :=
  let b := c.params
  if b.length ≠ 8 then (s, refuse stBadLength 0)
  else if u8 b 1 ≠ 0 ∨ u16 b 6 ≠ 0 ∨ 16384 ≤ u16 b 2 ∨ u16 b 4 = 0 ∨ 128 ≤ u16 b 4 then (s, refuse stBadParam 0)
  else
    let es := s.pas.entries.filter (fun e => u8 b 0 == 0xFF || e.robot == u8 b 0)
    let out := (es.drop (u16 b 2)).take (u16 b 4)
    (s, fin (le 2 out.length ++ le 2 0 ++ out.flatMap entryRecord))

/-- PAS_STATE_READ (R284). -/
def runPasStateRead (c : Cmd) (s : State) : State × CmdRes :=
  if c.params.length ≠ 0 then (s, refuse stBadLength 0)
  else
    let rq := s.pas.robots.filterMap (fun e => e.2.req)
    (s, fin (le 4 s.pas.entries.length ++ le 4 s.pas.peak ++ le 2 s.pas.hurdles.length ++ le 2 s.paddocks.length ++
      le 2 (rq.filter (fun q => !q.pending)).length ++ le 2 (rq.filter (fun q => q.pending)).length ++
      le 4 s.pas.grants ++ le 4 s.pas.refusals ++ le 4 s.pas.deadlocks ++ le 4 0))

/-- PAS_RESV_CLEAR (R276, R284). -/
def runPasResvClear (c : Cmd) (s : State) : State × CmdRes :=
  let b := c.params
  if b.length ≠ 4 then (s, refuse stBadLength 0)
  else if rd b 1 3 ≠ 0 then (s, refuse stBadParam 0)
  else if (s.entriesOfRobot (u8 b 0)).isEmpty then (s, finD 1)
  else (s.freeWhere (fun e => e.robot == u8 b 0 && e.kind != 3), fin [])

/-- PRF_STATE_READ (R306). -/
def runPrfStateRead (c : Cmd) (s : State) : State × CmdRes :=
  let b := c.params
  if b.length ≠ 4 then (s, refuse stBadLength 0)
  else if u8 b 1 = 0 ∨ 201 ≤ u8 b 1 ∨ 256 < u8 b 0 + u8 b 1 ∨ u16 b 2 ≠ 0 then (s, refuse stBadParam 0)
  else
    (s, fin ((List.range (u8 b 1)).flatMap (fun i =>
      let r := u8 b 0 + i
      match s.robot? r with
      | none => le 1 r ++ le 1 0xFF ++ zeros 14
      | some _ =>
        let p := s.pr r
        le 1 r ++ le 1 (if p.devRaised then 2 else b2n (p.devRun != 0)) ++ le 2 (p.pNext.getD p.p) ++ leS 4 p.ea ++ leS 4 p.ec ++
        le 4 p.breaches)))

/-- PRF_PF_SET (R306). Within check 14 of R78 a robot that is not registered is reported before the reserved byte (DESIGN CHOICE,
assumption 143). -/
def runPrfPfSet (c : Cmd) (s : State) : State × CmdRes :=
  let b := c.params
  if b.length ≠ 4 then (s, refuse stBadLength 0)
  else match s.robot? (u8 b 0) with
  | none => (s, refuse 0x0341 0)
  | some x =>
    let k := s.prfClass x.cls
    if u8 b 1 ≠ 0 ∨ u16 b 2 < u16 k 26 ∨ u16 k 28 < u16 b 2 then (s, refuse stBadParam 0)
    else (s.mapPr (u8 b 0) (fun p => { p with p := u16 b 2, pNext := none }), fin [])

/-- PRF_TRACK_READ (R306): the newest grant whose entries the robot holds. -/
def runPrfTrackRead (c : Cmd) (s : State) : State × CmdRes :=
  let b := c.params
  if b.length ≠ 4 then (s, refuse stBadLength 0)
  else if rd b 1 3 ≠ 0 then (s, refuse stBadParam 0)
  else if (s.robot? (u8 b 0)).isNone then (s, refuse 0x0341 0)
  else
    let r := u8 b 0
    let m (t : Nat) : Bytes := le 4 (t % 4294967296)
    match (s.liveTracks r).getLast? with
    | none => (s, fin (zeros 4))
    | some k => (s, fin (le 2 k.id ++ le 1 k.segs.length ++ le 1 0 ++ k.segs.flatMap (fun g =>
        le 4 g.lane ++ le 4 g.s0 ++ m g.tStart ++ m g.tEnd ++ g.rcd.bytes)))

end State

end Sys2Proof.Machine
end

