-- ==== Sys2Proof/Machine/Crook.lean ====
section
/-! DEFINITION. Crook: sources, the loop, the stop table, tokens, stop frames, confirmation and release (R341 to R368). -/

namespace Sys2Proof.Machine

/-- The ramp code of a set of holders: 0 none, 1 normal, 2 emergency. -/
def rampCode (h : Tab Nat) : Nat := if h.isEmpty then 0 else if h.any (fun e => e.2 == 1) then 2 else 1

/-- The bits of an entry in a stop token (R349). -/
def entryBits (e : StopEntry) : Nat := (if rampCode e.holders = 2 then 8192 else 0) + e.kind * 1024 + e.index % 1024

/-- Sources as CRK_STATE_READ shows them. -/
def srcBits (h : Tab Nat) : Nat := bitsOf (h.map (fun e => e.1 - 1))

namespace State

/-- Changes Crook. -/
def mapCrk (f : Crk → Crk) (s : State) : State := { s with crk := f s.crk }

/-- The stop token with an entry (R349). -/
def tokenWith (s : State) (e : Option StopEntry) : Nat :=
  rampCode s.crk.all * 16384 + (match e with | some e => entryBits e | none => 0)

/-- The entry of a scope. -/
def stopEntry? (s : State) (kind index : Nat) : Option StopEntry :=
  s.crk.table.find? (fun e => e.kind == kind && e.index == index)

/-- The holders of a scope; KIND 0 is the all-stop. -/
def holdersOf (s : State) (kind index : Nat) : Tab Nat :=
  if kind = 0 then s.crk.all else match s.stopEntry? kind index with | some e => e.holders | none => []

/-- The robots a scope covers. -/
def scopeCovers (s : State) (kind index r : Nat) : Bool :=
  kind == 0 || s.entryCovers r (s.clsOf r) ⟨kind, index, [], none⟩

/-- The registered robots a scope covers. -/
def scopeRobots (s : State) (kind index : Nat) : List Nat :=
  (s.lnk.robots.map Prod.fst).filter (fun r => s.scopeCovers kind index r)

/-- CROOK_OUT's level (R360). -/
def crookOutHigh (s : State) : Bool := s.crk.all.isEmpty

/-- The occasions of one change's stop frames on a chain (R352), from the slot that runs: slot 0 from the tick boundary on. -/
def frameTimes (s : State) : List Nat :=
  let cur := s.air.slot - 1
  let start := if s.air.slot = 0 then s.now else s.air.slotAt
  let room := decide (s.now - start + 1100000 ≤ 1250000)
  let next (i : Nat) : List Nat := if (cur + i) % s.sys.slots ≠ 0 then [start + i * 1250000 + 150000] else []
  if cur ≠ 0 ∧ room then (s.now + 20000) :: next 1 else next 1 ++ next 2

/-- Starts stop frames on every enabled chain in service (R352). -/
def startFrames (s : State) : State :=
  if s.prm 0x0905 = 0 ∨ s.sys.beacons = false then s
  else
    let cs := (List.range 4).filter (fun c => bit (s.prm 0x0501) c && !((s.air.chains.map (fun k => k.bad)).getD c true))
    s.mapCrk (fun k => { k with frames := (k.frames ++ cs.flatMap (fun c => s.frameTimes.map (fun t => (c, t)))).dedup })

/-- The token of a scope's stop as it stands (R349, R359). -/
def stopToken (s : State) (kind index : Nat) : Nat := s.tokenWith (if kind = 0 then none else s.stopEntry? kind index)

/-- STOP_CONFIRMED for every stop whose covered robots are all confirmed (R358). -/
def confirmStops (s : State) : State :=
  s.crk.watch.foldl (fun s w =>
    let rs := s.scopeRobots w.kind w.index
    if w.done ∨ rs.all w.conf.contains = false then s
    else
      let s := s.mapCrk (fun k => { k with watch := k.watch.map (fun x =>
        if x.kind = w.kind ∧ x.index = w.index then { x with done := true } else x) })
      s.raise 0x0905 .notice (min 255 rs.length) w.kind w.index) s

/-- A robot is confirmed for every stop that covers it (R358). -/
def stopConfirmed (s : State) (r : Nat) : Bool :=
  s.crk.watch.all (fun w => !s.scopeCovers w.kind w.index r || w.conf.contains r)

/-- Whether a stop of a source on a scope meets a full table (R346). -/
def stopsFull (s : State) (kind index : Nat) : Bool :=
  kind != 0 && (s.stopEntry? kind index).isNone && decide (8 ≤ s.crk.table.length)

/-- The all-stop gained its first holder or raised its ramp (R377): each moving axis notes the ramp the hardware path
applies. -/
def axesNoteStop (s : State) : State :=
  let r := rampCode s.crk.all - 1
  { s with axs := s.axs.map (fun a => if a.motion.isSome then { a with stopDue := some r } else a) }

/-- The stop state that a change replaces is kept for 150 µs, the time that a beacon's STOP lies back (R201). -/
def notePast (s : State) : State :=
  s.mapCrk (fun k => { k with
    past := k.past.filter (fun e => decide (s.now < e.1 + 150000)) ++ [(s.now, k.all, k.table)] })

/-- A source already holds a scope with the ramp, or a stronger one: a stop changes nothing (R365). -/
def alreadyHeld (s : State) (src kind index ramp : Nat) : Bool :=
  match Tab.find? src (s.holdersOf kind index) with
  | some r => decide (ramp ≤ r)
  | none => false

/-- A change of the all-stop's loop or host holders goes to the fold (R363). -/
def noteForward (src kind : Nat) (s : State) : State :=
  if kind = 0 ∧ (src = 1 ∨ src = 2) ∧ s.prm 0x0907 = 1 then s.mapCrk (fun k => { k with forward := true }) else s

/-- A holder of a scope is set now (R346, R352, R358 to R361): nothing changes where the source already holds the scope, unless it
raises its ramp. A full table is tested before. -/
def putStop (src kind index ramp : Nat) (s : State) : State :=
  if s.alreadyHeld src kind index ramp then s
  else
    let old := s.holdersOf kind index
    let new := Tab.put src ramp old
    let isNew := old.isEmpty
    let raised := decide (rampCode old < rampCode new)
    let s := s.notePast.mapCrk (fun k =>
      if kind = 0 then { k with all := new }
      else if isNew then { k with table := k.table ++ [⟨kind, index, new, none⟩] }
      else { k with table := k.table.map (fun e => if e.kind = kind ∧ e.index = index then { e with holders := new } else e) })
    let rs := s.scopeRobots kind index
    let s := if isNew then s.mapCrk (fun k => { k with watch := k.watch ++ [⟨kind, index, s.now, false, [], []⟩] }) else s
    let s := s.raiseD 0x0901 .notice src kind index (s.stopToken kind index)
    let s := if kind = 0 ∧ isNew then s.emit (.crookOut false) else s
    let s := if raised then s.startFrames else s
    let s := if kind = 0 ∧ raised then s.axesNoteStop else s
    let s := if isNew then rs.foldl (fun s r => s.convertNow r false) s else s
    let s := s.noteForward src kind
    if isNew then s.confirmStops else s

/-- A holder of a scope is removed now (R359). -/
def dropStop (src kind index : Nat) (s : State) : State :=
  let old := s.holdersOf kind index
  if (Tab.find? src old).isNone then s
  else
    let new := Tab.del src old
    let ends := new.isEmpty
    -- the token that the stop had (assumption 27)
    let tok := s.stopToken kind index
    let s := s.noteCover.notePast.mapCrk (fun k =>
      if kind = 0 then { k with all := new }
      else if ends then { k with table := k.table.filter (fun e => !(e.kind == kind && e.index == index)) }
      else { k with table := k.table.map (fun e => if e.kind = kind ∧ e.index = index then { e with holders := new } else e) })
    let s := s.raiseD 0x0902 .notice src kind index tok
    let s := if kind = 0 ∧ ends then s.emit (.crookOut true) else s
    let s := s.mapCrk (fun k => { k with
      releasedSf := (k.releasedSf.filter (fun n => decide (s.sys.sfCount ≤ n + 1)) ++ [s.sys.sfCount]).dedup
      conf := k.conf.filter (fun e => s.covered e.1)
      watch := if ends then k.watch.filter (fun w => !(w.kind == kind && w.index == index)) else k.watch })
    s.noteForward src kind

/-- A change of the stop state takes effect. -/
def applyStop (x : StopChange) (s : State) : State :=
  if x.set then s.putStop x.src x.kind x.index x.ramp else s.dropStop x.src x.kind x.index

/-- The stop state once the changes under way have taken effect (R362). -/
def stopsAhead (s : State) : State := s.crk.due.foldl (fun s x => s.applyStop x.2) s

/-- This unit has a partner that its pair link reaches (R362). -/
def paired (s : State) : Bool := s.pai.role != 0 && s.pai.trained

/-- A change that this unit has detected (R362): in a pair it goes to the partner, and both units apply it 20 µs on; else it takes effect
at once. A partner's change comes at the instant at which both units apply it (assumption 169). -/
def changeStop (x : StopChange) (s : State) : State :=
  if s.paired ∧ x.src ≠ 4 then
    (s.emit (.pairStop x.kind x.index x.ramp x.set)).mapCrk (fun k => { k with due := k.due ++ [(s.now + 20000, x)] })
  else s.applyStop x

/-- The changes whose instant has come take effect, each at its instant (R362). -/
def stopsDue (s : State) : State :=
  let now := s.now
  let ripe := s.crk.due.filter (fun x => decide (x.1 ≤ now))
  if ripe.isEmpty then s
  else
    let s := s.mapCrk (fun k => { k with due := k.due.filter (fun x => decide (now < x.1)) })
    { ripe.foldl (fun s x => applyStop x.2 { s with now := x.1 }) s with now := now }

/-- Sets a holder of a scope (R346). -/
def setStop (src kind index ramp : Nat) (s : State) : State :=
  if s.stopsAhead.alreadyHeld src kind index ramp then s else s.changeStop ⟨src, kind, index, ramp, true⟩

/-- Removes a holder of a scope (R359); none where it does not exist. -/
def releaseStop (src kind index : Nat) (s : State) : Option State :=
  if (Tab.find? src (s.stopsAhead.holdersOf kind index)).isNone then none
  else some (s.changeStop ⟨src, kind, index, 0, false⟩)

/-! ### The loop (R342 to R345) -/

/-- A CRK_LOOP_* value of the backup copy: 0 ENABLE, 1 FILTER_US, 2 DISC_MS, 3 RAMP, 4 REARM (R345). -/
def loopPrm (s : State) (i : Nat) : Nat := s.crk.backup.getD i 0

/-- The loop counts as closed (R343). -/
def loopClosed (s : State) : Bool := !s.crk.openA && !s.crk.openB && !s.crk.disc

/-- A channel opens (R342); the latch is taken with it where CRK_LOOP_REARM is 01h. -/
def loopOpen (ch : Nat) (s : State) : State :=
  if s.loopPrm 0 = 0 then s
  else
    let a := s.crk.openA || ch == 0
    let b := s.crk.openB || ch == 1
    let s := s.mapCrk (fun k => { k with
      openA := a, openB := b, bothOpen := k.bothOpen || (a && b), togetherAt := none
      discFrom := if a && b then none else match k.discFrom with | some t => some t | none => some s.now
      discDone := k.discDone && !(a && b)
      latched := k.latched || s.loopPrm 4 == 1 })
    s.setStop 1 0 0 (s.loopPrm 3)

/-- LOOP_OPEN (R342): a pad has been low continuously for a time in µs; a time short of CRK_LOOP_FILTER_US has no effect. -/
def loopLow (p : PadLow) (s : State) : State := if p.us < s.loopPrm 1 then s else s.loopOpen p.ch

/-- What follows when the loop has come to count as closed (R344): with CRK_LOOP_REARM 00h in effect its stop is released, with 01h it
stays latched. -/
def loopRearm (s : State) : State :=
  let latch := s.loopPrm 4 == 1
  let s := s.mapCrk (fun k => { k with latched := latch })
  if latch then s else (s.releaseStop 1 0 0).getD s

/-- LOOP_CLOSE (R342 to R344): the pads of the channels named are high. After a discrepancy the loop counts as closed when both
channels, open together before, have been closed together for CRK_LOOP_FILTER_US: the row comes again then. -/
def loopClose (a b : Bool) (s : State) : State :=
  if s.loopPrm 0 = 0 then s
  else
    let was := s.loopClosed
    let oa := s.crk.openA && !a
    let ob := s.crk.openB && !b
    let both := !oa && !ob
    let since := s.crk.togetherAt.getD s.now
    let done := both && (!s.crk.disc || (s.crk.bothOpen && decide (s.loopPrm 1 * 1000 ≤ s.now - since)))
    let s := s.mapCrk (fun k => { k with
      openA := oa, openB := ob
      discFrom := if oa != ob then (match k.discFrom with | some t => some t | none => some s.now) else none
      discDone := k.discDone && oa != ob
      disc := k.disc && !done
      bothOpen := k.bothOpen && !done
      togetherAt := if both then some since else none })
    if s.loopClosed ∧ was = false then s.loopRearm else s

/-- LOOP_DISCREPANCY (R343): one channel open and the other closed for longer than CRK_DISC_MS, once each time; the loop then counts as
closed only after both channels have been open together from now on. -/
def loopDiscrepancy (s : State) : State :=
  match s.crk.discFrom with
  | none => s
  | some t =>
    if s.loopPrm 0 = 0 ∨ s.crk.discDone ∨ s.now - t ≤ s.loopPrm 2 * 1000000 then s
    else
      (s.mapCrk (fun k => { k with disc := true, discDone := true, bothOpen := false })).raise0 0x0903 .fault
        (if s.crk.openA then 1 else 2) 0

/-- A loop holder ends at the first tick boundary after a load with CRK_LOOP_ENABLE 00h (R345). -/
def loopAfterLoad (s : State) : State :=
  if s.prm 0x0900 = 0 then
    let s := s.mapCrk (fun k => { k with latched := false, disc := false, discFrom := none })
    match s.releaseStop 1 0 0 with
    | some s' => s'
    | none => s
  else s

/-- A COMMIT of domain CRK writes the backup copy (R345); with CRK_LOOP_ENABLE 00h both pads are ignored (R342). -/
def copyLoopPrms (s : State) : State :=
  let off := s.prm 0x0900 == 0
  s.mapCrk (fun k => { k with
    backup := [s.prm 0x0900, s.prm 0x0901, s.prm 0x0902, s.prm 0x0903, s.prm 0x0904]
    openA := k.openA && !off, openB := k.openB && !off, disc := k.disc && !off, bothOpen := k.bothOpen && !off
    discFrom := if off then none else k.discFrom, togetherAt := if off then none else k.togetherAt })

/-- The loop as the hardware path finds it when the internal reset is released (R56, R345, R361): the discrepancy and the latch
stand, unless the backup domain was lost, and the channels are what their pads say. A loop stop found with the loop closed and no latch is
released. -/
def loopAtReset (cold a b : Bool) (s : State) : State :=
  let s := s.mapCrk (fun k => { k with
    disc := k.disc && !cold, bothOpen := k.bothOpen && !cold, latched := k.latched && !cold, discFrom := none, discDone := false
    togetherAt := none })
  if s.loopPrm 0 = 0 then s
  else
    let s := if a then s.loopOpen 0 else s
    let s := if b then s.loopOpen 1 else s
    let s := s.loopClose (!a) (!b)
    if s.loopClosed ∧ s.crk.latched = false then (s.releaseStop 1 0 0).getD s else s

/-! ### The two copies of the stop state (R361) -/

/-- Two sets of holders as one, each with its stronger ramp. -/
def joinHolders (a b : Tab Nat) : Tab Nat := b.foldl (fun t h => Tab.put h.1 (max h.2 (Tab.getD h.1 0 t)) t) a

/-- A cold power-on: the backup domain's copy is lost, and the hardware path holds no stop until firmware load. -/
def loseStops (s : State) : State :=
  s.mapCrk (fun k => { k with all := [], table := [], mram := some (k.mram.getD (k.all, k.table)) })

/-- Firmware load after a cold power-on: the backup copy is rebuilt from MRAM, beside the loop stop that the path has taken. A loop
holder rebuilt with the loop closed stays latched, or is released with CRK_LOOP_REARM 00h (R344; assumption 169). -/
def rebuildStops (s : State) : State :=
  match s.crk.mram with
  | none => s
  | some (a, t) =>
    let free := s.crk.all.isEmpty
    let s := s.mapCrk (fun k => { k with all := joinHolders a k.all, table := t, mram := none })
    let s := if free ∧ a.isEmpty = false then s.emit (.crookOut false) else s
    if s.loopClosed ∧ Tab.has 1 a then s.loopRearm else s

/-! ### Beacons and confirmation (R350, R358) -/

/-- The all-stop's holders and the table as they were 150 µs ago. -/
def stopsBefore (s : State) : Tab Nat × List StopEntry :=
  match s.crk.past.find? (fun e => decide (s.now < e.1 + 150000)) with
  | some e => e.2
  | none => (s.crk.all, s.crk.table)

/-- Chooses the entry of this tick's beacons, of the stop state 150 µs before slot 0 (R201): the oldest carried, the lower position at a
tie (R350). -/
def chooseToken (s : State) : State :=
  let key (e : StopEntry) : Nat := match e.carried with | none => 0 | some n => n + 1
  let was := s.stopsBefore
  let best := was.2.foldl (fun (b : Option StopEntry) e => match b with
    | none => some e
    | some x => if key e < key x then some e else some x) none
  s.mapCrk (fun k => { k with
    pick := rampCode was.1 * 16384 + (match best with | some e => entryBits e | none => 0)
    pickOf := best.map (fun e => (e.kind, e.index)) })

/-- STOP_STATE from a covered robot (R355, R358): at standstill, it is confirmed for every stop that covers it. -/
def stopState (r : Nat) (v : Bytes) (s : State) : State :=
  if v.length ≠ 8 ∨ s.covered r = false then s
  else
    let rest := u8 v 2 == 1
    (s.mapCrk (fun k => { k with
      conf := Tab.put r ⟨rest, u8 v 3, u32 v 4⟩ k.conf
      watch := k.watch.map (fun w => if rest ∧ s.scopeCovers w.kind w.index r ∧ w.conf.contains r = false
        then { w with conf := r :: w.conf } else w) })).confirmStops

/-- STOP_UNCONFIRMED (R358) for a robot, once per stop. -/
def stopUnconfirmed (r : Nat) (s : State) : State :=
  let late (w : StopWatch) : Bool := s.scopeCovers w.kind w.index r && !w.conf.contains r && !w.late.contains r &&
    decide ((s.tE r + s.prm 0x0906) * 1000000 ≤ s.now - w.since)
  if (s.robot? r).isNone then s
  else
    let due := s.crk.watch.filter late
    let s := s.mapCrk (fun k => { k with watch := k.watch.map (fun w => if late w then { w with late := r :: w.late } else w) })
    due.foldl (fun s _ => s.raise 0x0904 .warning 1 1 r) s

/-! ### Opcodes (R365) -/

/-- The reply of CRK_STOP: the token the stop forms. -/
def stopReply (s : State) (kind index : Nat) : CmdRes :=
  fin (le 2 (s.tokenWith (if kind = 0 then none else s.stopEntry? kind index)) ++ le 2 0)

/-- CRK_STOP (R365). -/
def runCrkStop (c : Cmd) (s : State) : State × CmdRes :=
  let b := c.params
  let kind := u8 b 0
  let idx := u16 b 2
  if b.length ≠ 4 then (s, refuse stBadLength 0)
  else if 4 ≤ kind ∨ 2 ≤ u8 b 1 ∨ (kind = 0 ∧ idx ≠ 0) ∨ (kind = 1 ∧ 256 ≤ idx) ∨ (kind = 2 ∧ 16 ≤ idx) ∨
      (kind = 3 ∧ 1024 ≤ idx) then (s, refuse stBadParam 0)
  else match missingBit c.agreed ((if u8 b 1 = 1 then [135] else []) ++ (if kind = 0 then [] else [163])) with
  | some k => (s, refuse stNotNegotiated k)
  | none =>
    if kind = 1 ∧ (s.robot? idx).isNone then (s, refuse 0x0341 0)
    else if kind = 3 ∧ s.paddocks.all (fun p => p.1 != idx) then (s, refuse stBadParam 1)
    else if s.stopsAhead.stopsFull kind idx then (s, refuse 0x0940 0)
    else (s.setStop 2 kind idx (u8 b 1), (s.stopsAhead.putStop 2 kind idx (u8 b 1)).stopReply kind idx)

/-- CRK_RELEASE (R344, R359, R365). -/
def runCrkRelease (c : Cmd) (s : State) : State × CmdRes :=
  let b := c.params
  let t := u8 b 0
  if b.length ≠ 4 then (s, refuse stBadLength 0)
  else if 3 ≤ t ∨ (t ≠ 2 ∧ (u8 b 1 ≠ 0 ∨ u16 b 2 ≠ 0)) ∨ (t = 2 ∧ (u8 b 1 = 0 ∨ 4 ≤ u8 b 1)) then (s, refuse stBadParam 0)
  else if t = 1 ∧ s.loopClosed = false ∧ c.replay = false then (s, refuse 0x0941 0)
  else (s.mapCrk (fun k => { k with releases := k.releases ++ [(t, u8 b 1, u16 b 2, c.sess, c.acc)] }), .later)

/-- The releases accepted take effect at the tick boundary (R344, R359). -/
def releaseTick (s : State) : State :=
  let q := s.crk.releases
  let s := s.mapCrk (fun k => { k with releases := [] })
  q.foldl (fun s x =>
    let (t, kind, idx, n, a) := x
    if t = 1 ∧ s.loopClosed = false then s.complete n a (Ans.bare 0x0941 0)
    else
      let s1 := if t = 1 then s.mapCrk (fun k => { k with latched := false }) else s
      match s1.releaseStop (if t = 1 then 1 else 2) (if t = 2 then kind else 0) (if t = 2 then idx else 0) with
      | some s' => s'.completeOk n a []
      | none => s1.complete n a (Ans.bare stOk 1)) s

/-- CRK_STATE_READ (R365). -/
def runCrkStateRead (c : Cmd) (s : State) : State × CmdRes :=
  if c.params.length ≠ 0 then (s, refuse stBadLength 0)
  else
    let k := s.crk
    let cov := (s.lnk.robots.map Prod.fst).filter (fun r => s.covered r)
    let conf := cov.filter s.stopConfirmed
    let ent (e : StopEntry) : Bytes :=
      le 1 e.kind ++ le 1 (rampCode e.holders - 1) ++ le 2 e.index ++ le 1 (srcBits e.holders) ++ le 1 0 ++
      le 2 (s.scopeRobots e.kind e.index).length
    let body := le 1 (srcBits k.all) ++ le 1 (rampCode k.all) ++
      le 1 (b2n (!k.openA) + 2 * b2n (!k.openB) + 4 * b2n k.latched + 8 * b2n k.disc) ++ le 1 k.table.length ++
      le 2 k.token ++ le 2 cov.length ++ le 2 conf.length ++ zeros 6 ++ k.table.flatMap ent
    (s, fin (padTo 80 0 body))

/-- CRK_ROBOT_READ (R365). -/
def runCrkRobotRead (c : Cmd) (s : State) : State × CmdRes :=
  let b := c.params
  if b.length ≠ 4 then (s, refuse stBadLength 0)
  else if u8 b 1 = 0 ∨ 256 < u8 b 0 + u8 b 1 ∨ u16 b 2 ≠ 0 then (s, refuse stBadParam 0)
  else (s, fin ((List.range (u8 b 1)).flatMap (fun i =>
    let r := u8 b 0 + i
    if (s.robot? r).isNone then le 1 r ++ le 1 0xFF ++ zeros 6
    else
      let k := Tab.getD r ⟨false, 0, 0⟩ s.crk.conf
      let late := s.crk.watch.any (fun w => s.scopeCovers w.kind w.index r && w.late.contains r)
      let st := if s.covered r = false then 0 else if s.stopConfirmed r then 2 else if late then 3 else 1
      le 1 r ++ le 1 st ++ le 1 (if st = 0 then 0 else s.coverRamp r) ++ le 1 0 ++ le 4 (if st = 2 then k.still else 0))))

end State

end Sys2Proof.Machine
end

