-- ==== Sys2Proof/Machine/Axes.lean ====
section
/-! DEFINITION. The four site axes: motion, drive, supervision, stops and commands (R369 to R385). -/

namespace Sys2Proof.Machine

/-- A stopped axis at position 0. -/
def Axis.fresh : Axis := {
  p := 0, motion := none, wait := none, cmd := none, offset := 0, halts := [], haltNext := [], count := 0,
  suspended := false, refP := 0, refCount := 0, auxP := 0, auxCount := 0, zCount := 0, refActive := false, d := 0,
  devRun := none, delta := 0, stallRun := 0, fullRun := 0, uMv := 0, duty := 0, stopDue := none }

/-- Position, speed and acceleration of a motion in its own direction, in the units of `axPos`, `axVel` and `axAcc`. -/
structure MotionState where
  s : Int
  v : Int
  a : Int

/-- A phase of `d` µs at jerk `j` microsteps/s³, exactly. -/
def motionStep (x : MotionState) (j : Int) (d : Nat) : MotionState :=
  let d : Int := d
  { s := x.s + 3 * x.v * d + 3 * x.a * d * d + j * d * d * d, v := x.v + 2 * x.a * d + j * d * d, a := x.a + j * d }

/-- Units of `motionStep` in one microstep, one microstep/s and one microstep/s². -/
def axPos : Int := 6000000000000000000
def axVel : Int := 2000000000000
def axAcc : Int := 1000000

/-- Runs phases from a state for `t` µs; after the last phase the axis stands. -/
def runMotion : MotionState → List (Int × Nat) → Nat → MotionState
  | x, [], _ => x
  | x, (j, d) :: rest, t => if t ≤ d then motionStep x j t else runMotion (motionStep x j d) rest (t - d)

/-- The time in µs to reach speed `vp` within A and J, and the distance in microsteps of a start and stop through it. -/
def speedTimes (vp a j : Nat) : Nat × Nat :=
  if a * a ≤ vp * j then (a * 1000000 / j, (vp * 1000000 / a) - a * 1000000 / j)
  else (Nat.sqrt (vp * 1000000000000 / j), 0)

/-- The distance of a start and stop through speed `vp`, microsteps. -/
def speedDist (vp a j : Nat) : Nat :=
  let t := speedTimes vp a j
  vp * (2 * t.1 + t.2) / 1000000

/-- The seven phases of a move over `dist` microsteps (R288, R372): the peak speed is the greatest within SPEED whose start
and stop fit. -/
def movePhases (dist v a j : Nat) : List (Int × Nat) :=
  let vp := min v (leastT (fun x => decide (dist < speedDist x a j)) 24 1 - 1)
  let vp := max 1 vp
  let (tj, ta) := speedTimes vp a j
  let rest := dist - speedDist vp a j
  let jj : Int := j
  [(jj, tj), (0, ta), (-jj, tj), (0, rest * 1000000 / vp), (-jj, tj), (0, ta), (jj, tj)]

/-- The ramp of R297 from speed `v` and acceleration `a0` in whole units, under E and J. -/
def rampPhases (v : Nat) (a0 : Int) (e j : Nat) : List (Int × Nat) :=
  let vv : Nat := v + (a0 * a0).toNat / (2 * j)
  let (ap, t2) : Nat × Nat := if e * e ≤ vv * j then (e, (vv - e * e / j) * 1000000 / e) else (Nat.sqrt (j * vv), 0)
  let t1 := ((a0 + ap) * 1000000 / (j : Int)).toNat
  let jj : Int := j
  [(-jj, t1), (0, t2), (jj, ap * 1000000 / j)]

namespace Motion

/-- The state of a motion `t` ns after its start, in its own direction. -/
def stateAt (m : Motion) (t : Nat) : MotionState := runMotion ⟨0, m.v0, m.a0⟩ m.phases (t / 1000)

/-- Its duration in ns. -/
def total (m : Motion) : Nat := (m.phases.map Prod.snd).sum * 1000

/-- Position `t` ns after the start, held short of the target. -/
def posAt (m : Motion) (t : Nat) : Int :=
  let t := min t m.total
  let d := (m.stateAt t).s / axPos
  let p := if m.neg then m.p0 - d else m.p0 + d
  match m.target with
  | some g => if m.total ≤ t then g else if m.neg then max g p else min g p
  | none => p

/-- Speed without its sign, exactly, in units of `axVel`. -/
def speedAt (m : Motion) (t : Nat) : Nat := if m.total ≤ t then 0 else (m.stateAt t).v.natAbs

/-- Speed in microsteps/s with its sign, `t` ns after the start. -/
def velAt (m : Motion) (t : Nat) : Int :=
  if m.total ≤ t then 0 else let v := (m.stateAt t).v / axVel; if m.neg then -v else v

end Motion

namespace State

/-- Axis `n`. -/
def axis (s : State) (n : Nat) : Axis := s.axs.getD n Axis.fresh

/-- Changes axis `n`. -/
def mapAxis (n : Nat) (f : Axis → Axis) (s : State) : State := { s with axs := modAt n f s.axs }

/-- The axis record in effect (R383). -/
def axisRec (s : State) (n : Nat) : Bytes := s.prmRec 52 (0x0A10 + n)

/-- Whether axis `n` is enabled. -/
def axisOn (s : State) (n : Nat) : Bool := bit (s.prm 0x0A00) n

/-- Whether an axis is moving. -/
def axisMoving (s : State) (n : Nat) : Bool := (s.axis n).motion.isSome || (s.axis n).wait.isSome

/-- Starts a ramp on a moving axis from its present speed (R297, R377, R378): `emerg` asks for EDMAX and EJMAX. A ramp that
already runs is only raised, and a motion that has ended is left as it is. -/
def axisRamp (n : Nat) (emerg : Bool) (outcome : Nat) (s : State) : State :=
  let x := s.axis n
  match x.motion with
  | none => s
  | some m =>
    if m.total ≤ s.now - m.start ∨ (m.ramp ∧ (emerg = false ∨ m.emerg)) then s
    else
      let t := s.now - m.start
      let st := m.stateAt t
      let b := s.axisRec n
      let (e, j) := if emerg then (u32 b 12, u32 b 16) else (u32 b 4, u32 b 8)
      let v := (st.v / axVel).toNat
      let a0 := max (-(e : Int)) (st.a / axAcc)
      let m' : Motion := {
        neg := m.neg, start := s.now, p0 := m.posAt t, v0 := st.v, a0 := st.a, phases := rampPhases v a0 e j
        target := none, outcome := if m.ramp then m.outcome else outcome, ramp := true, homing := m.homing, emerg := emerg }
      s.mapAxis n (fun a => { a with motion := some m', p := m.posAt t })

/-- AXIS_STOP_RAMP (R377): every axis with a stop noted acts by its ON_STOP. -/
def axisStopRamp (s : State) : State :=
  (List.range 4).foldl (fun s n =>
    match (s.axis n).stopDue with
    | none => s
    | some r =>
      let s := s.mapAxis n (fun a => { a with stopDue := none })
      match u8 (s.axisRec n) 46 with
      | 0 => s
      | 1 => s.axisRamp n (r == 1) 2
      | _ => s.axisRamp n true 2) s

/-- The axes of a scope, one or every one. -/
def axesOf (n : Option Nat) : List Nat := match n with | some n => [n] | none => List.range 4

/-- The emergency ramp is in effect for a scope already: of its axes at least one moves, and each that moves is in it (R22). -/
def axisRamped (s : State) (n : Option Nat) : Bool :=
  let ms := (axesOf n).filterMap (fun k => (s.axis k).motion)
  !ms.isEmpty && ms.all (fun m => m.ramp && m.emerg)

/-- The AXIS_EMERGENCY_RAMP remedy (R378): one axis, or every axis for none. -/
def axisEmergency (n : Option Nat) (s : State) : State :=
  (axesOf n).foldl (fun s n => s.axisRamp n true 3) s

/-- The completion body of AXS_MOVE and AXS_HOME. -/
def moveBody (outcome : Nat) (p : Int) : Bytes := le 1 outcome ++ zeros 3 ++ leS 4 p

/-- Ends a motion: the move completes with its outcome, and the halts that waited (R380 to R382). Homing shifts p by `offset`, which the
latching edge has set. -/
def axisEnd (n : Nat) (s : State) : State :=
  let x := s.axis n
  match x.motion with
  | none => s
  | some m =>
    let p0 := m.posAt m.total
    let homed := m.homing && m.outcome == 0
    let p := if homed then p0 + x.offset else p0
    let s := s.mapAxis n (fun a => { a with motion := none, p := p, cmd := none, halts := [], stopDue := none,
                                            refP := if homed then a.refP + x.offset else a.refP })
    let s := match x.cmd with
      | some (k, a) => s.completeOk k a (moveBody m.outcome p)
      | none => s
    x.halts.foldl (fun s (k, a) => s.completeOk k a []) s

/-- AXIS_MOVE_DONE (R380): once the motion's last phase has ended. -/
def axisMoveDone (n : Nat) (s : State) : State :=
  match (s.axis n).motion with
  | none => s
  | some m => if s.now - m.start < m.total then s else s.axisEnd n

/-- Some session has agreed a catalogue bit (R373, R375). -/
def agrees (s : State) (k : Nat) : Bool := s.ses.sessions.any (fun (e : Nat × Session) => bit e.2.agreed k)

/-- Load angles are estimated (R373). -/
def estimates (s : State) : Bool := s.agrees 167

/-- The speed of an axis in microsteps/s, without its sign. -/
def axisSpeed (s : State) (n : Nat) : Nat :=
  match (s.axis n).motion with | some m => (m.velAt (s.now - m.start)).natAbs | none => 0

/-- AXIS_PWM_PERIOD (R371, R375): V_BUS in mV and encoder edges since the last period. -/
def axisPwm (n vbus : Nat) (edges : Int) (s : State) : State :=
  if s.axisOn n = false then s
  else
    let x := s.axis n
    let b := s.axisRec n
    let p := match x.motion with | some m => m.posAt (s.now - m.start) | none => x.p
    let v := match x.motion with | some m => m.speedAt (s.now - m.start) | none => 0
    let u := if v = 0 then u16 b 20 else u16 b 22 + u16 b 24 * v / (1000 * axVel.toNat)
    let duty := if vbus = 0 then 1000000 else min 1000000 (u * 1000000 / vbus)
    let full := if duty = 1000000 then x.fullRun + 1 else 0
    let count := toSigned 32 (ofSigned 32 (x.count + (if bit (u8 b 45) 1 then -edges else edges)))
    let cps : Int := u16 b 30
    let comp := decide (cps ≠ 0) && !x.suspended && s.agrees 166
    let d : Int := if comp then p - (count * 256).tdiv cps else 0
    let w := u32 b 32
    let lvl := min 255 (d.natAbs / w)
    let out := comp && decide (w < d.natAbs)
    let due := out && (match x.devRun with | none => true | some l => decide (l < lvl))
    let s := s.mapAxis n (fun a => { a with
      p := p, count := count, uMv := u, duty := duty, fullRun := full, d := d
      stallRun := if s.axisSpeed n < u32 b 40 then 0 else a.stallRun
      devRun := if out then some (max lvl (a.devRun.getD 0)) else none })
    let s := if full = 8 then s.raise 0x0A04 .notice 1 5 n else s
    if due then s.raise 0x0A02 .warning lvl 5 n else s

/-- AXIS_STALL (R373): one load-angle estimate in µrad. -/
def axisStall (n delta : Nat) (s : State) : State :=
  let x := s.axis n
  let b := s.axisRec n
  let v := s.axisSpeed n
  if s.axisOn n = false ∨ s.estimates = false then s
  else if v < u32 b 40 then s.mapAxis n (fun a => { a with stallRun := 0 })
  else if v = 0 then s
  else
    let run := if u32 b 36 < delta then x.stallRun + 1 else 0
    let s := s.mapAxis n (fun a => { a with delta := delta, stallRun := run })
    if run = u8 b 44 then s.raise 0x0A01 .warning (min 255 (delta / 10000)) 5 n else s

/-- AXIS_REF_EDGE (R376, R382): an edge of AXn_REF to its active or inactive level, or a rising edge of AUX_GPIO. The first active edge of a
search fixes by how much p shifts at its end. -/
def axisRefEdge (n : Nat) (aux active : Bool) (s : State) : State :=
  let x := s.axis n
  let p := match x.motion with | some m => m.posAt (s.now - m.start) | none => x.p
  if aux then
    (if s.axisOn n = false ∨ u8 (s.axisRec n) 48 = 0xFF then s else s.mapAxis n (fun a => { a with auxP := p, auxCount := a.count }))
  else if active = false then s.mapAxis n (fun a => { a with refActive := false })
  else
    let s := s.mapAxis n (fun a => { a with refActive := true, refP := p, refCount := a.count })
    match x.motion with
    | some m =>
      if m.homing ∧ m.ramp = false then
        (s.mapAxis n (fun a => { a with suspended := false, offset := a.offset - p })).axisRamp n false 0
      else s
    | none => s

/-- ENC_INDEX_EDGE (R374). -/
def encIndexEdge (n : Nat) (s : State) : State := s.mapAxis n (fun a => { a with zCount := a.count })

/-- ENC_ERROR (R374): level 1 quadrature, 2 rate. -/
def encError (n level : Nat) (s : State) : State :=
  if s.axisOn n then (s.mapAxis n (fun a => { a with suspended := true })).raise 0x0A03 .warning level 5 n else s

/-! ### Commands (R380 to R382) -/

/-- The checks of a command that names an axis. -/
def axisCheck (s : State) (n : Nat) : Option CmdRes :=
  if 4 ≤ n then some (refuse stBadParam 0) else if s.axisOn n = false then some (refuse 0x0A43 0) else none

/-- Whether the all-stop refuses a motion of an axis (R377). -/
def axisStopped (s : State) (n : Nat) : Bool := !s.crk.all.isEmpty && u8 (s.axisRec n) 46 != 0

/-- The I32 range. -/
def inI32 (v : Int) : Bool := decide (-2147483648 ≤ v ∧ v ≤ 2147483647)

/-- The target of a move (R380): absolute, relative to the present position, or the end of the range in a direction. -/
def axisTarget (mode : Nat) (p v : Int) : Int :=
  match mode with
  | 0 => v
  | 1 => p + v
  | _ => if v < 0 then -2147483648 else 2147483647

/-- AXS_MOVE (R380, R381). Within check 14 of R78 a disabled axis is reported before the fields (DESIGN CHOICE, assumption 143). -/
def runAxsMove (c : Cmd) (s : State) : State × CmdRes :=
  let b := c.params
  let n := u8 b 0
  if b.length ≠ 12 then (s, refuse stBadLength 0)
  else match s.axisCheck n with
  | some r => (s, r)
  | none =>
    let mode := u8 b 1
    let p := (s.axis n).p
    let tgt := axisTarget mode p (i32 b 4)
    if 3 ≤ mode ∨ u16 b 2 ≠ 0 ∨ u32 b 8 = 0 ∨ u32 (s.axisRec n) 0 < u32 b 8 ∨ inI32 tgt = false then (s, refuse stBadParam 0)
    else if s.axisMoving n then (s, refuse 0x0A40 0)
    else if s.axisStopped n then (s, refuse 0x0A41 0)
    else if mode ≠ 2 ∧ tgt = p then (s, fin (moveBody 0 p))
    else (s.mapAxis n (fun a => { a with wait := some ⟨mode, tgt, u32 b 8⟩, cmd := some (c.sess, c.acc) }), .later)

/-- AXS_HOME (R382). -/
def runAxsHome (c : Cmd) (s : State) : State × CmdRes :=
  let b := c.params
  let n := u8 b 0
  if b.length ≠ 12 then (s, refuse stBadLength 0)
  else match s.axisCheck n with
  | some r => (s, r)
  | none =>
    if 2 ≤ u8 b 1 ∨ u16 b 2 ≠ 0 ∨ u32 b 4 = 0 ∨ u32 (s.axisRec n) 0 < u32 b 4 then (s, refuse stBadParam 0)
    else if s.axisMoving n then (s, refuse 0x0A40 0)
    else if s.axisStopped n then (s, refuse 0x0A41 0)
    else if (s.axis n).refActive then (s, refuse 0x0A42 0)
    else
      let tgt : Int := if u8 b 1 = 1 then -2147483648 else 2147483647
      (s.mapAxis n (fun a => { a with
        wait := some ⟨3, tgt, u32 b 4⟩, cmd := some (c.sess, c.acc), offset := i32 b 8 }), .later)

/-- AXS_HALT (R380): on an axis at rest, OK with detail 0001h; an urgent one has no completion to wait for. -/
def runAxsHalt (c : Cmd) (s : State) : State × CmdRes :=
  let b := c.params
  let n := u8 b 0
  if b.length ≠ 4 then (s, refuse stBadLength 0)
  else match s.axisCheck n with
  | some r => (s, r)
  | none =>
    if 2 ≤ u8 b 1 ∨ u16 b 2 ≠ 0 then (s, refuse stBadParam 0)
    else if s.axisMoving n = false then (s, finD 1)
    else (s.mapAxis n (fun a => { a with haltNext := a.haltNext ++ [(u8 b 1, c.sess, c.acc)] }), .later)

/-- AXS_SET_POS (R380, R374). -/
def runAxsSetPos (c : Cmd) (s : State) : State × CmdRes :=
  let b := c.params
  let n := u8 b 0
  if b.length ≠ 8 then (s, refuse stBadLength 0)
  else match s.axisCheck n with
  | some r => (s, r)
  | none =>
    if rd b 1 3 ≠ 0 then (s, refuse stBadParam 0)
    else if s.axisMoving n then (s, refuse 0x0A40 0)
    else
      (s.mapAxis n (fun a => { a with p := i32 b 4, suspended := false }), fin [])

/-- AXS_STATE_READ (R382). -/
def runAxsStateRead (c : Cmd) (s : State) : State × CmdRes :=
  if c.params.length ≠ 0 then (s, refuse stBadLength 0)
  else (s, fin ((List.range 4).flatMap (fun n =>
    let x := s.axis n
    let (p, v, st) := match x.motion with
      | some m => (m.posAt (s.now - m.start), m.velAt (s.now - m.start), if m.ramp then 3 else if m.homing then 4 else 2)
      | none => (x.p, 0, 1)
    let st := if s.axisOn n then st else 0
    let fl := b2n (decide (u8 (s.axisRec n) 44 ≤ x.stallRun)) + 2 * b2n x.devRun.isSome + 4 * b2n x.suspended +
      8 * b2n (decide (8 ≤ x.fullRun))
    le 1 n ++ le 1 st ++ le 1 fl ++ [0] ++ leS 4 p ++ leS 4 v ++ leS 4 x.count ++ leS 4 x.d ++ le 4 x.delta ++
    leS 4 x.refP ++ leS 4 x.refCount ++ leS 4 x.auxP ++ leS 4 x.zCount)))

/-- The axes' commands of the intake act at the tick boundary (R372). -/
def axesTick (s : State) : State :=
  (List.range 4).foldl (fun s n =>
    let x := s.axis n
    let b := s.axisRec n
    let s := match x.wait with
      | none => s
      | some w =>
        let stopped := s.axisStopped n
        let dist := (w.target - x.p).natAbs
        let m : Motion := {
          neg := decide (w.target < x.p), start := s.now, p0 := x.p, v0 := 0, a0 := 0
          phases := if stopped then [] else movePhases dist (min w.speed (u32 b 0)) (u32 b 4) (u32 b 8)
          target := if stopped then none else some w.target
          outcome := if stopped then 2 else if w.mode ≤ 1 then 0 else 4
          ramp := false, homing := w.mode == 3, emerg := false }
        s.mapAxis n (fun a => { a with wait := none, motion := some m })
    let q := x.haltNext
    let s := s.mapAxis n (fun a => { a with haltNext := [] })
    q.foldl (fun s (r, k, a) =>
      if (s.axis n).motion.isSome then
        (s.mapAxis n (fun x => { x with halts := x.halts ++ [(k, a)] })).axisRamp n (r == 1) 1
      else s.complete k a (Ans.bare stOk 1)) s) s

/-- A commit that disables an axis stops its drive (R369), and one that changes which level of AXn_REF is active turns over whether it is
(R376). -/
def axesCommit (old : Gen) (s : State) : State :=
  (List.range 4).foldl (fun s n =>
    let s := if s.axisOn n then s else s.mapAxis n (fun a => { a with motion := none, wait := none })
    if bit (u8 (s.axisRec n) 45) 0 = bit (u8 (le 52 (old.prm (0x0A10 + n))) 45) 0 then s
    else s.mapAxis n (fun a => { a with refActive := !a.refActive })) s

end State

end Sys2Proof.Machine
end

