-- ==== Sys2Proof/Machine/Archive.lean ====
section
/-! DEFINITION. The Archive: records, blocks, intervals and reading (R551 to R562). -/

namespace Sys2Proof.Machine

/-- The slot of record `n` (RECORD_SEQ), R553. -/
def archiveSlot (n : Nat) : Nat := if n - 1 < 4096 then n - 1 else 4096 + (n - 1 - 4096) % 65536

/-- Whether the Archive still holds record `n` when `next` is the next to be written (R553). -/
def archiveHolds (next n : Nat) : Bool :=
  decide (1 ≤ n ∧ n < next) && (decide (n ≤ 4096) || decide (next ≤ n + 65536))

/-- The 32 bytes of an event record (R98). -/
def eventBytes (e : Event) : Bytes :=
  le 4 e.seq ++ le 4 e.tick ++ le 8 e.time ++ le 2 e.code ++ le 1 (State.clsCode e.cls) ++ le 1 e.level ++
    le 2 (e.kind * 4096 + e.idx) ++ le 2 (b2n e.timeValid + 2 * b2n e.acked + 4 * b2n e.noFw) ++ le 8 e.data

/-- The KIND code of a record (R551). -/
def arcKind : ArcBody → Nat
  | .events _ => 1 | .interval _ _ _ _ => 2 | .counts _ _ _ => 3 | .boot _ _ _ _ _ => 4

/-- Bytes 16 to 247 of a record (R554, R557, R559). -/
def arcBodyBytes : ArcBody → Bytes
  | .events es =>
    padTo 232 0 (le 1 es.length ++ le 1 0 ++ padTo 12 0 (es.flatMap (fun x => le 2 x.2)) ++ le 2 0 ++
      es.flatMap (fun x => eventBytes x.1))
  | .interval m len start k =>
    padTo 232 0 (le 2 m ++ le 2 0 ++ le 4 len ++ le 8 start ++ le 4 k.samples ++ leS 4 k.min ++ leS 4 k.max ++
      le 4 k.maxTick ++ leS 8 k.sum ++ k.bins.flatMap (le 4))
  | .counts len start cs =>
    padTo 232 0 (le 4 len ++ le 8 start ++ le 2 cs.length ++ le 2 0 ++
      cs.flatMap (fun x => le 2 x.1 ++ le 2 0 ++ le 4 x.2))
  | .boot cause flags boots time vs =>
    padTo 232 0 (le 2 cause ++ le 1 flags ++ le 1 0 ++ le 4 boots ++ le 8 time ++ vs.flatMap (le 4))

/-- The 256 bytes of a record with its valid mark (R551). -/
def arcRecordBytes (n : Nat) (r : ArcRec) : Bytes :=
  let b := le 8 n ++ le 1 (arcKind r.body) ++ le 1 1 ++ le 2 r.boot ++ le 4 r.tick ++ arcBodyBytes r.body
  b ++ le 4 (crc32c b) ++ le 4 0x41524331

/-- Cuts a list into pieces of at most `n` (fuel: its length). -/
def chunksAux {α : Type} (n : Nat) : Nat → List α → List (List α)
  | 0, _ => []
  | k + 1, l => if l.isEmpty then [] else l.take n :: chunksAux n k (l.drop n)

/-- Cuts a list into pieces of at most `n`. -/
def chunks {α : Type} (n : Nat) (l : List α) : List (List α) := chunksAux n l.length l

namespace State

/-- Writes one record into its slot, over the record 65,536 numbers older (R552, R553); one that the
staging queue cannot take is lost (R429, R430). -/
def arcWrite (body : ArcBody) (s : State) : State :=
  let a := s.arc
  let r : ArcRec := { boot := a.boots % 65536, tick := if s.sys.fw = .running then s.sys.tick else 0, body := body, good := true }
  let recs := if a.next ≤ 69632 then a.recs else Tab.del (a.next - 65536) a.recs
  if s.fixedDown 13 then s.dropFixed 13
  else { s with arc := { a with recs := Tab.put a.next r recs, next := a.next + 1 } }

/-- Writes the open block, when it holds an entry (R555). -/
def arcFlush (s : State) : State :=
  let s' := (chunks 6 s.arc.block).foldl (fun s es => s.arcWrite (.events (es.map (fun x => (x.1, x.2.1))))) s
  s'.mapArc (fun a => { a with block := [] })

/-- Whether the open block is due: 6 entries, a fault, or an entry 1,000 ms old at the tick's start (R555). -/
def arcBlockDue (s : State) : Bool :=
  decide (6 ≤ s.arc.block.length) || s.arc.block.any (fun x => x.1.cls == .fault) ||
    s.arc.block.any (fun x => decide (x.2.2 + 1000000000 ≤ s.now))

/-- Writes the interval and count records of the open interval and opens the next (R557). -/
def arcEndInterval (s : State) : State :=
  let a := s.arc
  let len := (s.now - a.startNow) / 1000000000
  let s := a.metrics.foldl (fun s x => s.arcWrite (.interval x.1 len a.start x.2)) s
  let s := (chunks 27 a.codes).foldl (fun s cs => s.arcWrite (.counts len a.start cs)) s
  s.mapArc (fun a => { a with metrics := [], codes := [], start := s.clk.count, startNow := s.now })

/-- The Archive's part of the Close phase (R555, R558): the per-tick samples and the block when due. -/
def arcClose (dieTemp vinMv : Int) (entries ready : Nat) (s : State) : State :=
  let s := s.sample 0x0D s.errCode
  let s := s.sample 0x10 entries
  let s := s.sample 0x11 ready
  let s := s.sample 0x12 dieTemp
  let s := s.sample 0x13 vinMv
  if s.arcBlockDue then s.arcFlush else s

/-- The interval's end, which falls on a multiple of ARC_INTERVAL_S in pasture time while time is valid (R557). -/
def archiveIntervalEnd (s : State) : State :=
  let len := s.prm 0x1200 * 1000000000
  let due := if s.timeValid then decide (s.arc.start / len < s.clk.count / len) else decide (len ≤ s.now - s.arc.startNow)
  if due then s.arcEndInterval else s

/-- The boot record, ahead of every other of the boot (R559). -/
def arcBoot (lostInterval lostBlock : Bool) (versions : List Nat) (s : State) : State :=
  let s := s.mapArc (fun a => { a with boots := a.boots + 1 })
  s.arcWrite (.boot s.sys.resetCause (b2n lostInterval + 2 * b2n lostBlock) s.arc.boots
    (if s.timeValid then s.clk.count else 0) versions)

/-- The Archive at firmware load, in either mode: the boot record, then the events captured before it, at most 64 (R556, R559), and the
first interval begins. -/
def arcLoad (lostInterval lostBlock : Bool) (versions : List Nat) (s : State) : State :=
  let early := s.arc.block
  let s := (s.mapArc (fun a => { a with block := [] })).arcBoot lostInterval lostBlock versions
  (s.mapArc (fun a => { a with
    block := early.take 64, suppressed := a.suppressed + (early.length - 64), start := s.clk.count
    startupEnd := s.now + s.prm 0x1201 * 1000000000 })).arcFlush

/-- The records ARC_READ finds from a number on: at most `mx` valid ones among those held, and whether an unreadable one
was skipped (R560). -/
def arcCollect (mx : Nat) (recs : Tab ArcRec) : List (Nat × ArcRec) × Bool :=
  match mx, recs with
  | 0, _ => ([], false)
  | _, [] => ([], false)
  | k + 1, (n, r) :: t =>
    if r.good then
      let (l, sk) := arcCollect k t
      ((n, r) :: l, sk)
    else
      let (l, _) := arcCollect (k + 1) t
      (l, true)

/-- ARC_READ (R560). -/
def runArcRead (c : Cmd) (s : State) : State × CmdRes :=
  let b := c.params
  if b.length ≠ 16 then (s, refuse stBadLength 0)
  else
    let fr := if u64 b 0 = 0 then 1 else u64 b 0
    let mx := u16 b 8
    if mx = 0 ∨ 15 < mx ∨ rd b 10 6 ≠ 0 ∨ s.arc.next < fr then (s, refuse stBadParam 0)
    else
      let tail := s.arc.recs.filter (fun e => decide (fr ≤ e.1))
      let notHeld := decide (fr < s.arc.next) && !archiveHolds s.arc.next fr
      let (l, sk) := arcCollect mx tail
      let first := match l with | (n, _) :: _ => n | [] => fr
      (s, fin (le 8 first ++ le 2 l.length ++ le 2 (b2n notHeld + 2 * b2n sk) ++ le 4 0 ++
        l.flatMap (fun e => arcRecordBytes e.1 e.2)))

/-- ARC_STATE_READ (R560). -/
def runArcStateRead (c : Cmd) (s : State) : State × CmdRes :=
  if c.params.length ≠ 0 then (s, refuse stBadLength 0)
  else
    let a := s.arc
    let oldest := if a.next ≤ 4097 then a.next else max 4097 (a.next - 65536)
    (s, fin (le 8 a.next ++ le 8 oldest ++ le 4 (min a.boots 0xFFFFFFFF) ++ le 4 a.suppressed ++ le 4 a.unreadable ++ le 4 0))

end State

end Sys2Proof.Machine
end

