-- ==== Sys2Proof/Machine/Can.lean ====
section
/-! DEFINITION. The CAN FD controllers and the site-device serial link (R402 to R419). -/

namespace Sys2Proof.Machine

/-- An empty message buffer. -/
def CanMb.fresh : CanMb := { isNew := false, overrun := false, lock := none, frame := none, tx := none }

/-- A controller at reset. -/
def CanPort.fresh : CanPort := {
  state := .off, tec := 0, rcv := 0, seqs := 0, counting := false, counts := List.replicate 5 0, filtered := 0, protExc := 0,
  lockDrops := 0, mbs := [], onBus := none, overRun := false }

/-- The arbitration field as a number, so that the lower one wins (R410). -/
def canArb (f : CanFrame) : Nat :=
  let base := f.id / 2 ^ 18 % 2048
  if f.ide then base * 2 ^ 21 + 2 ^ 20 + 2 ^ 19 + (f.id % 2 ^ 18) * 2 + b2n f.rtr else base * 2 ^ 21 + b2n f.rtr * 2 ^ 20

/-- STATE codes of R416. -/
def CanState.code : CanState → Nat
  | .off => 0 | .active => 1 | .passive => 2 | .busOff => 3 | .integrating => 4

/-- The data lengths of R416. -/
def canLens : List Nat := [0, 1, 2, 3, 4, 5, 6, 7, 8, 12, 16, 20, 24, 32, 48, 64]

/-- Words 0 and 1 of a buffer (R408). -/
def canHead (isNew locked overrun : Bool) (f : CanFrame) : Nat :=
  b2n isNew * 2 ^ 63 + b2n locked * 2 ^ 62 + b2n overrun * 2 ^ 61 + b2n f.brs * 2 ^ 60 + b2n f.esi * 2 ^ 59 +
  f.data.length % 128 * 2 ^ 48 + f.dlc % 16 * 2 ^ 44 + b2n f.ide * 2 ^ 31 + b2n f.fdf * 2 ^ 30 + b2n f.rtr * 2 ^ 29 +
  f.id % 2 ^ 29

/-- The last word of a frame (R408). -/
def canLastWord (n : Nat) : Nat := 3 + ceilDiv n 4

/-- A receive buffer's record matches a frame (R406). -/
def mbMatches (r : Bytes) (f : CanFrame) : Bool :=
  let fl := u8 r 1
  u8 r 0 == 1 && bit fl 0 == f.ide && bit fl 1 == f.fdf && (f.id &&& u32 r 8) == (u32 r 4 &&& u32 r 8) && (!f.rtr || bit fl 2)

/-- The nominal and data rates and the other limits of R404 and R405. -/
def canTimingOk (b : Bytes) : Bool :=
  let nq := u16 b 2 * (1 + u16 b 4 + u8 b 6)
  let dq := u8 b 8 * (1 + u8 b 9 + u8 b 10)
  let tripleOk := bit (u8 b 1) 1 == false || (decide (80000000 ≤ 125000 * nq) && decide (3 ≤ u16 b 4))
  decide (80000000 ≤ 1000000 * nq) && decide (10000 * nq ≤ 80000000) && decide (80000000 ≤ 8000000 * dq) &&
  decide (dq ≤ nq) && decide (u8 b 7 ≤ u8 b 6) && decide (u8 b 11 ≤ u8 b 10) && tripleOk

namespace State

/-- Changes the CAN block. -/
def mapCan (f : Can → Can) (s : State) : State := { s with can := f s.can }

/-- A controller. -/
def canPort (s : State) (n : Nat) : CanPort := (s.can.ports[n]?).getD CanPort.fresh

/-- Changes one controller. -/
def mapCanPort (n : Nat) (f : CanPort → CanPort) (s : State) : State :=
  s.mapCan (fun e => { e with ports := modAt n f e.ports })

/-- A buffer of a controller. -/
def canMb (s : State) (n m : Nat) : CanMb := Tab.getD m CanMb.fresh (s.canPort n).mbs

/-- Writes a buffer. -/
def putMb (n m : Nat) (b : CanMb) (s : State) : State :=
  s.mapCanPort n (fun p => { p with mbs := Tab.put m b p.mbs })

/-- Counts at position `k` of a controller's counters (R416). -/
def canCount (n k : Nat) (s : State) : State := s.mapCanPort n (fun p => { p with counts := modAt k inc32 p.counts })

/-- The port record (R417). -/
def canCfg (s : State) (n : Nat) : Bytes := s.prmRec 24 (0x0C02 + n)

/-- A buffer's record (R406). -/
def mbRec (s : State) (n m : Nat) : Bytes := s.prmRec 16 (0x0C40 + 64 * n + m)

/-- A fold link uses CAN port `n` (R449, R453). -/
def foldCan (s : State) (n : Nat) : Bool :=
  s.prm 0x0E00 == 1 && (List.range 15).any (fun k =>
    let t := s.prm (0x0E01 + k)
    t % 65536 != 0xFFFF && t / 2 ^ 32 % 256 == 3 + n)

/-- The port runs for site devices (R402). -/
def canOn (s : State) (n : Nat) : Bool := bit (s.prm 0x0C00) n && bit (s.prm 0x0C01) n && !s.foldCan n

/-- What a port drives on the bus beside frames: an acknowledgement except in bus monitoring, an error flag in normal mode only, and
nothing on the unit of a pair that is not in control (R403). -/
def canDrive (n : Nat) (o : Output) (s : State) : State :=
  let mode := u8 (s.canCfg n) 0
  if s.inControl ∧ (mode = 0 ∨ (mode = 2 ∧ o = .canAck n)) then s.emit o else s

/-- Offers the pending frame with the lowest arbitration field (R410). -/
def canOffer (n : Nat) (s : State) : State :=
  let p := s.canPort n
  if p.onBus.isSome ∨ s.canOn n = false ∨ u8 (s.canCfg n) 0 ≠ 0 ∨ s.inControl = false ∨
    (p.state ≠ .active ∧ p.state ≠ .passive) then s
  else
    let l := p.mbs.filterMap (fun (e : Nat × CanMb) => match e.2.tx with
      | some t => if t.loaded then some (e.1, t) else none
      | none => none)
    match (sortBy (fun (a b : Nat × CanTx) => decide (canArb a.2.frame ≤ canArb b.2.frame)) l).head? with
    | none => s
    | some (m, t) =>
      let s := s.putMb n m { s.canMb n m with tx := some { t with attempts := t.attempts + 1 } }
      (s.mapCanPort n (fun p => { p with onBus := some m })).emit (.canFrame n m t.frame)

/-- Judges the error counters: error passive, error active or bus-off, with their events (R413). -/
def canJudge (n : Nat) (s : State) : State :=
  let p := s.canPort n
  if p.state ≠ .active ∧ p.state ≠ .passive then s
  else if 256 ≤ p.tec then
    let manual := bit (u8 (s.canCfg n) 1) 3
    (s.mapCanPort n (fun p => { p with state := .busOff, onBus := none, seqs := 0, counting := !manual })).raise0 0x0C02 .fault 1 n
  else
    let passive := decide (128 ≤ p.tec ∨ 128 ≤ p.rcv)
    if passive ∧ p.state = .active then (s.mapCanPort n (fun p => { p with state := .passive })).raise0 0x0C01 .warning 1 n
    else if passive = false ∧ p.state = .passive then
      (s.mapCanPort n (fun p => { p with state := .active })).raise0 0x0C01 .warning 0 n
    else s

/-- A CAN_TX ends: completion, and the aborts that waited for the attempt (R410, R411). -/
def canTxEnd (n m outcome time : Nat) (s : State) : State :=
  let b := s.canMb n m
  match b.tx with
  | none => s
  | some t =>
    let s := s.putMb n m { b with tx := none }
    let s := s.completeOk t.sess t.acc (le 1 outcome ++ zeros 3 ++ le 8 time ++ le 4 t.attempts)
    t.aborts.foldl (fun s a => match a with
      | some (ss, ac) => s.complete ss ac (Ans.bare stOk (if outcome = 0 then 1 else 0))
      | none => s) s

/-- An attempt ends: 0 sent, 1 arbitration lost, 2 an error, 3 an ACK error; `age` ns after its start of frame
(R410 to R413). -/
def canAttemptEnd (n result age : Nat) (s : State) : State :=
  let p := s.canPort n
  match p.onBus with
  | none => s
  | some m =>
    let b := s.canMb n m
    let s := s.mapCanPort n (fun p => { p with onBus := none })
    match b.tx with
    | none => s
    | some t =>
      let s :=
        if result = 0 then
          ((s.mapCanPort n (fun p => { p with tec := p.tec - 1 })).canCount n 0).canTxEnd n m 0 (s.clk.count - age)
        else
          let s := if result = 1 then s.canCount n 2 else (s.canCount n 3).canDrive n (.canErrorFlag n)
          let up := if result = 1 ∨ (result = 3 ∧ p.state = .passive) then 0 else 8
          let s := s.mapCanPort n (fun p => { p with tec := p.tec + up })
          let run := if result = 3 then t.noAck + 1 else 0
          let s := s.putMb n m { b with tx := some { t with noAck := run } }
          let c := s.canCfg n
          let s := if result = 3 ∧ run = u16 c 16 then s.raise0 0x0C04 .warning 1 (n + 256 * m) else s
          if u16 c 18 ≠ 0 ∧ u16 c 18 ≤ run then s.canTxEnd n m 2 0
          else if t.aborts ≠ [] then s.canTxEnd n m 1 0 else s
      (s.canJudge n).canOffer n

/-- A port goes bus-off: the attempt in progress ends, and with it a buffer that a CAN_TX_ABORT waits for (R411, R413). -/
def canBusOff (n : Nat) (s : State) : State :=
  let p := s.canPort n
  if p.state ≠ .active ∧ p.state ≠ .passive then s
  else
    let s := (s.mapCanPort n (fun p => { p with tec := 256 })).canJudge n
    match p.onBus with
    | some m => if ((s.canMb n m).tx.map (fun t => t.aborts.isEmpty)) = some false then s.canTxEnd n m 1 0 else s
    | none => s

/-- `k` more recessive sequences: integration ends, or the bus-off count runs to 128 (R413). -/
def canBusOn (n k : Nat) (s : State) : State :=
  let p := s.canPort n
  match p.state with
  | .integrating => if k = 0 then s else (s.mapCanPort n (fun p => { p with state := .active })).canOffer n
  | .busOff =>
    if p.counting = false then s
    else if p.seqs + k < 128 then s.mapCanPort n (fun p => { p with seqs := p.seqs + k })
    else
      let s := s.mapCanPort n (fun p => { p with state := .active, tec := 0, rcv := 0, seqs := 0, counting := false })
      (s.raise0 0x0C03 .notice 1 n).canOffer n
  | _ => s

/-- Puts a frame in the buffer R407 gives it, or drops it. -/
def canStore (n : Nat) (f : CanFrame) (time : Nat) (s : State) : State :=
  let hits := (List.range 64).filter (fun m => mbMatches (s.mbRec n m) f)
  let free := hits.find? (fun m => !(s.canMb n m).isNew && (s.canMb n m).lock.isNone)
  let over_ := hits.find? (fun m => bit (u8 (s.mbRec n m) 1) 3 && (s.canMb n m).lock.isNone)
  let store (m : Nat) (ov : Bool) : State :=
    let s := s.putMb n m { s.canMb n m with isNew := true, overrun := ov, frame := some (f, time) }
    let s := s.mapCanPort n (fun p => { p with overRun := false })
    let q := u8 (s.canCfg n) 14
    if q = 0 then s
    else s.publish q (le 8 (canHead true false ov f) ++ le 8 time ++ padMul 4 f.data) id
  match hits, free, over_ with
  | [], _, _ => s.mapCanPort n (fun p => { p with filtered := inc32 p.filtered })
  | _, some m, _ => store m false
  | _, none, some m => store m true
  | _, none, none =>
    let run := (s.canPort n).overRun
    let s := (s.canCount n 4).mapCanPort n (fun p => { p with overRun := true })
    if run then s else s.raise0 0x0C05 .warning 1 n

/-- A frame has come in on the bus, `age` ns after its start; `recErr` 0: valid, 255: a protocol exception, else an error
that raises the receive error count by it (R402, R407). -/
def canReceive (n : Nat) (f : CanFrame) (age recErr : Nat) (s : State) : State :=
  let p := s.canPort n
  let fd := bit (u8 (s.canCfg n) 1) 0
  if s.canOn n = false then s
  else match p.state with
  | .off | .busOff => s
  | .integrating => (s.mapCanPort n (fun p => { p with state := .active })).canOffer n
  | _ =>
    if recErr = 255 ∧ fd then s.mapCanPort n (fun p => { p with protExc := inc32 p.protExc })
    else if recErr ≠ 0 ∨ (f.fdf ∧ fd = false) then
      (((s.mapCanPort n (fun p => { p with rcv := min 255 (p.rcv + max 1 recErr) })).canCount n 3).canDrive n (.canErrorFlag n)).canJudge n
    else
      let s := (s.canDrive n (.canAck n)).mapCanPort n (fun p => { p with rcv := if 128 ≤ p.rcv then 127 else p.rcv - 1 })
      (((s.canCount n 1).canStore n f (s.clk.count - age)).canJudge n).canOffer n

/-- Read locks held 1 s are released (R409). -/
def canLockTimeout (s : State) : State :=
  (List.range 2).foldl (fun s n => (s.canPort n).mbs.foldl (fun s (e : Nat × CanMb) => match e.2.lock with
    | some t => if 1000000000 ≤ s.now - t then
        (s.putMb n e.1 { e.2 with lock := none }).mapCanPort n (fun p => { p with lockDrops := inc32 p.lockDrops })
      else s
    | none => s) s) s

/-- The transmissions of the intake become pending at the tick boundary (R410). -/
def canTick (s : State) : State :=
  (List.range 2).foldl (fun s n =>
    (s.mapCanPort n (fun p => { p with mbs := p.mbs.map (fun (e : Nat × CanMb) =>
      (e.1, { e.2 with tx := e.2.tx.map (fun t => { t with loaded := true }) })) })).canOffer n) s

/-- The ports take a new configuration: one that starts integrates, one that ends is off, its
attempt over, and with it a buffer that a CAN_TX_ABORT waits for (R402, R411, R413). -/
def canConfigure (s : State) : State :=
  (List.range 2).foldl (fun s n =>
    let p := s.canPort n
    if s.canOn n then
      if p.state = .off then s.mapCanPort n (fun p => { p with state := .integrating, tec := 0, rcv := 0 }) else s
    else
      let s := s.mapCanPort n (fun p => { p with state := .off, onBus := none })
      match p.onBus with
      | some m => if ((s.canMb n m).tx.map (fun t => t.aborts.isEmpty)) = some false then s.canTxEnd n m 1 0 else s
      | none => s) s

/-! ### Serial link (R415) -/

/-- The serial link's record. -/
def serRec (s : State) : Bytes := s.prmRec 8 0x0C04

/-- The driver-enable pad is high: bytes are being sent (R415). -/
def serDrive (s : State) : Bool := u8 s.serRec 5 != 0xFF && s.inControl && !s.can.serTx.isEmpty

/-- The newest head of the transmit list goes on the line, when this unit is in control. -/
def serSend (s : State) : State :=
  match s.can.serTx with
  | (_, _, d) :: _ => if s.inControl then s.emit (.serial s.uartTx d) else s
  | [] => s

/-- The last stop bit of a command's bytes has ended (R415). -/
def serialTxDone (s : State) : State :=
  match s.can.serTx with
  | [] => s
  | (ss, a, _) :: t => ((s.mapCan (fun c => { c with serTx := t })).completeOk ss a (le 8 s.clk.count)).serSend

/-- A received packet has ended on a line: its bytes, how long ago its first start bit fell, and whether an error ended it (R415). Only
the line that UART1's receiver has is heard (R103). -/
def serialPacket (pad : Option Nat) (d : Bytes) (age : Nat) (err : Bool) (s : State) : State :=
  let q := u8 s.serRec 6
  if pad ≠ s.uartRx ∨ u32 s.serRec 0 = 0 ∨ s.serDrive ∨ d = [] then s
  else if q = 0 then s.mapCan (fun c => { c with serDropped := c.serDropped + d.length })
  else s.publish q (le 8 ((s.clk.count - age) % 2 ^ 63 + b2n err * 2 ^ 63) ++ d) id

/-! ### Opcodes (R416) -/

/-- CAN_TX (R403, R410, R416). -/
def runCanTx (c : Cmd) (s : State) : State × CmdRes :=
  let b := c.params
  let n := u8 b 0
  let m := u8 b 1
  let fl := u8 b 2
  let len := u8 b 3
  if b.length < 8 then (s, refuse stBadLength 0)
  else if 1 < n ∨ 63 < m ∨ 16 ≤ fl ∨ canLens.contains len = false ∨ (bit fl 1 = false ∧ 8 < len) ∨ (bit fl 3 ∧ len ≠ 0) ∨
    (bit fl 2 ∧ bit fl 1 = false) ∨ (bit fl 3 ∧ bit fl 1) ∨ 2 ^ 29 ≤ u32 b 4 then (s, refuse stBadParam 0)
  else if b.length ≠ 8 + (len + 3) / 4 * 4 then (s, refuse stBadLength 0)
  else if s.canOn n = false then (s, refuse 0x0C42 0)
  else if u8 (s.mbRec n m) 0 ≠ 2 then (s, refuse 0x0C43 0)
  else if u8 (s.canCfg n) 0 ≠ 0 then (s, refuse stDenied 7)
  else if (s.canMb n m).tx.isSome then (s, refuse 0x0C41 0)
  else
    let dlc := ((findIdx (fun l => l == len) canLens).map Prod.fst).getD 0
    let f : CanFrame := {
      ide := bit fl 0, fdf := bit fl 1, rtr := bit fl 3, brs := bit fl 2, esi := false, dlc := dlc, id := u32 b 4,
      data := slice b 8 len }
    (s.putMb n m { s.canMb n m with tx := some {
      frame := f, sess := c.sess, acc := c.acc, loaded := false, attempts := 0, noAck := 0, aborts := [] } }, .later)

/-- CAN_TX_ABORT (R411). -/
def runCanTxAbort (c : Cmd) (s : State) : State × CmdRes :=
  let b := c.params
  let n := u8 b 0
  let m := u8 b 1
  if b.length ≠ 4 then (s, refuse stBadLength 0)
  else if 1 < n ∨ 63 < m ∨ u16 b 2 ≠ 0 then (s, refuse stBadParam 0)
  else if s.canOn n = false then (s, refuse 0x0C42 0)
  else if u8 (s.mbRec n m) 0 ≠ 2 then (s, refuse 0x0C43 0)
  else match (s.canMb n m).tx with
  | none => (s, finD 1)
  | some t =>
    if (s.canPort n).onBus = some m then
      let who : Option (Nat × Nat) := if c.acc = 0 then none else some (c.sess, c.acc)
      (s.putMb n m { s.canMb n m with tx := some { t with aborts := t.aborts ++ [who] } }, if c.acc = 0 then fin [] else .later)
    else (s.canTxEnd n m 1 0, fin [])

/-- The 20 words of a receive buffer, as bytes (R408). -/
def mbWords (b : CanMb) : Bytes :=
  match b.frame with
  | none => le 8 (b2n b.lock.isSome * 2 ^ 62) ++ zeros 72
  | some (f, t) => le 8 (canHead b.isNew b.lock.isSome b.overrun f) ++ le 8 t ++ padTo 64 0 f.data

/-- CAN_MB_READ (R408, R409). -/
def runCanMbRead (c : Cmd) (s : State) : State × CmdRes :=
  let b := c.params
  let n := u8 b 0
  let m := u8 b 1
  let first := u8 b 2
  let cnt := u8 b 3
  if b.length ≠ 4 then (s, refuse stBadLength 0)
  else if 1 < n ∨ 63 < m ∨ 19 < first ∨ cnt = 0 ∨ 20 < first + cnt then (s, refuse stBadParam 0)
  else if s.canOn n = false then (s, refuse 0x0C42 0)
  else if u8 (s.mbRec n m) 0 ≠ 1 then (s, refuse 0x0C43 0)
  else
    let x := s.canMb n m
    let x := if first = 0 then { x with lock := some (x.lock.getD s.now) } else x
    let last := canLastWord (match x.frame with | some (f, _) => f.data.length | none => 0)
    let out := slice (mbWords x) (4 * first) (4 * cnt)
    let x := if first ≤ last ∧ last < first + cnt then
        { x with lock := none, isNew := false, overrun := false } else x
    (s.putMb n m x, fin out)

/-- CAN_STATE_READ (R416). -/
def runCanStateRead (c : Cmd) (s : State) : State × CmdRes :=
  if c.params.length ≠ 0 then (s, refuse stBadLength 0)
  else (s, fin ((List.range 2).flatMap (fun n =>
    let p := s.canPort n
    le 1 n ++ le 1 p.state.code ++ le 1 (min 255 p.rcv) ++ [0] ++ le 2 (min 65535 p.tec) ++ le 2 p.seqs ++
      p.counts.flatMap (le 4) ++ zeros 4)))

/-- CAN_RECOVER (R413). -/
def runCanRecover (c : Cmd) (s : State) : State × CmdRes :=
  let b := c.params
  let n := u8 b 0
  if b.length ≠ 4 then (s, refuse stBadLength 0)
  else if 1 < n ∨ rd b 1 3 ≠ 0 then (s, refuse stBadParam 0)
  else if s.canOn n = false then (s, refuse 0x0C42 0)
  else if (s.canPort n).state ≠ .busOff then (s, finD 1)
  else (s.mapCanPort n (fun p => { p with counting := true }), fin [])

/-- CAN_SERIAL_TX (R415). -/
def runCanSerialTx (c : Cmd) (s : State) : State × CmdRes :=
  let b := c.params
  let len := u16 b 0
  if b.length < 4 then (s, refuse stBadLength 0)
  else if len = 0 ∨ 1024 < len then (s, refuse stBadParam 0)
  else if b.length ≠ 4 + (len + 3) / 4 * 4 then (s, refuse stBadLength 0)
  else if 4096 < (s.can.serTx.map (fun (e : Nat × Nat × Bytes) => e.2.2.length)).sum + len then
    (s, .refuse ⟨stNoCredit, 0x0C01, s.creditBody c.sess⟩)
  else if u16 b 2 ≠ 0 then (s, refuse stBadParam 0)
  else if u32 s.serRec 0 = 0 then (s, refuse 0x0C42 0)
  else
    let idle := s.can.serTx.isEmpty
    let s := s.mapCan (fun k => { k with serTx := k.serTx ++ [(c.sess, c.acc, slice b 4 len)] })
    (if idle then s.serSend else s, .later)

end State

end Sys2Proof.Machine
end

