-- ==== Sys2Proof/Machine/Tasks.lean ====
section
/-! DEFINITION. Tasks, the auction, staging, results, and the Drover's jobs (R309 to R340). -/

namespace Sys2Proof.Machine

/-- A task record's PICKUP, DROP, RELEASE and EXPIRE (R312). -/
def taskPickup (b : Bytes) : Nat := u32 b 8
def taskDrop (b : Bytes) : Nat := u32 b 12
def taskRelease (b : Bytes) : Nat := u64 b 24
def taskExpire (b : Bytes) : Nat := u64 b 32

/-- The result record (R332). -/
def resultRecord (id : Nat) (t : Task) : Bytes :=
  le 4 t.resultSeq ++ le 4 id ++ slice t.record 0 4 ++ le 1 t.outcome ++ le 1 (t.last.getD 0xFF) ++ le 1 t.code ++ le 1 0 ++
  le 4 t.result ++ le 8 t.time ++ le 4 0

/-- Order of two tasks in a list: release boundary, journal order, record index (R315). -/
def taskBefore (a b : Nat × Task) : Bool :=
  if a.2.release ≠ b.2.release then decide (a.2.release < b.2.release)
  else if a.2.order ≠ b.2.order then decide (a.2.order < b.2.order) else decide (a.2.idx ≤ b.2.idx)

/-- How many steps RESULT_SEQ `n` lies behind the newest; 0 is no RESULT_SEQ (R332). -/
def seqAge (newest n : Nat) : Nat := if n ≤ newest then newest - n else newest + 4294967295 - n

/-- RESULT_SEQ `n` is not above the newest: a greater number precedes it only where held results tell that the count has wrapped
(R332). -/
def seqPast (newest : Nat) (held : List Nat) (n : Nat) : Bool :=
  decide (n ≤ newest) || (held.any (fun q => decide (newest < q)) && decide (seqAge newest n < 2147483648))

namespace State

/-- Changes the tasks block. -/
def mapTsk (f : Tsk → Tsk) (s : State) : State := { s with tsk := f s.tsk }

/-- A task of the store. -/
def task? (s : State) (id : Nat) : Option Task := Tab.find? id s.tsk.tasks

/-- A proxy record (R470). -/
def proxy? (s : State) (id : Nat) : Option Task := Tab.find? id s.tsk.proxies

/-- A task of the store, or a proxy record. -/
def anyTask? (s : State) (id : Nat) : Option Task :=
  match s.task? id with
  | some t => some t
  | none => s.proxy? id

/-- Changes one task, or one proxy record. -/
def mapTask (id : Nat) (f : Task → Task) (s : State) : State :=
  match s.task? id, s.proxy? id with
  | some t, _ => s.mapTsk (fun k => { k with tasks := Tab.put id (f t) k.tasks })
  | none, some t => s.mapTsk (fun k => { k with proxies := Tab.put id (f t) k.proxies })
  | none, none => s

/-- The tasks a robot holds in states ALLOTTED, STAGED and CURRENT, this device's and others' (R470). -/
def tasksOf (s : State) (r : Nat) : List (Nat × Task) :=
  (s.tsk.tasks ++ s.tsk.proxies).filter
    (fun (e : Nat × Task) => e.2.robot == some r && (e.2.state == 2 || e.2.state == 3 || e.2.state == 4))

/-- A TSK_CANCEL of the task stands accepted, applied or not (R329, R330). -/
def cancelStands (s : State) (id : Nat) (t : Task) : Bool := t.cancel.isSome || s.tsk.cancels.any (fun x => x.1 == id)

/-- The RESULT_SEQs of the held results (R332). -/
def heldSeqs (s : State) : List Nat := (s.tsk.tasks.filter (fun e => e.2.state == 5)).map (fun e => e.2.resultSeq)

/-- w_age in use (R323). -/
def wAge (s : State) : Nat := if s.prm 0x080B = 0 then s.prm 0x0807 else s.tsk.wAge

/-- The robot's tasks of one state. -/
def taskIn (s : State) (r st : Nat) : Option Nat := ((s.tasksOf r).find? (fun (e : Nat × Task) => e.2.state == st)).map Prod.fst

/-- Open tasks: STAGED or CURRENT. -/
def hasOpen (s : State) (r : Nat) : Bool := (s.tasksOf r).any (fun e => e.2.state != 2)

/-- The device number, FLD_DEVICE_NO (R309, R454). -/
def deviceNo (s : State) : Nat := s.prm 0x0E16

/-! ### Ends (R328 to R332) -/

/-- The end of another member's task is reported to it; the proxy record stays until REPORT_ACK (R470). -/
def endProxy (id outcome code result : Nat) (s : State) : State :=
  match s.proxy? id with
  | none => s
  | some t =>
    if t.state = 5 then s
    else
      let eui := match t.robot.bind s.robot? with | some x => x.eui | none => 0
      (s.mapTask id (fun t => { t with state := 5, outcome := outcome, code := code, result := result, time := s.clk.count })).relay
        (id / 1048576) 0x11 (le 4 id ++ le 8 eui ++ le 1 1 ++ le 1 outcome ++ le 1 code ++ le 1 0 ++ le 4 result)

/-- A task becomes FINAL: its result, the results queue, and the TSK_CANCEL that waits (R329, R332). A task another member
issued is reported to it (R470). -/
def finalize (id outcome code result : Nat) (s : State) : State :=
  match s.task? id with
  | none => s.endProxy id outcome code result
  | some t =>
    if t.state = 5 then s
    else
      let seq := if s.tsk.resultSeq = 0xFFFFFFFF then 1 else s.tsk.resultSeq + 1
      let t' := { t with state := 5, outcome := outcome, code := code, result := result, resultSeq := seq, time := s.clk.count,
                         cancel := none, eta := 0 }
      let s := s.mapTsk (fun k => { k with tasks := Tab.put id t' k.tasks, resultSeq := seq })
      let q := s.prm 0x080D
      let s := if q = 0 then s else s.publish q (resultRecord id t') (fun s => s)
      match t.cancel with
      | some (n, a) => s.completeOk n a (le 1 outcome ++ zeros 3)
      | none => s

/-- The time of a planned route in ms, rounded up, through a task's nodes from the robot's open hold (R326). -/
def routeMs (s : State) (r : Nat) (dests : List Nat) : Nat :=
  match s.openHoldOf r with
  | none => 0
  | some h =>
    let ls := s.planLanes (s.clsOf r) []
    match routeThrough ls h dests with
    | none => 0
    | some path =>
      let t : Rat := (path.map (fun i => match ls.find? (fun l => l.idx == i) with | some l => l.time | none => 0)).sum
      (t * 1000).ceil.toNat

/-- The nodes of a task in order. -/
def taskDests (b : Bytes) : List Nat := taskPickup b :: (if taskDrop b = 0xFFFFFFFF then [] else [taskDrop b])

/-- A task becomes CURRENT, with its ETA (R326); the planner plans for it, unless it was asked when the task was staged (R324). -/
def becomeCurrent (r id : Nat) (plan : Bool) (s : State) : State :=
  match s.task? id with
  | none => s.mapTask id (fun t => { t with state := 4 })
  | some t =>
    let ms := s.routeMs r (taskDests t.record) * (s.pr r).p / 1000 + u32 t.record 16
    let s := s.mapTask id (fun t => { t with state := 4, eta := s.clk.count + ms * 1000000 })
    if plan && !t.planned then s.askPlan r ⟨taskDests t.record, false, false⟩ else s

/-- The STAGED task of a registered robot without a CURRENT one becomes CURRENT (R326). -/
def promoteStaged (r : Nat) (s : State) : State :=
  match s.robot? r, s.taskIn r 4, s.taskIn r 3 with
  | some _, none, some id => s.becomeCurrent r id true
  | _, _, _ => s

/-- The TASK parcel of a robot was delivered (R326). -/
def taskDelivered (r : Nat) (v : Bytes) (s : State) : State :=
  let id := u32 v 0
  match s.task? id with
  | none => s
  | some t =>
    if t.state = 2 ∧ t.robot = some r then
      if s.hasOpen r then s.mapTask id (fun t => { t with state := 3 }) else s.becomeCurrent r id true
    else s

/-- A task returns to READY under its original key (R330). -/
def returnReady (id : Nat) (s : State) : State :=
  s.mapTask id (fun t => { t with state := 1, robot := none, planned := false, eta := 0 })

/-- TASK_DONE (R326, R328, R330). -/
def taskDone (r : Nat) (v : Bytes) (s : State) : State :=
  let id := u32 v 0
  if v.length ≠ 12 ∨ 4 ≤ u8 v 4 then s
  else match s.anyTask? id with
  | none => s
  | some t =>
    if t.robot ≠ some r ∨ t.state < 2 ∨ 4 < t.state then s
    else if (s.task? id).isNone then (s.endProxy id (u8 v 4) (u8 v 5) (u32 v 8)).promoteStaged r
    else
      let s := match u8 v 4 with
        | 0 => s.finalize id 0 (u8 v 5) (u32 v 8)
        | 1 => s.finalize id 1 (u8 v 5) (u32 v 8)
        | 2 => s.finalize id 2 (u8 v 5) (u32 v 8)
        | _ =>
          let s := s.mapTsk (fun k => { k with declines := inc32 k.declines })
          let s := if s.cancelStands id t then s.finalize id 2 (u8 v 5) (u32 v 8)
            else (s.returnReady id).mapTask id (fun t => { t with declined := r :: t.declined })
          s.raiseD 0x0803 .notice 1 1 r id
      s.promoteStaged r

/-- TASK_STATE (R325): a BATTERY above 100 is skipped and counted. -/
def taskState (r : Nat) (v : Bytes) (s : State) : State :=
  if v.length ≠ 4 ∨ 100 < u8 v 0 then s.mapRobot r (fun x => { x with skipped := x.skipped + 1 })
  else s.mapTsk (fun k => { k with tstate := Tab.put r (u8 v 0, u8 v 1) k.tstate })

/-- The TASK element (R325). -/
def taskElem (id : Nat) (b : Bytes) : Bytes :=
  let n := u8 b 42
  le 4 id ++ slice b 4 1 ++ le 1 n ++ slice b 40 2 ++ slice b 8 12 ++ slice b 44 n

/-- After a roaming join, RESUME_NOTE goes to the previous member and to every other device that issued a listed task
(R470). -/
def resumeNotes (r cur stg : Nat) (s : State) : State :=
  match s.robot? r with
  | none => s
  | some x => match x.roamFrom with
    | none => s
    | some d =>
      let issuers := ([cur, stg].filter (fun i => i != 0)).map (fun i => i / 1048576)
      let devs := (d :: issuers).dedup.filter (fun k => k != s.deviceNo)
      let s := s.mapRobot r (fun x => { x with roamFrom := none })
      devs.foldl (fun s k => s.relay k 0x0F (le 8 x.eui ++ le 4 cur ++ le 4 stg)) s

/-- RESUME compared with the K9's record (R327): CURRENT and STAGED as the robot lists them. -/
def resumeReconcile (r cur stg : Nat) (s : State) : State :=
  let s := s.mapRobot r (fun x => { x with resumed := true })
  let s := s.resumeNotes r cur stg
  let listed := [cur, stg].filter (fun i => i != 0)
  let held := s.tasksOf r
  let s := held.foldl (fun s (id, t) =>
    if listed.contains id then
      if id = cur then (if t.state = 4 then s else s.becomeCurrent r id true) else s.mapTask id (fun t => { t with state := 3 })
    else if t.state = 2 then s.sendElem r 0x30 (taskElem id t.record)
    else (s.finalize id 5 0 0).raiseD 0x0805 .fault 1 1 r id) s
  let s := held.foldl (fun s (id, t) =>
    if t.cancel.isSome ∧ (listed.contains id ∨ t.state = 2) then s.sendElem r 0x31 (le 4 id) else s) s
  listed.foldl (fun s id =>
    if held.any (fun e => e.1 == id) then s
    else if id / 1048576 ≠ s.deviceNo then
      let eui := match s.robot? r with | some x => x.eui | none => 0
      { s with fld := { s.fld with foreign := Tab.put id (r, id == cur) s.fld.foreign } }.relay (id / 1048576) 0x11
        (le 4 id ++ le 8 eui ++ zeros 8)
    else (s.sendElem r 0x31 (le 4 id)).raiseD 0x0806 .warning 1 1 r id) s

/-- The robot's TASK_DONE for the task has been delivered and waits for the boundary's intake. -/
def doneWaits (s : State) (r id : Nat) : Bool :=
  s.lnk.intake.any (fun e => e.1 == r && e.2.1 == 0xA8 && e.2.2.length == 12 && decide (u8 e.2.2 4 < 4) && u32 e.2.2 0 == id)

/-- Every task of a released robot becomes FINAL with RETURNED; a completion delivered before stands (R331). -/
def returnTasks (r : Nat) (s : State) : State :=
  let held := (s.tasksOf r).filter (fun e => !s.doneWaits r e.1)
  let s := held.foldl (fun s (e : Nat × Task) => s.finalize e.1 4 0 0) s
  if held = [] then s else s.raise 0x0804 .notice held.length 1 r

/-! ### Submission and cancelling (R312 to R314, R329) -/

/-- A task record is acceptable (R313). -/
def taskRecOk (s : State) (b : Bytes) : Bool :=
  let n := u8 b 42
  let pin := bit (u8 b 21) 1
  decide (u8 b 4 ≤ 63) && (decide (u8 b 5 ≤ 15) || u8 b 5 == 0xFF) && u16 b 6 != 0 && s.holdNode (u32 b 8) &&
  (u32 b 12 == 0xFFFFFFFF || s.holdNode (u32 b 12)) && decide (u32 b 16 ≤ 3600000) && decide (u8 b 20 ≤ 100) &&
  decide (u8 b 21 < 4) && (if pin then (s.robot? (u8 b 22)).isSome else u8 b 22 == 0) && u8 b 23 == 0 &&
  (u64 b 32 == 0 || decide (u64 b 24 < u64 b 32)) && decide (n ≤ 20) && u8 b 43 == 0 && rd b (44 + n) (20 - n) == 0

/-- The next serial that no task of the store holds, under whatever device number it was issued (R309). -/
def nextSerial (s : State) : Nat → Nat → Nat
  | 0, n => n
  | k + 1, n =>
    let m := if n = 0xFFFFF then 1 else n + 1
    if s.tsk.tasks.any (fun e => e.1 % 1048576 == m) then nextSerial s k m else m

/-- Raises TASKS_FULL at the first refusal of a run (R314). -/
def tasksFull (level : Nat) (s : State) : State :=
  if s.tsk.fullRun then s else (s.mapTsk (fun k => { k with fullRun := true })).raise0 0x0801 .warning level 0

/-- A submitted record as a task that waits for the next tick boundary (R313). -/
def submittedTask (s : State) (sess i : Nat) (x : Bytes) : Task := {
  record := x, state := 6, robot := none, last := none, planned := false, release := 0, order := s.tsk.submits, idx := i, sess := sess, eta := 0,
  declined := [], cancel := none, resultSeq := 0, outcome := 0, code := 0, result := 0, time := 0 }

/-- Enters records in order, each under the next free serial, and answers their TASK_IDs (R309, R313). -/
def submitRecords (sess : Nat) (recs : List (Bytes × Nat)) (s : State) : State × List Nat :=
  recs.foldl (fun (acc : State × List Nat) x =>
    let ser := acc.1.nextSerial 4097 acc.1.tsk.serial
    let id := acc.1.deviceNo * 1048576 + ser
    (acc.1.mapTsk (fun k => { k with tasks := Tab.put id (submittedTask acc.1 sess x.2 x.1) k.tasks, serial := ser }), acc.2 ++ [id])) (s, [])

/-- TSK_SUBMIT (R313, R314). -/
def runTskSubmit (c : Cmd) (s : State) : State × CmdRes :=
  let b := c.params
  let count := u16 b 0
  let credit : Bytes := le 2 (s.freeCredits c.sess) ++ le 2 0
  if b.length < 2 then (s, refuse stBadLength 0)
  else if count = 0 ∨ 64 ≤ count then (s, refuse stBadParam 0)
  else if b.length ≠ 4 + 64 * count then (s, refuse stBadLength 0)
  else if 4096 < s.tsk.tasks.length + count then (s.tasksFull 1, .refuse ⟨stNoCredit, 0x0801, credit⟩)
  else if s.prm 0x0801 < (s.tsk.tasks.filter (fun e => e.2.sess == c.sess)).length + count then
    (s.tasksFull 2, .refuse ⟨stNoCredit, 0x0802, credit⟩)
  else if u16 b 2 ≠ 0 then (s, refuse stBadParam 0)
  else
    let recs := (List.range count).map (fun i => slice b (4 + 64 * i) 64)
    match findIdx (fun x => !s.taskRecOk x) recs with
    | some (i, _) => (s, refuse stBadParam i)
    | none =>
      let (t, ids) := s.submitRecords c.sess recs.zipIdx
      (t.mapTsk (fun k => { k with submits := k.submits + 1, fullRun := false }), fin (ids.flatMap (fun i => le 4 i)))

/-- TSK_CANCEL (R329). -/
def runTskCancel (c : Cmd) (s : State) : State × CmdRes :=
  let b := c.params
  if b.length ≠ 4 then (s, refuse stBadLength 0)
  else match s.task? (u32 b 0) with
  | none => (s, refuse 0x0840 0)
  | some t =>
    if t.state = 6 ∧ t.sess ≠ c.sess then (s, refuse 0x0840 0)
    else if t.state = 5 then (s, refuse 0x0841 0)
    else if t.cancel.isSome ∨ s.tsk.cancels.any (fun x => x.1 == u32 b 0) then (s, refuse stDenied 6)
    else (s.mapTsk (fun k => { k with cancels := k.cancels ++ [(u32 b 0, c.sess, c.acc)] }), .later)

/-- TSK_RESULT_READ (R332, R337). -/
def runTskResultRead (c : Cmd) (s : State) : State × CmdRes :=
  let b := c.params
  if b.length ≠ 8 then (s, refuse stBadLength 0)
  else if u16 b 4 = 0 ∨ 127 ≤ u16 b 4 ∨ u16 b 6 ≠ 0 then (s, refuse stBadParam 0)
  else
    let nw := s.tsk.resultSeq
    let held := s.tsk.tasks.filter (fun e => e.2.state == 5 && decide (seqAge nw e.2.resultSeq ≤ seqAge nw (u32 b 0)))
    let held := if seqPast nw s.heldSeqs (u32 b 0) then held else []
    let out := (sortBy (fun x y => decide (seqAge nw y.2.resultSeq ≤ seqAge nw x.2.resultSeq)) held).take (u16 b 4)
    (s, fin (le 2 out.length ++ le 2 0 ++ out.flatMap (fun e => resultRecord e.1 e.2)))

/-- TSK_RESULT_ACK (R332). -/
def runTskResultAck (c : Cmd) (s : State) : State × CmdRes :=
  let b := c.params
  let nw := s.tsk.resultSeq
  if b.length ≠ 4 then (s, refuse stBadLength 0)
  else if seqPast nw s.heldSeqs (u32 b 0) = false then (s, refuse stBadParam 0)
  else
    (s.mapTsk (fun k => { k with tasks := k.tasks.filter (fun e =>
      !(e.2.state == 5 && decide (seqAge nw (u32 b 0) ≤ seqAge nw e.2.resultSeq))) }), fin [])

/-- Age of a READY task in s (R316). -/
def taskAge (s : State) (t : Task) : Nat := min 3600 ((s.clk.count - t.release) / 1000000000)

/-- TSK_STATE_READ (R337). -/
def runTskStateRead (c : Cmd) (s : State) : State × CmdRes :=
  if c.params.length ≠ 0 then (s, refuse stBadLength 0)
  else
    let k := s.tsk
    let n (st : Nat) : Nat := (k.tasks.filter (fun e => e.2.state == st)).length
    let old := ((k.tasks.filter (fun e => e.2.state == 1)).map (fun e => s.taskAge e.2)).foldl max 0
    (s, fin ((List.range 6).flatMap (fun i => le 2 (n i)) ++ le 2 (4096 - k.tasks.length) ++ le 2 s.wAge ++ le 4 old ++
      le 2 k.last.1 ++ le 2 k.last.2.1 ++ le 2 k.last.2.2.1 ++ le 2 k.last.2.2.2 ++
      le 4 k.rounds ++ le 4 k.allotments ++ le 4 k.declines ++ le 4 k.resultSeq ++ le 4 0))

/-- TSK_READ (R337). -/
def runTskRead (c : Cmd) (s : State) : State × CmdRes :=
  let b := c.params
  if b.length ≠ 4 then (s, refuse stBadLength 0)
  else match s.task? (u32 b 0) with
  | none => (s, refuse 0x0840 0)
  | some t =>
    if t.state = 6 then (s, refuse 0x0840 0)
    else (s, fin (le 1 t.state ++ le 1 (t.robot.getD 0xFF) ++ le 2 0 ++ le 4 t.resultSeq ++
      le 8 (if t.state = 0 then 0 else t.release) ++ t.record ++ le 8 (if t.state = 4 then t.eta else 0)))

/-! ### The tick boundary (R316) -/

/-- Applies the commands of the intake: submitted tasks enter READY or DELAYED, cancels act (R316, R329). TASK_RECALL waits for the robot's
RESUME of its link generation (R235). -/
def taskCommands (s : State) : State :=
  let now := s.clk.count
  let comp := s.clk.state != .none
  let take (_ : Nat) (t : Task) : Task :=
    if t.state = 6 then
      if taskRelease t.record = 0 ∨ (comp ∧ taskRelease t.record ≤ now) then { t with state := 1, release := now }
      else { t with state := 0 }
    else t
  let s := s.mapTsk (fun k => { k with tasks := Tab.mapVals take k.tasks })
  let q := s.tsk.cancels
  let s := s.mapTsk (fun k => { k with cancels := [] })
  q.foldl (fun s x =>
    let (id, n, a) := x
    match s.task? id with
    | none => s.complete n a (Ans.bare 0x0840 0)
    | some t =>
      if t.state = 5 then s.completeOk n a (le 1 t.outcome ++ zeros 3)
      else
        let s := s.mapTask id (fun t => { t with cancel := some (n, a) })
        if t.state ≤ 1 then s.finalize id 2 0 0
        else match t.robot with
          | some r => if (match s.robot? r with | some x => x.resumed | none => false) then s.sendElem r 0x31 (le 4 id) else s
          | none => s) s

/-- Expires and releases tasks (R316). -/
def taskTimes (s : State) : State :=
  if s.clk.state = .none then s
  else
    let now := s.clk.count
    let dead := s.tsk.tasks.filter (fun e => decide (e.2.state ≤ 1) && taskExpire e.2.record != 0 &&
      decide (taskExpire e.2.record ≤ now))
    let s := dead.foldl (fun s e => (s.finalize e.1 3 0 0).raise0 0x0802 .notice 1 e.1) s
    let due (_ : Nat) (t : Task) : Task :=
      if t.state = 0 ∧ taskRelease t.record ≤ now then { t with state := 1, release := now } else t
    s.mapTsk (fun k => { k with tasks := Tab.mapVals due k.tasks })

/-! ### Travel tables and the round (R317 to R323) -/

/-- The superframe number floor(ASN / (10 S)) (R226), with the ASN at the superframe's start, since ASN wraps at 2^40 (DEDUCED). -/
def sfNumber (s : State) : Nat :=
  let past := s.sys.sfTick % 10 * s.sys.slots + (s.air.slot - 1)
  (s.air.asn + 2 ^ 40 - past) % 2 ^ 40 / (10 * max 1 s.sys.slots)

/-- How many superframes number `k` lies past the last wake superframe of a sleeper (R239): (k - FIRST) mod PERIOD. -/
def sleepPhase (x : Robot) (k : Nat) : Nat := (k + x.wake.1 * x.wake.2.1 - x.wake.2.1) % x.wake.1

/-- The slots of the present superframe that have gone at the tick's start. -/
def slotsGone (s : State) : Nat := s.sys.sfTick % 10 * s.sys.slots

/-- ms until a sleeper's next wake superframe begins (R319, R239): 0 where one begins with this tick. -/
def wakeWait (s : State) (r : Nat) : Nat :=
  match s.robot? r with
  | none => 0
  | some x =>
    if x.link = .asleep ∧ 0 < x.wake.1 then
      let d := sleepPhase x s.sfNumber
      if d = 0 ∧ s.slotsGone = 0 then 0 else ((x.wake.1 - d) * 10 * s.sys.slots - s.slotsGone) * 5 / 4
    else 0

/-- A robot's ready node and ready time in ms (R319). -/
def readyOf (s : State) (r : Nat) : Option Nat × Nat :=
  match s.taskIn r 4 with
  | some id =>
    match s.task? id with
    | some t =>
      (some (if taskDrop t.record = 0xFFFFFFFF then taskPickup t.record else taskDrop t.record),
        (t.eta - s.clk.count) / 1000000 + s.wakeWait r)
    | none => (none, 0)
  | none =>
    match (s.liveTracks r).getLast? with
    | some k =>
      match k.segs.getLast? with
      | some g => ((s.lane? g.lane).map (fun l => l.toN), g.tEnd - s.rtNow + s.wakeWait r)
      | none => (s.openHoldOf r, s.wakeWait r)
    | none => (s.openHoldOf r, s.wakeWait r)

/-- Builds a robot's travel table (R318). -/
def buildTravel (r : Nat) (s : State) : State :=
  match (s.readyOf r).1 with
  | none => s
  | some n =>
    let others (i : Nat) : Nat := (s.pas.entries.filter (fun e => (e.kind == 0 || e.kind == 2) && e.robot != r && e.place == i)).length
    let ls := (s.planLanes (s.clsOf r) []).map (fun l =>
      { l with time := (((l.time * 1000 * (4 + min (others l.idx) 4 : Nat) / 4).ceil.toNat : Nat) : Rat) })
    let reach := routesFrom ls n
    let known := s.tsk.tasks.filter (fun e => decide (e.2.state ≤ 1))
    let times : Tab Nat := known.foldl (fun t e => Tab.put (taskPickup e.2.record)
      (match Tab.find? (taskPickup e.2.record) reach with | some x => x.1.ceil.toNat | none => 0xFFFFFFFF) t) []
    let released := (s.tsk.tasks.filter (fun e => decide (1 ≤ e.2.state ∧ e.2.state ≤ 4))).map Prod.fst
    s.mapTsk (fun k => { k with travel := Tab.put r ⟨n, s.now, times, released⟩ k.travel })

/-- Why a robot needs a build: 0 a changed ready node, 1 a READY task whose PICKUP the table lacks or an old table; none: no need
(R318). -/
def buildNeed (s : State) (r : Nat) : Option Nat :=
  match (s.readyOf r).1 with
  | none => none
  | some n =>
    match Tab.find? r s.tsk.travel with
    | none => some 0
    | some t =>
      if t.node ≠ n then some 0
      else if 10000000000 < s.now - t.built ∨ (s.tsk.tasks.any (fun e => e.2.state == 1 && !(Tab.has (taskPickup e.2.record) t.times))) then some 1
      else none

/-- Builds at most `n` travel tables: changed ready nodes first, then the oldest (R318). -/
def buildPhase (n : Nat) (s : State) : State :=
  let rs := (s.lnk.robots.map Prod.fst).filterMap (fun r => if s.jobStuck 5 r then none else (s.buildNeed r).map (fun k => (r, k)))
  let age (r : Nat) : Nat := match Tab.find? r s.tsk.travel with | some t => t.built | none => 0
  let order := sortBy (fun (a b : Nat × Nat) => if a.2 ≠ b.2 then decide (a.2 < b.2)
    else if age a.1 ≠ age b.1 then decide (age a.1 < age b.1) else decide (a.1 ≤ b.1)) rs
  (order.take n).foldl (fun s x => s.buildTravel x.1) s

/-- A robot is a candidate (R317). -/
def candidate (s : State) (r : Nat) (x : Robot) : Bool :=
  let held := s.tasksOf r
  (x.link == .joined || x.link == .asleep) &&
  (match Tab.find? r s.tsk.tstate with | some t => bit t.2 0 | none => false) &&
  held.all (fun e => e.2.state == 4) && (held.isEmpty || (s.prm 0x080E == 1 && !x.legacy)) && Tab.has r s.tsk.travel

/-- The eligibility conditions of R320, and that of R318: the task was released when the robot's table was built. -/
def eligible (s : State) (r : Nat) (x : Robot) (id : Nat) (t : Task) : Bool :=
  let b := t.record
  bit (u16 b 6) x.cls && (bit (u8 b 21) 1 == false || u8 b 22 == r) &&
  decide (u8 b 20 ≤ (Tab.getD r (0, 0) s.tsk.tstate).1) &&
  (match Tab.find? r s.tsk.travel with
   | some v => v.released.contains id && (match Tab.find? (taskPickup b) v.times with | some ms => ms != 0xFFFFFFFF | none => false)
   | none => false) &&
  (bit (u8 b 21) 0 == false || !s.hasOpen r) && !t.declined.contains r &&
  (x.legacy == false || taskDrop b == 0xFFFFFFFF)

/-- The value of R320. -/
def taskValue (s : State) (r : Nat) (x : Robot) (t : Task) : Int :=
  let b := t.record
  let ms := match Tab.find? r s.tsk.travel with | some v => Tab.getD (taskPickup b) 0 v.times | none => 0
  let batt := (Tab.getD r (0, 0) s.tsk.tstate).1
  let cost : Nat := (s.readyOf r).2 + ms * (s.pr r).p * s.prm 0x0802 / 16000 + s.prm 0x0803 * (s.prm 0x0804 - batt) +
    (if u8 b 5 ≠ 0xFF ∧ u8 b 5 ≠ x.cls then s.prm 0x0805 else 0)
  ((s.prm 0x0806 * u8 b 4 + s.wAge * s.taskAge t : Nat) : Int) - (cost : Int)

/-- One auction (R321): `vals` gives the eligible robots of a task with their values; answers owners and bids. -/
def auction (vals : Nat → List (Nat × Int)) (eps maxBids : Nat) :
    Nat → List Nat → Tab Int → Tab Nat → Nat → Tab Nat × Nat
  | 0, _, _, owner, bids => (owner, bids)
  | _, [], _, owner, bids => (owner, bids)
  | fuel + 1, t :: q, price, owner, bids =>
    if maxBids ≤ bids then (owner, bids)
    else
      let net := (vals t).map (fun x => (x.1, x.2 - Tab.getD x.1 0 price))
      let sorted := sortBy (fun (a b : Nat × Int) => decide (b.2 < a.2) || (a.2 == b.2 && decide (a.1 ≤ b.1))) net
      match sorted with
      | [] => auction vals eps maxBids fuel q price owner bids
      | (r, v) :: rest =>
        let inc : Int := (match rest with | [] => 0 | (_, w) :: _ => v - w) + eps
        let q := match Tab.find? r owner with | some o => q ++ [o] | none => q
        auction vals eps maxBids fuel q (Tab.upd r 0 (fun p => p + inc) price) (Tab.put r t owner) (bids + 1)

/-- The Assign phase (R317 to R322): the round's choices wait for Stage. -/
def assignPhase (s : State) : State :=
  let cands := (s.lnk.robots.filter (fun e => s.candidate e.1 e.2))
  let ready := s.tsk.tasks.filter (fun e => e.2.state == 1)
  let order := sortBy (fun (a b : Nat × Task) =>
    if u8 a.2.record 4 ≠ u8 b.2.record 4 then decide (u8 b.2.record 4 < u8 a.2.record 4) else taskBefore a b) ready
  let part := order.filter (fun e => cands.any (fun c => bit (u16 e.2.record 6) c.2.cls &&
    (bit (u8 e.2.record 21) 1 == false || u8 e.2.record 22 == c.1)))
  let cons := part.take (s.prm 0x0800)
  let vals (id : Nat) : List (Nat × Int) :=
    match s.task? id with
    | none => []
    | some t => (cands.filter (fun c => s.eligible c.1 c.2 id t)).map (fun c => (c.1, s.taskValue c.1 c.2 t))
  let maxB := 4 * s.prm 0x0800
  let (owner, bids) := auction vals (s.prm 0x080C) maxB (cons.length + 2 * maxB) (cons.map Prod.fst) [] [] 0
  s.mapTsk (fun k => { k with
    chosen := owner.map (fun e => (e.2, e.1)), rounds := inc32 k.rounds
    last := (cons.length, cands.length, bids, owner.length) })

/-- Discards the round's partial result (R54, R321). -/
def discardRound (s : State) : State := s.mapTsk (fun k => { k with chosen := [] })

/-- The corridor of a legacy member's task (R582): it conflicts with no held entry and the table has room for it (R33, R284), or the
task is not sent. -/
def legacyCorridor (s : State) (r : Nat) (t : Task) : Option Entry :=
  match (Tab.find? r s.fix.robots).bind (fun f => f.newest) with
  | none => none
  | some f =>
    let p := s.nodeGeo (taskPickup t.record)
    let c := s.clsOf r
    let e : Entry := {
      robot := r, kind := 4, grant := 0, place := taskPickup t.record, seg := 0, cls := c, shape := s.classShape c,
      geo := ⟨f.enu.1, f.enu.2.1, p.x1, p.y1⟩, tIn := s.rtNow, tOut := none, tseg := none, late := false, border := false,
      breach := false, conflict := false, xid := none, hits := [] }
    let kept := (s.pas.entries.filter (fun o => !(o.robot == r && (o.kind == 4 || o.kind == 5)))).length
    if s.pas.entries.any (fun o => o.robot != r && (pairTest o e).1) ∨ tableSize ≤ kept then none else some e

/-- Stages one chosen task (R324, R582). -/
def stageTask (id r : Nat) (s : State) : State :=
  match s.task? id, s.robot? r with
  | some t, some x =>
    if t.state ≠ 1 then s
    else
      let go (s : State) : State := (s.mapTask id (fun t => { t with state := 2, robot := some r, last := some r })).mapTsk
        (fun k => { k with allotments := inc32 k.allotments })
      if x.legacy then
        match s.legacyCorridor r t with
        | none => s
        | some e => ((go s).freeWhere (fun o => o.robot == r && (o.kind == 4 || o.kind == 5))).addEntries [e]
      else
        let idle := !s.hasOpen r
        let s := go s
        let s := if x.resumed then s.sendElem r 0x30 (taskElem id t.record) else s
        if idle then (s.mapTask id (fun t => { t with planned := true })).askPlan r ⟨taskDests t.record, false, false⟩ else s
  | _, _ => s

/-- The Stage phase (R39, R322, R324). -/
def stagePhase (s : State) : State :=
  let q := s.tsk.chosen
  q.foldl (fun s x => s.stageTask x.1 x.2) (s.mapTsk (fun k => { k with chosen := [] }))

/-- The superframe's retuning of w_age (R323). -/
def retune (s : State) : State :=
  if s.prm 0x080B = 0 then s
  else
    let ready := s.tsk.tasks.filter (fun e => e.2.state == 1)
    let a := (ready.map (fun e => s.taskAge e.2)).foldl max 0
    let w := s.tsk.wAge
    let tgt := s.prm 0x080A
    let w' := if ready ≠ [] ∧ tgt < a then w + 1 else if ready = [] ∨ 2 * a < tgt then w - 1 else w
    let w' := max (s.prm 0x0808) (min (s.prm 0x0809) w')
    let at_ := if w' = s.prm 0x0809 then 1 else if w' = s.prm 0x0808 then 2 else 0
    let was := s.tsk.wRun
    let s := s.mapTsk (fun k => { k with wAge := w', wRun := at_ })
    if at_ ≠ 0 ∧ at_ ≠ was then s.raise0 0x0807 .notice at_ 0 else s

/-! ### Firmware jobs (R334 to R336) -/

/-- Puts a job in the pool; a job of the same kind and argument stands once. The firmware's jobs of R335 are released as they are
queued. -/
def addJob (prio kind arg : Nat) (s : State) : State :=
  if s.tsk.jobs.any (fun j => j.kind == kind && j.arg == arg) ∨ 1024 ≤ s.tsk.jobs.length then s
  else s.mapTsk (fun k => { k with jobs := k.jobs ++ [⟨prio, s.now, k.jobKey, kind, arg⟩], jobKey := k.jobKey + 1 })

/-- Order of two jobs of one ready list: release, then the order in which they were queued (R315, R334). -/
def jobBefore (a b : Job) : Bool := decide (a.release < b.release ∨ (a.release = b.release ∧ a.key < b.key))

/-- The head of the highest non-empty ready list at `now`; jobs not yet released are on the delay list (R334). -/
def headJob (now : Nat) (js : List Job) : Option Job :=
  (js.filter (fun j => decide (j.release ≤ now))).foldl (fun b j => match b with
    | none => some j
    | some x => if x.prio < j.prio ∨ (x.prio = j.prio ∧ jobBefore j x) then some j else some x) none

/-- Fills the staged jobs of the cores in service, lower-numbered first, and starts idle cores (R334). -/
def fillCores (s : State) : State :=
  (List.range 6).foldl (fun s i =>
    let fill (s : State) : State :=
      match s.tsk.cores[i]?, headJob s.now s.tsk.jobs with
      | some (cur, none), some j =>
        s.mapTsk (fun k => { k with
          jobs := k.jobs.filter (fun x => x.key != j.key)
          cores := modAt i (fun _ => match cur with | none => (some j, none) | some c => (some c, some j)) k.cores })
      | _, _ => s
    if s.sys.halted.contains (i + 2) || s.sys.badParts.contains (.core (i + 2)) then s else fill (fill s)) s

/-- DROVER_JOB_END (R334): the core's staged job becomes current in the same cycle; the job of a halted core does not end (R63). -/
def droverJobEnd (core : Nat) (s : State) : State :=
  let i := core - 2
  if s.sys.halted.contains core then s
  else match s.tsk.cores[i]? with
  | some (some _, st) =>
    (s.mapTsk (fun k => { k with cores := modAt i (fun _ => (st, none)) k.cores })).fillCores
  | _ => s

/-- A halted core's staged job returns to its list under its key (R336); the planning request of its current job stays unfinished
(R63). -/
def returnStaged (core : Nat) (s : State) : State :=
  let i := core - 2
  let s := match s.tsk.cores[i]? with
    | some (cur, some j) => s.mapTsk (fun k => { k with jobs := k.jobs ++ [j], cores := modAt i (fun _ => (cur, none)) k.cores })
    | _ => s
  match s.tsk.cores[i]? with
  | some (some j, _) => if j.kind = 2 then s.mapPas (fun p => { p with planQueue := p.planQueue.filter (fun r => r != j.arg) }) else s
  | _ => s

/-- The jobs of a tick's work (R335): link upkeep, planning, auction, deadlock search and table builds. -/
def tickJobs (s : State) : State :=
  let s := if s.lnk.robots = [] then s else (s.addJob 60 1 0).addJob 44 3 0
  let s := s.pas.planQueue.foldl (fun s r => s.addJob 48 2 r) s
  let s := if s.pas.robots.any (fun e => e.2.req.isSome) then s.addJob 40 4 0 else s
  let s := (s.lnk.robots.map Prod.fst).foldl (fun s r => if (s.buildNeed r).isSome then s.addJob 32 5 r else s) s
  let s := if s.gns.solve.isSome ∨ s.gns.baseline.isSome then s.addJob 8 6 0 else s
  s.fillCores

end State

end Sys2Proof.Machine
end

