-- ==== Sys2Proof/Machine/Slots.lean ====
section
/-! DEFINITION. The slot map in effect, metering, the sending of frames in slots, chain faults, and the air block's first
opcodes (R51, R197 to R217, R352, R353). -/

namespace Sys2Proof.Machine

/-- Slot type codes in the order of R203 (R216). -/
def SlotType.code : SlotType → Nat
  | .beacon => 0 | .rejoin => 1 | .legacy => 2 | .broadcast => 3 | .cor => 4 | .downlink => 5 | .echo => 6 | .uplink => 7
  | .free => 8

namespace State

/-- Changes the air interface. -/
def mapAir (f : Air → Air) (s : State) : State := { s with air := f s.air }

/-- A chain. -/
def chain (s : State) (c : Nat) : ChainState := (s.air.chains[c]?).getD ChainState.reset

/-- Changes one chain. -/
def mapChain (c : Nat) (f : ChainState → ChainState) (s : State) : State :=
  s.mapAir (fun a => { a with chains := modAt c f a.chains })

/-- The chain loads new microcode and sends nothing (R531, R533). -/
def chainLoading (s : State) (c : Nat) : Bool :=
  match s.upd.act with
  | some a => a.stage == some (.chainLoad c)
  | none => false

/-- The chain is enabled and in service (R191, R213). -/
def chainOn (s : State) (c : Nat) : Bool := bit (s.prm 0x0501) c && !(s.chain c).bad && !s.chainLoading c

/-- L of the chain's option at an MCS (R192). -/
def psduMax (s : State) (mcs : Nat) : Nat := phyL (s.prm 0x0502) mcs

/-- The hop list in effect (R196). -/
def hops (s : State) : List Nat := hopList (s.prm 0x0500) (s.prm 0x0502) (s.prm 0x0503)

/-- The channel of chain `c` in the present slot (R202). -/
def channelNow (s : State) (c : Nat) : Nat := hopChannel s.hops (s.prm 0x0505) (s.prm 0x0504) s.air.asn c

/-- The centre of chain `c`'s channel in the present slot, in kHz (R195, R202). -/
def khzNow (s : State) (c : Nat) : Nat := channelKhz (s.prm 0x0500) (s.prm 0x0502) (s.channelNow c)

/-- The COMMITs whose AIR values are in effect from superframe `sf`, counted since load (R215, R542). -/
def airDue (s : State) (sf : Nat) : List PendCommit :=
  s.cfg.pend.filter (fun p => p.todo.contains .AIR && decide (p.accSf + 3 ≤ sf))

/-- Runs `f` under the AIR values of the next tick, for which its frames are packed (R206): the last tick of a superframe takes those
of the next. -/
def underNextAir {β : Type} (f : State → State × β) (s : State) : State × β :=
  if s.sys.sfTick ≠ 9 ∧ s.sys.sfTick ≠ 10 then f s
  else
    let g := s.cfg.eff
    let next := (s.airDue (s.sys.sfCount + 1)).foldl (fun (g : Gen) p => g.takeParams .AIR p.shadow) g
    let (t, b) := f (s.mapCfg (fun c => { c with eff := next }))
    (t.mapCfg (fun c => { c with eff := g }), b)

/-! ### Secured frames (R199, R221 to R223) -/

/-- The K9's extended address (R222, R244). -/
def k9Eui (s : State) : Nat := if s.lnk.flockEui = 0 then s.fac.eui else s.lnk.flockEui

/-- The link key of a generation (R223). -/
def linkKey (s : State) (joinKey eui g : Nat) : Nat :=
  rd (hmacSha256 (le 16 joinKey) (be 4 1 ++ [0x4B, 0x39, 0x2D, 0x4C, 0x49, 0x4E, 0x4B] ++ [0] ++ le 8 eui ++ le 8 s.k9Eui ++ le 4 g ++ be 4 0x80)) 0 16

/-- The CCM* nonce: extended address, frame counter, security level (R222; assumption 145). -/
def ccmNonce (eui ctr lvl : Nat) : Bytes := be 8 eui ++ be 4 ctr ++ le 1 lvl

/-- A native frame's PSDU (R199, R221, R222): the long Multipurpose frame control, the auxiliary header, the payload, encrypted at level
5, the MIC-32 and the FCS (assumption 145). -/
def nativePsdu (key eui lvl ctr : Nat) (body : Bytes) : Bytes :=
  let head := le 2 0x060D ++ le 1 lvl ++ le 4 ctr
  let nonce := ccmNonce eui ctr lvl
  let b := if lvl = 5 then body.mapIdx (fun i x => x ^^^ Config.ccmStream key nonce i) else body
  let f := head ++ b ++ le 4 (Config.ccmMic key nonce head body % 2 ^ 32)
  f ++ le 2 (fcs16 f)

/-- A frame under the flock key (R221). -/
def flockPsdu (s : State) (ctr : Nat) (body : Bytes) : Bytes := nativePsdu s.lnk.flockKey s.k9Eui 1 ctr body

/-- BUDGET_SHORT for a line and the lost part (R51, R604). -/
def budgetShort (line kind idx : Nat) (s : State) : State := s.raise 0x008A .warning line kind idx

/-! ### Metering (R194, R208, R209) -/

/-- Airtime of a PSDU in ns; a frame ends by 1,200 µs and begins at 150 µs (R197). -/
def airtime (s : State) (mcs len : Nat) : Nat := min 1050000 (Config.airtimeNs (s.prm 0x0502) mcs len)

/-- The metering window in ns and its limit (R194). -/
def meterWindow (s : State) : Nat × Nat :=
  if s.prm 0x0500 = 1 then (s.hops.length * 400000000, 400000000) else (3600000000000, 360000000000)

/-- The number under which a CX-240 channel is metered (R208, R569): its plan has 25. -/
def legacyChannel (ch : Nat) : Nat := 1000 + ch

/-- The window of a channel: a CX-240 channel's covers that plan's 25 channels. -/
def meterSpan (s : State) (ch : Nat) : Nat :=
  if s.prm 0x0500 = 1 ∧ 1000 ≤ ch then 10000000000 else s.meterWindow.1

/-- Airtime used in the window: on one channel under domain 01h, on the chain otherwise. -/
def meterUsed (s : State) (c ch : Nat) : Nat :=
  let w := s.meterSpan ch
  (((s.chain c).meter.filter (fun (m : Nat × Nat × Nat) => decide (s.now < m.2.1 + w) && (s.prm 0x0500 != 1 || m.1 == ch))).map
    (fun (m : Nat × Nat × Nat) => m.2.2)).sum

/-- The level of AIR_DEFERRED that a transmission of `a` ns would meet, if any (R208, R216). -/
def meterOver (s : State) (c ch a : Nat) : Option Nat :=
  if s.meterWindow.2 < s.meterUsed c ch + a then some (if s.prm 0x0500 = 1 then 1 else 2) else none

/-- Meters a transmission. -/
def meterAdd (c ch a : Nat) (s : State) : State :=
  let w := max 12400000000 s.meterWindow.1
  s.mapChain c (fun k => { k with meter := (k.meter.filter (fun (m : Nat × Nat × Nat) => decide (s.now < m.2.1 + w))) ++ [(ch, s.now, a)] })

/-- A deferral: counted, and reported at the first of a run (R208). -/
def deferFrame (c level typ : Nat) (s : State) : State :=
  let run := (s.chain c).defRun
  let s := s.mapChain c (fun k => { k with deferrals := inc32 k.deferrals, defRun := true, defTick := true })
  if run then s else s.raiseD 0x0501 .warning level 4 c typ

/-- A run of deferrals ends at the first tick without one (R208). -/
def deferTick (s : State) : State :=
  s.mapAir (fun a => { a with chains := a.chains.map (fun (k : ChainState) => { k with defRun := k.defTick, defTick := false }) })

/-- A transmission goes out: metered and counted; `o` makes it of the channel's centre. -/
def transmit (c mcs len : Nat) (o : Nat → Output) (s : State) : State :=
  ((s.meterAdd c (s.channelNow c) (s.airtime mcs len)).mapChain c (fun k => { k with sent := inc32 k.sent })).emit (o (s.khzNow c))

/-- Carrier sense finds the channel busy: under domain 03h, more than AIR_LBT_DBM (R209). -/
def lbtBusy (s : State) (sense : Int) : Bool := s.prm 0x0500 == 3 && decide (s.prmS 8 0x0510 < sense)

/-- What stops a transmission: carrier sense, or the meter unless `exempt` (R208, R209, R351). -/
def sendBar (s : State) (c mcs len : Nat) (sense : Int) (exempt : Bool) : Option Nat :=
  if s.lbtBusy sense then some 3
  else if exempt then none
  else s.meterOver c (s.channelNow c) (s.airtime mcs len)

/-! ### Maps (R204, R205) -/

/-- The refusal SCHEDULE_FULL of a failed placement (R205). -/
def scheduleFull (e : PlaceErr) : Ans := Ans.bare 0x0541 (e.1 * 256 + e.2)

/-- The map of a changed site, which must also be placed at a pending tick length (R205). -/
def placeLengths (s : State) (z : Site) : Except PlaceErr SlotMap :=
  match placeMap z with
  | .error e => .error e
  | .ok m => match s.pendLength with
    | none => .ok m
    | some n => match placeMap { z with slots := n, held := [] } with
      | .error e => .error e
      | .ok _ => .ok m

/-- A robot's positions as MAP carries them (R230). -/
def Pos.bytes (p : Pos) : Bytes :=
  le 1 p.chain ++ le 1 p.ulTick ++ le 1 p.ulSlot ++ le 1 p.dlTick ++ le 1 p.dlSlot ++ le 1 (p.echo.getD 0xFF) ++
  le 1 (p.corOff.getD 0xFF) ++ le 1 (match p.corOff with | some _ => p.corSlot | none => 0xFF)

/-- The superframe, counted since load, at which a map accepted now takes effect: the first boundary at least two superframes
on (R205). -/
def mapSf (s : State) : Nat := s.sys.sfCount + 3

/-- The number of that superframe modulo 65,536, as an EFF. -/
def effOf (s : State) (sf : Nat) : Nat := (s.sfNumber + (sf - s.sys.sfCount)) % 65536

/-- The newest map accepted. -/
def newestMap (s : State) : SlotMap := match s.air.next.getLast? with | some m => m.2 | none => s.air.map

/-- Accepts a map: it waits for its superframe, and each joined robot whose positions change is told (R205, R230). -/
def acceptMap (m : SlotMap) (s : State) : State :=
  let old := s.newestMap
  let sf := s.mapSf
  let s := s.mapAir (fun a => { a with next := a.next ++ [(sf, m)] })
  m.pos.foldl (fun s (e : Nat × Pos) =>
    if s.joined e.1 ∧ Tab.find? e.1 old.pos ≠ some e.2 then s.sendElem e.1 0x01 (Pos.bytes e.2 ++ le 2 (s.effOf sf)) else s) s

/-- Maps whose superframe has come take effect (R205). -/
def mapsTake (s : State) : State :=
  match (s.air.next.filter (fun (m : Nat × SlotMap) => decide (m.1 ≤ s.sys.sfCount))).getLast? with
  | some m => s.mapAir (fun a => { a with map := m.2, next := a.next.filter (fun (x : Nat × SlotMap) => decide (s.sys.sfCount < x.1)) })
  | none => s

/-- The items of the map in the tick whose number, counted from pasture time 0, is `n`. -/
def itemsAt (s : State) (n : Nat) : List SlotItem :=
  s.air.map.items.filter (fun i => decide (i.period ≠ 0) && n % i.period == i.offset)

/-- The number of the present tick counted from pasture time 0 (R35, R204). -/
def tickNo (s : State) : Nat := s.air.tick

/-- The number a tick that opens now takes: boundaries lie on multiples of the tick length, or near them while they are
realigned. -/
def tickNoNow (s : State) : Nat := (s.clk.count + s.tickNs / 2) / max 1 s.tickNs

/-! ### Beacons and stop frames (R199 to R201, R350 to R353) -/

/-- This unit sends on the air (R201): on no chain before the first COMMIT, when yielded or withheld, while the key engine is locked, or
in CX mode. -/
def airOn (s : State) : Bool :=
  s.sys.beacons && (s.fwRuns || s.sys.fw == .paused) && !s.sys.cx && s.pai.mode != .yielded && (s.pai.mode != .withheld || s.pai.role == 1) &&
  !(s.pai.mode == .resync && s.pai.role == 2) && !s.vit.locked

/-- The flock counter is exhausted: every frame under the flock key is withheld (R201, R225). -/
def flockSpent (s : State) : Bool := decide (0xFFFFFFFF ≤ s.lnk.flockCtr)

/-- This unit sends beacons (R201). -/
def beaconsOn (s : State) : Bool := s.airOn && !s.flockSpent

/-- INFO bit 3: the K9 runs as a pair and sends downlinks twice (R199, R491, R493). -/
def pairInfo (s : State) : Bool :=
  s.pai.mode == .lockstep && (match s.pai.echoFrom with | some n => decide (n ≤ s.sys.sfCount) | none => false)

/-- A pending tick length: SLOTS and the superframe boundaries that remain before its own (R37, R200). -/
def pendSlots (s : State) : Option (Nat × Nat) :=
  (s.cfg.pend.find? (fun p => p.tickAt.isSome)).bind (fun p => p.tickAt.map (fun t =>
    (t.1, (t.2 - s.clk.count) / (10 * max 1 s.tickNs))))

/-- The payload of chain `c`'s beacon (R199, R200). -/
def beaconPayload (s : State) (c : Nat) : Bytes :=
  let ps := s.pendSlots
  beaconBytes s.air.asn s.crk.pick (s.sys.sfTick % 10) s.pairInfo (s.air.map.items.any (fun i => i.chain == c && i.typ == .broadcast)) ps.isSome ((ps.map Prod.fst).getD 0)
    ((ps.map Prod.snd).getD 0) s.sys.slots (s.prm 0x0500) (s.prm 0x0201)

/-- Takes one count of the flock key; reaching FFFF_FFFFh withholds every frame under it (R224, R225). -/
def flockCount (s : State) : Nat × State :=
  (s.lnk.flockCtr, s.mapLnk (fun l => { l with flockCtr := l.flockCtr + 1 }))

/-- A tick's beacons carry the token chosen: it is the newest beacon's, and its entry has been carried (R350, R365). -/
def tokenSent (s : State) : State :=
  s.mapCrk (fun k => { k with
    token := k.pick, beacons := k.beacons + 1
    table := k.table.map (fun e => if k.pickOf = some (e.kind, e.index) then { e with carried := some k.beacons } else e) })

/-- The beacons of slot 0 (R199, R201): every beacon is exempt from the meters while it carries a stop, or in the superframe
after a release (R351). -/
def sendBeacons (sense : List Int) (s : State) : State :=
  if s.beaconsOn = false then s
  else
    let exempt := s.crk.pick != 0 || s.crk.releasedSf.any (fun n => s.sys.sfCount == n + 1)
    let mcs := s.prm 0x0506
    let (s, sent) := (List.range 4).foldl (fun (a : State × Bool) c =>
      let s := a.1
      if s.chainOn c = false ∨ s.flockSpent then a
      else match s.sendBar c mcs 21 (sense.getD c (-128)) exempt with
      | some l => (s.deferFrame c l 0, a.2)
      | none =>
        let pl := s.beaconPayload c
        let (k, s) := (s.useKey 0).flockCount
        (s.transmit c mcs 21 (fun f => .airFrame c f mcs 0 none (s.flockPsdu k pl)), true)) (s, false)
    if sent then s.tokenSent else s

/-- The payload of a stop frame (R353). -/
def stopPayload (asn token : Nat) : Bytes := le 4 (asn % 2 ^ 32) ++ le 2 token ++ [0, 0]

/-- A stop-frame occasion (R352, R353): `sense` is the power that carrier sense finds. One in slot 0 is not used. One lost to a busy
channel is counted among the chain's deferrals (DESIGN CHOICE, assumption 168). -/
def stopFrameSend (c : Nat) (sense : Int) (s : State) : State :=
  match s.crk.frames.find? (fun (f : Nat × Nat) => f.1 == c && decide (f.2 ≤ s.now)) with
  | none => s
  | some f =>
    let s := s.mapCrk (fun k => { k with frames := k.frames.erase f })
    if s.beaconsOn = false ∨ s.chainOn c = false ∨ s.air.slot ≤ 1 then s
    else if s.lbtBusy sense then
      (s.mapCrk (fun k => { k with framesLost := k.framesLost + 1 })).mapChain c (fun k => { k with deferrals := inc32 k.deferrals })
    else
      let asn := s.air.asn
      let tok := s.tokenWith s.crk.table.getLast?
      let psdu := s.flockPsdu s.lnk.flockCtr (stopPayload asn tok)
      ((((s.useKey 0).flockCount).2).mapChain c (fun k => { k with stopAsn := some asn })).transmit c (s.prm 0x0506) 21
        (fun f => .stopFrame c f psdu)

/-! ### Slots (R197, R206) -/

/-- Stands for the feedback element among the DSNs that a frame carries: no DSN is so large. -/
def fbMark : Nat := 65536

/-- Stands for the acknowledgement of the robot's LEAVE among the DSNs that a frame carries (R605). -/
def byeMark : Nat := 65537

/-- KEY_REQ has gone out in a feedback element (R165). -/
def keyAsked (r : Nat) (s : State) : State :=
  match Tab.find? r s.fix.robots with
  | some y => { s with fix := { s.fix with robots := Tab.put r { y with keyFirst := false } s.fix.robots } }
  | none => s

/-- Marks the parcels and the feedback that a downlink carries as sent now (R165, R233). -/
def markSent (r : Nat) (dsns : List Nat) (s : State) : State :=
  let s := if dsns.contains fbMark then s.keyAsked r else s
  s.mapRobot r (fun x => { x with
    lastDown := s.now
    unacked := x.unacked.map (fun (p : Parcel) => if dsns.contains p.dsn then { p with sentAt := some s.now, missed := false } else p) })

/-- A broadcast part is sent on a chain, or dropped on one; a dropped part's entries go in the next frame of the rotation (R208). -/
def ccsOut (part : Nat) (dropped : Bool) (s : State) : State :=
  let mark (p : CcsPart) : CcsPart := if dropped then { p with dropped := true } else { p with sent := true }
  { s with fix := { s.fix with ccsParts := modAt part mark s.fix.ccsParts } }

/-- A robot's link generation ends (R228, R605): parcels are dropped both ways, and a RESUME of it that waits for the intake or for the
issuers' answers no longer counts (R235, R470). -/
def endGeneration (r : Nat) (s : State) : State :=
  let s := s.mapLnk (fun l => { l with intake := l.intake.filter (fun e => !(e.1 == r && e.2.1 == 0x83)) })
  let s := { s with fld := { s.fld with foreign := s.fld.foreign.filter (fun (e : Nat × Nat × Bool) => e.2.1 != r) } }
  ((s.forgetKey (4096 + r)).mapCrk (fun k => { k with
    zones := match Tab.find? r k.zones with | some z => Tab.put r [z.flatten.dedup] k.zones | none => k.zones })).mapRobot r (fun x => { x with
    link := .registered, unacked := [], ackSeg := none, queue := [], unrel := [], held := [], seg := none, rekey := none
    wake := (0, 0, 0), bye := false, resumed := false, classes := [], rxCtr := none, rxLast := [] })

/-- After the downlink that acknowledges a robot's own LEAVE, its generation ends (R605, R277). -/
def afterDownlink (r : Nat) (dsns : List Nat) (s : State) : State :=
  match s.robot? r with
  | some x => if x.bye ∧ dsns.contains byeMark then ((s.endGeneration r).convertNow r false).raise 0x050C .notice 1 1 r else s
  | none => s

/-- A deferred downlink stays first in line (R208): its parcels are still due, and its unreliable elements wait again, but for MODE and
FIX_FB, which every downlink forms anew (R234), and for a type that a newer element has replaced
(assumption 155). -/
def deferDownlink (r : Nat) (els : List (Nat × Bytes)) (s : State) : State :=
  s.mapRobot r (fun x =>
    let back := els.filter (fun e => !([0xFF, 0x04, 0x05].contains e.1) && !x.unrel.any (fun u => u8 u 0 == e.1))
    { x with unrel := back.map (fun e => le 1 e.1 ++ le 1 e.2.length ++ e.2) ++ x.unrel })

/-- A robot's frame counter under its link or join key, and the frame it secures (R221 to R224). -/
def robotPsdu (s : State) (x : Robot) (join : Bool) (body : Bytes) : Bytes :=
  if join then nativePsdu (match x.answer with | some a => a.key | none => 0) s.k9Eui 5 x.joinTx body
  else nativePsdu (s.linkKey x.joinKey x.eui x.gen) s.k9Eui 5 x.txCtr body

/-- A frame to a robot takes a count of its key; the join key's last count is reported, as after it every answer is withheld (R225;
assumption 156). -/
def robotCount (r : Nat) (x : Robot) (join : Bool) (s : State) : State :=
  if join then
    let s := (s.mapRobot r (fun x => { x with joinTx := x.joinTx + 1 })).useKey (256 + x.keySlot)
    if x.joinTx + 1 = 0xFFFFFFFF then s.raise 0x0508 .fault 1 1 r else s
  else (s.mapRobot r (fun x => { x with txCtr := x.txCtr + 1 })).useKey (4096 + r)

/-- A robot to which nothing is sent: not registered, lost, or in state 00h, but for an echo in the tick of its last downlink and for
join answers (R203, R237, R605). -/
def cutOff (s : State) (f : PlanFrame) : Bool :=
  match f.robot with
  | none => false
  | some r => match s.robot? r with
    | none => true
    | some x => f.typ != .rejoin && (x.link == .lost || (x.link == .registered && f.typ != .echo))

/-- The key of a frame has no count left (R225). -/
def keySpent (s : State) (f : PlanFrame) : Bool :=
  match f.robot.bind s.robot? with
  | some x => decide (0xFFFFFFFF ≤ (if f.typ = .rejoin then x.joinTx else x.txCtr))
  | none => s.flockSpent

/-- Sends one planned frame in its slot: downlinks and broadcasts by the unit in control, echoes by the other (R203, R484). -/
def sendPlanned (sense : List Int) (f : PlanFrame) (s : State) : State :=
  let mine := if f.typ = .echo then s.pai.mode == .lockstep && !s.inControl && !s.pai.mute && s.pai.match_ && s.pairInfo
    else s.inControl
  let len := f.payload.length + 13
  if mine = false ∨ s.fixedDown (8 + f.chain) ∨ s.chainOn f.chain = false ∨ s.airOn = false ∨ s.cutOff f ∨ s.keySpent f ∨ s.psduMax f.mcs < len then
    (match f.robot with
      | some r => if s.pai.mode = .lockstep ∧ f.typ = .downlink ∧ s.inControl = false then s.afterDownlink r f.dsns else s
      | none => if s.pai.mode = .lockstep ∧ f.typ = .broadcast ∧ s.inControl = false then s.ccsOut f.part false else s)
  else
    let bar := s.sendBar f.chain f.mcs len (sense.getD f.chain (-128)) false
    match f.robot.bind s.robot?, f.robot with
    | some x, some r =>
      let join := decide (f.typ = .rejoin)
      let psdu := s.robotPsdu x join f.payload
      match bar with
      | some l =>
        let s := s.deferFrame f.chain l f.typ.code
        if f.typ = .downlink then s.deferDownlink r f.elems else if f.typ = .echo then s.robotCount r x false else s
      | none =>
        let s := s.robotCount r x join
        let s := if join then s else s.markSent r f.dsns
        let s := s.transmit f.chain f.mcs len (fun k => .airFrame f.chain k f.mcs f.typ.code (some r) psdu)
        if f.typ = .downlink then s.afterDownlink r f.dsns else s
    | _, _ =>
      match bar with
      | some l =>
        let s := s.deferFrame f.chain l f.typ.code
        if f.typ = .broadcast then s.ccsOut f.part true else if f.typ = .echo then s.flockCount.2 else s
      | none =>
        let s := if f.typ = .broadcast then s.ccsOut f.part false else s
        let (k, s) := (s.useKey 0).flockCount
        s.transmit f.chain f.mcs len (fun h => .airFrame f.chain h f.mcs f.typ.code none (s.flockPsdu k f.payload))

/-- A stop frame takes the place of the chain's own frame in the slot that starts now (R352). -/
def stopTakes (s : State) (c : Nat) : Bool :=
  s.crk.frames.any (fun (f : Nat × Nat) => f.1 == c && decide (s.now ≤ f.2 ∧ f.2 < s.now + 1250000))

/-- A superframe number is one of a sleeper's wake superframes (R239). -/
def wakeSf (x : Robot) (k : Nat) : Bool := x.wake.1 == 0 || sleepPhase x k == 0

/-- The robots from which a frame is due in slot `k` of the present tick, each with the slot's ASN (R210): a sleeper sends in its uplink
slot of a wake superframe (R239). -/
def framesDue (s : State) (k : Nat) : List (Nat × Nat) :=
  (s.itemsAt s.tickNo).filterMap (fun i =>
    match i.robot.bind (fun r => (s.robot? r).map (fun x => (r, x))) with
    | some (r, x) =>
      if i.slot = k ∧ s.chainOn i.chain ∧ ((i.typ = .uplink ∧ (x.link = .joined ∨ (x.link = .asleep ∧ wakeSf x s.sfNumber))) ∨
          (i.typ = .cor ∧ x.link = .joined)) then some (r, s.air.asn) else none
    | none => none)

/-- A slot starts: the ASN counts, and the slot's frames go out (R197, R198, R206). `sense` is the power in dBm that each chain senses
on its channel. -/
def slotOpen (sense : List Int) (s : State) : State :=
  let k := s.air.slot
  let s := s.mapAir (fun a => { a with asn := (if k = 0 then a.asn else a.asn + 1) % 2 ^ 40, slot := a.slot + 1, slotAt := s.now })
  if k = 0 then s.sendBeacons sense
  else
    let s := s.mapAir (fun a => { a with due := a.due ++ s.framesDue k })
    (s.air.plan.filter (fun f => f.slot == k && !s.stopTakes f.chain)).foldl (fun s f => s.sendPlanned sense f) s

/-- The RF test on a chain that goes out of service completes with FAULT (R105). -/
def rfTestFault (c : Nat) (s : State) : State :=
  match s.sys.rfTest with
  | some t => if s.prm 0x7F13 = c then (s.mapSys (fun y => { y with rfTest := none })).complete t.sess t.acc (Ans.bare stFault 0) else s
  | none => s

/-- A chain check fails (R213). -/
def chainFault (c level : Nat) (s : State) : State :=
  if (s.chain c).bad then s
  else (((s.mapChain c (fun k => { k with bad := true })).raise 0x0502 .fault level 4 c).budgetShort (6 + c) 4 c).rfTestFault c

/-! ### Opcodes (R214) -/

/-- Duty used over the window in 0.1 %. -/
def dutyUsed (s : State) (c : Nat) : Nat :=
  let w := s.meterWindow.1
  let t := (((s.chain c).meter.filter (fun (m : Nat × Nat × Nat) => decide (s.now < m.2.1 + w))).map (fun (m : Nat × Nat × Nat) => m.2.2)).sum
  if w = 0 then 0 else min 65535 (t * 1000 / w)

/-- AIR_CHAIN_READ (R214). -/
def runAirChainRead (c : Cmd) (s : State) : State × CmdRes :=
  if c.params.length ≠ 0 then (s, refuse stBadLength 0)
  else (s, fin ((List.range 4).flatMap (fun n =>
    let k := s.chain n
    let pend := s.cfg.pend.any (fun p => match Tab.find? 0x0501 p.shadow.params with | some v => bit v n | none => false)
    let st := if k.bad then 2 else if bit (s.prm 0x0501) n then 1 else if pend then 3 else 0
    let on := s.lnk.robots.filter (fun (e : Nat × Robot) => e.2.chain == n)
    le 1 n ++ le 1 st ++ le 1 (on.filter (fun (e : Nat × Robot) => !e.2.legacy)).length ++
      le 1 (on.filter (fun (e : Nat × Robot) => e.2.legacy)).length ++
      ([k.sent, k.rcvd, k.runts, k.oversize, k.discards, k.deferrals].flatMap (le 4)) ++ le 2 (s.dutyUsed n) ++ le 2 k.format)))

/-- AIR_MAP_READ (R214). -/
def runAirMapRead (c : Cmd) (s : State) : State × CmdRes :=
  let b := c.params
  if b.length ≠ 4 then (s, refuse stBadLength 0)
  else if u8 b 1 = 0 ∨ 256 < u8 b 0 + u8 b 1 ∨ u16 b 2 ≠ 0 then (s, refuse stBadParam 0)
  else (s, fin ((List.range (u8 b 1)).flatMap (fun i =>
    let r := u8 b 0 + i
    match s.robot? r with
    | none => le 1 r ++ List.replicate 8 0xFF ++ zeros 3
    | some x => match Tab.find? r s.air.map.pos with
      | some p => le 1 r ++ Pos.bytes p ++ zeros 3
      | none => le 1 r ++ le 1 x.chain ++ List.replicate 7 0xFF ++ zeros 3)))

end State

end Sys2Proof.Machine
end

