-- ==== Sys2Proof/Machine/Catalog.lean ====
section
/-! DEFINITION. The feature catalogue (R71 to R73, R459). -/

namespace Sys2Proof.Machine

/-- The assigned bits of the catalogue (R72). -/
def catalogueBits : List Nat :=
  List.range 11 ++ (List.range 12).map (· + 32) ++ (List.range 10).map (· + 64) ++ (List.range 11).map (· + 96) ++
  (List.range 8).map (· + 128) ++ (List.range 8).map (· + 160) ++ (List.range 5).map (· + 192) ++
  (List.range 8).map (· + 224)

namespace State

/-- A part that self-test found bad. -/
def badPart (s : State) (p : Part) : Bool := s.sys.badParts.contains p

/-- The parts that a catalogue bit needs are in service (R71): the front end for GNSS and fixes, the snapshot banks for
captures, a solver engine for base-solved fixes, an air chain for the air, the trained pair link for bit 226, and a permitted
band for bits 104 to 106. The rules that ask for bits 100, 102 and 103 are judged by this catalogue (assumption 146). -/
def bitServed (s : State) (b : Nat) : Bool :=
  let gnss := !(s.badPart .gnss)
  let chains := (List.range 4).any (fun c => !(s.chain c).bad)
  if 39 ≤ b ∧ b ≤ 40 then gnss && !s.snapshotLost
  else if 32 ≤ b ∧ b ≤ 43 then gnss
  else if 67 ≤ b ∧ b ≤ 69 then gnss && decide (s.fix.enginesBad.length < 4)
  else if 64 ≤ b ∧ b ≤ 66 then gnss
  else if 104 ≤ b ∧ b ≤ 106 then chains && s.fac.bands.contains b
  else if 96 ≤ b ∧ b ≤ 103 then chains
  else if b = 226 then s.pai.bootTrained && !(s.badPart .pairLink)
  else true

/-- The DEVICE catalogue as a number of 256 bits (R71). -/
def deviceCat (s : State) : Nat := bitsOf (catalogueBits.filter s.bitServed)

end State

end Sys2Proof.Machine
end

