-- ==== Sys2Proof/Machine/Eth.lean ====
section
/-! DEFINITION. The Ethernet ports: reception, transmit queues, egress stamps, PTP, probes, capture and the wake pattern
(R104, R386 to R401). -/

namespace Sys2Proof.Machine

/-- The traffic classes by their fields of ETH_QMAP (R392). -/
abbrev clsPtpEvent : Nat := 0
abbrev clsFoldStop : Nat := 1
abbrev clsFold : Nat := 2
abbrev clsUrgent : Nat := 3
abbrev clsReply : Nat := 4
abbrev clsPtpGen : Nat := 5
abbrev clsProbe : Nat := 6

/-- A port at reset. -/
def EthPort.fresh : EthPort := {
  link := 0, seen := 0, plca := 0, counts := List.replicate 9 0, queues := List.replicate 8 [], waiting := [], busy := none,
  stamps := [], tsRun := false, collRun := false, syncAt := none, annAt := none, ptpSeq := 0 }

/-- The number a big-endian field at offset `o` spells. -/
def rdBe (b : Bytes) (o n : Nat) : Nat := ofBe (slice b o n)

/-- The ones-complement sum of 16-bit words (IPv4 and UDP checksums). -/
def sum16 (b : Bytes) : Nat :=
  let rec go : Bytes → Nat
    | [] => 0
    | [x] => x.toNat * 256
    | x :: y :: t => x.toNat * 256 + y.toNat + go t
  let n := go b
  let n := n % 65536 + n / 65536
  n % 65536 + n / 65536

/-- A PTP message travels as an event message and is stamped: Sync and Delay_Req (R393). -/
def EthKind.stamped : EthKind → Bool
  | .ptp t _ => t == 0 || t == 1
  | .probe _ _ _ => true
  | .fold t _ => t == 3
  | _ => false

/-- The length L of a frame with `n` bytes after its EtherType (R391). -/
def frameLen (n : Nat) : Nat := max 64 (18 + n)

namespace State

/-- Changes the Ethernet ports. -/
def mapEth (f : Eth → Eth) (s : State) : State := { s with eth := f s.eth }

/-- A port. -/
def port (s : State) (n : Nat) : EthPort := (s.eth.ports[n]?).getD EthPort.fresh

/-- Changes one port. -/
def mapPort (n : Nat) (f : EthPort → EthPort) (s : State) : State :=
  s.mapEth (fun e => { e with ports := modAt n f e.ports })

/-- Counts at position `k` of a port's counters (R398). -/
def ethCount (n k : Nat) (s : State) : State := s.mapPort n (fun p => { p with counts := modAt k inc32 p.counts })

/-- The port runs (R386). -/
def ethOn (s : State) (n : Nat) : Bool := bit (s.prm 0x0B00) n

/-- The port runs with its link up. -/
def ethUp (s : State) (n : Nat) : Bool := s.ethOn n && (s.port n).link != 0

/-- M of R391. -/
def ethM (s : State) (n : Nat) : Nat := if n = 0 then s.prm 0x0B03 else 1500

/-- The transmit queue of a traffic class (R392). -/
def ethQueue (s : State) (cls : Nat) : Nat := field (s.prm 0x0B07) (3 * cls) 3

/-- PTP runs on the port, as slave or as master (R395). -/
def ptpOn (s : State) (n : Nat) : Bool := s.prm 0x0400 == n + 1 || bit (s.prm 0x0B0B) n

/-! ### Sending (R388, R392 to R394) -/

/-- The ingress stamp of a frame that comes in on a port: pasture time, on MAC0 corrected by the PHY's latency (R393; the row stands at
the first bit after the start-of-frame delimiter, assumption 71). -/
def rxStamp (s : State) (n : Nat) : Nat := if n = 0 then s.clk.count - s.prm 0x0B05 else s.clk.count

/-- The egress stamp of a frame that starts on a port (R393). -/
def txStamp (s : State) (n : Nat) : Nat := if n = 0 then s.clk.count + s.prm 0x0B04 else s.clk.count

/-- Takes the egress stamp of a frame that starts; the first loss of a run is reported (R394). -/
def egressStamp (n : Nat) (k : EthKind) (s : State) : State :=
  let p := s.port n
  if (p.stamps.filter (fun x => x.2.isSome)).length < 16 then
    s.mapPort n (fun p => { p with stamps := p.stamps ++ [(k, some (s.txStamp n))], tsRun := false })
  else
    let s := (s.mapPort n (fun p => { p with stamps := p.stamps ++ [(k, none)], tsRun := true })).ethCount n 7
    if p.tsRun then s else s.raise0 0x0B02 .warning 1 n

/-- Moves waiting frames into queues that have room, keeping the order within a class (R392). -/
def ethRefill (n : Nat) (s : State) : State :=
  let p := s.port n
  let r := p.waiting.foldl (fun (a : List (List EthFrame) × List EthFrame) f =>
    let q := s.ethQueue f.cls
    if (a.1.getD q []).length < 32 ∧ a.2.all (fun g => g.cls != f.cls) then (modAt q (fun l => l ++ [f]) a.1, a.2)
    else (a.1, a.2 ++ [f])) (p.queues, [])
  s.mapPort n (fun p => { p with queues := r.1, waiting := r.2 })

/-- The highest queue that holds a frame. -/
def topQueue (qs : List (List EthFrame)) : Option Nat := ((List.range 8).filter (fun q => !(qs.getD q []).isEmpty)).max?

/-- An idle port with its link up starts the oldest frame of its highest queue (R392). -/
def ethKick (n : Nat) (s : State) : State :=
  let p := s.port n
  if p.busy.isSome ∨ s.ethUp n = false then s
  else match topQueue p.queues with
  | none => s
  | some q =>
    match p.queues.getD q [] with
    | [] => s
    | f :: t =>
      let s := s.mapPort n (fun p => { p with busy := some f, queues := modAt q (fun _ => t) p.queues })
      let s := if f.kind.stamped then s.egressStamp n f.kind else s
      (s.emit (.ethFrame n f)).ethRefill n

/-- Gives a frame to the port's transmit queues. An ARP or ICMP reply for a full queue is dropped and counted, and every
other frame waits (R392). -/
def ethSend (n : Nat) (f : EthFrame) (s : State) : State :=
  if s.ethOn n = false then s
  else
    let p := s.port n
    let q := s.ethQueue f.cls
    let full := decide (32 ≤ (p.queues.getD q []).length)
    let may := f.kind == .arp || f.kind == .icmp
    if full ∧ may then s.ethCount n 8
    else if full ∨ p.waiting.any (fun g => g.cls == f.cls) then s.mapPort n (fun p => { p with waiting := p.waiting ++ [f] })
    else (s.mapPort n (fun p => { p with queues := modAt q (fun l => l ++ [f]) p.queues })).ethKick n

/-- The UDP datagram that carries a packet from SYS_UDP_PORT to a host's port (R106); its checksum is the implementation's. -/
def udpOut (s : State) (port : Nat) (b : Bytes) : Bytes :=
  let h := be 2 (s.prm 0x0019) ++ be 2 port ++ be 2 (8 + b.length)
  h ++ be 2 (Config.udpSum (h ++ b)) ++ b

/-- A reply or completion over UDP to the address and port of a host, in fragments where it does not fit ETH_MAC0_MTU (R106, R390,
R392). A frame's data are the destination address, the IP header's flags and fragment offset, and the piece of the datagram. -/
def ethReply (urgent : Bool) (ip port : Nat) (r : Reply) (s : State) : State :=
  let m := s.ethM 0
  let d := s.udpOut port (replyWhole r)
  let cls := if urgent then clsUrgent else clsReply
  let one (off : Nat) (more : Bool) (b : Bytes) (s : State) : State :=
    s.ethSend 0 { cls := cls, dst := Tab.getD ip 0 s.eth.peers, len := frameLen (20 + b.length), kind := .reply r.sess r.acc
                  data := be 4 ip ++ be 2 (b2n more * 8192 + off / 8) ++ b }
  if 20 + d.length ≤ m then one 0 false d s
  else
    let piece := (m - 20) / 8 * 8
    (List.range (ceilDiv d.length piece)).foldl (fun s i =>
      one (i * piece) (decide ((i + 1) * piece < d.length)) (slice d (i * piece) (min piece (d.length - i * piece))) s) s

/-- A frame has finished on the wire (R392). -/
def ethFrameSent (n : Nat) (s : State) : State :=
  if (s.port n).busy.isNone then s
  else (((s.mapPort n (fun p => { p with busy := none, collRun := false })).ethCount n 0).ethRefill n).ethKick n

/-- Sixteen collisions in a row: the frame is dropped and counted (R388). -/
def ethCollisions (n : Nat) (s : State) : State :=
  if n = 0 then s
  else match (s.port n).busy with
  | none => s
  | some f =>
    let run := (s.port n).collRun
    let s := (s.mapPort n (fun p => { p with
      busy := none, collRun := true, stamps := p.stamps.filter (fun x => x.1 != f.kind || f.kind.stamped == false) })).ethCount n 6
    let s := match f.kind with
      | .probe ss a i => s.mapEth (fun e => { e with probes := e.probes.map (fun (b : Probe) =>
          if b.sess = ss ∧ b.acc = a then { b with res := Tab.put i (2, 0) b.res } else b) })
      | .fold 3 fl => s.mapEth (fun e => { e with hbStamps := Tab.put fl 0 e.hbStamps })
      | .ptp 1 _ => s.mapEth (fun e => { e with delayLost := true })
      | _ => s
    let s := if run then s else s.raise0 0x0B03 .warning 1 n
    (s.ethRefill n).ethKick n

/-! ### PTP (R395) -/

/-- A Timestamp of IEEE 1588: 48 bits of seconds and 32 of nanoseconds, most significant byte first, from the PTP epoch
(R5; assumption 70: TAI is GPS time plus 19 s, and the GPS epoch is second 315,964,819 of it). -/
def ptpStamp (t : Nat) : Bytes := be 6 (t / 1000000000 + 315964819) ++ be 4 (t % 1000000000)

/-- logMessageInterval of a message type. -/
def ptpInterval (s : State) (typ : Nat) : Int :=
  if typ = 1 then 0x7F else if typ = 0 ∨ typ = 8 then (s.prmS 8 0x0B0C).natAbs else 0

/-- The flagField of a message type: twoStepFlag of a Sync; the time scale, its traceability and the validity of the UTC offset in
an Announce. -/
def ptpFlags (s : State) (typ : Nat) : Bytes :=
  let traced := s.clk.state == .locked || s.clk.state == .holdover
  [BitVec.ofNat 8 (if typ = 0 then 2 else 0),
   BitVec.ofNat 8 (if typ = 11 then 8 + 4 * b2n s.clk.leapBoot + 48 * b2n traced else 0)]

/-- The port identity of a K9 port: the module's EUI and the port number from 1. -/
def ptpPort (s : State) (n : Nat) : Bytes := be 8 s.fac.eui ++ be 2 (n + 1)

/-- A PTP message of IEEE 1588-2019, in the standard's own order (R5, R395; assumption 70): the common header with `corr` as its
correctionField, then `body`. -/
def ptpMessage (s : State) (n typ seq : Nat) (corr body : Bytes) : Bytes :=
  let control := match typ with | 0 => 0 | 1 => 1 | 8 => 2 | 9 => 3 | _ => 5
  be 1 typ ++ be 1 0x12 ++ be 2 (34 + body.length) ++ be 1 (s.prm 0x0B0A) ++ be 1 0 ++ s.ptpFlags typ ++ padTo 8 0 corr ++ zeros 4 ++
  s.ptpPort n ++ be 2 seq ++ be 1 control ++ leS 1 (s.ptpInterval typ) ++ body

/-- The body of an Announce: no origin time, the UTC offset, priorities 128, the clock quality, the K9 as grandmaster, GNSS as the
time source (assumption 70). -/
def ptpAnnounce (s : State) (clockClass : Nat) : Bytes :=
  zeros 10 ++ (leS 2 (s.clk.leap + 19)).reverse ++ zeros 1 ++ be 1 128 ++ be 1 clockClass ++ be 1 0xFE ++ be 2 0xFFFF ++ be 1 128 ++
  be 8 s.fac.eui ++ be 2 0 ++ be 1 0x20

/-- Sends a PTP message of type `typ`, as the unit in control (R485), on the transport of ETH_PTP_TRANSPORT: to the MAC address `dst`, or
over UDP, on MAC0 only, to port 319 or 320 of the group that IEEE 1588 gives (assumption 70). -/
def ptpSend (n typ seq dst : Nat) (corr body : Bytes) (s : State) : State :=
  let m := s.ptpMessage n typ seq corr body
  let udp := decide (n = 0 ∧ s.prm 0x0B0D = 1)
  let event := decide (typ = 0 ∨ typ = 1)
  let port := if event then 319 else 320
  let h := be 2 port ++ be 2 port ++ be 2 (8 + m.length)
  let d := if udp then be 4 0xE0000181 ++ [0, 0] ++ h ++ be 2 (Config.udpSum (h ++ m)) ++ m else m
  if s.inControl = false then s
  else s.ethSend n {
    cls := if event then clsPtpEvent else clsPtpGen, dst := if udp then 0x01005E000181 else dst
    len := frameLen (m.length + if udp then 28 else 0), kind := .ptp typ seq, data := d }

/-- The group address of PTP messages. -/
def ptpGroup : Nat := 0x011B19000000

/-- Takes a new PTP master (R395). -/
def ptpMaster (n ident : Nat) (log : Int) (s : State) : State :=
  let gone := s.eth.masterGone
  let s := s.mapEth (fun e => { e with master := some (ident, s.now, log), masterGone := false, sync := none, syncSeq := none })
  if gone then s.raise0 0x0B05 .notice 1 (n + 256 * (ident / 65536 % 2 ^ 56)) else s

/-- An exchange that gives no input is a missing one (R179). -/
def ptpMissed (s : State) : State := s.mapClk (fun c => { c with consec := 0 })

/-- A Sync with number `seq` has come: an earlier one that still waits for its Follow_Up, and numbers passed over, are exchanges that
gave no input (R179). -/
def syncGap (seq : Nat) (s : State) : State :=
  let gap : Bool := match s.eth.syncSeq with | some q => seq != (q + 1) % 65536 | none => false
  (if s.eth.sync.isSome ∨ gap then s.ptpMissed else s).mapEth (fun e => { e with syncSeq := some seq })

/-- A PTP message received in the domain of ETH_PTP_DOMAIN (R395). -/
def ptpIn (n : Nat) (b : Bytes) (s : State) : State :=
  let typ := u8 b 0 % 16
  let ident := rdBe b 20 10
  let seq := rdBe b 30 2
  let log := i8 b 33
  if u8 b 4 ≠ s.prm 0x0B0A ∨ b.length < 34 then s
  else
    let s := s.emit (.ethUp n 0x88F7 typ b)
    if s.prm 0x0400 ≠ n + 1 then s
    else match s.eth.master with
    | none => if typ = 11 then s.ptpMaster n ident log else s
    | some (m, _, _) =>
      if m ≠ ident then s
      else if typ = 11 then s.mapEth (fun e => { e with master := some (m, s.now, log) })
      else if typ = 0 then
        let s := (s.syncGap seq).mapEth (fun e => { e with sync := if bit (u8 b 6) 1 then some (seq, s.now) else none })
        let q := (s.port n).ptpSeq
        (s.mapPort n (fun p => { p with ptpSeq := (p.ptpSeq + 1) % 65536 })).ptpSend n 1 q ptpGroup [] (zeros 10)
      else if typ = 8 then
        s.mapEth (fun e => { e with sync := match e.sync with
          | some (q, t) => if q = seq then none else some (q, t)
          | none => none })
      else s

/-- An accepted Sync exchange gives a discipline input, unless its Delay_Req's stamp is lost (R176, R179, R394, R395). -/
def ptpSync (n ident : Nat) (delta : Int) (err : Nat) (s : State) : State :=
  match s.eth.master with
  | none => s
  | some (m, _, _) =>
    if s.prm 0x0400 ≠ n + 1 ∨ s.ethUp n = false ∨ m ≠ ident ∨ s.eth.sync.isSome then s
    else if s.eth.delayLost then s.ptpMissed
    else (s.mapClk (fun c => { c with ptpLost := false })).discInput delta err

/-- Three announce intervals without an Announce from the master: it is changed, or lost (R178, R395). -/
def ptpAnnounceTimeout (next : Option Nat) (s : State) : State :=
  match s.eth.master with
  | none => s
  | some (m, t, log) =>
    let span := if 0 ≤ log then 3000000000 * 2 ^ log.toNat else 3000000000 / 2 ^ log.natAbs
    if s.prm 0x0400 = 0 ∨ s.now - t < span ∨ next = some m then s
    else match next with
    | some ident => (s.mapEth (fun e => { e with masterGone := true })).ptpMaster (s.prm 0x0400 - 1) ident log
    | none =>
      let s := s.mapEth (fun e => { e with master := none, masterGone := true, sync := none })
      (s.mapClk (fun c => { c with ptpLost := true })).discMissing 5

/-- A two-step Sync without its Follow_Up within 1 s is discarded (R395). -/
def followUpTimeout (s : State) : State :=
  match s.eth.sync with
  | some (_, t) => if 1000000000 ≤ s.now - t then (s.mapEth (fun e => { e with sync := none })).ptpMissed else s
  | none => s

/-- clockClass by time state; none: Sync and Announce are withheld (R395). -/
def clockClass (s : State) : Option Nat :=
  match s.clk.state with
  | .locked => some 6
  | .holdover => some 7
  | .expired => some 52
  | _ => none

/-- As master, Sync at 2^ETH_PTP_SYNC_LOG per second and Announce once per second (R395). -/
def ptpMasterSend (n : Nat) (s : State) : State :=
  match s.clockClass with
  | none => s
  | some k =>
    if bit (s.prm 0x0B0B) n = false ∨ s.ethOn n = false then s
    else
      let due (t : Option Nat) (span : Nat) : Bool := match t with | none => true | some t => decide (span ≤ s.now - t)
      let p := s.port n
      let s := if due p.syncAt (1000000000 * 2 ^ (s.prmS 8 0x0B0C).natAbs) then
          (s.mapPort n (fun p => { p with syncAt := some s.now, ptpSeq := (p.ptpSeq + 1) % 65536 })).ptpSend n 0 p.ptpSeq ptpGroup [] (zeros 10)
        else s
      if due p.annAt 1000000000 then
        (s.mapPort n (fun p => { p with annAt := some s.now })).ptpSend n 11 p.ptpSeq ptpGroup [] (s.ptpAnnounce k)
      else s

/-- As master, a Delay_Req from `mac` is answered: the Delay_Resp carries its correction, its sequence number and the identity of
the port that asked (R395). -/
def ptpDelayReq (n mac : Nat) (req : Bytes) (s : State) : State :=
  if bit (s.prm 0x0B0B) n = false ∨ s.ethUp n = false ∨ req.length < 34 ∨ u8 req 4 ≠ s.prm 0x0B0A then s
  else s.ptpSend n 9 (rdBe req 30 2) mac (slice req 8 8) (ptpStamp (s.rxStamp n) ++ slice req 20 10)

/-! ### Probes and egress stamps (R394, R396) -/

/-- The probes of commands in the intake start at the tick boundary (R396). -/
def probesTick (s : State) : State :=
  let todo := s.eth.probes.filter (fun (b : Probe) => !b.started)
  let s := s.mapEth (fun e => { e with probes := e.probes.map (fun (b : Probe) => { b with started := true }) })
  todo.foldl (fun s b => (List.range b.count).foldl (fun s i =>
    s.ethSend b.port { cls := clsProbe, dst := b.dst, len := b.len, kind := .probe b.sess b.acc i, data := le 2 i }) s) s

/-- The completion of an ETH_PROBE (R396). -/
def probeBody (b : Probe) : Bytes :=
  (List.range b.count).flatMap (fun i =>
    let (f, t) := Tab.getD i (0, 0) b.res
    le 2 i ++ le 1 f ++ zeros 5 ++ le 8 t)

/-- What one emptied egress stamp serves (R394, R395, R396, R458). -/
def takeStamp (n : Nat) (x : EthKind × Option Nat) (s : State) : State :=
  match x.1 with
  | .probe ss a i => s.mapEth (fun e => { e with probes := e.probes.map (fun (b : Probe) =>
      if b.sess = ss ∧ b.acc = a then { b with res := Tab.put i (match x.2 with | some t => (0, t) | none => (1, 0)) b.res } else b) })
  | .ptp 0 q => (match x.2 with | some t => s.ptpSend n 8 q ptpGroup [] (ptpStamp t) | none => s)
  | .ptp 1 _ => s.mapEth (fun e => { e with delayLost := x.2.isNone })
  | .fold 3 f => s.mapEth (fun e => { e with hbStamps := Tab.put f (x.2.getD 0) e.hbStamps })
  | _ => s

/-- The Close phase empties every time-stamp queue, and probes whose every frame is accounted for complete (R394). -/
def ethClose (s : State) : State :=
  let s := (List.range 3).foldl (fun s n =>
    let l := (s.port n).stamps
    l.foldl (fun s x => s.takeStamp n x) (s.mapPort n (fun p => { p with stamps := [] }))) s
  let done := s.eth.probes.filter (fun (b : Probe) => b.started && b.res.length == b.count)
  let s := s.mapEth (fun e => { e with probes := e.probes.filter (fun (b : Probe) => !(b.started && b.res.length == b.count)) })
  done.foldl (fun s b => s.completeOk b.sess b.acc (probeBody b)) s

/-! ### Frame capture (R104) -/

/-- Ends the running frame capture for reason `why` and completes its command. -/
def captureEnd (why : Nat) (s : State) : State :=
  match s.sys.ethCap with
  | none => s
  | some c =>
    let s := s.mapSys (fun y => { y with ethCap := none, capDone := true })
    s.completeOk c.sess c.acc (le 4 s.sys.capBuf.length ++ le 4 s.sys.capFrames ++ le 1 why ++ zeros 3)

/-- A frame capture of port `n` ends because its link is down, whether or not it has started (R104). -/
def portCaptureEnd (n : Nat) (s : State) : State :=
  match s.sys.ethCap with
  | some c => if c.port = n then s.captureEnd 2 else s
  | none => s

/-- Captures one received frame: its length, its flags, whether R389 and R391 accepted it, and its bytes. -/
def captureFrame (n len flags : Nat) (accepted : Bool) (b : Bytes) (s : State) : State :=
  match s.sys.ethCap with
  | none => s
  | some c =>
    if c.started = false ∨ c.port ≠ n ∨ (c.filter = 1 ∧ accepted = false) ∨ (c.filter = 2 ∧ accepted) then s
    else
      let r := le 8 (s.rxStamp n) ++ le 2 len ++ le 1 n ++ le 1 flags ++ zeros 4 ++ padMul 8 b
      if 4194304 < s.sys.capBuf.length + r.length then s.captureEnd 1
      else (s.mapSys (fun y => { y with capBuf := y.capBuf ++ r, capFrames := y.capFrames + 1 })).mapMem (fun m => { m with
        banks := cleanse s.sys.capBuf.length (s.sys.capBuf.length + r.length) m.banks })

/-- MAX_MS of the capture has passed (R104). -/
def captureTimeout (s : State) : State :=
  match s.sys.ethCap with
  | some c => if c.started ∧ c.maxNs ≤ s.now - c.since then s.captureEnd 0 else s
  | none => s

/-- A capture in the intake starts at the tick boundary (R104). -/
def captureTick (s : State) : State :=
  s.mapSys (fun y => { y with ethCap := y.ethCap.map (fun c => if c.started then c else { c with started := true, since := s.now }) })

/-! ### Links (R387, R388) -/

/-- A port's link takes the mode resolved; every change is reported (R387, R400). -/
def setLink (n mode : Nat) (s : State) : State :=
  let p := s.port n
  if s.ethOn n = false ∨ p.seen = mode then s
  else
    let link := if mode = 3 then 0 else if mode = 4 then 3 else mode
    let s := (s.mapPort n (fun p => { p with seen := mode, link := link })).raise0 0x0B01 .notice mode n
    let s := if link = 0 then s.portCaptureEnd n else s
    s.ethKick n

/-- The PHY is polled in RGMII mode (R387). -/
def phyPoll (mode : Nat) (s : State) : State := if s.prm 0x0B01 = 1 then s.setLink 0 mode else s

/-- The PLCA status goes false or returns (R388). -/
def plcaStatus (n : Nat) (active : Bool) (s : State) : State :=
  let p := s.port n
  if p.plca = 0 ∨ p.plca = (if active then 1 else 2) then s
  else (s.mapPort n (fun p => { p with plca := if active then 1 else 2 })).raise0 0x0B04 .warning (if active then 0 else 1) n

/-! ### Receiving (R389 to R391) -/

/-- The destination is one the port accepts (R389, R450). -/
def ethDstOk (n dst : Nat) (s : State) : Bool :=
  dst == s.fac.mac + n || dst == 0xFFFFFFFFFFFF || (s.ptpOn n && (dst == 0x011B19000000 || dst == 0x0180C200000E)) ||
  (s.prm 0x0E00 == 1 && (List.range 15).any (fun k =>
    let t := s.prm (0x0E01 + k)
    t % 65536 != 0xFFFF && dst == 0x034B39460000 + t % 65536))

/-- The EtherType is admitted on the port (R389, R450). -/
def ethTypeOk (n typ : Nat) : Bool :=
  ((typ == 0x0800 || typ == 0x0806) && n == 0) || typ == 0x88F7 || typ == 0x88B5 || typ == 0x88B6

/-- What a datagram to SYS_UDP_PORT does: its source MAC, IP address and port, and the bytes it carries (R106). -/
abbrev ToHost := Nat → Nat → Nat → Bytes → State → State

/-- A whole IPv4 datagram that frame's source MAC `mac` sent: one to SYS_UDP_PORT is a host packet (R106), and a UDP datagram with a wrong
checksum is discarded and counted (R390). -/
def ipDatagram (host : ToHost) (mac src proto : Nat) (d : Bytes) (s : State) : State :=
  if proto = 17 then
    let port := rdBe d 2 2
    let sum := sum16 (be 4 src ++ be 4 (s.prm 0x0B06) ++ [0, 17] ++ be 2 d.length ++ d)
    if d.length < 8 ∨ rdBe d 4 2 ≠ d.length ∨ (rdBe d 6 2 ≠ 0 ∧ sum ≠ 0xFFFF) then s.ethCount 0 8
    else if port = s.prm 0x0019 then host mac src (rdBe d 0 2) (d.drop 8) s
    else if (port = 319 ∨ port = 320) ∧ s.ptpOn 0 then s.ptpIn 0 (d.drop 8)
    else s
  else if proto = 1 ∧ u8 d 0 = 8 then s.emit (.ethUp 0 0x0800 0x10001 d)
  else s

/-- Joins the parts of a datagram, if they cover it: their bytes in order of offset. -/
def joinParts (total : Nat) (parts : List (Nat × Bytes)) : Option Bytes :=
  (sortBy (fun (a b : Nat × Bytes) => decide (a.1 ≤ b.1)) parts).foldl (fun (acc : Option Bytes) (p : Nat × Bytes) =>
    match acc with
    | none => none
    | some b => if p.1 ≤ b.length then some (b ++ p.2.drop (b.length - p.1)) else none) (some [])
  |>.bind (fun b => if b.length = total then some b else none)

/-- One fragment of a datagram (R390). -/
def ipFragment (host : ToHost) (mac src id proto off : Nat) (more : Bool) (d : Bytes) (s : State) : State :=
  let same (x : IpPart) : Bool := x.src == src && x.id == id && x.proto == proto
  let old := s.eth.parts.find? same
  let rest := s.eth.parts.filter (fun x => !same x)
  if old.isNone ∧ 8 ≤ (s.eth.parts.filter (fun (x : IpPart) => !x.dead)).length then s
  else
    let x := old.getD { src := src, id := id, proto := proto, since := s.now, parts := [], total := none, dead := false }
    if x.dead then s
    else if 4124 < 20 + off + d.length then
      (s.mapEth (fun e => { e with parts := rest ++ [{ x with dead := true, parts := [] }] })).ethCount 0 8
    else
      let x := { x with parts := x.parts ++ [(off, d)], total := if more then x.total else some (off + d.length) }
      match x.total.bind (fun t => joinParts t x.parts) with
      | some b => (s.mapEth (fun e => { e with parts := rest })).ipDatagram host mac src proto b
      | none => s.mapEth (fun e => { e with parts := rest ++ [x] })

/-- Reassemblies incomplete after 1 s are discarded (R390). -/
def ipTimeout (s : State) : State :=
  s.mapEth (fun e => { e with parts := e.parts.filter (fun (x : IpPart) => decide (s.now - x.since < 1000000000)) })

/-- An IPv4 packet on MAC0 (R390). -/
def ipIn (host : ToHost) (mac : Nat) (b : Bytes) (s : State) : State :=
  let tl := rdBe b 2 2
  if s.prm 0x0B06 = 0 then s
  else if u8 b 0 ≠ 0x45 ∨ b.length < 20 ∨ tl < 20 ∨ b.length < tl ∨ sum16 (b.take 20) ≠ 0xFFFF then s.ethCount 0 8
  else if rdBe b 16 4 ≠ s.prm 0x0B06 then s
  else
    let fr := rdBe b 6 2
    let d := slice b 20 (tl - 20)
    let off := fr % 8192 * 8
    if off = 0 ∧ bit fr 13 = false then
      if 4124 < tl then s.ethCount 0 8 else s.ipDatagram host mac (rdBe b 12 4) (u8 b 9) d
    else s.ipFragment host mac (rdBe b 12 4) (rdBe b 4 2) (u8 b 9) off (bit fr 13) d

/-- A frame comes in: `b` from destination to FCS (R389 to R391, R104). -/
def ethReceive (host : ToHost) (n : Nat) (b : Bytes) (fcsOk : Bool) (s : State) : State :=
  if s.ethUp n = false then s
  else
    let l := b.length
    let m := s.ethM n + 18
    if l < 64 then (s.ethCount n 2).captureFrame n l (4 + b2n (!fcsOk)) false b
    else if m < l then (s.ethCount n 3).captureFrame n l 2 false (b.take m)
    else if fcsOk = false then (s.ethCount n 4).captureFrame n l 1 false b
    else
      let typ := rdBe b 12 2
      if s.ethDstOk n (rdBe b 0 6) = false ∨ ethTypeOk n typ = false then (s.ethCount n 5).captureFrame n l 8 false b
      else
        let s := (s.ethCount n 1).captureFrame n l 0 true b
        let body := slice b 14 (l - 18)
        if typ = 0x0800 then s.ipIn host (rdBe b 6 6) body
        else if typ = 0x88F7 then (if s.ptpOn n then s.ptpIn n body else s)
        else if typ = 0x88B5 then s
        else s.emit (.ethUp n typ 0 body)

/-- An ARP request for ETH_IP_ADDR is answered (R390). -/
def arpAnswer (mac ip target : Nat) (s : State) : State :=
  if s.ethUp 0 = false ∨ s.wiredOut = false ∨ s.prm 0x0B06 = 0 ∨ target ≠ s.prm 0x0B06 then s
  else s.ethSend 0 {
    cls := clsUrgent, dst := mac, len := 64, kind := .arp,
    data := be 2 1 ++ be 2 0x0800 ++ [6, 4] ++ be 2 2 ++ be 6 s.fac.mac ++ be 4 target ++ be 6 mac ++ be 4 ip }

/-- An ICMP echo request, its bytes from the type on, is answered (R390). -/
def icmpEcho (mac ip : Nat) (d : Bytes) (s : State) : State :=
  if s.ethUp 0 = false ∨ s.wiredOut = false ∨ s.prm 0x0B06 = 0 ∨ u8 d 0 ≠ 8 ∨ sum16 d ≠ 0xFFFF then s
  else
    let rest := [0, 0] ++ [0, 0] ++ d.drop 4
    let sum := 0xFFFF - sum16 rest
    s.ethSend 0 {
      cls := clsUrgent, dst := mac, len := frameLen (20 + d.length), kind := .icmp,
      data := be 4 ip ++ [0, 0] ++ be 2 sum ++ d.drop 4 }

/-! ### Wake pattern (R397) -/

/-- The frame wakes the K9 from Standby on a port (R397). -/
def wakeMatch (n : Nat) (b : Bytes) (fcsOk : Bool) (s : State) : Bool :=
  let ip := slice b 14 (b.length - 18)
  let dst := rdBe b 0 6
  let udp := slice ip 20 (rdBe ip 2 2 - 20)
  decide (64 ≤ b.length) && fcsOk && (dst == s.fac.mac + n || dst == 0xFFFFFFFFFFFF) && rdBe b 12 2 == 0x0800 &&
  u8 ip 0 == 0x45 && (n != 0 || rdBe ip 16 4 == s.prm 0x0B06) && u8 ip 9 == 17 && rdBe udp 2 2 == s.prm 0x0019 &&
  udp.length == 20 && udp.drop 8 == [0xA7, 0x4B, 0x57, 0x4B] ++ be 6 (s.fac.mac + n) ++ le 2 (s.prm 0x0B0E)

/-! ### Opcodes (R398, R104) -/

/-- ETH_PORT_READ (R398). -/
def runEthPortRead (c : Cmd) (s : State) : State × CmdRes :=
  if c.params.length ≠ 0 then (s, refuse stBadLength 0)
  else (s, fin ((List.range 3).flatMap (fun n =>
    let p := s.port n
    le 1 n ++ le 1 (if s.ethOn n then p.link else 0) ++ le 1 p.plca ++ [0] ++ be 6 (s.fac.mac + n) ++ [0, 0] ++
      p.counts.flatMap (le 4))))

/-- ETH_PROBE (R396, R398). -/
def runEthProbe (c : Cmd) (s : State) : State × CmdRes :=
  let b := c.params
  let n := u8 b 0
  if b.length ≠ 12 then (s, refuse stBadLength 0)
  else if 2 < n then (s, refuse stBadParam 0)
  else if n ≠ 0 ∧ bit c.agreed 192 = false then (s, refuse stNotNegotiated 192)
  else if u8 b 1 = 0 ∨ 64 < u8 b 1 ∨ u16 b 2 < 64 ∨ s.ethM n + 18 < u16 b 2 ∨ u16 b 10 ≠ 0 then (s, refuse stBadParam 0)
  else if s.ethUp n = false then (s, refuse 0x0B40 0)
  else (s.mapEth (fun e => { e with probes := e.probes ++ [{
    port := n, count := u8 b 1, len := u16 b 2, dst := rdBe b 4 6, sess := c.sess, acc := c.acc, started := false, res := [] }] }),
    .later)

/-- DIA_ETH_CAPTURE (R104). -/
def runEthCapture (c : Cmd) (s : State) : State × CmdRes :=
  let b := c.params
  if b.length ≠ 8 then (s, refuse stBadLength 0)
  else if 2 < u8 b 0 ∨ 2 < u8 b 1 ∨ u16 b 2 ≠ 0 ∨ u32 b 4 = 0 ∨ 60000 < u32 b 4 then (s, refuse stBadParam 0)
  else if s.prm 0x7F12 ≠ 1 then (s, refuse stDenied 0)
  else if s.sys.ethCap.isSome then (s, refuse stDenied 0x0012)
  else if s.ethUp (u8 b 0) = false then (s, refuse 0x0B40 0)
  else (s.mapSys (fun y => { y with
    capBuf := [], capFrames := 0, capDone := false,
    ethCap := some ⟨u8 b 0, u8 b 1, false, u32 b 4 * 1000000, s.now, c.sess, c.acc⟩ }), .later)

/-- DIA_CAPTURE_READ (R104, R132): FAULT where a word it would return is poisoned (R425). -/
def runCaptureRead (c : Cmd) (s : State) : State × CmdRes :=
  let b := c.params
  if b.length ≠ 6 then (s, refuse stBadLength 0)
  else
    let off := u32 b 0
    let len := u16 b 4
    if off % 16 ≠ 0 ∨ len % 16 ≠ 0 ∨ len < 16 ∨ 4064 < len then (s, refuse stBadParam 0)
    else if s.sys.ethCap.isSome then (s, refuse stDenied 0x0012)
    else if s.sys.capDone = false then (s, refuse stDenied 0x0011)
    else if s.sys.capBuf.length < off + len then (s, refuse stBadParam 0)
    else if s.poisonedIn off (off + len) then (s, .fin (Ans.bare stFault 0))
    else (s, fin (slice s.sys.capBuf off len))

end State

end Sys2Proof.Machine
end

