-- ==== Sys2Proof/Machine/Fixes.lean ====
section
/-! DEFINITION. Corrections on the air, RTCM output, self-solved reports, observation records, base-solved fixes, modes and
the fixes block's opcodes (R141 to R171). The solver's arithmetic and the RTCM bodies are free values (assumption 8). -/

namespace Sys2Proof.Machine

/-- The SIGNAL code of a system and band (R108, R146). -/
def bandSignal (sys band : Nat) : Nat := 2 * sys - 1 + band

/-- SAT of R146. -/
def satByte (sys svid : Nat) : Nat := sys * 64 + (svid - 1)

/-- A pseudorange in mm, from µm. -/
def prMm (o : SigObs) : Int := ((o.pr + 500) / 1000 : Nat)

/-- λ of the band in 10^-12 m, as R154 names it. -/
def lambdaNm (band : Nat) : Int := if band = 0 then 190293673 else 254828049

/-- The F32 code of n / 2 for a natural number, rounded to nearest, ties to even (R150, R161). -/
def f32Half (n : Nat) : Nat :=
  if n = 0 then 0 else
  let e := Nat.log2 n
  if e ≤ 23 then (126 + e) * 8388608 + (n * 2 ^ (23 - e) - 8388608)
  else
    let d := 2 ^ (e - 23)
    let q := n / d
    let r := n % d
    let m := if 2 * r < d ∨ (2 * r = d ∧ q % 2 = 0) then q else q + 1
    (126 + e) * 8388608 + (m - 8388608)

/-- An F32 variance in mm² as a standard deviation in mm, rounded up, holding at FFFFh (R162). -/
def sigmaMm (units : Int) : Nat := min 0xFFFF (ceilSqrt (ceilDiv units.toNat (2 ^ 149)))

/-- A fix record (R161); `cov` tells whether the covariance is shown. -/
def fixBytes (cov : Bool) (f : FixRec) : Bytes :=
  le 8 f.epoch ++ le 4 f.tick ++ le 1 f.robot ++ le 1 f.typ ++ le 1 f.source ++ le 1 f.reason ++ le 2 f.flags ++ le 2 f.age ++
  le 1 f.sats ++ le 1 f.sigs ++ le 1 f.fixedAmb ++ le 1 f.timeQ ++ leS 4 f.enu.1 ++ leS 4 f.enu.2.1 ++ leS 4 f.enu.2.2 ++
  leS 8 f.xyz.1 ++ leS 8 f.xyz.2.1 ++ leS 8 f.xyz.2.2 ++
  (if cov then (padTo 6 0 (f.cov.take 6)).flatMap (le 4) else zeros 24) ++ le 2 f.ratio ++ le 2 f.resid

/-- The record of a robot without one (R168). -/
def noFix (robot reason : Nat) : FixRec := {
  epoch := 0, tick := 0, robot := robot, typ := 0, source := 0, reason := reason, flags := 0, age := 0, sats := 0, sigs := 0,
  fixedAmb := 0, timeQ := 0, enu := (0, 0, 0), xyz := (0, 0, 0), cov := [], ratio := 0, resid := 0 }

/-- The fix state of a robot that has just entered the flock (R141). -/
def FixRobot.fresh : FixRobot := {
  base := false, rate := 0, pend := none, newest := none, own := none, corsIn := 0, corsMissed := 0, missRun := 0, sigs := [],
  lastEpoch := none, keyFrom := none, keyFirst := false, filter := 0, started := false, typ := 0, validRun := 0, released := false, arRun := false,
  lastGood := 0, resets := [], restarts := [] }

/-- The filter restarts (R159, R165). -/
def FixRobot.restart (x : FixRobot) : FixRobot :=
  { x with started := false, filter := 0, validRun := 0, released := false, resets := [] }

/-- The state for a fix of the epoch at `t`: restarted first where a restart is due at or before it. -/
def FixRobot.upTo (t : Nat) (x : FixRobot) : FixRobot :=
  if x.restarts.any (fun e => decide (e ≤ t)) then { x.restart with restarts := x.restarts.filter (fun e => decide (t < e)) } else x

/-- The signals of a COR whose ambiguity is reset, by 2 × SAT + band. -/
def freshKeys (sigs : List ObsSig) : List Nat := (sigs.filter (fun o => o.fresh)).map (fun o => 2 * o.sat + o.band)

/-! ### The compact observation record (R152 to R156) -/

/-- NSAT, NSIG, the SAT list and the bytes of BANDS. -/
def corSats (b : Bytes) : List Nat := (List.range (u8 b 2)).map (fun i => u8 b (8 + i))
def corBands (b : Bytes) (i : Nat) : Nat := u8 b (8 + u8 b 2 + i / 4) / 4 ^ (i % 4) % 4

/-- Where the entries begin. -/
def corEntriesAt (b : Bytes) : Nat := 8 + u8 b 2 + ceilDiv (u8 b 2) 4

/-- The satellites and bands of the entries, in order (R152). -/
def corSignals (b : Bytes) : List (Nat × Nat) :=
  ((corSats b).zipIdx).flatMap (fun x =>
    (if bit (corBands b x.2) 0 then [(x.1, 0)] else []) ++ (if bit (corBands b x.2) 1 then [(x.1, 1)] else []))

/-- Reads `n` entries: whether each is a key, and its value; none when the bytes run out or some are left (R153). -/
def corEntries : Nat → Bytes → Option (List (Bool × Nat))
  | 0, b => if b = [] then some [] else none
  | n + 1, b =>
    let key := u8 b 0 % 2 == 1
    let k := if key then 8 else 2
    if b.length < k then none else (corEntries n (b.drop k)).map (fun t => (key, rd b 0 k) :: t)

/-- Strictly ascending. -/
def ascending : List Nat → Bool
  | a :: b :: t => decide (a < b) && ascending (b :: t)
  | _ => true

/-- The first reason for which a COR is discarded whole (R156); `idx` is the EPOCH_IDX of its slot. -/
def corReason (b : Bytes) (idx : Nat) : Option Nat :=
  match (if b.length < 8 ∨ 128 < b.length then none else corEntries (u8 b 3) (b.drop (corEntriesAt b))) with
  | none => some 1
  | some es =>
    let n := u8 b 2
    let lastBits := if n % 4 = 0 then 0 else u8 b (corEntriesAt b - 1) / 4 ^ (n % 4)
    if (corSignals b).length ≠ u8 b 3 ∨ (List.range n).any (fun i => corBands b i == 0) then some 2
    else if u8 b 0 / 16 ≠ 1 ∨ u8 b 0 % 8 ≠ 0 ∨ lastBits ≠ 0 then some 3
    else if ascending (corSats b) = false ∨ (corSats b).any (fun x => x / 64 == 0 || decide (svidMax (x / 64) < x % 64 + 1))
      then some 4
    else if bit (u8 b 0) 3 ∧ es.any (fun e => !e.1) then some 5
    else if u8 b 1 ≠ idx then some 7
    else none

/-- What decoding one entry gives: the signal's new state, its observation, the carrier's change in 1/256 cycle since the
previous epoch, a failed window (reason 6) and an undecodable delta. -/
structure Decoded where
  st : Option SigState
  obs : Option ObsSig
  dy : Option Int
  window : Bool
  undec : Bool
  /-- A key with SLIP that was not decoded: what was held of the signal goes (R164). -/
  drop : Bool

/-- Decodes one entry (R154, R164, R165): `o` is the base's own ANT_A observation of the signal at the epoch, `baseSlip` tells of a slip
of the base's signal since the robot's previous epoch of it, and `hold` is the epochs of FIX_HOLD_S. -/
def decodeEntry (n : Nat) (clock : Int) (hold : Nat) (o : Option SigObs) (baseSlip : Bool) (st : Option SigState) (sat band : Nat)
    (e : Bool × Nat) : Decoded :=
  match o with
  | none => ⟨none, none, none, false, false, e.1 && bit e.2 2⟩
  | some o =>
    if e.1 then
      let code : Int := field e.2 40 24
      let phi : Int := field e.2 19 21
      let rate := toSigned 16 (field e.2 3 16)
      let slip := bit e.2 2
      let half := bit e.2 1
      let pb := prMm o
      let x0 := clock + 10 * code
      let x := x0 + 167772160 * State.rndRat (((pb - x0 : Int) : Rat) / 167772160)
      if 40000000 < (x - pb).natAbs then ⟨none, none, none, true, false, slip⟩
      else
        let old := st.isNone || slip || baseSlip || (match st with
          | some t => decide (t.n + hold < n) || decide (t.used + hold < n)
          | none => true)
        let dy : Option Int := match st with
          | some t => if t.n + 1 = n ∧ slip = false then
              let yu := phi + 2097152 * State.rndRat (((t.y + 64 * rate - phi : Int) : Rat) / 2097152)
              some (yu - t.y) else none
          | none => none
        let used := match st with | some t => if old then n else t.used | none => n
        ⟨some ⟨n, x, phi, phi - 64 * rate, half, used⟩, some ⟨sat, band, x, phi, half, old⟩, dy, false, false, false⟩
    else
      match st with
      | none => ⟨none, none, none, false, true, false⟩
      | some t =>
        if t.n + 1 ≠ n then ⟨none, none, none, false, true, false⟩
        else
          let dcarr := toSigned 10 (field e.2 6 10)
          let dcmc := toSigned 5 (field e.2 1 5)
          let y := 2 * t.y - t.yPrev + 4 * dcarr
          let x := t.x + State.rndRat (((lambdaNm band * (y - t.y) : Int) : Rat) / 256000000) + 200 * dcmc
          let fresh := baseSlip || decide (t.used + hold < n)
          ⟨some ⟨n, x, y, t.y, t.half, if fresh then n else t.used⟩, some ⟨sat, band, x, y, t.half, fresh⟩, some (y - t.y),
            false, false, false⟩

namespace State

/-- Changes the fixes block. -/
def mapFix (f : Fix → Fix) (s : State) : State := { s with fix := f s.fix }

/-- A robot's fix state. -/
def fr (s : State) (r : Nat) : FixRobot := Tab.getD r FixRobot.fresh s.fix.robots

/-- Changes a robot's fix state. -/
def mapFr (r : Nat) (f : FixRobot → FixRobot) (s : State) : State :=
  s.mapFix (fun x => { x with robots := Tab.upd r FixRobot.fresh f x.robots })

/-- Corrections and base-solved fixes are withheld (R149). -/
def withheld (s : State) : Bool := s.basePos.isNone || s.antCut 0

/-- CORR_WITHHELD: at the start of a period, and when the other cause arises within it (R149). -/
def withheldPhase (s : State) : State :=
  let a := s.basePos.isNone
  let b := s.antCut 0
  let (a0, b0) := s.fix.withheld
  let s := s.mapFix (fun x => { x with withheld := (a, b) })
  if a ∧ a0 = false then s.raise0 0x0305 .warning 1 0
  else if b ∧ b0 = false then s.raise0 0x0305 .warning 2 0
  else s

/-- The base set of an epoch, if the K9 holds it and queue 14 has brought it to the solver (R429, R430). -/
def baseSet (s : State) (epoch : Nat) : Option MeasSet := if s.fixedDown 14 then none else s.gns.sets.find? (fun m => m.epoch == epoch)

/-- A set's ANT_A record of a satellite and band, with its STATE byte. -/
def baseSig (m : Option MeasSet) (sat band : Nat) : Option (SigObs × Nat) :=
  match m with
  | none => none
  | some m => (m.recs.find? (fun (x : Nat × SigObs × Nat × Nat) => x.2.1.ant == 0 && x.2.1.sys == sat / 64 &&
      x.2.1.svid == sat % 64 + 1 && x.2.1.signal == bandSignal (sat / 64) band)).map (fun x => (x.2.1, x.2.2.1))

/-- The robot's present epoch number n, and its instant (R142). -/
def epochNo (s : State) (rate : Nat) : Nat := s.clk.count * rate / 1000000000
def epochAt (rate n : Nat) : Nat := if rate = 0 then 0 else n * 1000000000 / rate

/-- The parameters of the site frame, for the free functions of R247 and R150. -/
def siteFrame (s : State) : List Int :=
  [s.prmS 64 0x0601, s.prmS 64 0x0602, s.prmS 32 0x0603, s.prmS 32 0x0604]

/-- Records the base signals that slip or lose lock at the newest base epoch (R164). -/
def noteSlips (s : State) : State :=
  match s.gns.sets with
  | [] => s
  | m :: rest =>
    let antA (m : MeasSet) : List SigObs := (m.recs.map (fun r => r.2.1)).filter (fun o => o.ant == 0)
    let key (o : SigObs) : Nat := 2 * satByte o.sys o.svid + b2n (isL5 o.signal)
    let now := (antA m).map key
    let gone := match rest.head? with | some p => ((antA p).map key).filter (fun k => !now.contains k) | none => []
    let slipped := ((antA m).filter (fun o => o.slip || !o.lock)).map key ++ gone
    s.mapFix (fun f => { f with baseSlip := slipped.foldl (fun t k => Tab.put k ((m.epoch :: Tab.getD k [] t).take 24) t) f.baseSlip })

/-- Decodes a valid COR for epoch `n` (R154), judging geometry-free jumps for satellites with both bands (R164). A decodable COR after
FIX_HOLD_S seconds without one restarts the filter (R165). -/
def decodeCor (r n : Nat) (b : Bytes) (s : State) : State :=
  let x := s.fr r
  let clock := i32 b 4
  let m := s.baseSet (epochAt x.rate n)
  let hold := s.prm 0x0309 * x.rate
  let es := (corEntries (u8 b 3) (b.drop (corEntriesAt b))).getD []
  let slipped (k : Nat) : Bool := match Tab.find? k x.sigs with
    | some t => (Tab.getD k [] s.fix.baseSlip).any (fun e => decide (epochAt x.rate t.n < e ∧ e ≤ epochAt x.rate n))
    | none => false
  let ds := (List.zip (corSignals b) es).map (fun p =>
    ((p.1.1, p.1.2), decodeEntry n clock hold ((baseSig m p.1.1 p.1.2).map Prod.fst) (slipped (2 * p.1.1 + p.1.2))
      (Tab.find? (2 * p.1.1 + p.1.2) x.sigs) p.1.1 p.1.2 p.2))
  let dyOf (sat band : Nat) : Option Int :=
    ((ds.find? (fun d => d.1.1 == sat && d.1.2 == band)).bind (fun d => d.2.dy))
  let jump (sat : Nat) : Bool := match dyOf sat 0, dyOf sat 1 with
    | some a, some c => decide ((s.prm 0x030B : Int) * 256000000 < |lambdaNm 0 * a - lambdaNm 1 * c|)
    | _, _ => false
  let obs := ds.filterMap (fun d => d.2.obs.map (fun o => { o with fresh := o.fresh || jump d.1.1 }))
  let sigs := ds.foldl (fun (t : Tab SigState) d => match d.2.st with
    | some st => Tab.put (2 * d.1.1 + d.1.2) st t
    | none => if d.2.drop then Tab.del (2 * d.1.1 + d.1.2) t else t) x.sigs
  let undec := ds.any (fun d => d.2.undec)
  let whole := ds.all (fun d => d.2.obs.isSome)
  let s := ds.foldl (fun s d => if d.2.window then s.raise 0x0303 .warning 6 1 r else s) s
  let idle := decide (s.prm 0x0309 * 1000000000 < s.now - x.lastGood)
  let s := s.mapFr r (fun x => { x with
    sigs := sigs
    lastGood := if obs.isEmpty then x.lastGood else s.now
    restarts := if idle && !obs.isEmpty then x.restarts ++ [epochAt x.rate n] else x.restarts
    keyFrom := if whole then none else if undec then some (x.keyFrom.getD (n % 256)) else x.keyFrom })
  s.mapFix (fun f => { f with inbox := f.inbox ++ [{
    robot := r, epoch := n, arrived := s.now, clock := clock, sigs := obs, bad := false, instant := epochAt x.rate n, whole := whole
    undecodable := undec, late := false }] })

/-- A COR arrives in its slot (R156, R165): counted, validated and decoded. -/
def corFrame (r : Nat) (b : Bytes) (s : State) : State :=
  let x := s.fr r
  if x.base = false then s
  else
    let n := s.epochNo x.rate
    let s := s.mapFr r (fun x => { x with corsIn := inc32 x.corsIn, missRun := 0, lastEpoch := some n })
    match corReason b (n % 256) with
    | some k =>
      let s := s.raise 0x0303 .warning k 1 r
      s.mapFix (fun f => { f with inbox := f.inbox ++ [{
        robot := r, epoch := n, arrived := s.now, clock := 0, sigs := [], bad := true, instant := epochAt x.rate n, whole := false
        undecodable := false, late := false }] })
    | none => s.decodeCor r n b

/-! ### Fix records (R161 to R166) -/

/-- The flags of R161 that the K9's own state gives, for a record that rests on the base set `set`. -/
def fixFlags (s : State) (set : Option MeasSet) : List Nat :=
  (match set with | some m => if bit m.flags 4 then [3] else [] | none => []) ++
  (if s.gns.alarm.isEmpty then [] else [5]) ++ (if s.timeValid then [] else [6])

/-- A record is complete: newest of its robot, queued, and its change of type reported (R161, R163); `n` is its epoch's number. -/
def putFix (f : FixRec) (n : Nat) (s : State) : State :=
  let q := s.prm 0x0300
  let s := if q = 0 then s else
    s.publish q (fixBytes (bit s.deviceCat 69) f) (fun s => s.raise0 0x0307 .warning 1 0)
  let old := (s.fr f.robot).typ
  let s := s.mapFr f.robot (fun x => { x with
    newest := some f, own := if f.source = 0 then some (f, n % 256) else x.own, typ := if f.source = 0 then f.typ else x.typ })
  if f.source = 0 ∧ f.typ ≠ old then s.raise 0x0301 .notice f.typ 1 f.robot else s

/-- A NONE record of epoch `n` at `at_`, complete `us` µs after the boundary (R161, R163, R165); the consecutive epochs that FIXED needs
end. -/
def noneFix (r n at_ reason : Nat) (late : Bool) (us : Nat) (s : State) : State :=
  (s.mapFr r (fun x => { x with validRun := 0 })).putFix { noFix r reason with
    epoch := at_, tick := s.sys.tick, flags := bitsOf ((if late then [0] else []) ++ s.fixFlags (s.baseSet at_))
    age := min 0xFFFF (ceilDiv (s.clk.count + 1000 * us - at_) 1000000)
    timeQ := match s.baseSet at_ with | some m => m.timeQ | none => s.timeQ } n

/-- A COR's ambiguity resets wait for the next computed fix of the robot (R164). -/
def resetsWait (c : CorIn) (s : State) : State :=
  s.mapFr c.robot (fun x => { x with resets := (x.resets ++ freshKeys c.sigs).dedup })

/-- One usable signal as the solver takes it. -/
def solverSig (o : ObsSig) (b : SigObs) : List Int :=
  [o.sat, o.band, o.x, o.y, b2n o.half, b2n o.fresh, b.pr, b.carrier, b.elev, b.cn0]

/-- The fix of one decoded COR (R157 to R166): `us` is how long after the boundary the engine completed it. Without a base set of its epoch
it is not computed. -/
def fixOne (c : CorIn) (us : Nat) (s : State) : State :=
  let r := c.robot
  let x := (s.fr r).upTo c.instant
  let s := s.mapFr r (fun _ => x)
  if c.bad then s.noneFix r c.epoch c.instant 2 c.late us
  else match s.baseSet c.instant with
  | none => s.resetsWait c
  | some set =>
    if c.sigs.isEmpty then s.noneFix r c.epoch c.instant 4 c.late us
    else
      let pairs := c.sigs.filterMap (fun o => (baseSig (some set) o.sat o.band).map (fun b => (o, b)))
      let heldBack := pairs.any (fun p => bit p.2.2 2)
      let use := pairs.filter (fun p => !bit p.2.2 2 && !bit p.2.2 5 &&
        decide (((s.prm 0x0202 : Nat) : Int) ≤ p.2.1.elev))
      let sats := (use.map (fun p => p.1.sat)).dedup
      let need := 3 + ((sats.map (fun k => k / 64)).dedup).length
      if sats.length < need then (s.resetsWait c).noneFix r c.epoch c.instant 3 c.late us
      else
        let (flt, res) := Config.solveFix x.filter (use.flatMap (fun p => solverSig { p.1 with fresh := p.1.fresh || x.resets.contains (2 * p.1.sat + p.1.band) } p.2.1))
          [(set.epoch : Int), set.bias, set.drift, c.clock]
          [s.prm 0x0306, s.prm 0x0307, s.prm 0x0308, s.prm 0x030C, x.typ, x.validRun, b2n x.started, b2n x.released, (s.basePos.getD (0, 0, 0)).1,
            (s.basePos.getD (0, 0, 0)).2.1, (s.basePos.getD (0, 0, 0)).2.2]
        let v (i : Nat) : Int := res.getD i 0
        let ratio := min 0xFFFF (v 9).toNat
        let resid := min 0xFFFF (v 10).toNat
        let ambs := min 255 (v 11).toNat
        let carrier := (v 12).toNat
        let enough := decide (s.prm 0x0307 ≤ ambs)
        let test := enough && decide (s.prm 0x0306 ≤ ratio)
        let run := if test then x.validRun + 1 else 0
        let limit := v 13 != 0
        let fixed := if x.typ = 3 then enough else !limit && decide (s.prm 0x0308 ≤ run)
        let code : Bool := decide (carrier < need) || !x.started
        let high := decide (10 * s.prm 0x030C < resid)
        let typ := if code then 1 else if fixed && !high then 3 else 2
        let freed := !code && fixed && high
        let amb := if freed then 0 else ambs
        let xyz := (clampS 64 (v 0), clampS 64 (v 1), clampS 64 (v 2))
        let enu := Trig.siteOfEcef s.siteFrame xyz.1 xyz.2.1 xyz.2.2
        let site := s.prm 0x0600 == 1 && inExtent enu.1 && inExtent enu.2.1
        let taken := use.map (fun p => 2 * p.1.sat + p.1.band)
        let s := s.mapFr r (fun y => { y with
          filter := flt, started := true, validRun := if freed then 0 else run, released := freed, arRun := limit
          resets := ((y.resets ++ freshKeys c.sigs).dedup).filter (fun k => !taken.contains k)
          sigs := Tab.mapVals (fun k (st : SigState) =>
            if taken.contains k ∧ epochAt y.rate c.epoch = c.instant then { st with used := c.epoch } else st) y.sigs })
        let s := if limit ∧ x.arRun = false then s.raise 0x0304 .notice 1 1 r else s
        s.putFix {
          epoch := set.epoch, tick := s.sys.tick, robot := r, typ := typ, source := 0, reason := 0
          flags := bitsOf ((if c.late then [0] else []) ++ (if limit then [1] else []) ++ (if heldBack then [2] else []) ++
            (if site then [4] else []) ++ (if v 14 != 0 then [7] else []) ++ s.fixFlags (some set))
          age := min 0xFFFF (ceilDiv (s.clk.count + 1000 * us - set.epoch) 1000000)
          sats := min 255 sats.length, sigs := min 255 use.length, fixedAmb := amb, timeQ := set.timeQ
          enu := if site then (clampS 32 enu.1, clampS 32 enu.2.1, clampS 32 enu.2.2) else (0, 0, 0), xyz := xyz
          cov := ((List.range 6).map (fun i => (v (3 + i)).toNat % 4294967296))
          ratio := if typ = 3 then ratio else 0, resid := resid } c.epoch

/-- A self-solved report becomes a fix record, or is discarded (R150). -/
def sprFix (r : Nat) (b : Bytes) (s : State) : State :=
  if b.length ≠ 28 ∨ u8 b 0 / 16 ≠ 1 ∨ 3 < u8 b 0 % 16 ∨ 2 ≤ u8 b 2 ∨ u8 b 3 ≠ 0 ∨ u16 b 26 ≠ 0 then
    (s.mapRobot r (fun x => { x with skipped := inc32 x.skipped })).raise 0x0303 .warning 8 1 r
  else
    let ms := s.clk.count / 1000000
    let ep := (ms - (ms + 4294967296 - u32 b 4 % 4294967296) % 4294967296) * 1000000
    let e := i32 b 8
    let n := i32 b 12
    let u := i32 b 16
    let site := s.prm 0x0600 == 1 && inExtent e && inExtent n
    let sh := u16 b 20
    let su := u16 b 22
    let hh := f32Half (sh * sh)
    s.putFix {
      epoch := ep, tick := s.sys.tick, robot := r, typ := u8 b 0 % 16, source := 1, reason := 0
      flags := bitsOf ((if site then [4] else []) ++ s.fixFlags s.gns.sets.head?), age := min 0xFFFF (ceilDiv (s.clk.count - ep) 1000000)
      sats := u8 b 1, sigs := 0, fixedAmb := 0
      timeQ := match s.gns.sets.head? with | some m => m.timeQ | none => s.timeQ
      enu := if site then (e, n, u) else (0, 0, 0)
      xyz := if site then Trig.ecefOfSite s.siteFrame e n u else (0, 0, 0)
      cov := [hh, 0, 0, hh, 0, f32Half (2 * su * su)], ratio := 0, resid := 0 } 0

/-- A solver engine's check fails: out of service until a reset whose self-test passes it (R160). -/
def engineFault (e : Nat) (s : State) : State :=
  if s.fix.enginesBad.contains e then s
  else ((s.mapFix (fun f => { f with enginesBad := f.enginesBad ++ [e] })).raise 0x0306 .fault 1 6 e).budgetShort 1 6 e

/-- The fixes of a tick under way (R157): the records completed, when each engine is free in µs, how many fixes the window still
completes, and what is left for the next tick. -/
structure Dealing where
  s : State
  recs : List FixRec
  free : List (Nat × Nat)
  left : Nat
  kept : List CorIn

/-- The engine in service that becomes free first, the lower-numbered at a tie (R157). -/
def firstFree (s : State) (free : List (Nat × Nat)) : Option (Nat × Nat) :=
  (free.filter (fun e => !s.fix.enginesBad.contains e.1)).foldl (fun b e => match b with
    | none => some e
    | some x => if e.2 < x.2 then some e else some x) none

/-- A record that `s'` has completed beyond those of `a`. -/
def Dealing.took (a : Dealing) (r : Nat) (s' : State) : Dealing :=
  match (s'.fr r).newest with
  | some f => if (a.s.fr r).newest = some f then { a with s := s' } else { a with s := s', recs := a.recs ++ [f] }
  | none => { a with s := s' }

/-- Deals one fix: to no engine where none is in service or the window is over; aborted where its engine fails in it (R160). A fix held
back stays due when its robot's mode or rate changes meanwhile (R54, R55). -/
def dealFix (faults : List (Nat × Option Nat)) (us : Tab Nat) (a : Dealing) (c : CorIn) : Dealing :=
  if (a.s.robot? c.robot).isNone then a
  else if a.s.withheld then { a with s := a.s.resetsWait c }
  else match a.s.firstFree a.free with
  | none => { a with kept := a.kept ++ [c] }
  | some (e, t) =>
    if a.left = 0 then { a with kept := a.kept ++ [c] }
    else if faults.contains (e, some c.robot) then { a with s := a.s.engineFault e, kept := a.kept ++ [c] }
    else
      let done := t + min 2100 (Tab.getD c.robot 0 us)
      ({ a with left := a.left - 1, free := a.free.map (fun (x : Nat × Nat) => if x.1 = e then (e, done) else x) }).took c.robot (a.s.fixOne c done)

/-- The fixes of one tick (R157, R160, R161): those held back first, in their order (R54), then the new ones by robot, at most `done` of
them; `faults` names engines that failed, with the robot whose fix was aborted, and `us` how long each fix runs. Answers the records
completed, in order. -/
def fixPhase (done : Nat) (faults : List (Nat × Option Nat)) (us : Tab Nat) (s : State) : State × List FixRec :=
  let s := faults.foldl (fun s (e : Nat × Option Nat) => if e.2 = none then s.engineFault e.1 else s) s
  let late := s.fix.inbox.filter (fun c => c.late)
  let new := sortBy (fun (a b : CorIn) => decide (a.robot < b.robot ∨ (a.robot = b.robot ∧ a.epoch ≤ b.epoch)))
    (s.fix.inbox.filter (fun c => !c.late))
  let spr := s.fix.sprIn
  let free := [(0, Tab.getD 256 0 us), (1, 0), (2, 0), (3, 0)]
  let a := (late ++ new).foldl (dealFix faults us) ⟨s, [], free, done, []⟩
  let s := a.s.mapFix (fun f => { f with inbox := a.kept.map (fun (c : CorIn) => { c with late := true }), sprIn := [] })
  let a := spr.foldl (fun (a : Dealing) (p : Nat × Bytes) => a.took p.1 (a.s.sprFix p.1 p.2)) { a with s := s }
  (a.s, a.recs)

/-- COR_MISSED: the boundary after an epoch's COR slot has come without a COR (R165). -/
def corMissed (r : Nat) (s : State) : State :=
  let x := s.fr r
  let p := ratePeriod s.sys.slots x.rate
  match s.air.map.items.find? (fun i => i.typ == .cor && i.robot == some r && i.period == p) with
  | none => s
  | some i =>
    let t := s.tickNo
    let n := (t - 1) * s.tickNs * x.rate / 1000000000
    if x.base = false ∨ x.rate = 0 ∨ t = 0 ∨ (t - 1) % max 1 p ≠ i.offset ∨ x.lastEpoch = some n then s
    else
      let run := x.missRun + 1
      let s := s.mapFr r (fun x => { x with corsMissed := inc32 x.corsMissed, missRun := run, lastEpoch := some n })
      let s := if s.withheld then s else s.noneFix r n (epochAt x.rate n) 1 false 0
      if s.prm 0x030A ≤ run then s.raise 0x0302 .warning (min 255 run) 1 r else s

/-- KEY_REQ and KEY_FROM of a robot's feedback (R162, R165). -/
def keyReq (x : FixRobot) (idx : Nat) : Option Nat :=
  match x.keyFrom with
  | some k => some k
  | none => if x.keyFirst then some idx else none

/-- The FIX_FB element of a base-solved robot's newest fix; a self-solved report that came later does not replace it (R162). -/
def feedback (s : State) (r : Nat) : Option Bytes :=
  let x := s.fr r
  match x.own with
  | none => none
  | some (f, idx) =>
    if x.base = false then none
    else
      let kr := keyReq x idx
      let un (i : Nat) : Int := f32Units (f.cov.getD i 0)
      let bits := bitsOf ((if kr.isSome then [0] else []) ++ (if bit f.flags 0 then [1] else []) ++
        (if bit f.flags 3 then [2] else []) ++ (if bit f.flags 4 then [3] else []) ++ (if bit f.flags 5 then [4] else []))
      some (le 1 idx ++ le 1 f.typ ++ le 1 bits ++ le 1 (kr.getD 0) ++ leS 4 f.enu.1 ++ leS 4 f.enu.2.1 ++ leS 4 f.enu.2.2 ++
        le 2 (sigmaMm (un 0 + un 3)) ++ le 2 (sigmaMm (un 5)))

/-! ### Corrections on the air (R144 to R147) -/

/-- The ANT_A signals of a set that hold carrier lock, by order key: those whose carrier integers stand, covered or not (R146). -/
def lockedRecs (m : MeasSet) : List (Nat × SigObs × Nat) :=
  (m.recs.filter (fun (x : Nat × SigObs × Nat × Nat) => x.2.1.ant == 0 && x.2.1.lock)).map
    (fun x => (2 * satByte x.2.1.sys x.2.1.svid + b2n (isL5 x.2.1.signal), x.2.1, x.2.2.1))

/-- The covered signals of a set by order key, with their records (R144, R147). -/
def covered' (s : State) (m : MeasSet) : List (Nat × SigObs × Nat) :=
  let cs := (lockedRecs m).filter (fun x =>
    decide (4 * s.prm 0x0203 ≤ x.2.1.cn0) && decide (((s.prm 0x0202 : Nat) : Int) ≤ x.2.1.elev))
  sortBy (fun a b => decide (a.1 ≤ b.1)) cs

/-- The carrier integer that puts CMC nearest to zero (R146). -/
def chooseInteger (key : Nat) (o : SigObs) : Int :=
  rndRat ((((prMm o) * 1000000 : Int) : Rat) / ((lambdaNm (key % 2) : Int) : Rat) - ((o.carrier : Int) : Rat) / 65536)

/-- CMC in 1/16 mm with a carrier integer (R146). -/
def cmcOf (key : Nat) (o : SigObs) (n : Int) : Int :=
  rndRat (16 * ((((lambdaNm (key % 2) : Int) : Rat) * (((o.carrier : Int) : Rat) / 65536 + ((n : Int) : Rat))) / 1000000 -
    ((prMm o : Int) : Rat)))

/-- Follows the signals in lock over one epoch: a new lock, or a CMC out of range, chooses the integer again (R146). -/
def ccsTrack (cs : List (Nat × SigObs × Nat)) (old : Tab (Int × Bool)) : Tab (Int × Bool) :=
  cs.foldl (fun (t : Tab (Int × Bool)) x =>
    let k := x.1
    let o := x.2.1
    let fresh := (chooseInteger k o, true)
    match Tab.find? k old with
    | none => Tab.put k fresh t
    | some (n, sl) =>
      let c := cmcOf k o n
      if o.slip ∨ c < -8388608 ∨ 8388607 < c then Tab.put k fresh t else Tab.put k (n, sl) t) []

/-- LOCK of R146 from units of 100 ms. -/
def lockCode (t : Nat) : Nat := let sec := t / 10; if sec = 0 then 0 else min 15 (Nat.log2 sec + 1)

/-- A CCS entry (R146). -/
def ccsEntry (t : Tab (Int × Bool)) (x : Nat × SigObs × Nat) : Bytes :=
  let k := x.1
  let o := x.2.1
  let (n, sl) := Tab.getD k (0, false) t
  let rate := rndRat ((-(o.doppler * lambdaNm (k % 2)) : Int) / (50 * 1000000000 : Rat))
  le 1 (k / 2) ++ le 1 (128 * (k % 2) + 64 * b2n o.half + 32 * b2n (bit x.2.2 2) + 16 * b2n sl + lockCode o.lockTime) ++
  le 4 ((prMm o).toNat % 4294967296) ++ le 3 (ofSigned 24 (clampS 24 (cmcOf k o n))) ++ leS 2 (clampS 16 rate)

/-- One part of an epoch's broadcast (R145, R147): it goes on from the order key after the last signal sent, and a frame that has room for
no entry begins no rotation. Answers the payload and what it carries. -/
def ccsPart (m : MeasSet) (part : Nat) (s : State) : State × Bytes :=
  let cs := s.covered' m
  let g := s.prm 0x0201
  let block := decide (part = 0 ∧ m.epoch % 1000000000 < 1000000000 / max 1 g) && s.basePos.isSome
  let room := (s.psduMax (s.prm 0x0507) - 13 - 4 - (if block then 26 else 0)) / 11
  let cap := min room (if block then 8 else 10)
  let start := s.fix.ccsNext
  let ahead := cs.filter (fun x => decide (start ≤ x.1))
  let again := start == 0 || ahead.isEmpty
  let now := (if again then cs else ahead).take cap
  let after := match now.getLast? with | some x => x.1 + 1 | none => start
  let ctl := 16 + 8 * part + 4 * b2n block + 2 * b2n (bit m.flags 4) + b2n (bit m.flags 3)
  let idx := (m.epoch * g + 500000000) / 1000000000 % 256
  let (px, py, pz) := s.basePos.getD (0, 0, 0)
  let pl := le 1 ctl ++ le 1 idx ++ le 1 now.length ++ le 1 (b2n (again && !now.isEmpty)) ++
    (if block then leS 8 px ++ leS 8 py ++ leS 8 pz ++ le 2 (s.prm 0x0305) else []) ++ now.flatMap (ccsEntry s.fix.ccsSig)
  let slips := (now.filter (fun x => (Tab.getD x.1 (0, false) s.fix.ccsSig).2)).map Prod.fst
  (s.mapFix (fun f => { f with
    ccsNext := after, ccsParts := f.ccsParts ++ [⟨start, after, slips, false, false⟩]
    ccsSig := Tab.mapVals (fun k (e : Int × Bool) => if slips.contains k then (e.1, false) else e) f.ccsSig }), pl)

/-- What became of the last epoch's parts (R146, R147, R208): the rotation goes on from the first that was sent on no chain or dropped on
one, and the SLIP bits of such parts stand again. -/
def ccsSettle (f : Fix) : Fix :=
  let lost := f.ccsParts.filter (fun (p : CcsPart) => !p.sent || p.dropped)
  let slips := lost.flatMap CcsPart.slips
  { f with
    ccsNext := match lost.head? with | some p => p.start | none => f.ccsNext
    ccsParts := []
    ccsSig := Tab.mapVals (fun k (e : Int × Bool) => if slips.contains k then (e.1, true) else e) f.ccsSig }

/-- The two CCS frames of an epoch, while R149 does not withhold them (R144). -/
def ccsPhase (m : MeasSet) (s : State) : State × List Bytes :=
  let s := s.mapFix (fun f => let f := ccsSettle f; { f with ccsSig := ccsTrack (lockedRecs m) f.ccsSig })
  if s.withheld then (s, [])
  else
    let (s, a) := s.ccsPart m 0
    let (s, b) := s.ccsPart m 1
    (s, [a, b])

/-! ### RTCM output (R148) -/

/-- One bit step of CRC-24Q, polynomial 186_4CFBh. -/
def crc24Bit (c : Nat) : Nat := if c.testBit 23 then ((c <<< 1) ^^^ 0x1864CFB) % 0x1000000 else c <<< 1

/-- CRC-24Q of a byte string. -/
def crc24q (b : Bytes) : Nat :=
  b.foldl (fun c x => (List.range 8).foldl (fun c _ => crc24Bit c) (c ^^^ (x.toNat <<< 16))) 0

/-- Wraps a message in the RTCM 3 transport layer. -/
def rtcmWrap (body : Bytes) : Bytes :=
  let body := body.take 1023
  let h : Bytes := [0xD3] ++ be 2 body.length ++ body
  h ++ be 3 (crc24q h)

/-- Splits a system's satellites into groups of at most 32. -/
def rtcmGroups : Nat → List (List (Nat × SigObs × Nat)) → List (List (Nat × SigObs × Nat))
  | 0, _ => []
  | _, [] => []
  | n + 1, l => (l.take 32).flatten :: rtcmGroups n (l.drop 32)

/-- Fields of a width in bits and a value, most significant bit first, filled up to whole bytes with zeros. -/
def packBits (fs : List (Nat × Nat)) : Bytes :=
  let (w, v) := fs.foldl (fun (a : Nat × Nat) f => (a.1 + f.1, a.2 * 2 ^ f.1 + f.2 % 2 ^ f.1)) (0, 0)
  let pad := (8 - w % 8) % 8
  be ((w + pad) / 8) (v * 2 ^ pad)

/-- The signal ID of RTCM 10403.3 for the measured component: GPS 1C and 5Q, Galileo 1C and 5Q, BeiDou 1P and 5P (R148; the codes are the
standard's, assumption 144). -/
def rtcmSignal (signal : Nat) : Nat := if isL5 signal then 23 else if signal = 5 then 31 else 2

/-- The epoch time field of an MSM: the time of the week in ms, for BeiDou in its own time, 14 s behind (assumption 144). -/
def rtcmTime (msg epoch : Nat) : Nat := (epoch / 1000000 + 604800000 - (if 1120 ≤ msg then 14000 else 0)) % 604800000

/-- The body of an MSM (R148; layout of the standard, assumption 144): IODS 0, clock steering 1, smoothing fields 0, and the masks of the
satellites, signals and cells in it. -/
def msmBody (msg station epoch : Nat) (more : Bool) (cells : List SigObs) : Bytes :=
  let sats := sortBy (fun a b => decide (a ≤ b)) (cells.map (fun o => o.svid)).dedup
  let ids := sortBy (fun a b => decide (a ≤ b)) (cells.map (fun o => rtcmSignal o.signal)).dedup
  let cell (k i : Nat) : Nat := b2n (cells.any (fun o => o.svid == k && rtcmSignal o.signal == i))
  let (perSat, perCell) := if msg % 10 = 7 then (36, 80) else (18, 48)
  let data := cells.flatMap (fun o =>
    [(o.svid : Int), rtcmSignal o.signal, o.pr, o.carrier, o.doppler, o.lockTime, b2n o.half, o.cn0])
  packBits ([(12, msg), (12, station), (30, rtcmTime msg epoch), (1, b2n more), (3, 0), (7, 0), (2, 1), (2, Config.rtcmField 412),
    (1, 0), (3, 0), (64, (sats.map (fun k => 2 ^ (64 - k))).sum), (32, (ids.map (fun i => 2 ^ (32 - i))).sum)] ++
    sats.flatMap (fun k => ids.map (fun i => (1, cell k i))) ++
    [(perSat * sats.length + perCell * cells.length, Config.rtcmCells msg data)])

/-- The body of message 1005 (R148; layout of the standard, assumption 144): the ARP is ANT_A's phase centre in units of 0.1 mm, and the
GLONASS indicator is 0. -/
def arpBody (station : Nat) (p : Int × Int × Int) : Bytes :=
  let co (v : Int) : Nat × Nat := (38, ofSigned 38 (10 * v))
  packBits [(12, 1005), (12, station), (6, Config.rtcmField 21), (1, Config.rtcmField 22), (1, 0), (1, Config.rtcmField 24),
    (1, Config.rtcmField 141), co p.1, (1, Config.rtcmField 142), (1, 0), co p.2.1, (2, Config.rtcmField 364), co p.2.2]

/-- The MSM messages of an epoch (R148): the multiple message bit is 1 on every one but the last. -/
def rtcmMsms (s : State) (m : MeasSet) : List Bytes :=
  let cells := (s.covered' m).filter (fun x => !bit x.2.2 2)
  let kind := s.prm 0x0302
  let ofSys (sys num : Nat) : List (Nat × List (Nat × SigObs × Nat)) :=
    let c := cells.filter (fun x => x.2.1.sys == sys)
    let sats := (c.map (fun x => x.1 / 2)).dedup
    (rtcmGroups 3 (sats.map (fun k => c.filter (fun x => x.1 / 2 == k)))).map (fun g => (num, g))
  let all := ofSys 1 (1070 + kind) ++ ofSys 2 (1090 + kind) ++ ofSys 3 (1120 + kind)
  all.zipIdx.map (fun x => msmBody x.1.1 (s.prm 0x0305) m.epoch (decide (x.2 + 1 < all.length)) (x.1.2.map (fun c => c.2.1)))

/-- Writes the RTCM messages due at an epoch to their queue, all of them or none (R148). -/
def rtcmPhase (m : MeasSet) (s : State) : State :=
  let q := s.prm 0x0301
  if s.prm 0x0302 = 0 ∨ q = 0 ∨ s.withheld then s
  else
    let sec := m.epoch / 1000000000
    let whole := decide (m.epoch % 1000000000 < 1000000000 / max 1 (s.prm 0x0201))
    let arp := whole && (s.fix.rtcm1005 == 0 || decide (s.fix.rtcm1005 + s.prm 0x0304 ≤ sec))
    let period := 1000000000 / max 1 (s.prm 0x0303)
    let msm := decide (m.epoch % period < 1000000000 / max 1 (s.prm 0x0201))
    let bodies := (if arp then [arpBody (s.prm 0x0305) (s.basePos.getD (0, 0, 0))] else []) ++ (if msm then s.rtcmMsms m else [])
    let pkts := bodies.map rtcmWrap
    if pkts.isEmpty then s
    else match Tab.find? q s.mem.queues with
    | none => s
    | some k =>
      if k.disabled = false ∧ (pkts.map (fun p => slotBytes p.length)).sum ≤ k.size - queueFill k then
        let s := pkts.foldl (fun s p => s.publish q p id) s
        s.mapFix (fun f => { f with rtcm1005 := if arp then sec else f.rtcm1005 })
      else s.dropPackets q pkts.length (fun s => s.raise0 0x0308 .warning 1 0)

/-! ### Modes and opcodes (R141 to R143, R168) -/

/-- GNS_EPOCH_RATE is no multiple of a rate, in effect or in an accepted COMMIT (R142). -/
def rateMismatch (s : State) (f : Nat) : Bool :=
  let gs := s.prm 0x0201 :: s.cfg.pend.filterMap (fun p => Tab.find? 0x0201 p.shadow.params)
  gs.any (fun g => decide (f ≠ 0) && g % f != 0)

/-- The state in which a mode change is pending for the robot it names, due at its whole second (R143). -/
def withModeChange (c : Cmd) (s : State) : State :=
  let least := s.clk.count + max 1000000000 (20 * s.tickNs)
  s.mapFr (u8 c.params 0) (fun y => { y with pend := some {
    base := u8 c.params 1 == 1, rate := u8 c.params 2, instant := ceilDiv least 1000000000 * 1000000000, sess := c.sess, acc := c.acc } })

/-- FIX_MODE_SET (R142, R143, R168). -/
def runFixModeSet (c : Cmd) (s : State) : State × CmdRes :=
  let b := c.params
  let r := u8 b 0
  let base := u8 b 1 == 1
  let f := u8 b 2
  if b.length ≠ 4 then (s, refuse stBadLength 0)
  else if 2 ≤ u8 b 1 ∨ u8 b 3 ≠ 0 ∨ (base ∧ [1, 2, 5, 10, 20].contains f = false) ∨ (base = false ∧ f ≠ 0) then
    (s, refuse stBadParam 0)
  else match missingBit c.agreed ((if base then [67] else []) ++ (if f = 20 then [68] else [])) with
  | some k => (s, refuse stNotNegotiated k)
  | none =>
    match s.robot? r with
    | none => (s, refuse 0x0341 0)
    | some x =>
      let cur := s.fr r
      if cur.pend.isSome then (s, refuse 0x0342 0)
      else if cur.base = base ∧ (base = false ∨ cur.rate = f) then (s, fin (le 8 0))
      else if x.legacy ∧ base then (s, refuse stDenied 0x000F)
      else if base ∧ s.rateMismatch f then (s, refuse 0x0340 r)
      else
        let s' := s.withModeChange c
        let z := s'.siteMap
        let price := if base ∧ (cur.base = false ∨ cur.rate < f) then s.overBudget s'.siteAdmit else none
        match price, s.placeLengths z with
        | some a, _ => if c.replay then (s', .later) else (s, .refuse a)
        | none, .error e => (s, .refuse (scheduleFull e))
        | none, .ok m => (s'.acceptMap m, .later)

/-- A robot's fix state from the instant of its mode change on: the first COR is due for the first epoch at or after it (R143). The decode
state goes at once, and the filter with its ambiguities restarts for the epochs from the instant on, also between two base-solved rates
(DESIGN CHOICE, assumption 166); a fix held back from before it still has the filter of its time. -/
def modeFrom (m : ModeChange) (now : Nat) (x : FixRobot) : FixRobot := { FixRobot.fresh with
  base := m.base, rate := m.rate, newest := x.newest, corsIn := x.corsIn, corsMissed := x.corsMissed, typ := x.typ, lastGood := now
  filter := x.filter, started := x.started, validRun := x.validRun, released := x.released, resets := x.resets
  restarts := x.restarts ++ [m.instant]
  lastEpoch := if m.instant * m.rate / 1000000000 = 0 then none else some (m.instant * m.rate / 1000000000 - 1) }

/-- The COR slots that a robot gives up at its instant leave the maps: what is left is the position asked for last (R143). -/
def dropOldCors (r : Nat) (m : SlotMap) : SlotMap :=
  let pos := (Tab.find? r m.pos).bind (fun p => p.corOff.map (fun o => (o, p.corSlot)))
  { m with items := m.items.filter (fun i => !(i.typ == .cor && i.robot == some r) || some (i.offset, i.slot) == pos) }

/-- Mode changes take effect at their whole second, and their commands complete; the robots' old COR slots end, and the map is placed
without them (R143, R204). -/
def modeChangeInstant (s : State) : State :=
  let due := s.fix.robots.filterMap (fun (e : Nat × FixRobot) => e.2.pend.bind (fun m =>
    if m.instant ≤ s.clk.count then some (e.1, m) else none))
  if due = [] then s
  else
    let s := due.foldl (fun s (x : Nat × ModeChange) =>
      let s := (s.mapFr x.1 (modeFrom x.2 s.now)).mapAir (fun a => { a with
        map := dropOldCors x.1 a.map, next := a.next.map (fun (n : Nat × SlotMap) => (n.1, dropOldCors x.1 n.2)) })
      s.completeOk x.2.sess x.2.acc (le 8 x.2.instant)) s
    match placeMap s.siteMap with
    | .ok m => if m = s.newestMap then s else s.acceptMap m
    | .error _ => s

/-- FIX_READ (R168). -/
def runFixRead (c : Cmd) (s : State) : State × CmdRes :=
  let b := c.params
  if b.length ≠ 4 then (s, refuse stBadLength 0)
  else if u8 b 1 = 0 ∨ 46 < u8 b 1 ∨ 256 < u8 b 0 + u8 b 1 ∨ u16 b 2 ≠ 0 then (s, refuse stBadParam 0)
  else (s, fin ((List.range (u8 b 1)).flatMap (fun i =>
    let r := u8 b 0 + i
    if (s.robot? r).isNone then fixBytes false (noFix r 5)
    else match (s.fr r).newest with
    | some f => fixBytes (bit c.agreed 69) f
    | none => fixBytes false (noFix r 0))))

/-- FIX_STATE_READ (R168). -/
def runFixStateRead (c : Cmd) (s : State) : State × CmdRes :=
  let b := c.params
  if b.length ≠ 4 then (s, refuse stBadLength 0)
  else if u8 b 1 = 0 ∨ 128 < u8 b 1 ∨ 256 < u8 b 0 + u8 b 1 ∨ u16 b 2 ≠ 0 then (s, refuse stBadParam 0)
  else (s, fin ((List.range (u8 b 1)).flatMap (fun i =>
    let r := u8 b 0 + i
    let x := s.fr r
    if (s.robot? r).isNone then le 1 r ++ [0xFF] ++ zeros 14
    else
      let n : FixRec := x.newest.getD (noFix r 0)
      le 1 r ++ le 1 (b2n x.base) ++ le 1 x.rate ++ le 1 n.typ ++ le 1 n.fixedAmb ++ le 1 (b2n x.pend.isSome) ++ le 2 0 ++
        le 4 x.corsIn ++ le 4 x.corsMissed)))

/-- FIX_FILTER_RESET (R168): the filter restarts at the robot's next epoch. -/
def runFixFilterReset (c : Cmd) (s : State) : State × CmdRes :=
  let b := c.params
  if b.length ≠ 4 then (s, refuse stBadLength 0)
  else if rd b 1 3 ≠ 0 then (s, refuse stBadParam 0)
  else if (s.robot? (u8 b 0)).isNone then (s, refuse 0x0341 0)
  else if (s.fr (u8 b 0)).base = false then (s, refuse stDenied 0)
  else (s.mapFr (u8 b 0) (fun x => { x with restarts := x.restarts ++ [epochAt x.rate (s.epochNo x.rate + 1)] }), fin [])

end State

end Sys2Proof.Machine
end

