-- ==== Sys2Proof/Machine/Link.lean ====
section
/-! DEFINITION. Flock membership and the radio link: registration, frame checks and counters, joining, parcels and elements,
packing of downlinks, losing contact, sleep, and the link opcodes (R210, R211, R218 to R246, R605). -/

namespace Sys2Proof.Machine

/-- A newly registered robot (R219). -/
def Robot.fresh (eui cls : Nat) (legacy sleepOk : Bool) (slot chain mcs now : Nat) : Robot := {
  eui := eui, cls := cls, legacy := legacy, sleepOk := sleepOk, keySlot := slot, chain := chain, link := .registered,
  genIssued := 0, gen := 0, joinKey := 0, joinRx := none, joinLast := [], joinTx := 0, txCtr := 0, rxCtr := none, rxLast := [], dsnNext := 1,
  unacked := [], ackSeg := none, queue := [], unrel := [], ackIn := 0, held := [], seg := none, resumed := false, classes := [], rekey := none,
  wake := (0, 0, 0), wakeMiss := 0, doubleRate := false, missDue := false, missSf := 0, seen := false, frames := 0, secDisc := 0,
  secRun := false, bye := false, answer := none, roam := none, roamFrom := none, removing := none, dlMcs := mcs, ulMcs := mcs, ulSnr := none,
  dlSnr := none, ulHist := [], dlHist := [], ulLost := 0, dlLost := 0, ulUp := none, dlUp := none, ulFloor := false, dlFloor := false,
  lastFrame := now, lastDown := now, skipped := 0 }

/-- The successor of a DSN (R232). -/
def succDsn (d : Nat) : Nat := if d = 0xFFFF then 1 else d + 1

/-- How many successor steps lead from DSN `a` to DSN `d`. -/
def dsnSteps (a d : Nat) : Nat := (d + 0xFFFF - a) % 0xFFFF

/-- The code of a link state (R218). -/
def LinkState.code : LinkState → Nat
  | .registered => 0 | .joined => 1 | .asleep => 2 | .lost => 3 | .leaving => 4

/-- Splits records or parcel content into elements, TYPE and value; a parcel is given with TYPE FFh and its DSN first in
the value (R229). What is cut short ends the list. -/
def elements (recs : Bool) : Nat → Bytes → List (Nat × Bytes)
  | 0, _ => []
  | _ + 1, [] => []
  | n + 1, b =>
    if recs ∧ u8 b 0 = 0xFF then
      if b.length < 4 ∨ b.length < 4 + u8 b 3 then []
      else (0xFF, slice b 1 2 ++ slice b 4 (u8 b 3)) :: elements recs n (b.drop (4 + u8 b 3))
    else if b.length < 2 ∨ b.length < 2 + u8 b 1 then []
    else (u8 b 0, slice b 2 (u8 b 1)) :: elements recs n (b.drop (2 + u8 b 1))

namespace State

/-! ### Registration (R219, R220, R243) -/

/-- The element FLOCK_KEY of a generation, key and EFF (R230). -/
def flockElem (gen key eff : Nat) : Bytes := le 4 gen ++ le 2 eff ++ le 16 key

/-- AIR_CFG with an EFF (R230). -/
def airCfg (p : Nat → Nat) (eff : Nat) : Bytes :=
  le 2 eff ++ le 1 (p 0x0500) ++ le 1 (p 0x0502) ++ le 1 (p 0x0504) ++ le 1 (p 0x0505) ++ le 8 (p 0x0503) ++
  le 1 (p 0x0513) ++ le 1 (p 0x0512)

/-- CLASS with an EFF (R293, R294). -/
def classElem (s : State) (c eff : Nat) : Bytes := le 2 eff ++ s.prfClass c

/-- The chain on which a registration is placed (R49, R219). -/
def newChain (legacy : Bool) (s : State) : Nat :=
  if legacy then s.prm 0x050F else s.siteNow.pricedChain

/-- The state in which robot `r` is registered as AIR_ROBOT_ADD's parameters say, self-solving (R141, R219). -/
def robotAdded (b : Bytes) (r : Nat) (s : State) : State :=
  let x := Robot.fresh (u64 b 0) (u8 b 8) (bit (u8 b 9) 0) (bit (u8 b 9) 1) (u16 b 10) (s.newChain (bit (u8 b 9) 0)) (s.prm 0x0508) s.now
  (s.mapLnk (fun l => { l with robots := Tab.put r x l.robots })).mapFix (fun f => { f with
    robots := Tab.put r { FixRobot.fresh with lastGood := s.now } f.robots })

/-- AIR_ROBOT_ADD (R219, R49). -/
def runAirRobotAdd (c : Cmd) (s : State) : State × CmdRes :=
  let b := c.params
  let legacy := bit (u8 b 9) 0
  if b.length ≠ 16 then (s, refuse stBadLength 0)
  else if 16 ≤ u8 b 8 ∨ 4 ≤ u8 b 9 ∨ u32 b 12 ≠ 0 ∨ (legacy = false ∧ 512 ≤ u16 b 10) then (s, refuse stBadParam 0)
  else match missingBit c.agreed (if legacy then [98, 99] else [228]) with
  | some k => (s, refuse stNotNegotiated k)
  | none =>
    let lc := s.prm 0x050F
    if s.lnk.robots.any (fun (e : Nat × Robot) => e.2.eui == u64 b 0) then (s, refuse 0x0545 0)
    else if 256 ≤ s.lnk.robots.length then (s, refuse 0x0544 0)
    else if legacy ∧ 48 ≤ (s.lnk.robots.filter (fun (e : Nat × Robot) => e.2.legacy)).length then (s, refuse 0x0546 0)
    else if legacy ∧ lc = 0xFF then (s, refuse stDenied 4)
    else
      let r := ((List.range 256).find? (fun i => (s.robot? i).isNone)).getD 0
      let ch := s.newChain legacy
      let s' := s.robotAdded b r
      if (legacy = false ∧ s.joinKeyAt (u16 b 10) = false) ∨ (legacy ∧ s.legacyKey (s.prm 0x1300) = false) then (s, refuse 0x1045 0)
      else match (if c.replay then none else s.overBudget s'.siteAdmit), s.placeLengths s'.siteMap with
      | some a, _ => (s, .refuse a)
      | none, .error e => (s, .refuse (scheduleFull e))
      | none, .ok m => (s'.acceptMap m, fin (le 1 r ++ le 1 ch ++ le 2 0))

/-- Releases a robot's index: its tasks return, its slots go free in the next map, and its waiting commands end (R220). Its
reservation entries stay until PAS_RESV_CLEAR (R284). -/
def releaseRobot (r : Nat) (s : State) : State :=
  match s.robot? r with
  | none => s
  | some x =>
    let s := s.returnTasks r
    let s := match (s.pr r).move with | some m => s.complete m.2.1 m.2.2 (Ans.bare stDenied 5) | none => s
    let s := match (s.fr r).pend with | some m => s.complete m.sess m.acc (Ans.bare 0x0341 0) | none => s
    let s := s.mapLnk (fun l => { l with robots := Tab.del r l.robots, intake := l.intake.filter (fun e => e.1 != r || e.2.1 == 0xA8) })
    let s := s.mapFix (fun f => { f with
      robots := Tab.del r f.robots, inbox := f.inbox.filter (fun c => c.robot != r)
      sprIn := f.sprIn.filter (fun (p : Nat × Bytes) => p.1 != r) })
    let s := s.mapPas (fun p => { p with robots := Tab.del r p.robots, planQueue := p.planQueue.filter (fun k => k != r) })
    let s := s.mapTsk (fun k => { k with travel := Tab.del r k.travel, tstate := Tab.del r k.tstate })
    let s := s.mapCrk (fun k => { k with conf := Tab.del r k.conf, zones := Tab.del r k.zones })
    let s := { s with cx := { s.cx with legacy := Tab.del r s.cx.legacy } }
    let s := match placeMap s.siteMap with | .ok m => s.acceptMap m | .error _ => s
    let s := s.raise 0x0509 .notice 0 1 r
    match x.removing with
    | some m => s.completeOk m.1 m.2.1 []
    | none => s

/-- AIR_ROBOT_REMOVE (R220). -/
def runAirRobotRemove (c : Cmd) (s : State) : State × CmdRes :=
  let b := c.params
  let r := u8 b 0
  if b.length ≠ 4 then (s, refuse stBadLength 0)
  else if rd b 1 3 ≠ 0 then (s, refuse stBadParam 0)
  else match s.robot? r with
  | none => (s, refuse 0x0341 0)
  | some x =>
    if x.link = .leaving then (s, refuse stDenied 0)
    else if x.link = .registered ∨ x.link = .lost ∨ x.legacy then (s.releaseRobot r, fin [])
    else
      let s := s.mapRobot r (fun x => { x with link := .leaving, removing := some (c.sess, c.acc, 0) })
      (s.sendElem r 0x09 [0], .later)

/-- AIR_LINK_READ (R243). -/
def runAirLinkRead (c : Cmd) (s : State) : State × CmdRes :=
  let b := c.params
  if b.length ≠ 4 then (s, refuse stBadLength 0)
  else if u8 b 1 = 0 ∨ 128 < u8 b 1 ∨ 256 < u8 b 0 + u8 b 1 ∨ u16 b 2 ≠ 0 then (s, refuse stBadParam 0)
  else (s, fin ((List.range (u8 b 1)).flatMap (fun i =>
    let r := u8 b 0 + i
    match s.robot? r with
    | none => le 1 r ++ [0xFF] ++ zeros 22
    | some x =>
      le 1 r ++ le 1 x.link.code ++ le 1 x.chain ++ le 1 (b2n x.legacy + 2 * b2n x.sleepOk) ++ le 1 x.dlMcs ++ le 1 x.ulMcs ++
        leS 1 (clampS 8 (x.ulSnr.getD (-128))) ++ leS 1 (clampS 8 (x.dlSnr.getD (-128))) ++ le 4 x.gen ++
        le 2 (min 0xFFFF x.unacked.length) ++ le 2 x.wake.2.2 ++ le 4 x.frames ++ le 4 x.secDisc)))

/-! ### Modulation adaptation (R210, R211) -/

/-- An MCS brought into the range that R210 allows: from AIR_MCS_MIN to AIR_MCS_MAX within the option, and AIR_MCS_MIN alone without
catalogue bit 102 (R215). -/
def fitMcs (s : State) (m : Nat) : Nat :=
  if s.bitServed 102 then max (s.prm 0x0508) (min m (min (s.prm 0x0509) (phyCount (s.prm 0x0502) - 1))) else s.prm 0x0508

/-- One input of a direction: the new MCS, the inputs held, and whether this was a step up. -/
def mcsInput (s : State) (m : Nat) (hist : List Int) (up : Option Nat) (x : Int) : Nat × List Int × Option Nat :=
  let opt := s.prm 0x0502
  let mg : Int := s.prm 0x050A
  let hist := lastN 8 (hist ++ [x])
  if s.bitServed 102 = false then (s.prm 0x0508, hist, up)
  else if x < phySnr opt m + mg - 3 then (max (s.prm 0x0508) (m - 1), hist, up)
  else if m < s.prm 0x0509 ∧ up ≠ some s.sys.sfCount ∧ hist.length = 8 ∧ hist.all (fun v => decide (phySnr opt (m + 1) + mg ≤ v))
    then (m + 1, hist, some s.sys.sfCount)
  else (m, hist, up)

/-- A frame of a direction is lost; the second in a row steps down, or meets the floor (R210, R211). -/
def mcsLost (up : Bool) (r : Nat) (s : State) : State :=
  match s.robot? r with
  | none => s
  | some x =>
    let n := (if up then x.ulLost else x.dlLost) + 1
    let m := if up then x.ulMcs else x.dlMcs
    let run := if up then x.ulFloor else x.dlFloor
    let put (k m : Nat) (f : Bool) (s : State) : State := s.mapRobot r (fun x =>
      if up then { x with ulLost := k, ulMcs := m, ulFloor := f } else { x with dlLost := k, dlMcs := m, dlFloor := f })
    if n < 2 then put n m run s
    else if s.prm 0x0508 < m then put 0 (m - 1) run s
    else
      let s := put 0 m true s
      if run then s else s.raise 0x0503 .warning 1 1 r

/-- A frame of a direction has arrived: its run of losses ends (R210, R211). -/
def mcsHeard (up : Bool) (r : Nat) (s : State) : State :=
  s.mapRobot r (fun x => if up then { x with ulLost := 0, ulFloor := false } else { x with dlLost := 0, dlFloor := false })

/-- The uplink and COR slots that have passed, in order: a frame was lost in each in which none was verified (R210; assumption 147). -/
def airLosses (s : State) : State :=
  let due := s.air.due
  let got := s.air.got
  due.foldl (fun s e => if got.contains e then s.mcsHeard true e.1 else if s.joined e.1 then s.mcsLost true e.1 else s)
    (s.mapAir (fun a => { a with due := [], got := [] }))

/-! ### Reception of frames (R193, R212, R221, R224) -/

/-- What reception up to the slot's kind gives. -/
inductive AirStep where
  /-- Discarded and counted. -/
  | drop (s : State)
  /-- Passed on, with the slot's item. -/
  | pass (s : State) (i : SlotItem)

/-- A format discard of a chain (R221). -/
def formatDiscard (c : Nat) (s : State) : State := s.mapChain c (fun k => { k with format := inc16 k.format })

/-- The item of the map whose slot is open on a chain. -/
def openItem (s : State) (c : Nat) : Option SlotItem :=
  (s.itemsAt s.tickNo).find? (fun i => i.chain == c && i.slot + 1 == s.air.slot)

/-- The Security Control byte of a kind of slot: level 5, or level 1 for a join request (R221, R222). -/
def secControl (typ : SlotType) : Nat := if typ = .rejoin then 1 else 5

/-- Reception up to the slot's kind: the SHR's instant, the PHR, the FCS, the length, the slot type and the security level (R193, R197,
R212, R221, R222). From a slot that a stop frame took, the chain takes no frame (R352). -/
def airFront (typ : SlotType) (lo hi : Nat) (f : AirRx) (s : State) : AirStep :=
  let c := f.chain
  if s.chainOn c = false ∨ f.shr < 50 ∨ 250 < f.shr ∨ (s.chain c).stopAsn = some s.air.asn then .drop s
  else if phyCount (s.prm 0x0502) ≤ f.mcs ∨ f.fcs4 then .drop (s.mapChain c (fun k => { k with discards := inc32 k.discards }))
  else if s.psduMax f.mcs < f.len then .drop (s.mapChain c (fun k => { k with oversize := inc32 k.oversize }))
  else if f.fcsOk = false then .drop (s.mapChain c (fun k => { k with discards := inc32 k.discards }))
  else if f.len ≤ 12 then .drop (s.mapChain c (fun k => { k with runts := inc32 k.runts }))
  else
    let s := s.mapChain c (fun k => { k with rcvd := inc32 k.rcvd })
    match s.openItem c with
    | none => .drop (s.formatDiscard c)
    | some i =>
      if s.vit.locked then .drop s
      else if i.typ ≠ typ ∨ f.len < lo ∨ hi < f.len ∨ f.sec ≠ secControl typ then .drop (s.formatDiscard c)
      else match i.robot.bind s.robot? with
      | none => if typ = .rejoin then .pass s i else .drop (s.formatDiscard c)
      | some x => if x.link = .registered ∨ x.link = .lost then .drop (s.formatDiscard c) else .pass s i

/-- A frame is discarded for its MIC (level 1) or as a replay (level 2) (R224). -/
def securityDiscard (r level : Nat) (s : State) : State :=
  let run := match s.robot? r with | some x => x.secRun | none => true
  let s := s.mapRobot r (fun x => { x with secDisc := inc32 x.secDisc, secRun := true })
  if run then s else s.raise 0x0507 .warning level 1 r

/-- What R224 makes of a counter, a MIC and a PSDU: none, accept; else the level, 0 for an echo. -/
def counterCheck (last : Option Nat) (lastPsdu psdu : Bytes) (ctr : Nat) (micOk : Bool) : Option Nat :=
  match last with
  | some k =>
    if ctr < k then some 2
    else if ctr = k then (if micOk ∧ psdu = lastPsdu then some 0 else some 2)
    else if micOk then none else some 1
  | none => if micOk then none else some 1

/-- A verified frame came from a robot (R224, R210, R237, R240). -/
def frameVerified (r : Nat) (f : AirRx) (s : State) : State :=
  match s.robot? r with
  | none => s
  | some x =>
    let (m, h, up) := s.mcsInput x.ulMcs x.ulHist x.ulUp f.snr
    ((s.useKey (4096 + r)).mapAir (fun a => { a with got := a.got ++ [(r, a.asn)] })).mapRobot r (fun x => { x with
      rxCtr := some f.ctr, rxLast := f.payload, secRun := false, frames := inc32 x.frames, seen := true, missSf := 0, wakeMiss := 0
      lastFrame := s.now, ulSnr := some f.snr, ulMcs := m, ulHist := h, ulUp := up })

/-! ### Delivery of elements (R229 to R232, R235, R605) -/

/-- An element skipped and counted (R230). -/
def skipElem (r : Nat) (s : State) : State := s.mapRobot r (fun x => { x with skipped := inc32 x.skipped })

/-- The WAKE that a robot is granted (R239, R240). -/
def grantWake (r req : Nat) (drift : Int) (s : State) : State :=
  match s.robot? r with
  | none => s
  | some x =>
    if x.sleepOk = false ∨ s.bitServed 100 = false then s.skipElem r
    else
      let busy := (s.entriesOfRobot r).any (fun e => e.kind == 0) || (s.taskIn r 4).isSome
      let base := max (s.prm 0x0515) (ceilDiv (2 * drift.natAbs) 10)
      let rate := max 1 (min 100 (if x.doubleRate then 2 * base else base))
      let cap := (140 - s.prm 0x0514) * 1000000 / (rate * 10 * (s.tickNs / 1000))
      let period := if busy ∨ req = 0 then 0 else max 1 (min req (min (s.prm 0x0516) cap))
      let first := s.sfNumber + period
      let s := s.mapRobot r (fun x => { x with doubleRate := false })
      s.sendElem r 0x08 (le 2 period ++ le 2 (first % 65536) ++ le 1 (s.prm 0x0514) ++ le 1 rate)

/-- A WAKE the robot acknowledged takes effect (R218, R239): FIRST is the superframe nearest the present one of that number mod
65,536. -/
def wakeTakes (r : Nat) (v : Bytes) (s : State) : State :=
  let p := u16 v 0
  let ahead := (u16 v 2 + 65536 - s.sfNumber % 65536) % 65536
  let first := if ahead < 32768 ∨ s.sfNumber + ahead < 65536 then s.sfNumber + ahead else s.sfNumber + ahead - 65536
  s.mapRobot r (fun x => { x with
    wake := (p, first, u8 v 5), wakeMiss := 0, missDue := false
    link := if x.link = .joined ∨ x.link = .asleep then (if p = 0 then .joined else .asleep) else x.link })

/-- A robot's own LEAVE is delivered (R605). -/
def leaveElem (r : Nat) (v : Bytes) (s : State) : State :=
  if v ≠ [1] then s.skipElem r
  else match s.robot? r with
  | none => s
  | some x =>
    match x.link with
    | .leaving => s.releaseRobot r
    | .joined | .asleep => s.mapRobot r (fun x => { x with bye := true })
    | _ => s

/-- SLEEP_REQ (R239). -/
def sleepReq (r : Nat) (v : Bytes) (s : State) : State :=
  if v.length ≠ 4 then s.skipElem r else s.grantWake r (u16 v 0) (i16 v 2)

/-- An element that waits for the tick boundary's intake (R39). -/
def toIntake (r typ : Nat) (v : Bytes) (s : State) : State := s.mapLnk (fun l => { l with intake := l.intake ++ [(r, typ, v)] })

/-- A self-solved report goes to the next tick (R150, R157). -/
def sprElem (r : Nat) (v : Bytes) (s : State) : State := s.mapFix (fun f => { f with sprIn := f.sprIn ++ [(r, v)] })

/-- Acts on one delivered element (R230); `rel`: inside a parcel. -/
def deliverElem (rel : Bool) (r typ : Nat) (v : Bytes) (s : State) : State :=
  match typ with
  | 0x82 => s.sprElem r v
  | 0xA9 => s.toIntake r typ v
  | 0xB0 => s.stopState r v
  | _ =>
    if rel = false then s.skipElem r
    else match typ with
    | 0x09 => s.leaveElem r v
    | 0x83 => if v.length = 8 then s.toIntake r typ v else s.skipElem r
    | 0x84 => s.sleepReq r v
    | 0xA0 => if v.length = 16 then s.toIntake r typ v else s.skipElem r
    | 0xA1 => if v.length = 4 then s.toIntake r typ v else s.skipElem r
    | 0xA8 => s.toIntake r typ v
    | _ => s.skipElem r

/-- A SEG element: the value joined so far, the whole element when its last part is in, and whether a run is dropped (R231). The rest of
a dropped run is joined to nothing and not counted again: its inner type stands 256 higher. -/
def segStep (cur : Option (Nat × Bytes)) (v : Bytes) : Option (Nat × Bytes) × Option (Nat × Bytes) × Bool :=
  let t := u8 v 0
  let first := bit (u8 v 1) 0
  let last := bit (u8 v 1) 1
  let rest : Option (Nat × Bytes) := if last then none else some (256 + t, [])
  let have' : Option Bytes := if first then some [] else match cur with
    | some (k, b) => if k = t then some b else none
    | none => none
  match have' with
  | none => (rest, none, cur != some (256 + t, []))
  | some b =>
    let w := b ++ v.drop 2
    if 1024 < w.length then (rest, none, true)
    else if last then (none, some (t, w), false)
    else (some (t, w), none, false)

/-- Delivers a parcel's content in order (R231, R232). -/
def deliverParcel (r : Nat) (content : Bytes) (s : State) : State :=
  (elements false content.length content).foldl (fun s (e : Nat × Bytes) =>
    if e.1 = 0xFE then
      match segStep ((s.robot? r).bind (fun x => x.seg)) e.2 with
      | (cur, whole, bad) =>
        let s := s.mapRobot r (fun x => { x with seg := cur })
        let s := if bad then s.skipElem r else s
        match whole with
        | some w => s.deliverElem true r w.1 w.2
        | none => s
    else (s.mapRobot r (fun x => { x with seg := none })).deliverElem true r e.1 e.2) s

/-- Delivers held parcels that now follow in order. -/
def deliverHeld (r : Nat) : Nat → State → State
  | 0, s => s
  | n + 1, s =>
    match s.robot? r with
    | none => s
    | some x =>
      let next := succDsn x.ackIn
      match x.held.find? (fun h => h.1 == next) with
      | none => s
      | some h =>
        let s := s.mapRobot r (fun x => { x with ackIn := next, held := x.held.filter (fun k => k.1 != next) })
        deliverHeld r n (s.deliverParcel r h.2)

/-- A received parcel (R232). -/
def takeParcel (r d : Nat) (content : Bytes) (s : State) : State :=
  match s.robot? r with
  | none => s
  | some x =>
    let k := dsnSteps (succDsn x.ackIn) d
    if d = 0 then s.skipElem r
    else if k = 0 then
      let s := s.mapRobot r (fun x => { x with ackIn := d })
      (s.deliverParcel r content).deliverHeld r 8
    else if k ≤ 7 then
      s.mapRobot r (fun x => { x with held := if x.held.any (fun h => h.1 == d) then x.held else x.held ++ [(d, content)] })
    else if k ≤ 0x7FFF then s.skipElem r
    else s

/-- Whether a type still waits in the robot's queue or unacknowledged parcels. -/
def stillDue (x : Robot) (typ : Nat) : Bool :=
  let is (e : Nat × Bytes) : Bool := e.1 == typ || (e.1 == 0xFE && u8 e.2 0 == typ)
  x.queue.any (fun e => is (u8 e 0, e.drop 2)) || x.unacked.any (fun p => (elements false p.content.length p.content).any is)

/-- An element that the robot has acknowledged (R218, R220, R326, R348). -/
def ackElem (r typ : Nat) (v : Bytes) (s : State) : State :=
  match typ with
  | 0x08 => s.wakeTakes r v
  | 0x09 => s.releaseRobot r
  | 0x30 => s.toIntake r 0x30 v
  | 0x38 =>
    if bit (u8 v 3) 0 then s
    else s.mapCrk (fun k => { k with zones := Tab.upd r [[]] (fun z => if z.length ≤ 1 then z else z.drop 1) k.zones })
  | _ => s

/-- The content of an acknowledged parcel. -/
def ackParcel (r : Nat) (content : Bytes) (s : State) : State :=
  (elements false content.length content).foldl (fun s (e : Nat × Bytes) =>
    if e.1 = 0xFE then
      match segStep ((s.robot? r).bind (fun x => x.ackSeg)) e.2 with
      | (cur, whole, _) =>
        let s := s.mapRobot r (fun x => { x with ackSeg := cur })
        match whole with
        | some w => s.ackElem r w.1 w.2
        | none => s
    else s.ackElem r e.1 e.2) s

/-- ACK and MAP of an uplink's link header (R229, R233). A parcel sent since the last one that it neither covers nor marks shows a lost
downlink, one that it does shows a downlink that arrived (R210; assumption 147). -/
def takeAcks (r a map : Nat) (s : State) : State :=
  match s.robot? r with
  | none => s
  | some x =>
    let n := match findIdx (fun (p : Parcel) => p.dsn == a) x.unacked with | some (i, _) => i + 1 | none => 0
    let done := x.unacked.take n
    let rest := x.unacked.drop n
    let marked (p : Parcel) : Bool := let k := dsnSteps (succDsn (succDsn a)) p.dsn; decide (k ≤ 6) && bit map k
    let rest' := rest.map (fun p => if p.sentAt.isSome then { p with missed := !marked p } else p)
    let on (p : Parcel) : Bool := p.sentAt.isSome && !p.missed
    let lost := rest.any (fun p => on p && !marked p)
    let heard := done.any on || rest.any (fun p => on p && marked p)
    let s := s.mapRobot r (fun x => { x with unacked := rest' })
    let s := if lost then s.mcsLost false r else if heard then s.mcsHeard false r else s
    done.foldl (fun s p => s.ackParcel r p.content) s

/-- A secured uplink frame (R221, R224, R229). -/
def uplinkFrame (f : AirRx) (s : State) : State :=
  match s.airFront .uplink 17 (s.psduMax f.mcs) f with
  | .drop s => s
  | .pass s i =>
    match i.robot with
    | none => s
    | some r =>
      match s.robot? r with
      | none => s
      | some x =>
        match counterCheck x.rxCtr x.rxLast f.payload f.ctr f.micOk with
        | some 0 => s
        | some k => s.securityDiscard r k
        | none =>
          let s := s.frameVerified r f
          let b := f.payload
          let snr := i8 b 3
          let s := if snr = -128 then s else
            let (m, h, up) := s.mcsInput x.dlMcs x.dlHist x.dlUp snr
            s.mapRobot r (fun x => { x with dlSnr := some snr, dlMcs := m, dlHist := h, dlUp := up })
          let s := s.takeAcks r (u16 b 0) (u8 b 2)
          (elements true b.length (b.drop 4)).foldl (fun s (e : Nat × Bytes) =>
            if e.1 = 0xFF then s.takeParcel r (u16 e.2 0) (e.2.drop 2) else s.deliverElem false r e.1 e.2) s

/-- A verified frame without ACK and MAP: it neither covers nor marks what was sent before it (R233). -/
def parcelsMissed (r : Nat) (s : State) : State :=
  s.mapRobot r (fun x => { x with unacked := x.unacked.map (fun p => if p.sentAt.isSome then { p with missed := true } else p) })

/-- A COR frame (R156, R221, R224, R233). -/
def corAirFrame (f : AirRx) (s : State) : State :=
  match s.airFront .cor 21 (s.psduMax f.mcs) f with
  | .drop s => s
  | .pass s i =>
    match i.robot with
    | none => s
    | some r =>
      match s.robot? r with
      | none => s
      | some x =>
        match counterCheck x.rxCtr x.rxLast f.payload f.ctr f.micOk with
        | some 0 => s
        | some k => s.securityDiscard r k
        | none => ((s.frameVerified r f).parcelsMissed r).corFrame r f.payload

/-! ### Joining (R226 to R228) -/

/-- The map that will be in effect at superframe `sf`, counted since load. -/
def mapAt (s : State) (sf : Nat) : SlotMap :=
  match (s.air.next.filter (fun (m : Nat × SlotMap) => decide (m.1 ≤ sf))).getLast? with
  | some m => m.2
  | none => s.air.map

/-- A robot whose chain is out of service is placed on another under R48 and R49 (R213, R227); answers whether it has a
chain in service. -/
def rechain (r : Nat) (s : State) : State × Bool :=
  match s.robot? r with
  | none => (s, false)
  | some x =>
    if (s.chain x.chain).bad = false then (s, true)
    else match s.siteNow.bestChain with
    | none => (s, false)
    | some c =>
      let s' := s.mapRobot r (fun x => { x with chain := c })
      match s.overBudget s'.siteAdmit, s.placeLengths s'.siteMap with
      | none, .ok m => (s'.acceptMap m, true)
      | _, _ => (s, false)

/-- The next odd superframe after the present one, counted since load: a rejoin slot in which the K9 answers (R226, R241). -/
def answerSf (s : State) : Nat := if s.sfNumber % 2 = 0 then s.sys.sfCount + 1 else s.sys.sfCount + 2

/-- Whether another robot's answer is to go on a chain in superframe `sf`. -/
def answerAt (s : State) (r sf chain : Nat) : Bool :=
  s.lnk.robots.any (fun e => e.1 != r && (match e.2.answer with | some a => a.sf == sf && a.chain == chain | none => false))

/-- The first rejoin slot for answers, from superframe `sf` on, that is free on a chain for a robot's. -/
def freeAnswer (s : State) (r chain : Nat) : Nat → Nat → Nat
  | 0, sf => sf
  | n + 1, sf => if s.answerAt r sf chain then freeAnswer s r chain n (sf + 2) else sf

/-- An answer that waits goes to a later superframe, and START with it. -/
def laterAnswer (a : JoinAns) (sf : Nat) : JoinAns := { a with sf := sf, start := (a.start + (sf - a.sf)) % 65536 }

/-- A rejoin slot of a chain carries one answer: that to the request of the superframe before it (R227). A roaming join's, which may wait
(R241), goes in the next such slot. -/
def giveWay (r sf chain : Nat) (s : State) : State :=
  s.lnk.robots.foldl (fun s e => match e.2.answer with
    | some a =>
      if e.1 ≠ r ∧ a.sf = sf ∧ a.chain = chain then
        s.mapRobot e.1 (fun x => { x with answer := some (laterAnswer a (s.freeAnswer e.1 chain 256 (sf + 2))) })
      else s
    | none => s) s

/-- Prepares the answer to a robot's request, for superframe `sf` counted since load or, where it may wait, a later one (R227, R241);
`deny`: RESULT 01h whatever the map holds (R463). -/
def prepareAnswer (r : Nat) (w : RoamWait) (sf : Nat) (roam deny : Bool) (s : State) : State :=
  let direct := w.sf == s.sys.sfCount
  let sf := if direct then sf else s.freeAnswer r w.chain 256 sf
  let s := if direct then s.giveWay r sf w.chain else s
  let (s, ok) := s.rechain r
  match s.robot? r with
  | none => s
  | some x =>
    let res := if x.link = .leaving then 2
      else if deny ∨ ok = false ∨ (Tab.find? r (s.mapAt (sf + 1)).pos).map (fun p => p.chain) ≠ some x.chain then 1 else 0
    let gen := if res = 0 then x.genIssued + 1 else 0
    s.mapRobot r (fun x => { x with
      genIssued := if res = 0 then gen else x.genIssued
      answer := some {
        reqCtr := w.reqCtr, gen := gen, start := (s.sfNumber + (sf + 1 - s.sys.sfCount)) % 65536, result := res, chain := w.chain
        sf := sf, roam := roam, sleep := w.sleep, asn := w.asn, reqSf := w.sf, key := w.key } })

/-- Of verified requests of one superframe the first in ASN order, then in chain order, is answered, and the rest are ignored (R226): a
request is ignored where another of its superframe stands, unless it came in the same slot on a lower chain. -/
def requestIgnored (s : State) (x : Robot) (chain : Nat) : Bool :=
  let other (sf asn c : Nat) : Bool := sf == s.sys.sfCount && !(asn == s.air.asn && decide (chain < c))
  (match x.answer with | some a => other a.reqSf a.asn a.chain | none => false) ||
  (match x.roam with | some w => other w.sf w.asn w.chain | none => false)

/-- A verified request stands, in place of one that waits (R226, R241): a roaming join asks the former member for the robot, once, and
is answered when it has been released. -/
def takeRequest (r : Nat) (x : Robot) (w : RoamWait) (roam : Bool) (eui : Nat) (s : State) : State :=
  let s := if x.answer.isSome ∨ x.roam.isSome then s.mapRobot r (fun x => { x with roam := none, answer := none }) else s
  let released := match x.answer with | some a => a.roam && a.result == 0 && a.reqSf != s.sys.sfCount | none => false
  if roam ∧ x.link ≠ .leaving ∧ s.outOfStep = false ∧ released = false then
    match x.roam with
    | some v => s.mapRobot r (fun x => { x with roam := some { w with since := v.since } })
    | none => (s.mapRobot r (fun x => { x with roam := some w })).relay 0xFFFF 0x09 (le 8 eui)
  else s.prepareAnswer r w (s.sys.sfCount + 1) roam (roam && s.outOfStep)

/-- A join or roam request in the rejoin slot of an even superframe (R221, R226). -/
def joinRequest (f : AirRx) (s : State) : State :=
  match s.airFront .rejoin 25 25 f with
  | .drop s => s
  | .pass s _ =>
    let b := f.payload
    if s.sfNumber % 2 = 1 ∨ b.length ≠ 12 then s.formatDiscard f.chain
    else
      let eui := u64 b 4
      match List.find? (fun (e : Nat × Robot) => e.2.eui == eui && !e.2.legacy) s.lnk.robots with
      | none =>
        if s.lnk.unknown.contains eui then s
        else (s.mapLnk (fun l => { l with unknown := eui :: l.unknown })).raise0 0x0506 .notice 1 eui
      | some (r, x) =>
        let s := s.readSlot x.keySlot
        if s.rootKeys = false ∨ s.joinKeyAt x.keySlot = false then s
        else
        let s := s.useKey (256 + x.keySlot)
        match counterCheck x.joinRx x.joinLast b f.ctr f.micOk with
        | some 0 => s
        | some k => s.securityDiscard r k
        | none =>
          let s := s.mapRobot r (fun x => { x with joinRx := some f.ctr, joinLast := b, secRun := false })
          let roam := u8 b 0 == 2
          let sleep := bit (u8 b 1) 0
          if u8 b 0 = 0 ∨ 2 < u8 b 0 ∨ 2 ≤ u8 b 1 ∨ u16 b 2 ≠ 0 ∨ (roam ∧ s.bitServed 103 = false) then s.formatDiscard f.chain
          else if s.requestIgnored x f.chain then s
          else s.takeRequest r x ⟨f.ctr, f.chain, s.sys.sfCount, sleep, s.air.asn, s.slotKey x.keySlot, s.sys.sfCount⟩ roam eui

/-- The answer's payload (R227). -/
def answerBytes (s : State) (r : Nat) (a : JoinAns) : Bytes :=
  let p := Tab.find? r (s.mapAt (a.sf + 1)).pos
  let c := match s.robot? r with | some x => x.chain | none => 0
  le 4 a.reqCtr ++ le 4 a.gen ++ le 2 a.start ++ le 1 a.result ++ le 1 r ++ le 1 c ++
  le 1 (match p with | some p => p.dlTick | none => 0) ++ le 1 (match p with | some p => p.dlSlot | none => 0) ++ [0]

/-- START: the robot is joined in its new link generation, and the K9 sends its state (R218, R228, R293, R348). -/
def joinStart (r : Nat) (a : JoinAns) (s : State) : State :=
  let mcs := s.prm 0x0508
  let s := s.endGeneration r
  let s := s.mapRobot r (fun x => { x with
    link := .joined, gen := a.gen, joinKey := a.key, txCtr := 0, dsnNext := 1, ackIn := 0, missSf := 0, seen := false, wakeMiss := 0
    missDue := false, dlMcs := mcs, ulMcs := mcs, ulHist := [], dlHist := [], ulLost := 0, dlLost := 0, ulFloor := false, dlFloor := false
    lastFrame := s.now })
  let s := s.mapTsk (fun k => { k with tstate := Tab.del r k.tstate })
  let eff := s.sfNumber % 65536
  let s := match Tab.find? r s.air.map.pos with | some p => s.sendElem r 0x01 (Pos.bytes p ++ le 2 eff) | none => s
  let s := s.air.next.foldl (fun s (m : Nat × SlotMap) =>
    match Tab.find? r m.2.pos with
    | some p => if Tab.find? r s.air.map.pos = some p then s else s.sendElem r 0x01 (Pos.bytes p ++ le 2 (s.effOf m.1))
    | none => s) s
  let s := match s.air.tickMap with
    | some (e, m) => match Tab.find? r m.pos with
      | some p => if Tab.find? r s.newestMap.pos = some p then s else s.sendElem r 0x01 (Pos.bytes p ++ le 2 (e % 65536))
      | none => s
    | none => s
  let s := s.sendElem r 0x02 (airCfg s.prm eff)
  let s := s.sendElem r 0x06 (flockElem s.lnk.flockGen s.lnk.flockKey eff)
  let s := match s.lnk.flockNext with | some (g, e, k) => s.sendElem r 0x06 (flockElem g k (e % 65536)) | none => s
  let s := if a.sleep then s.grantWake r (s.prm 0x0516) 0 else s
  let s := (s.sendElem r 0x29 (s.classElem (s.clsOf r) eff)).mapRobot r (fun x => { x with
    classes := [(s.sys.sfCount, s.prfClass (s.clsOf r))] })
  let s := s.resendLeg r
  let s := s.sendHoldZones r
  s.raise 0x0504 .notice (if a.roam then 2 else 1) 1 r

/-! ### Keys and counters (R225) -/

/-- An effective superframe at least 64 superframes after the element's first sending, and after every sleeper's next wake
superframe. -/
def keyEff (s : State) : Nat :=
  s.sfNumber + 128 + 2 * ((s.lnk.robots.map (fun (e : Nat × Robot) => e.2.wake.1)).foldl max 0)

/-- Rotates counters that have reached E000_0000h (R225). -/
def rotateKeys (s : State) : State :=
  let lim := 0xE0000000
  let s := s.lnk.robots.foldl (fun s (e : Nat × Robot) =>
    let x := e.2
    let hit := decide (lim ≤ x.txCtr) || (match x.rxCtr with | some c => decide (lim ≤ c) | none => false)
    if s.joined e.1 ∧ hit ∧ x.rekey.isNone then
      let g := x.genIssued + 1
      let eff := s.keyEff
      let s := s.mapRobot e.1 (fun x => { x with genIssued := g, rekey := some (g, eff) })
      s.sendElem e.1 0x07 (le 4 g ++ le 2 (eff % 65536))
    else s) s
  if s.vit.rngFault = false ∧ lim ≤ s.lnk.flockCtr ∧ s.lnk.flockNext.isNone ∧ s.lnk.flockCtr < 0xFFFFFFFF then
    let (k, s) := s.draw 128
    let eff := s.keyEff
    let g := s.lnk.flockGen + 1
    let s := s.mapLnk (fun l => { l with flockNext := some (g, eff, k) })
    (s.lnk.robots.map Prod.fst).foldl (fun s r => if s.joined r then s.sendElem r 0x06 (flockElem g k (eff % 65536)) else s) s
  else s

/-- Key generations whose superframe has come take effect (R225). -/
def keysTake (s : State) : State :=
  let k := s.sfNumber
  let s := s.lnk.robots.foldl (fun s (e : Nat × Robot) =>
    match e.2.rekey with
    | some (g, eff) => if eff ≤ k then
        s.mapRobot e.1 (fun x => { x with gen := g, txCtr := 0, rxCtr := none, rxLast := [], rekey := none }) else s
    | none => s) s
  match s.lnk.flockNext with
  | some (g, eff, key) => if eff ≤ k then
      s.mapLnk (fun l => { l with flockGen := g, flockCtr := 0, flockKey := key, flockNext := none }) else s
  | none => s

/-- The K9 has verified no frame from a robot for long enough, or a counter has run out (R237): state 03h. -/
def loseRobot (r level : Nat) (s : State) : State :=
  let s := s.mapRobot r (fun x => { x with link := .lost, missDue := false })
  (s.raise 0x0505 .warning level 1 r).convertNow r false

/-- ROBOT_LOST (R237). -/
def robotLost (r : Nat) (s : State) : State :=
  match s.robot? r with
  | none => s
  | some x =>
    if x.link = .joined ∧ s.prm 0x0512 ≤ x.missSf then s.loseRobot r 1
    else if x.link = .asleep ∧ 3 ≤ x.wakeMiss then s.loseRobot r 2
    else s

/-- COUNTER_EXHAUSTED for a robot's link key, or for the flock key, which is drawn anew (R225, R245). -/
def counterExhausted (r : Option Nat) (s : State) : State :=
  match r with
  | some r =>
    match s.robot? r with
    | some x =>
      if x.txCtr < 0xFFFFFFFF ∨ x.link = .lost ∨ x.link = .registered then s
      else (s.raise 0x0508 .fault 1 1 r).loseRobot r 3
    | none => s
  | none =>
    if s.lnk.flockCtr < 0xFFFFFFFF then s
    else if s.vit.rngFault then s.raise0 0x0508 .fault 1 0
    else
      let (k, s) := s.draw 128
      (s.mapLnk (fun l => { l with flockGen := l.flockGen + 1, flockCtr := 0, flockKey := k, flockNext := none })).raise0
        0x0508 .fault 1 0

/-- WAKE_MISSED: a wake superframe ended without a verified frame (R240). -/
def wakeMissed (r : Nat) (s : State) : State :=
  match s.robot? r with
  | none => s
  | some x =>
    if x.link = .asleep ∧ x.missDue then
      let n := x.wakeMiss + 1
      (s.mapRobot r (fun x => { x with wakeMiss := n, missDue := false, doubleRate := true })).raise 0x050A .notice n 1 r
    else s

/-- The timed case of R233 at an instant: AIR_RETX_SF superframes, of a sleeper AIR_RETX_SF wake superframes, have passed since the
parcel's last sending, counted in whole slots, with no verified frame since (assumption 154). -/
def resendDue (s : State) (x : Robot) (at_ : Nat) (p : Parcel) : Bool :=
  match p.sentAt with
  | some t => decide (x.lastFrame ≤ t ∧ s.prm 0x0517 * 10 * s.sys.slots * max 1 x.wake.1 ≤ (at_ - t + 625000) / 1250000)
  | none => false

/-- PARCEL_RETX: AIR_RETX_SF superframes without a verified frame since a parcel's last sending; of a sleeper, only wake
superframes count (R233). -/
def parcelRetx (r : Nat) (s : State) : State :=
  match s.robot? r with
  | none => s
  | some x =>
    let due (p : Parcel) : Parcel := if s.resendDue x s.now p then { p with missed := true } else p
    s.mapRobot r (fun y => { y with unacked := y.unacked.map due })

/-- ROBOT_RELEASED: AIR_LOST_SF superframes have passed since the removal (R220). -/
def robotReleased (r : Nat) (s : State) : State :=
  match s.robot? r with
  | none => s
  | some x => match x.removing with
    | some m => if s.prm 0x0512 ≤ m.2.2 then s.releaseRobot r else s
    | none => s

/-- What a superframe boundary does to the link: misses counted, answers taken at START, keys switched (R218, R225, R237,
R240). `k` is the number of the superframe that has ended. -/
def superframeLink (k : Nat) (s : State) : State :=
  let s := s.mapLnk (fun l => { l with unknown := [] })
  let s := s.lnk.robots.foldl (fun s (e : Nat × Robot) =>
    let r := e.1
    let x := e.2
    let miss := !x.seen && !x.legacy
    let s := s.mapRobot r (fun x => { x with
      seen := false
      missSf := if miss && (x.link == .joined || x.link == .leaving) then x.missSf + 1 else x.missSf
      missDue := x.missDue || (miss && x.link == .asleep && wakeSf x k)
      removing := x.removing.map (fun m => (m.1, m.2.1, m.2.2 + 1)) })
    match x.answer with
    | some a =>
      if a.sf < s.sys.sfCount then
        let s := s.mapRobot r (fun x => { x with answer := none })
        if a.result = 0 then s.joinStart r a else s
      else s
    | none => s) s
  s.keysTake

/-! ### Packing downlinks (R206, R234) -/

/-- Takes elements from the front of a queue while they fit `room`. -/
def takeFit : Nat → List Bytes → Bytes × List Bytes
  | _, [] => ([], [])
  | room, e :: t =>
    if e.length ≤ room then
      let (c, rest) := takeFit (room - e.length) t
      (e ++ c, rest)
    else ([], e :: t)

/-- New parcels, in the order their elements were queued: content at most `mx`, at most 8 unacknowledged. -/
def newParcels (mx : Nat) : Nat → Nat → Robot → Robot × Bytes × List Nat
  | 0, _, x => (x, [], [])
  | fuel + 1, room, x =>
    if 8 ≤ x.unacked.length ∨ x.queue.isEmpty ∨ room < 4 then (x, [], [])
    else
      let (c, rest) := takeFit (min (min mx 255) (room - 4)) x.queue
      if c.isEmpty then (x, [], [])
      else
        let p : Parcel := ⟨x.dsnNext, c, none, false⟩
        let x := { x with queue := rest, unacked := x.unacked ++ [p], dsnNext := succDsn x.dsnNext }
        let (x, b, ds) := newParcels mx fuel (room - 4 - c.length) x
        (x, [0xFF] ++ le 2 p.dsn ++ le 1 c.length ++ c ++ b, p.dsn :: ds)

/-- Adds records that fit, trying each in turn (R234). -/
def addFit (room : Nat) (items : List (Bytes × List Nat)) : Nat × Bytes × List Nat :=
  items.foldl (fun (a : Nat × Bytes × List Nat) i =>
    if i.1.length ≤ a.1 then (a.1 - i.1.length, a.2.1 ++ i.1, a.2.2 ++ i.2) else a) (room, [], [])

/-- A chain carries a self-solving native robot (R144). -/
def selfSolvingOn (s : State) (c : Nat) : Bool :=
  s.lnk.robots.any (fun (e : Nat × Robot) => e.2.chain == c && !e.2.legacy && !(s.fr e.1).base)

/-- Link upkeep in the Firmware phase: of `n` robots parcels are assembled, those held back by the last tick first; the others wait for
the next tick (R54, R55, R335). -/
def upkeepPhase (n : Nat) (s : State) : State :=
  let rs := s.lnk.robots.map Prod.fst
  let late := s.lnk.upkeep.filter rs.contains
  s.mapLnk (fun l => { l with upkeep := (late ++ rs.filter (fun r => !late.contains r)).drop n })

/-- Packs a robot's downlink of MCS `m` for a slot that starts at `at_` (R233, R234): its payload and the parcels it carries, which are
none while its link upkeep is held back (R54). -/
def packDownlink (r m at_ : Nat) (s : State) : State × Bytes × List Nat :=
  match s.robot? r with
  | none => (s, [], [])
  | some x =>
    let held := bitsOf ((List.range 7).filter (fun i => x.held.any (fun h => dsnSteps (succDsn (succDsn x.ackIn)) h.1 == i)))
    let head := le 2 x.ackIn ++ le 1 held ++ le 1 (s.fitMcs x.ulMcs % 16)
    let f := s.fr r
    let late := s.lnk.upkeep.contains r
    let due := x.unacked.filter (fun p => !late && (p.missed || p.sentAt.isNone || s.resendDue x at_ p))
    let items := due.map (fun p => ([0xFF] ++ le 2 p.dsn ++ le 1 p.content.length ++ p.content, [p.dsn])) ++
      (match f.pend with
        | some q => [(([0x05, 10] : Bytes) ++ le 1 (b2n q.base) ++ le 1 q.rate ++ le 8 q.instant, [])]
        | none => []) ++
      (match s.feedback r with | some v => [(([0x04, 20] : Bytes) ++ v, [fbMark])] | none => []) ++ x.unrel.map (fun e => (e, []))
    let (room, b, ds) := addFit (s.psduMax m - 17) items
    let (x', nb, nds) := newParcels s.parcelMax 8 (if late then 0 else room) { x with unrel := [], queue := x.queue.flatMap (refitElem s.parcelMax) }
    (s.mapRobot r (fun _ => x'), head ++ b ++ nb, ds ++ nds ++ (if x.bye then [byeMark] else []))

/-- A robot's downlink is due in superframe `k`: joined and awake, leaving, or asleep in a wake superframe (R234, R239). -/
def downlinkDue (s : State) (r k : Nat) : Bool :=
  match s.robot? r with
  | none => false
  | some x => match x.link with
    | .joined => true
    | .leaving | .asleep => wakeSf x k
    | _ => false

/-- The frame that one item of the map gives a plan (R206); `lead` is the time to the tick's start, and `parts` are the CCS frames of the tick's epoch. -/
def planItem (lead k sf : Nat) (parts : List Bytes) (a : State × List PlanFrame) (i : SlotItem) :
    State × List PlanFrame :=
  let (s, fs) := a
  match i.typ, i.robot with
  | .downlink, some r =>
    if s.downlinkDue r k then
      let m := s.fitMcs (match s.robot? r with | some x => x.dlMcs | none => 0)
      let (s, b, ds) := s.packDownlink r m (s.now + lead + i.slot * 1250000)
      (s, fs ++ [⟨elements true b.length (b.drop 4), i.chain, i.slot, .downlink, some r, m, b, ds, 0⟩])
    else a
  | .broadcast, _ =>
    match if s.selfSolvingOn i.chain then parts[i.part]? else none with
    | some p => (s, fs ++ [⟨[], i.chain, i.slot, .broadcast, none, s.prm 0x0507, p, [], i.part⟩])
    | none => a
  | .echo, some r =>
    match fs.find? (fun f => f.typ == .downlink && f.robot == some r) with
    | some f => (s, fs ++ [{ f with slot := i.slot, typ := .echo }])
    | none => a
  | .echo, none =>
    match if s.selfSolvingOn i.chain then parts[i.part]? else none with
    | some p => (s, fs ++ [⟨[], i.chain, i.slot, .echo, none, s.prm 0x0507, p, [], i.part⟩])
    | none => a
  | .rejoin, _ =>
    match List.find? (fun (e : Nat × Robot) => match e.2.answer with
      | some q => q.sf == sf && q.chain == i.chain
      | none => false) s.lnk.robots with
    | some e => match e.2.answer with
      | some q => (s, fs ++ [⟨[], i.chain, i.slot, .rejoin, some e.1, s.prm 0x0506, s.answerBytes e.1 q, [], 0⟩])
      | none => a
    | none => a
  | _, _ => a

/-- The items that fall in tick `n`, in slot order. -/
def planItems (s : State) (m : SlotMap) (n : Nat) : List SlotItem :=
  sortBy (fun (a b : SlotItem) => decide (a.slot ≤ b.slot))
    (m.items.filter (fun i => decide (i.period ≠ 0) && n % i.period == i.offset && s.chainOn i.chain))

/-- The plan of the tick that starts in `lead` ns, number `n` with index `idx` in its superframe (R206): downlinks, broadcasts, echoes and
join answers. -/
def planAir (lead n idx : Nat) (parts : List Bytes) (s : State) : State :=
  let sf := if idx = 0 then s.sys.sfCount + 1 else s.sys.sfCount
  let k := s.sfNumber + (sf - s.sys.sfCount)
  let (s, fs) := s.rotateKeys.underNextAir (fun s => (s.planItems (s.mapAt sf) n).foldl (planItem lead k sf parts) (s, []))
  s.mapAir (fun a => { a with planNext := fs })

/-- The first tick of a new tick length is planned anew, by the map placed for it (R205, R206): what the plan under the old map took up is
due again. No epoch falls on the last tick of a superframe, so no CCS frame is due. -/
def replan (s : State) : State :=
  let s := s.air.planNext.foldl (fun s f => match f.typ, f.robot with
    | .downlink, some r => s.deferDownlink r f.elems
    | _, _ => s) s
  s.planAir 0 s.tickNoNow 0 []

/-- Robots whose answer names the superframe that opens as START (R227). -/
def starting (s : State) : List Nat :=
  (s.lnk.robots.filter (fun (e : Nat × Robot) => match e.2.answer with
    | some a => decide (a.sf < s.sys.sfCount) && a.result == 0
    | none => false)).map Prod.fst

/-- The frames of robots whose link generation starts with the tick `n` that opens (R228, R234): they take the place of what was
planned for them under an earlier generation. -/
def planJoined (rs : List Nat) (n : Nat) (s : State) : State :=
  let own (r : Option Nat) : Bool := match r with | some r => rs.contains r | none => false
  let items := (s.planItems s.air.map n).filter (fun i => own i.robot)
  let (s, fs) := items.foldl (planItem 0 s.sfNumber s.sys.sfCount []) (s, s.air.planNext.filter (fun f => !own f.robot))
  s.mapAir (fun a => { a with planNext := fs })

/-- The uplink elements of the intake act, in the order received (R39); a completion that was delivered before its robot was released
stands (R331). -/
def takeUplinks (s : State) : State :=
  let q := s.lnk.intake
  let s := s.mapLnk (fun l => { l with intake := [] })
  q.foldl (fun s (e : Nat × Nat × Bytes) =>
    let r := e.1
    if (s.robot? r).isNone ∧ e.2.1 ≠ 0xA8 then s
    else match e.2.1 with
    | 0xA0 => s.segReq r e.2.2
    | 0xA1 => s.releaseElem r e.2.2
    | 0xA8 => s.taskDone r e.2.2
    | 0xA9 => s.taskState r e.2.2
    | 0x83 => s.resumeReconcile r (u32 e.2.2 0) (u32 e.2.2 4)
    | 0x30 => s.taskDelivered r e.2.2
    | _ => s) s

end State

end Sys2Proof.Machine
end

