-- ==== Sys2Proof/Machine/Update.lean ====
section
/-! DEFINITION. Images, the update lock, download, verification, activation by handover and at reset, trial and selection at
boot (R522 to R550). -/

namespace Sys2Proof.Machine

/-- The code of a bank's state (R536). -/
def ImgState.code : ImgState → Nat
  | .empty => 0 | .writing => 1 | .written => 2 | .confirmed => 3 | .trial => 4 | .previous => 5

/-- Bank size by part (R522). -/
def bankSize (part : Nat) : Nat := if part = 1 then 25165824 else 4194304

/-- Fields of a part image's header (R523). -/
def imgVersion (b : Bytes) : Nat := u32 b 8
def imgLength (b : Bytes) : Nat := u32 b 12
def imgEpoch (b : Bytes) : Nat := u16 b 20
def imgMajor (b : Bytes) : Nat := u8 b 11

/-- DIGEST is the payload's, and SIG verifies (R523, R529). -/
def imgDigestOk (b : Bytes) : Bool := slice b 32 32 == sha256 (b.drop 128)
def imgSigOk (b : Bytes) : Bool := decide (u8 b 7 < 4) && Config.imageSig (u8 b 7) (sha256 (b.take 64)) (slice b 64 64)

/-- The parts of a mask, in the order of hand-over: engine, GNSS, air, control firmware (R531). -/
def handOrder (mask : Nat) : List Nat := [2, 4, 3, 1].filter (fun p => bit mask (p - 1))

namespace State

/-- Changes the update block. -/
def mapU (f : Upd → Upd) (s : State) : State := { s with upd := f s.upd }

/-- Bank `k` of part `p`. -/
def imgBank (s : State) (p k : Nat) : ImgBank :=
  let b := (s.upd.banks[p - 1]?).getD (ImgBank.none, ImgBank.none)
  if k = 0 then b.1 else b.2

/-- Writes a bank. -/
def putBank (p k : Nat) (b : ImgBank) (s : State) : State :=
  s.mapU (fun u => { u with banks := modAt (p - 1) (fun x => if k = 0 then (b, x.2) else (x.1, b)) u.banks })

/-- The bank that a part runs, and the other. -/
def runBank (s : State) (p : Nat) : Nat := (s.upd.running[p - 1]?).getD 0
def otherBank (s : State) (p : Nat) : Nat := 1 - s.runBank p

/-- VERSION of the image that a part runs; the control firmware's is the device's (R460). -/
def partVersion (s : State) (p : Nat) : Nat := imgVersion (s.imgBank p (s.runBank p)).data

/-- The control firmware's version. -/
def fwVersion (s : State) : Nat := s.partVersion 1

/-! ### The lock (R525, R526) -/

/-- The holder identity (R526). -/
def holderBytes (l : UpdLock) : Bytes :=
  match l.via with
  | .udp ip port => le 2 l.sess ++ [0, 0] ++ le 4 ip ++ le 2 port ++ le 2 0 ++ le 4 l.tag
  | .spi => le 2 l.sess ++ [1, 0] ++ zeros 8 ++ le 4 l.tag
  | .fold _ _ => le 2 l.sess ++ [2, 0] ++ zeros 8 ++ le 4 l.tag

/-- The lock's refusal of a command (R525). -/
def lockRefusal (need : Bool) (c : Cmd) (s : State) : Option CmdRes :=
  match s.upd.lock with
  | some l => if l.sess = c.sess then none else some (.refuse ⟨stBusyUpdate, 0, holderBytes l⟩)
  | none => if need then some (refuse 0x1147 0) else none

/-- Any update command from the holder keeps the lock (R525). -/
def lockUsed (c : Cmd) (s : State) : State :=
  s.mapU (fun u => { u with lock := u.lock.map (fun l => if l.sess = c.sess then { l with last := s.now } else l) })

/-- The lock ends: banks in state writing become empty (R525). -/
def endLock (level : Nat) (s : State) : State :=
  match s.upd.lock with
  | none => s
  | some _ =>
    let clean (b : ImgBank) : ImgBank := if b.state = .writing then ImgBank.none else b
    (s.mapU (fun u => { u with lock := none, banks := u.banks.map (fun x => (clean x.1, clean x.2)) })).raise0
      0x1101 .notice level 0

/-- The session that holds the lock ends (R525). -/
def lockSessionEnds (n : Nat) (s : State) : State :=
  match s.upd.lock with
  | some l => if l.sess = n then s.endLock 3 else s
  | none => s

/-- UPD_IDLE_TIMEOUT (R525). -/
def updIdle (s : State) : State :=
  match s.upd.lock with
  | some l => if s.prm 0x1100 * 1000000000 ≤ s.now - l.last then s.endLock 2 else s
  | none => s

/-- UPD_OPEN. -/
def runUpdOpen (c : Cmd) (s : State) : State × CmdRes :=
  let s := s.lockUsed c
  if c.params.length ≠ 4 then (s, refuse stBadLength 0)
  else if u32 c.params 0 ≠ 0 then (s, refuse stBadParam 0)
  else match s.lockRefusal false c with
  | some r => (s, r)
  | none =>
    if s.upd.lock.isSome then (s, finD 1)
    else
      let tag := match s.session c.sess with | some x => x.tag | none => 0
      (s.mapU (fun u => { u with lock := some ⟨c.sess, c.via, tag, s.now⟩ }), fin [])

/-- UPD_CLOSE. -/
def runUpdClose (c : Cmd) (s : State) : State × CmdRes :=
  let s := s.lockUsed c
  if c.params.length ≠ 4 then (s, refuse stBadLength 0)
  else if u32 c.params 0 ≠ 0 then (s, refuse stBadParam 0)
  else match s.lockRefusal true c with
  | some r => (s, r)
  | none => if s.upd.act.isSome then (s, refuse stNeedsQuiesce 0x1103) else (s.endLock 1, fin [])

/-! ### Download (R527, R528) -/

/-- UPD_BEGIN: the recovery ROM, which keeps no journal, answers when the erase has ended (R540). -/
def runUpdBegin (c : Cmd) (s : State) : State × CmdRes :=
  let s := s.lockUsed c
  let b := c.params
  let p := u8 b 0
  if b.length ≠ 8 then (s, refuse stBadLength 0)
  else if p = 0 ∨ 4 < p ∨ rd b 1 3 ≠ 0 then (s, refuse stBadParam 0)
  else match s.lockRefusal true c with
  | some r => (s, r)
  | none =>
    let k := s.otherBank p
    if s.upd.trial.isSome ∧ (s.imgBank p k).state = .confirmed then (s, refuse 0x1145 0)
    else if s.upd.act.isSome then (s, refuse stDenied 0x000E)
    else if u32 b 4 ≤ 128 ∨ bankSize p < u32 b 4 then (s, refuse stBadParam 0)
    else
      let rom := s.sys.fw == .recovery
      let s := s.putBank p k ⟨.writing, u32 b 4, [], rom⟩
      if rom then (s, fin (le 1 k ++ zeros 3))
      else (s.mapU (fun u => { u with erasing := u.erasing ++ [(p, c.sess, c.acc)] }), .later)

/-- BANK_ERASE_DONE: the erase of a part's bank has ended, and UPD_BEGIN completes. -/
def bankEraseDone (p : Nat) (s : State) : State :=
  let l := s.upd.erasing.filter (fun (e : Nat × Nat × Nat) => e.1 == p)
  let k := s.otherBank p
  let s := s.mapU (fun u => { u with erasing := u.erasing.filter (fun (e : Nat × Nat × Nat) => e.1 != p) })
  let s := if l = [] then s else s.putBank p k { s.imgBank p k with erased := true }
  l.foldl (fun s e => s.completeOk e.2.1 e.2.2 (le 1 k ++ zeros 3)) s

/-- UPD_WRITE. -/
def runUpdWrite (c : Cmd) (s : State) : State × CmdRes :=
  let s := s.lockUsed c
  let b := c.params
  let p := u8 b 0
  let n := u16 b 2
  if b.length < 8 ∨ b.length ≠ 8 + n then (s, refuse stBadLength 0)
  else if p = 0 ∨ 4 < p ∨ u8 b 1 ≠ 0 ∨ n = 0 ∨ 4064 < n then (s, refuse stBadParam 0)
  else match s.lockRefusal true c with
  | some r => (s, r)
  | none =>
    let k := s.otherBank p
    let w := s.imgBank p k
    if u32 b 4 ≠ w.data.length then (s, .refuse ⟨0x1141, 0, le 4 w.data.length⟩)
    else if w.len < w.data.length + n then (s, refuse stBadParam 0)
    else
      let d := w.data ++ b.drop 8
      (s.putBank p k { w with data := d, state := if d.length = w.len then .written else w.state }, fin [])

/-! ### Verification (R529) -/

/-- Majors of the four parts if the parts of `mask` took their other banks. -/
def majorsWith (s : State) (mask : Nat) : List Nat :=
  [1, 2, 3, 4].map (fun p => imgMajor (s.imgBank p (if bit mask (p - 1) then s.otherBank p else s.runBank p)).data)

/-- R524 for an activation of `mask`: by handover only parts of the running major; at reset one major for all four. -/
def majorOk (s : State) (mode mask : Nat) : Bool :=
  let m := s.majorsWith mask
  let all := m.all (fun k => k == m.headD 0)
  if mode = 0 then all && m.headD 0 == imgMajor (s.imgBank 1 (s.runBank 1)).data else all

/-- The first reason of R529 for which the other bank of a part fails, `major` and `hand` saying whether R524 and the handover
test hold; 0 passes. -/
def verifyPart (s : State) (p : Nat) (major hand : Bool) : Nat :=
  let w := s.imgBank p (s.otherBank p)
  let b := w.data
  if u32 b 0 ≠ 0x4A4D4931 ∨ u16 b 4 ≠ 1 ∨ u8 b 6 ≠ p ∨ 128 + imgLength b ≠ w.len then 1
  else if u16 b 16 ≠ 0x0E10 then 2
  else if s.fac.rom < u16 b 18 then 3
  else if imgDigestOk b = false then 4
  else if imgSigOk b = false then 5
  else if imgEpoch b < (s.upd.floors[p - 1]?).getD 0 then 6
  else if major = false then 7
  else if hand = false then 8
  else match w.state with
  | .written | .confirmed | .previous => 0
  | _ => 9

/-- The handover test of reason 08h. -/
def handOk (s : State) (p : Nat) : Bool :=
  let b := (s.imgBank p (s.otherBank p)).data
  let f := u16 (s.imgBank p (s.runBank p)).data 24
  bit (u16 b 22) 0 && decide (u16 b 26 ≤ f ∧ f ≤ u16 b 24)

/-- UPD_VERIFY: a part whose major is not the running one passes only where the four other banks share it (R524). -/
def runUpdVerify (c : Cmd) (s : State) : State × CmdRes :=
  let s := s.lockUsed c
  let b := c.params
  let p := u8 b 0
  if b.length ≠ 4 then (s, refuse stBadLength 0)
  else if p = 0 ∨ 4 < p ∨ rd b 1 3 ≠ 0 then (s, refuse stBadParam 0)
  else match s.lockRefusal false c with
  | some r => (s, r)
  | none =>
    let k := s.otherBank p
    let d := (s.imgBank p k).data
    let major := imgMajor d == imgMajor (s.imgBank 1 (s.runBank 1)).data || s.majorOk 1 15
    (s, fin (le 1 (s.verifyPart p major true) ++ le 1 k ++ le 2 (imgEpoch d) ++ le 4 (imgVersion d)))

/-! ### Activation (R530 to R535) -/

/-- The site with a chain's robots placed on the other chains (R533, R49). -/
def siteWithout (s : State) (c : Nat) : Site :=
  let z := s.siteAdmit
  let z0 := { z with chains := setBit z.chains c false, robots := z.robots.filter (fun r => r.chain != c) }
  (z.robots.filter (fun r => r.chain == c)).foldl (fun (z : Site) r =>
    match z.bestChain with
    | some k => { z with robots := z.robots ++ [{ r with chain := k }] }
    | none => { z with robots := z.robots ++ [r] }) z0

/-- A part's boot entry flips to its other bank, in state trial (R531, R535). By handover the part runs that bank from now
on. -/
def flipPart (p : Nat) (runs : Bool) (s : State) : State :=
  let k := s.otherBank p
  let s := s.putBank p k { s.imgBank p k with state := .trial }
  let m := 2 ^ (p - 1)
  s.mapU (fun u => { u with
    running := if runs then modAt (p - 1) (fun _ => k) u.running else u.running
    trial := some (match u.trial with
      | some t => { t with parts := t.parts ||| m }
      | none => ⟨m, false, s.now, false⟩)
    act := u.act.map (fun a => { a with
      flipped := a.flipped ||| m, lastFlip := s.sys.tick, todo := a.todo.filter (fun q => q != p), stage := none, since := s.now }) })

/-- UPD_ACTIVATE (R530): its checks, and the activation that the next tick boundaries carry out. The recovery ROM, which runs
no ticks, flips at once (R535, R540). -/
def runUpdActivate (c : Cmd) (s : State) : State × CmdRes :=
  let s := s.lockUsed c
  let b := c.params
  let mask := u8 b 0
  let mode := u8 b 1
  let enabled := (List.range 4).filter (fun k => bit (s.prm 0x0501) k)
  if b.length ≠ 4 then (s, refuse stBadLength 0)
  else if mask = 0 ∨ 16 ≤ mask ∨ 2 ≤ mode ∨ u16 b 2 ≠ 0 then (s, refuse stBadParam 0)
  else if mode = 0 ∧ bit c.agreed 229 = false then (s, refuse stNotNegotiated 229)
  else match s.lockRefusal true c with
  | some r => (s, r)
  | none =>
    if s.upd.trial.isSome then (s, refuse 0x1145 0)
    else if s.upd.act.isSome then (s, refuse stDenied 0x000E)
    else
      let fails := ((List.range 4).map (· + 1)).filterMap (fun p =>
        if bit mask (p - 1) then
          let r := s.verifyPart p (s.majorOk mode mask) (mode == 1 || s.handOk p)
          if r = 0 then none else some (p * 256 + r)
        else none)
      match fails.head? with
      | some d => (s, refuse 0x1140 d)
      | none =>
        let over_ := if mode = 0 ∧ bit mask 2 then enabled.findSome? (fun k => s.overBudget (s.siteWithout k)) else none
        match over_ with
        | some a => (s, .refuse a)
        | none =>
          if mode = 0 ∧ bit mask 2 ∧ enabled.length = 1 then (s, refuse stNeedsQuiesce 0x1101)
          else if mode = 0 ∧ bit mask 2 ∧ s.prm 0x050F ≠ 0xFF then (s, refuse stNeedsQuiesce 0x1102)
          else if s.sys.fw = .recovery then
            let s := (handOrder mask).foldl (fun s p => s.flipPart p false) s
            ((s.raise0 0x1102 .notice mask 0).mapSys (fun y => { y with pendReset := some ⟨false, 4, false, false, some (c.sess, c.acc)⟩ }), fin (le 1 mask ++ zeros 7))
          else
            (s.mapU (fun u => { u with act := some {
              sess := c.sess, acc := c.acc, todo := handOrder mask, flipped := 0, lastFlip := 0, stage := none, since := s.now
              atReset := mode == 1, moved := [] } }), .later)

/-- The command ends, with OK or with a handover's failure (R531, R534). -/
def endActivation (a : Ans) (s : State) : State :=
  match s.upd.act with
  | none => s
  | some x =>
    let s := (s.mapU (fun u => { u with act := none })).complete x.sess x.acc a
    if x.flipped = 0 then s else s.raise0 0x1102 .notice x.flipped 0

/-- Changes the running activation. -/
def mapAct (f : Activation → Activation) (s : State) : State := s.mapU (fun u => { u with act := u.act.map f })

/-- A map that takes a chain's robots to other chains, or back again, is accepted (R533). -/
def chainMove (robots : List (Nat × Nat)) (s : State) : State :=
  let s := robots.foldl (fun s (e : Nat × Nat) => s.mapRobot e.1 (fun x => { x with chain := e.2 })) s
  match placeMap s.siteMap with
  | .ok m => s.acceptMap m
  | .error _ => s

/-- The next chain of an air handover, or its end (R531, R533). -/
def nextChain (c : Nat) (s : State) : State :=
  match ((List.range 4).filter (fun k => bit (s.prm 0x0501) k && decide (c ≤ k))).head? with
  | none => s.flipPart 3 true
  | some k =>
    let mine := (s.lnk.robots.filter (fun (e : Nat × Robot) => e.2.chain == k)).map Prod.fst
    let dest := ((s.siteWithout k).robots.filter (fun r => mine.contains r.idx)).map (fun r => (r.idx, r.chain))
    (s.chainMove dest).mapAct (fun a => { a with stage := some (.chainMap k), since := s.now, moved := mine })

/-- What an activation does at a tick boundary (R531 to R535): `copied` says that the copy of the control firmware, whose
duration the manual does not give, has ended. -/
def updTick (copied : Bool) (s : State) : State :=
  match s.upd.act with
  | none => s
  | some a =>
    if a.atReset then
      let s := a.todo.foldl (fun s p => s.flipPart p false) s
      let s := s.endActivation (Ans.ok (le 1 (a.todo.map (fun p => 2 ^ (p - 1))).sum ++ zeros 7))
      s.mapSys (fun y => { y with pendReset := some ⟨false, 4, false, false, some (a.sess, a.acc)⟩ })
    else match a.stage with
    | some .engines => (s.flipPart 2 true)
    | some .gnss => s
    | some (.chainMap k) => if s.air.next = [] then s.mapAct (fun a => { a with stage := some (.chainLoad k), since := s.now }) else s
    | some (.chainLoad _) => s
    | some (.chainBack k) => if s.air.next = [] then s.nextChain (k + 1) else s
    | some .copyFw =>
      if copied then (s.mapAct (fun a => { a with stage := some .pauseFw, since := s.now })).mapSys (fun y => { y with fw := .paused })
      else s
    | some .pauseFw => s
    | none =>
      match a.todo.head? with
      | none => s.endActivation (Ans.ok (le 1 a.flipped ++ zeros 3 ++ le 4 a.lastFlip))
      | some 2 => s.mapAct (fun a => { a with stage := some .engines, since := s.now })
      | some 4 => s.mapAct (fun a => { a with stage := some .gnss, since := s.now })
      | some 3 => s.nextChain 0
      | some _ => s.mapAct (fun a => { a with stage := some .copyFw, since := s.now })

/-- One tick boundary of an activation: a stage that ends at a boundary is followed by the next at the same one. -/
def updBoundary (copied : Bool) (s : State) : State :=
  let done (s : State) : Bool := match s.upd.act with | some a => a.stage.isNone && !a.atReset | none => false
  let s := s.updTick copied
  let s := if done s then s.updTick false else s
  if done s then s.updTick false else s

/-- The baseband reloads: each epoch gives a set with COUNT 0 (R531). -/
def gnssReloads (s : State) : Bool :=
  match s.upd.act with
  | some a => a.stage == some .gnss
  | none => false

/-- HANDOVER_PAUSE: a part's pause of `us` µs ends, and its boot entry flips; for a chain, the map that restores it follows
(R531 to R533). -/
def handoverPause (p c us : Nat) (s : State) : State :=
  let ev (s : State) : State := s.raise0 0x1103 .notice p (min us 0xFFFFFFFF + c * 4294967296)
  match s.upd.act with
  | none => s
  | some a => match a.stage, p with
    | some .gnss, 4 =>
      let s := s.mapGns (fun g => { g with cmc := [], beta := (none, none), rxPrev := none })
      (s.flipPart 4 true) |> ev |>.updBoundary false
    | some (.chainLoad k), 3 =>
      if k = c then
        ((s.chainMove (a.moved.map (fun r => (r, k)))).mapAct (fun a => { a with stage := some (.chainBack k), since := s.now })) |> ev
      else s
    | some .pauseFw, 1 =>
      ((s.mapSys (fun y => { y with fw := .running })).flipPart 1 true) |> ev |>.updBoundary false
    | _, _ => s

/-- HANDOVER_FAIL: new firmware has not resumed by B + 3 T, or a chain fails its test after loading; `again`: the chain's second
test, with the running microcode, fails too (R534). -/
def handoverFail (p c : Nat) (again : Bool) (s : State) : State :=
  match s.upd.act with
  | none => s
  | some a => match a.stage, p with
    | some (.chainLoad k), 3 =>
      if k = c then
        let s := s.mapAct (fun a => { a with stage := none })
        let s := if again then s.chainFault k 3 else s.chainMove (a.moved.map (fun r => (r, k)))
        s.endActivation ⟨0x1146, 3, []⟩
      else s
    | some .pauseFw, 1 =>
      if 3 * s.tickNs ≤ s.now - a.since then
        (s.mapSys (fun y => { y with fw := .running })).endActivation ⟨0x1146, 1, []⟩
      else s
    | _, _ => s

/-! ### Trial and boot (R536 to R539) -/

/-- UPD_CONFIRM (R537). -/
def runUpdConfirm (c : Cmd) (s : State) : State × CmdRes :=
  let s := s.lockUsed c
  if c.params.length ≠ 4 then (s, refuse stBadLength 0)
  else if u32 c.params 0 ≠ 0 then (s, refuse stBadParam 0)
  else match s.lockRefusal false c with
  | some r => (s, r)
  | none => match s.upd.trial with
    | none => (s, finD 1)
    | some t =>
      let conf (b : ImgBank) : ImgBank := { b with state := match b.state with
        | .trial => .confirmed | .confirmed => .previous | x => x }
      (s.mapU (fun u => { u with
        trial := none
        banks := u.banks.zipIdx.map (fun (x, i) => if bit t.parts i then (conf x.1, conf x.2) else x)
        floors := u.floors.zipIdx.map (fun (f, i) =>
          if bit t.parts i then
            let x := (u.banks[i]?).getD (ImgBank.none, ImgBank.none)
            let n := if x.1.state = .trial then x.1 else x.2
            max f (imgEpoch n.data)
          else f) }), fin [])

/-- TRIAL_UNCONFIRMED (R538). -/
def trialUnconfirmed (s : State) : State :=
  match s.upd.trial with
  | some t =>
    let w := s.prm 0x1101
    if t.reported = false ∧ w ≠ 0 ∧ w * 1000000000 ≤ s.now - t.began then
      (s.mapU (fun u => { u with trial := some { t with reported := true } })).raise0 0x1104 .warning t.parts 0
    else s
  | none => s

/-- The IMAGE_ROLLBACK remedy (R538). -/
def imageRollback (s : State) : State :=
  match s.upd.trial with
  | some t => (s.mapU (fun u => { u with trial := some { t with bootUsed := true } })).mapSys (fun y => { y with
      pendReset := match y.pendReset with
        | some p => some { p with rollback := true }
        | none => some ⟨false, 5, false, true, none⟩ })
  | none => s

/-- The bank of a part in one state. -/
def bankIn (s : State) (p : Nat) (st : ImgState) : Option Nat :=
  if (s.imgBank p 0).state = st then some 0 else if (s.imgBank p 1).state = st then some 1 else none

/-- The signature check the ROM makes; the images the module is delivered with pass it (assumption 10). -/
def bootable (s : State) (p k : Nat) : Bool :=
  let b := (s.imgBank p k).data
  s.fac.images.contains b || (imgDigestOk b && imgSigOk b)

/-- The trial banks become written (R536). -/
def dropTrial (s : State) : State :=
  let f (b : ImgBank) : ImgBank := if b.state = .trial then { b with state := .written } else b
  s.mapU (fun u => { u with trial := none, banks := u.banks.map (fun x => (f x.1, f x.2)) })

/-- What the recovery ROM's selection gives: the state, the trial parts reverted, parts that fell back, and parts whose image is
invalid and has no substitute (R536). -/
structure BootPick where
  st : State
  reverted : Nat
  invalid : List Nat
  fallback : List Nat
  stuck : Bool

/-- The selection of each part's bank at a boot (R536): `rollback` says for which part the stored standing orders hold an armed
IMAGE_ROLLBACK for IMAGE_INVALID; `unloaded` names the banks whose load fails, which counts as a failed verification (R61). -/
def selectImages (rollback : Nat → Bool) (unloaded : List (Nat × Nat)) (s : State) : BootPick :=
  let parts := [1, 2, 3, 4]
  let ok (p k : Nat) : Bool := s.bootable p k && !unloaded.contains (p, k)
  let unused := match s.upd.trial with | some t => !t.bootUsed | none => false
  let mask := match s.upd.trial with | some t => t.parts | none => 0
  let trialOk := unused && parts.all (fun p => !bit mask (p - 1) || (match s.bankIn p .trial with
    | some k => ok p k
    | none => false))
  let want (p : Nat) : Nat :=
    if trialOk ∧ bit mask (p - 1) then (s.bankIn p .trial).getD 0 else (s.bankIn p .confirmed).getD 0
  let s1 := if trialOk then s.mapU (fun u => { u with
      trial := u.trial.map (fun t => { t with bootUsed := true }), trialBoot := true })
    else (if s.upd.trial.isSome then s.dropTrial else s).mapU (fun u => { u with trialBoot := false })
  let major := imgMajor (s.imgBank 1 (want 1)).data
  let bad := parts.filter (fun p => !ok p (want p))
  let swap (p : Nat) : Bool :=
    let b := s1.imgBank p (1 - want p)
    rollback p && (b.state == .confirmed || b.state == .previous || b.state == .trial) && ok p (1 - want p) &&
      imgMajor b.data == major
  let fall := bad.filter swap
  { st := s1.mapU (fun u => { u with running := parts.map (fun p => if fall.contains p then 1 - want p else want p) })
    reverted := if trialOk then 0 else mask
    invalid := bad, fallback := fall, stuck := decide (fall.length < bad.length) }

/-- What a reset makes of downloads, the lock and activations (R539): writing banks become empty. -/
def updReset (s : State) : State :=
  let clean (b : ImgBank) : ImgBank := if b.state = .writing then ImgBank.none else b
  s.mapU (fun u => { u with
    lock := none, act := none, erasing := [], lockLost := u.lock.isSome || u.lockLost
    banks := u.banks.map (fun x => (clean x.1, clean x.2)) })

/-- UPD_STATE_READ (R547). -/
def runUpdStateRead (c : Cmd) (s : State) : State × CmdRes :=
  let s := s.lockUsed c
  if c.params.length ≠ 0 then (s, refuse stBadLength 0)
  else
    let ver (b : ImgBank) : Nat := if b.state = .empty ∨ b.state = .writing then 0 else imgVersion b.data
    let rom := s.sys.fw == .recovery
    (s, fin (le 1 (b2n s.upd.lock.isSome) ++ le 1 (match s.upd.trial with | some t => t.parts | none => 0) ++
      le 1 (b2n s.upd.trialBoot + 2 * b2n rom) ++ [0] ++ le 2 s.fac.rom ++ le 2 0 ++
      (match s.upd.lock with | some l => holderBytes l | none => zeros 16) ++
      [1, 2, 3, 4].flatMap (fun p =>
        let x := s.imgBank p 0
        let y := s.imgBank p 1
        le 1 p ++ le 1 (s.runBank p) ++ le 1 x.state.code ++ le 1 y.state.code ++ le 4 (ver x) ++ le 4 (ver y) ++
          le 2 ((s.upd.floors[p - 1]?).getD 0) ++ le 2 0)))

end State

end Sys2Proof.Machine
end

