-- ==== Sys2Proof/Machine/Fold.lean ====
section
/-! DEFINITION. Folds: tiers, messages, membership, step, stops, routing, relayed messages, roaming and border digests, and the
opcodes (R447 to R475). -/

namespace Sys2Proof.Machine

/-- The fold message types (R452). -/
abbrev msgJoin : Nat := 0x01
abbrev msgJoinAnswer : Nat := 0x02
abbrev msgHeartbeat : Nat := 0x03
abbrev msgHbAnswer : Nat := 0x04
abbrev msgRouted : Nat := 0x05
abbrev msgStop : Nat := 0x06
abbrev msgStopAck : Nat := 0x07
abbrev msgStopSet : Nat := 0x08
abbrev msgReleaseReq : Nat := 0x09
abbrev msgRelease : Nat := 0x0A
abbrev msgReleaseAck : Nat := 0x0B
abbrev msgResumeNote : Nat := 0x0F
abbrev msgNoteAck : Nat := 0x10
abbrev msgTaskReport : Nat := 0x11
abbrev msgReportAck : Nat := 0x12
abbrev msgBorderDigest : Nat := 0x13
abbrev msgRelay : Nat := 0x14

/-- The device number that stands for every device (R455). -/
abbrev toAll : Nat := 0xFFFF

/-- The 16-byte header of R451 without its CRC. -/
def foldHeader (ver typ fold src dst seq len : Nat) : Bytes :=
  le 1 ver ++ le 1 typ ++ le 2 fold ++ le 2 src ++ le 2 dst ++ le 4 seq ++ le 2 len ++ le 2 0

/-- A fold message whole (R451). -/
def foldMsg (typ fold src dst seq : Nat) (body : Bytes) : Bytes :=
  let h := foldHeader 1 typ fold src dst seq body.length ++ body
  h ++ le 4 (crc32c h)

/-- A reply read back from a packet that carries a fold path (R467). -/
def replyOf (b : Bytes) : Reply :=
  let pl := slice b 16 (u16 b 6)
  let n := ((2 + 2 * u8 pl 0 + 3) / 4) * 4
  { ver := u8 b 2, opcode := u16 b 4, flags := u8 b 3, acc := u32 b 8, sess := u16 b 12, pre := pl.take n
    ans := ⟨u16 pl n, u16 pl (n + 2), pl.drop (n + 4)⟩ }

/-- A packet with HOP `h` in its path (R465). -/
def withHop (h : Nat) (p : Pkt) : Pkt :=
  { p with payload := [BitVec.ofNat 8 p.depth, BitVec.ofNat 8 h] ++ p.payload.drop 2 }

/-- The path and session by which the entry device finds a host (R467): the path without HOP. -/
def pathKey (p : Pkt) : Bytes × Nat := (le 1 p.depth ++ slice p.payload 2 (2 * p.depth), p.sess)

/-- A tier record (R448): FOLD_ID, MEMBER, LINK. -/
structure Tier where
  fold : Nat
  member : Nat
  link : Nat

namespace State

/-- Changes the fold block. -/
def mapFld (f : Fld → Fld) (s : State) : State := { s with fld := f s.fld }

/-! ### The chain (R447, R448) -/

/-- Tier `k`'s record. -/
def tier (s : State) (k : Nat) : Tier :=
  let t := s.prm (0x0E01 + k)
  ⟨t % 65536, t / 65536 % 65536, t / 4294967296 % 256⟩

/-- How many tiers are used; none in CX mode (R449). -/
def tiers (s : State) : Nat :=
  if s.prm 0x0E00 = 0 ∨ s.sys.cx then 0
  else ((List.range 15).takeWhile (fun k => (s.tier k).fold != 0xFFFF)).length

/-- The tier of a FOLD_ID. -/
def tierOf (s : State) (fold : Nat) : Option Nat := (List.range s.tiers).find? (fun k => (s.tier k).fold == fold)

/-- The tiers in which this device is member 0: it is bellwether of those folds. -/
def bellTiers (s : State) : List Nat := (List.range s.tiers).filter (fun k => (s.tier k).member == 0)

/-- The one tier in which it is not member 0, if there is one: the topmost. -/
def upTier (s : State) : Option Nat :=
  if s.tiers ≠ 0 ∧ (s.tier (s.tiers - 1)).member ≠ 0 then some (s.tiers - 1) else none

/-- LEVEL of a tier's fold, 1 for the top (R452); 0 while it is not known. -/
def levelOf (s : State) (k : Nat) : Nat :=
  match s.upTier with
  | none => s.tiers - k
  | some u => if s.fld.upLevel = 0 then 0 else s.fld.upLevel + (u - k)

/-- A member's key. -/
def memberKey (s : State) (k m : Nat) : Nat := (s.tier k).fold * 4096 + m

/-- A tier's admitted members. -/
def membersAt (s : State) (k : Nat) : List (Nat × FldMember) :=
  s.fld.members.filter (fun (e : Nat × FldMember) => e.1 / 4096 == (s.tier k).fold)

/-- The members of the tiers below `j`. -/
def membersBelow (s : State) (j : Nat) : List (Nat × FldMember) := (List.range j).flatMap (fun k => s.membersAt k)

/-- What the subtree holds that this device stands for at tier `j` (R452, R454, R457): itself and the members of the folds below
that tier. -/
def subDevices (s : State) (j : Nat) : Nat := 1 + ((s.membersBelow j).map (fun e => e.2.devices)).sum
def subMap (s : State) (j : Nat) : Nat := (s.membersBelow j).foldl (fun a e => a ||| e.2.devmap) (2 ^ s.deviceNo)
def subDepth (s : State) : Nat → Nat
  | 0 => 1
  | j + 1 => 1 + ((s.membersAt j).map (fun e => e.2.subdepth)).foldl max (s.subDepth j)

/-- The catalogue of the fold below tier `j`, a device's own at tier 0: members absent or out of step contribute nothing (R459, R463). -/
def subCat (s : State) (j : Nat) : Nat :=
  (s.membersBelow j).foldl (fun a e => if e.2.reason = 0 ∧ e.2.absent = false then a &&& e.2.cat else a) s.deviceCat

/-- Devices and catalogue of the hierarchy (R459): the top bellwether's own, or what HB_ANSWER gave. -/
def hierDevices (s : State) : Nat := match s.upTier with | none => s.subDevices s.tiers | some _ => s.fld.hierDevices
def hierCat (s : State) : Nat := match s.upTier with | none => s.subCat s.tiers | some _ => s.fld.hierCat

/-- The device is in a hierarchy: top bellwether, or admitted. -/
def inFold (s : State) : Bool := s.tiers != 0 && (s.upTier.isNone || s.fld.admitted)

/-- The catalogue that SESSION_OPEN agrees from, besides the offer (R71, R459). -/
def sessionCat (s : State) : Nat := if s.inFold then s.deviceCat &&& s.hierCat else s.deviceCat

/-! ### Sending (R450, R451, R453) -/

/-- A message's CAN frames (R453). -/
def canFoldFrames (port src : Nat) (dst : Option Nat) (stop : Bool) (seq : Nat) (m : Bytes) : List Output :=
  let n := ceilDiv m.length 60
  let ident := (if stop then 0 else 2 ^ 26) + src * 2 ^ 14 + dst.getD 0 * 4 + (if dst.isNone then 2 else 0)
  (List.range n).map (fun i =>
    let d := le 2 (seq % 65536) ++ le 1 i ++ le 1 n ++ slice m (60 * i) 60
    let len := (canLens.find? (fun l => decide (d.length ≤ l))).getD 64
    .canFold port ident (d ++ zeros (len - d.length)))

/-- Sends a message on a tier's fold, to one member or to every one. Both units of a pair send, with one SEQ (R485). -/
def foldSend (k typ : Nat) (dst : Option Nat) (body : Bytes) (s : State) : State :=
  let t := s.tier k
  let seq := Tab.getD t.fold 0 s.fld.seqs + 1
  let s := s.mapFld (fun f => { f with seqs := Tab.put t.fold seq f.seqs })
  if s.wiredOut = false then s
  else
    let m := foldMsg typ t.fold t.member (dst.getD 0xFFFF) seq body
    let stop := decide (msgStop ≤ typ ∧ typ ≤ msgStopSet)
    if t.link < 3 then
      let group := 0x034B39460000 + t.fold
      let mac := match dst with
        | some d => Tab.getD (s.memberKey k d) group s.fld.macs
        | none => group
      s.ethSend t.link {
        cls := if stop then clsFoldStop else clsFold, dst := mac, len := frameLen m.length, kind := .fold typ t.fold, data := m }
    else (canFoldFrames (t.link - 3) t.member dst stop seq m).foldl (fun s o => s.emit o) s

/-- A message discarded and counted. -/
def foldDiscard (s : State) : State := s.mapFld (fun f => { f with discarded := inc32 f.discarded })

/-- An event of the fold block (R474). -/
def foldEvent (code : Nat) (cls : Cls) (level fold member : Nat) (s : State) : State :=
  s.raise0 code cls level (fold + 65536 * member)

/-! ### Relayed messages (R455) -/

/-- A RELAY goes on from this device: `src` is the tier it came on. -/
def relayRoute (dev sender hops : Nat) (inner : Bytes) (src : Option Nat) (s : State) : State :=
  let body := le 2 dev ++ le 2 sender ++ le 1 hops ++ zeros 3 ++ inner
  let fwd (s : State) : State := if src.isSome then s.mapFld (fun f => { f with relayFwd := inc32 f.relayFwd }) else s
  if dev = toAll then
    let ks := (List.range s.tiers).filter (fun k => some k != src)
    ks.foldl (fun s k => s.foldSend k msgRelay none body) (if ks.isEmpty then s else fwd s)
  else
    let hit := s.bellTiers.findSome? (fun k =>
      ((s.membersAt k).find? (fun e => bit e.2.devmap dev)).map (fun e => (k, e.1 % 4096)))
    match hit, s.upTier with
    | some (k, m), _ => (fwd s).foldSend k msgRelay (some m) body
    | none, some u => (fwd s).foldSend u msgRelay (some 0) body
    | none, none => s.mapFld (fun f => { f with relayDisc := inc32 f.relayDisc })

/-- Sends a message of types 09h to 13h to a device (R455): the inner message is whole, on the innermost fold. -/
def relaySend (dev typ : Nat) (body : Bytes) (s : State) : State :=
  if s.tiers = 0 then s
  else
    let t := s.tier 0
    let seq := Tab.getD t.fold 0 s.fld.seqs + 1
    let s := s.mapFld (fun f => { f with seqs := Tab.put t.fold seq f.seqs })
    s.relayRoute dev s.deviceNo 0 (foldMsg typ t.fold t.member 0xFFFF seq body) none

/-- The messages that other chapters left for the fold go out; those with a resend entry are kept (R452). -/
def foldFlush (s : State) : State :=
  let q := s.pas.outbox
  let s := s.mapPas (fun p => { p with outbox := [] })
  if s.tiers = 0 then s
  else q.foldl (fun s (m : Nat × Nat × Bytes) =>
    let s := if m.2.1 = msgRelease ∨ m.2.1 = msgResumeNote ∨ m.2.1 = msgTaskReport then
        s.mapFld (fun f => { f with relays := f.relays.filter (fun r => r != ⟨m.1, m.2.1, m.2.2⟩) ++ [⟨m.1, m.2.1, m.2.2⟩] })
      else s
    s.relaySend m.1 m.2.1 m.2.2) s

/-- The answer to a relayed message has come. -/
def relayDone (dev typ : Nat) (p : Bytes → Bool) (s : State) : State :=
  s.mapFld (fun f => { f with relays := f.relays.filter (fun r => !(r.dev == dev && r.typ == typ && p r.body)) })

/-! ### Digests (R461, R468, R471) -/

/-- The parameters of the configuration digest, in ascending order (R461). -/
def digestIds : List Nat :=
  [0x0201, 0x0500] ++ (List.range 5).map (· + 0x0600) ++ (List.range 16).map (· + 0x0610) ++
  (List.range 16).map (· + 0x0700) ++ [0x0907, 0x0E10]

/-- The configuration digest. -/
def cfgDigest (s : State) : Nat :=
  digest8 (digestIds.flatMap (fun id => le (match paramDef? id with | some d => d.size | none => 0) (s.prm id)))

/-- The source 3 set: ORIGIN and STATE, ascending. -/
def stopSet (s : State) : Tab Nat := (s.fld.stops.filter (fun (e : Nat × Nat × Nat) => e.2.1 != 0)).map (fun e => (e.1, e.2.1))

/-- The stop digest (R468). -/
def stopDigest (s : State) : Nat := digest8 (s.stopSet.flatMap (fun e => le 8 e.1 ++ le 1 e.2))

/-- The border lanes that name a neighbour, by ascending index. -/
def borderLanes (s : State) (dev : Nat) : List (Nat × Lane) :=
  s.cfg.eff.lanes.filterMap (fun e =>
    let l := laneOf e.2
    if l.border ∧ l.neighbour = dev ∧ e.1 < s.prm 0x0606 then some (e.1, l) else none)

/-- The neighbours that BORDER lanes name. -/
def neighbours (s : State) : List Nat :=
  (s.cfg.eff.lanes.filterMap (fun e => let l := laneOf e.2; if l.border ∧ e.1 < s.prm 0x0606 then some l.neighbour else none)).dedup

/-- The border digest for a neighbour (R471). -/
def borderDigest (s : State) (dev : Nat) : Nat :=
  digest8 ((s.borderLanes dev).flatMap (fun e =>
    let g := s.laneGeo e.2
    le 4 e.1 ++ leS 4 g.x1 ++ leS 4 g.y1 ++ leS 4 g.x2 ++ leS 4 g.y2 ++ le 2 e.2.classes ++ le 2 e.2.speedMax))

/-- Compares a neighbour's newest digest with this device's (R471). -/
def judgeBorder (dev : Nat) (s : State) : State :=
  match Tab.find? dev s.fld.digests with
  | none => s
  | some d =>
    let bad := d != s.borderDigest dev && s.neighbours.contains dev
    let was := s.fld.borderBad.contains dev
    if bad && !was then
      (s.mapFld (fun f => { f with borderBad := f.borderBad ++ [dev] })).foldEvent 0x0E08 .warning 1 (s.tier 0).fold (s.tier 0).member
    else if was && !bad then s.mapFld (fun f => { f with borderBad := f.borderBad.filter (fun k => k != dev) })
    else s

/-- BORDER_DIGEST to every neighbour, every 100 superframes and at each COMMIT of domain PAS (R471). -/
def sendDigests (s : State) : State :=
  let s := s.fld.digests.foldl (fun s (e : Nat × Nat) => s.judgeBorder e.1) s
  if s.tiers = 0 then s
  else s.neighbours.foldl (fun s d => s.relaySend d msgBorderDigest (le 8 (s.borderDigest d)))
    (s.mapFld (fun f => { f with digestSf := 0 }))

/-! ### Membership and step (R454, R456 to R463) -/

/-- Ticks stand on their aligned instants (R36). -/
def ticksAligned (s : State) : Bool := s.sys.misalign.isNone

/-- The time part of reason 3 for a device's own time. -/
def ownTimeOk (s : State) : Bool := s.timeValid && s.ticksAligned && decide (s.errCode ≤ s.prm 0x0E14)

/-- One step of a member's step state (R462): `fails` lists the failing reasons. -/
def stepJudge (fold m : Nat) (reason passes : Nat) (fails : List Nat) (s : State) : State × Nat × Nat :=
  match fails.min? with
  | some r => (if reason = 0 then s.foldEvent 0x0E03 .warning r fold m else s, r, 0)
  | none =>
    if reason = 0 then (s, 0, passes + 1)
    else if 3 ≤ passes + 1 then (s.foldEvent 0x0E04 .notice 1 fold m, 0, 0)
    else (s, reason, passes + 1)

/-- A bellwether's judgement of itself, the offset test left out. -/
def judgeSelf (s : State) : State :=
  match s.bellTiers.head? with
  | none => s.mapFld (fun f => { f with ownReason := 0, ownPasses := 0 })
  | some k =>
    let (s, r, p) := s.stepJudge (s.tier k).fold 0 s.fld.ownReason s.fld.ownPasses (if s.ownTimeOk then [] else [3])
    s.mapFld (fun f => { f with ownReason := r, ownPasses := p })

/-- The top bellwether keeps the first 4,096 devices in order of admission (R457). -/
def judgeSize (s : State) : State :=
  if s.upTier.isSome ∨ s.tiers = 0 then s
  else
    let ms := sortBy (fun (a b : Nat × FldMember) => decide (a.2.order ≤ b.2.order)) (s.membersBelow s.tiers)
    let (_, big) := ms.foldl (fun (a : Nat × List Nat) e =>
      if 4096 < a.1 + e.2.devices then (a.1, a.2 ++ [e.1]) else (a.1 + e.2.devices, a.2)) (1, [])
    let was := s.fld.oversize
    let s := s.mapFld (fun f => { f with
      oversize := !big.isEmpty
      members := Tab.mapVals (fun k (x : FldMember) => { x with oversize := big.contains k }) f.members })
    if was ∨ big.isEmpty then s
    else s.foldEvent 0x0E07 .fault 1 ((big.headD 0) / 4096) ((big.headD 0) % 4096)

/-- A roster entry's EUI. -/
def rosterEui (s : State) (k m : Nat) : Option Nat := Tab.find? (s.memberKey k m) s.cfg.eff.roster

/-- The device numbers held besides those of one member (R454). -/
def mapWithout (s : State) (key : Nat) : Nat :=
  ((s.membersBelow s.tiers).filter (fun e => e.1 != key)).foldl (fun a e => a ||| e.2.devmap) (2 ^ s.deviceNo)

/-- RESULT of a JOIN: the lowest code that applies (R457). -/
def joinResult (k src : Nat) (b : Bytes) (s : State) : Nat :=
  let key := s.memberKey k src
  let held := match Tab.find? key s.fld.members with | some o => o.devices | none => 0
  if s.rosterEui k src ≠ some (u64 b 0) ∨ u16 b 8 ≠ src then 1
  else if u32 b 12 / 16777216 ≠ s.fwVersion / 16777216 then 2
  else if 4096 < s.hierDevices - held + u32 b 16 then 3
  else if 15 < s.levelOf k + u8 b 10 - 1 then 4
  else if rd b 56 512 &&& s.mapWithout key ≠ 0 then 5
  else 0

/-- The bellwether admits the sender of a JOIN (R457, R459). -/
def admitMember (k src : Nat) (b : Bytes) (s : State) : State :=
  let key := s.memberKey k src
  let old := Tab.find? key s.fld.members
  let fresh := match old with | some o => o.absent | none => true
  let m : FldMember := {
    order := match old with | some o => o.order | none => s.fld.admissions + 1
    eui := u64 b 0, subdepth := u8 b 10, devices := u32 b 16, devmap := rd b 56 512, cat := rd b 20 32, catAdm := 0, absent := false
    seen := true, missSf := 0, differs := none, stopDiff := 0, prevIn := none, offRun := 0, oversize := false, reason := 0, passes := 0 }
  let s := s.mapFld (fun f => { f with
    members := Tab.put key m f.members, admissions := if old.isNone then f.admissions + 1 else f.admissions })
  let cat := s.subCat (k + 1)
  let s := s.mapFld (fun f => { f with members := Tab.put key { m with catAdm := cat } f.members })
  (if fresh then s.foldEvent 0x0E01 .notice 1 (s.tier k).fold src else s).judgeSize

/-- JOIN at the bellwether (R457). -/
def joinMsg (k src : Nat) (b : Bytes) (s : State) : State :=
  let res := s.joinResult k src b
  let s := if res ≠ 0 then s else s.admitMember k src b
  s.foldSend k msgJoinAnswer (some src) (le 1 res ++ le 1 (s.levelOf k) ++ le 2 0 ++ le 4 (s.prm 0x0E10))

/-- JOIN_ANSWER at a member (R457). -/
def joinAnswer (k : Nat) (b : Bytes) (s : State) : State :=
  if s.upTier ≠ some k ∨ s.fld.admitted then s
  else if u8 b 0 = 0 then s.mapFld (fun f => { f with
    admitted := true, upLevel := u8 b 1, upState := 0, upReason := 0, seen := true, missSf := 0 })
  else s.foldEvent 0x0E05 .notice (u8 b 0) (s.tier k).fold (s.tier k).member

/-- Every part of STOP_SET with the whole source 3 set (R468). -/
def sendStopSet (k m : Nat) (s : State) : State :=
  let parts := chunks 448 s.stopSet
  let parts := if parts = [] then [[]] else parts
  parts.zipIdx.foldl (fun s (p, i) =>
    s.foldSend k msgStopSet (some m) (le 2 p.length ++ le 1 (b2n (decide (i + 1 = parts.length))) ++ [0] ++
      p.flatMap (fun (e : Nat × Nat) => le 8 e.1 ++ le 1 e.2))) s

/-- What a member's HEARTBEAT says of it, taken at ingress stamp `stamp` (R458, R462). -/
def hbMember (stamp : Nat) (b : Bytes) (m : FldMember) (s : State) : FldMember :=
  let same := u32 b 0 == s.prm 0x0E10 && u64 b 4 == s.cfgDigest
  let valid := decide (2 ≤ u8 b 48 / 32 ∧ u8 b 48 / 32 ≤ 5)
  let egress := u64 b 56
  let off : Bool := match m.prevIn with
    | some t => egress != 0 && valid && s.timeValid && decide (s.prm 0x0E13 < ((t : Int) - egress).natAbs)
    | none => false
  { m with
    absent := false, seen := true, missSf := 0, devices := u32 b 52, devmap := rd b 72 512, cat := rd b 16 32
    differs := if same then none else some (m.differs.getD s.sys.sfCount)
    stopDiff := if u64 b 64 != s.stopDigest then m.stopDiff + 1 else 0
    prevIn := if valid && s.timeValid then some stamp else none
    offRun := if off then m.offRun + 1 else 0 }

/-- The reasons of R462 for which a member fails. -/
def hbFails (key : Nat) (b : Bytes) (m : FldMember) (s : State) : List Nat :=
  let tq := u8 b 48
  let valid := decide (2 ≤ tq / 32 ∧ tq / 32 ≤ 5)
  let earlier := ((s.membersBelow s.tiers).filter (fun e => e.1 != key && decide (e.2.order < m.order))).foldl
    (fun a e => a ||| e.2.devmap) (2 ^ s.deviceNo)
  (match m.differs with | some t => if s.prm 0x0E11 ≤ s.sys.sfCount - t then [1] else [] | none => []) ++
  (if u32 b 12 / 16777216 = s.fwVersion / 16777216 then [] else [2]) ++
  (if valid ∧ bit (u8 b 49) 0 ∧ tq % 16 ≤ s.prm 0x0E14 ∧ m.offRun < 3 then [] else [3]) ++
  (if 2 ≤ m.stopDiff then [4] else []) ++
  (if m.catAdm &&& m.cat = m.catAdm then [] else [5]) ++
  (if m.oversize then [6] else []) ++ (if m.devmap &&& earlier = 0 then [] else [7])

/-- The body of HB_ANSWER for a member whose reason is `r` (R452, R459). -/
def hbAnswerBody (k r : Nat) (s : State) : Bytes :=
  let cat := match s.upTier with
    | some _ => if s.fld.admitted then s.subCat (k + 1) &&& s.fld.hierCat else s.subCat (k + 1)
    | none => s.subCat s.tiers
  le 1 (b2n (r != 0)) ++ le 1 r ++ le 1 (s.levelOf k) ++ [0] ++ le 4 s.hierDevices ++ le 32 cat ++ le 8 s.stopDigest

/-- HEARTBEAT at the bellwether (R458, R459, R462). -/
def heartbeat (k src stamp : Nat) (b : Bytes) (s : State) : State :=
  let key := s.memberKey k src
  match Tab.find? key s.fld.members with
  | none => s.foldDiscard
  | some m =>
    let m := s.hbMember stamp b m
    let s := (s.mapFld (fun f => { f with members := Tab.put key m f.members })).judgeSize
    let m := (Tab.find? key s.fld.members).getD m
    let (s, r, p) := s.stepJudge (s.tier k).fold src m.reason m.passes (s.hbFails key b m)
    let s := s.mapFld (fun f => { f with members := Tab.put key { m with reason := r, passes := p } f.members })
    let s := s.foldSend k msgHbAnswer (some src) (s.hbAnswerBody k r)
    if m.stopDiff = 2 then s.sendStopSet k src else s

/-- HB_ANSWER at a member (R458, R459). -/
def hbAnswer (k : Nat) (b : Bytes) (s : State) : State :=
  if s.upTier ≠ some k ∨ s.fld.admitted = false then s
  else s.mapFld (fun f => { f with
    upState := u8 b 0, upReason := u8 b 1, upLevel := u8 b 2, hierDevices := u32 b 4, hierCat := rd b 8 32, seen := true, missSf := 0 })

/-- What JOIN and HEARTBEAT say of the subtree this device stands for at tier `u` (R452). -/
def joinBody (s : State) (u : Nat) : Bytes :=
  le 8 s.fac.eui ++ le 2 (s.tier u).member ++ le 1 (s.subDepth u) ++ [0] ++ le 4 s.fwVersion ++ le 4 (s.subDevices u) ++
  le 32 (s.subCat u) ++ le 2 s.deviceNo ++ le 2 0 ++ le 512 (s.subMap u)
def heartbeatBody (s : State) (u : Nat) : Bytes :=
  le 4 (s.prm 0x0E10) ++ le 8 s.cfgDigest ++ le 4 s.fwVersion ++ le 32 (s.subCat u) ++ le 1 s.timeQ ++
  le 1 (b2n s.ticksAligned) ++ le 2 0 ++ le 4 (s.subDevices u) ++ le 8 (Tab.getD (s.tier u).fold 0 s.eth.hbStamps) ++
  le 8 s.stopDigest ++ le 512 (s.subMap u)

/-- A roaming join waits AIR_LOST_SF superframes for a release; then the robot is answered (R241). -/
def roamWaits (s : State) : State :=
  s.lnk.robots.foldl (fun s (e : Nat × Robot) => match e.2.roam with
    | some w =>
      if s.prm 0x0512 ≤ s.sys.sfCount - w.since then
        (s.mapRobot e.1 (fun x => { x with roam := none })).prepareAnswer e.1 w s.answerSf true false
      else s.relaySend toAll msgReleaseReq (le 8 e.2.eui)
    | none => s) s

/-- FOLD_PERIODIC_SEND: JOIN or HEARTBEAT, and every relayed message that waits for its answer (R452, R457, R458). -/
def foldPeriodic (s : State) : State :=
  if s.tiers = 0 then s.roamWaits
  else
    let s := s.judgeSelf
    let s := match s.upTier with
      | none => s
      | some u =>
        if s.fld.admitted then s.foldSend u msgHeartbeat (some 0) (s.heartbeatBody u) else s.foldSend u msgJoin none (s.joinBody u)
    let s := s.fld.relays.foldl (fun s r => s.relaySend r.dev r.typ r.body) s
    s.roamWaits

/-- MEMBER_ABSENT (R458). -/
def memberAbsent (fold m : Nat) (s : State) : State :=
  let key := fold * 4096 + m
  match Tab.find? key s.fld.members with
  | some x =>
    if x.absent = false ∧ s.prm 0x0E12 ≤ x.missSf then
      (s.mapFld (fun f => { f with members := Tab.put key { x with absent := true } f.members })).foldEvent 0x0E02 .warning 1 fold m
    else s
  | none => s

/-- FOLD_LOST (R458). -/
def foldLost (s : State) : State :=
  match s.upTier with
  | some u =>
    if s.fld.admitted ∧ s.prm 0x0E12 ≤ s.fld.missSf then
      (s.mapFld (fun f => { f with admitted := false, upState := 0, upReason := 0 })).foldEvent 0x0E06 .warning 1
        (s.tier u).fold (s.tier u).member
    else s
  | none => s

/-! ### Stops (R468) -/

/-- The source 3 holder follows the set: emergency while any entry has STATE 02h. -/
def followSet (s : State) : State :=
  let set := s.stopSet
  let ramp := b2n (set.any (fun e => e.2 == 2))
  if set = [] then (s.releaseStop 3 0 0).getD s
  else match Tab.find? 3 s.crk.all with
  | some r => if r ≤ ramp then s.setStop 3 0 0 ramp else s.mapCrk (fun k => { k with all := Tab.put 3 ramp k.all })
  | none => s.setStop 3 0 0 ramp

/-- Sends a STOP to every member of a tier's fold and waits for each one's STOP_ACK. -/
def sendStop (k origin st seq : Nat) (s : State) : State :=
  let owed := (s.fld.macs.filter (fun (e : Nat × Nat) => e.1 / 4096 == (s.tier k).fold)).map (fun e => e.1 % 4096)
  let more : List StopSend := if owed = [] then [] else [⟨k, origin, st, seq, owed⟩]
  let s := s.mapFld (fun f => { f with stopSends := f.stopSends.filter (fun x => !(x.tier == k && x.origin == origin)) ++ more })
  s.foldSend k msgStop none (le 8 origin ++ le 1 st ++ zeros 3 ++ le 4 seq)

/-- A change of this device's own loop or host holders of the all-stop goes to every fold it belongs to. -/
def forwardStop (s : State) : State :=
  if s.crk.forward = false then s
  else
    let s := s.mapCrk (fun k => { k with forward := false })
    if s.tiers = 0 then s
    else
      let mine := s.crk.all.filter (fun (e : Nat × Nat) => e.1 == 1 || e.1 == 2)
      let st := if mine.any (fun e => e.2 == 1) then 2 else if mine.isEmpty then 0 else 1
      let seq := s.fld.stopSeq + 1
      let s := s.mapFld (fun f => { f with stopSeq := seq })
      (List.range s.tiers).foldl (fun s k => s.sendStop k s.fac.eui st seq) s

/-- STOP: forwarded at once, acknowledged, and applied at the next tick boundary. -/
def stopMsg (k src : Nat) (b : Bytes) (s : State) : State :=
  let origin := u64 b 0
  let seq := u32 b 12
  let newer : Bool := match Tab.find? origin s.fld.stops with | some e => decide (e.2 < seq) | none => true
  let waiting := s.fld.stopIn.any (fun e => e.1 == origin && decide (seq ≤ e.2.2))
  let s := if newer ∧ waiting = false ∧ u8 b 8 ≤ 2 ∧ origin ≠ s.fac.eui then
      let s := ((List.range s.tiers).filter (fun j => j != k)).foldl (fun s j => s.sendStop j origin (u8 b 8) seq) s
      s.mapFld (fun f => { f with stopIn := f.stopIn ++ [(origin, u8 b 8, seq)] })
    else s
  s.foldSend k msgStopAck (some src) (le 8 origin ++ le 4 seq)

/-- STOP_ACK. -/
def stopAck (k src : Nat) (b : Bytes) (s : State) : State :=
  let one (x : StopSend) : StopSend :=
    if x.tier = k ∧ x.origin = u64 b 0 ∧ x.seq = u32 b 8 then { x with owed := x.owed.filter (fun m => m != src) } else x
  s.mapFld (fun f => { f with stopSends := (f.stopSends.map one).filter (fun x => !x.owed.isEmpty) })

/-- A part of STOP_SET: with the last, the set replaces this device's at the next tick boundary. -/
def stopSetMsg (k : Nat) (b : Bytes) (s : State) : State :=
  if s.upTier ≠ some k ∨ 448 < u16 b 0 ∨ b.length ≠ 4 + 9 * u16 b 0 then s.foldDiscard
  else
    let t := (List.range (u16 b 0)).foldl (fun (t : Tab Nat) i => Tab.put (u64 b (4 + 9 * i)) (u8 b (12 + 9 * i)) t) s.fld.setParts
    s.mapFld (fun f =>
      if bit (u8 b 2) 0 then { f with setParts := [], setIn := some t } else { f with setParts := t })

/-- At the tick boundary: STOPs that are owed go out again, and the STOPs and sets of the intake are applied. -/
def stopTick (s : State) : State :=
  let s := s.fld.stopSends.foldl (fun s x =>
    (s.foldSend x.tier msgStop none (le 8 x.origin ++ le 1 x.state ++ zeros 3 ++ le 4 x.seq)).mapFld
      (fun f => { f with stopResends := inc32 f.stopResends })) s
  if s.fld.stopIn = [] ∧ s.fld.setIn = none then s
  else
    let t0 : Tab (Nat × Nat) := match s.fld.setIn with
      | some t => t.foldl (fun (a : Tab (Nat × Nat)) e => Tab.put e.1 (e.2, (Tab.getD e.1 (0, 0) a).2) a)
          (Tab.mapVals (fun _ (e : Nat × Nat) => (0, e.2)) s.fld.stops)
      | none => s.fld.stops
    let t1 := s.fld.stopIn.foldl (fun (a : Tab (Nat × Nat)) e =>
      if (match Tab.find? e.1 a with | some o => decide (o.2 < e.2.2) | none => true) then Tab.put e.1 e.2 a else a) t0
    (s.mapFld (fun f => { f with stops := t1, stopIn := [], setIn := none })).followSet

/-! ### Roaming and tasks of other members (R241, R469, R470) -/

/-- The robot of an EUI. -/
def robotOf (s : State) (eui : Nat) : Option (Nat × Robot) := List.find? (fun (e : Nat × Robot) => e.2.eui == eui && !e.2.legacy) s.lnk.robots

/-- RELEASE_REQ: the present member releases the robot at its next superframe boundary. -/
def releaseReq (dev : Nat) (b : Bytes) (s : State) : State :=
  match s.robotOf (u64 b 0) with
  | none => s
  | some (_, x) =>
    if x.link = .registered ∨ x.roam.isSome ∨ (Tab.find? x.eui s.fld.roamOut).isSome then s
    else s.mapFld (fun f => { f with roamOut := Tab.put x.eui (dev, false) f.roamOut })

/-- The lane end that RELEASE names: HANDOVER and LANE. -/
def handoverLane (s : State) (dev hold : Nat) : Nat × Nat :=
  match (s.borderLanes dev).find? (fun (e : Nat × Lane) => e.2.fromN == hold || e.2.toN == hold) with
  | some (i, l) => (if l.fromN = hold then 1 else 2, i)
  | none => (0, 0)

/-- At the superframe boundary, robots asked for are released (R241, R469). -/
def roamRelease (s : State) : State :=
  s.fld.roamOut.foldl (fun s (e : Nat × Nat × Bool) =>
    if e.2.2 then s
    else match s.robotOf e.1 with
    | none => s.mapFld (fun f => { f with roamOut := Tab.del e.1 f.roamOut })
    | some (r, _) =>
      let hold := s.openHoldOf r
      let h := match hold with | some n => s.handoverLane e.2.1 n | none => (0, 0)
      let s := (s.raise 0x050B .notice 0 1 r).endGeneration r
      let s := s.freeWhere (fun x => x.robot == r && x.kind != 3 && !(x.kind == 1 && x.tOut.isNone && some x.place == hold))
      let s := (s.endReq r).mapPr r (fun x => { x with route := none, plan := none, tracks := [] })
      let back := (s.tsk.tasks.filter (fun t => t.2.robot == some r && t.2.state == 2)).map Prod.fst
      let s := (back.foldl (fun s id => s.returnReady id) s).mapTsk (fun k => { k with
        proxies := k.proxies.filter (fun t => t.2.robot != some r) })
      let s := s.mapFld (fun f => { f with roamOut := Tab.put e.1 (e.2.1, true) f.roamOut })
      s.relay e.2.1 msgRelease (le 8 e.1 ++ le 1 h.1 ++ zeros 3 ++ le 4 h.2)) s

/-- RELEASE at the new member: the robot is answered, and its hold is entered without a pair test. -/
def release (dev : Nat) (b : Bytes) (s : State) : State :=
  let eui := u64 b 0
  let s := match s.robotOf eui with
    | none => s
    | some (r, x) => match x.roam with
      | none => s
      | some w =>
        let s := s.mapRobot r (fun x => { x with roam := none, roamFrom := some dev })
        let s := s.prepareAnswer r w s.answerSf true false
        let lane := ((s.borderLanes dev).find? (fun (e : Nat × Lane) => e.1 == u32 b 12)).map Prod.snd
        let node := match u8 b 8, lane with
          | 1, some l => some l.fromN
          | 2, some l => some l.toN
          | _, _ => none
        match node with
        | some n =>
          let c := s.clsOf r
          (s.freeWhere (fun e => e.robot == r && e.kind != 3)).addEntries [{
            robot := r, kind := 1, grant := 0, place := n, seg := 0, cls := c, shape := s.classShape c, geo := s.nodeGeo n
            tIn := s.rtNow, tOut := none, tseg := none, late := false, border := false, breach := false, conflict := false, xid := none, hits := [] }]
        | none => s.foldEvent 0x0E09 .warning 1 (s.tier 0).fold (s.tier 0).member
  s.relay dev msgReleaseAck (le 8 eui)

/-- RELEASE_ACK: the former member frees the hold. -/
def releaseAck (dev : Nat) (b : Bytes) (s : State) : State :=
  let eui := u64 b 0
  match Tab.find? eui s.fld.roamOut with
  | some (d, true) =>
    if d ≠ dev then s
    else
      let s := s.mapFld (fun f => { f with roamOut := Tab.del eui f.roamOut })
      let s := s.relayDone dev msgRelease (fun m => u64 m 0 == eui)
      match s.robotOf eui with
      | some (r, _) => s.freeWhere (fun e => e.robot == r && e.kind != 3)
      | none => s
  | _ => s

/-- RESUME_NOTE: R327's rows for this device's own tasks (R470). -/
def resumeNote (dev : Nat) (b : Bytes) (s : State) : State :=
  let eui := u64 b 0
  let cur := u32 b 8
  let listed := [cur, u32 b 12].filter (fun i => i != 0)
  let s := match s.robotOf eui with
    | none => s
    | some (r, _) => (s.tasksOf r).foldl (fun s (x : Nat × Task) =>
      let id := x.1
      let t := x.2
      if (s.task? id).isNone then s
      else if listed.contains id then
        if id = cur then (if t.state = 4 then s else s.becomeCurrent r id false) else s.mapTask id (fun t => { t with state := 3 })
      else if t.state = 2 then s
      else (s.finalize id 5 0 0).raiseD 0x0805 .fault 1 1 r id) s
  s.relay dev msgNoteAck (le 8 eui)

/-- TASK_REPORT at the issuer: a delivery or a completion counted once (R470); a task still ALLOTTED is delivered as R326 gives. An end that the serving member found under R327 or R331
gives the task that outcome (assumption 175). -/
def taskReport (dev : Nat) (b : Bytes) (s : State) : State :=
  let id := u32 b 0
  let r := (s.robotOf (u64 b 4)).map Prod.fst
  let held : Bool := match s.task? id with | some t => t.robot == r && r.isSome | none => false
  let s := match held, u8 b 12, r with
    | true, 1, some r =>
      if u8 b 13 = 4 ∨ u8 b 13 = 5 then s.finalize id (u8 b 13) 0 0
      else s.taskDone r (le 4 id ++ slice b 13 2 ++ zeros 2 ++ slice b 16 4)
    | true, 0, some r =>
      if (s.task? id).map (fun (t : Task) => t.state) ≠ some 2 then s
      else if s.hasOpen r then s.mapTask id (fun t => { t with state := 3 }) else s.becomeCurrent r id false
    | _, _, _ => s
  s.relay dev msgReportAck (le 4 id ++ le 1 (u8 b 12) ++ le 1 (b2n (!held)) ++ le 2 0)

/-- REPORT_ACK at the serving member: it keeps a proxy, recalls the task, or frees the proxy (R470). -/
def reportAck (dev : Nat) (b : Bytes) (s : State) : State :=
  let id := u32 b 0
  let kind := u8 b 4
  let s := s.relayDone dev msgTaskReport (fun m => u32 m 0 == id && u8 m 12 == kind)
  if kind = 1 then
    s.mapTsk (fun k => { k with proxies := Tab.del id k.proxies })
  else match Tab.find? id s.fld.foreign with
  | none => s
  | some (r, cur) =>
    let s := s.mapFld (fun f => { f with foreign := Tab.del id f.foreign })
    if u8 b 5 = 0 then
      s.mapTsk (fun k => { k with proxies := Tab.put id {
        record := zeros 4 ++ le 1 (Config.proxyPriority id % 64) ++ zeros 59, state := if cur then 4 else 3, robot := some r, last := some r
        planned := false, release := 0, order := 0, idx := 0, sess := 0, eta := 0
        declined := [], cancel := none, resultSeq := 0, outcome := 0, code := 0, result := 0, time := 0 } k.proxies })
    else ((if (match s.robot? r with | some x => x.resumed | none => false) then s.sendElem r 0x31 (le 4 id) else s)).raiseD 0x0806 .warning 1 1 r id

/-- BORDER_DIGEST (R471). -/
def borderDigestMsg (dev : Nat) (b : Bytes) (s : State) : State :=
  (s.mapFld (fun f => { f with digests := Tab.put dev (u64 b 0) f.digests })).judgeBorder dev

/-- The length a relayed message's body must have. -/
def relayLenOk (typ : Nat) (b : Bytes) : Bool :=
  match typ with
  | 0x09 | 0x0B | 0x10 | 0x13 => b.length == 8
  | 0x0A => b.length == 16
  | 0x0C => b.length == 8 + 72 * u16 b 4 && decide (1 ≤ u16 b 4 ∧ u16 b 4 ≤ 16)
  | 0x0D | 0x0E => b.length == 8
  | 0x0F => b.length == 16
  | 0x11 => b.length == 20
  | 0x12 => b.length == 8
  | _ => false

/-- A relayed message of types 09h to 13h reaches this device: it enters the intake of the next tick boundary. -/
def relayTake (dev typ : Nat) (b : Bytes) (s : State) : State :=
  if s.tiers = 0 ∨ relayLenOk typ b = false then s.foldDiscard
  else s.mapFld (fun f => { f with inbox := f.inbox ++ [(dev, typ, b)] })

/-- What one relayed message of the intake does. -/
def relayApply (dev typ : Nat) (b : Bytes) (s : State) : State :=
  match typ with
  | 0x09 => s.releaseReq dev b
  | 0x0A => s.release dev b
  | 0x0B => s.releaseAck dev b
  | 0x0C => s.borderPrepare dev b
  | 0x0D => s.borderVote dev (u32 b 0) (u8 b 4 == 0)
  | 0x0E => s.borderDecide (dev * 4294967296 + u32 b 0) (u8 b 4 != 0)
  | 0x0F => s.resumeNote dev b
  | 0x10 => s.relayDone dev msgResumeNote (fun m => u64 m 0 == u64 b 0)
  | 0x11 => s.taskReport dev b
  | 0x12 => s.reportAck dev b
  | 0x13 => s.borderDigestMsg dev b
  | _ => s

/-- The fold's part of the tick intake: stops, then relayed messages in the order received. -/
def foldTick (s : State) : State :=
  let s := s.stopTick
  let q := s.fld.inbox
  let s := s.mapFld (fun f => { f with inbox := [] })
  (q.foldl (fun s (m : Nat × Nat × Bytes) => s.relayApply m.1 m.2.1 m.2.2) s).foldFlush

/-- RELAY: forwarded by device number, or its inner message is taken (R455). -/
def relayMsg (k : Nat) (b : Bytes) (s : State) : State :=
  let dev := u16 b 0
  let inner := b.drop 8
  let n := u16 inner 12
  let ok := decide (28 ≤ b.length) && inner.length == 20 + n && u8 inner 0 == 1 &&
    crc32c (inner.take (16 + n)) == u32 inner (16 + n) && decide (9 ≤ u8 inner 1 ∧ u8 inner 1 ≤ 0x13)
  let take (s : State) : State := if ok then s.relayTake (u16 b 2) (u8 inner 1) (slice inner 16 n) else s.foldDiscard
  if dev = s.deviceNo then take s
  else if 30 ≤ u8 b 4 then s.mapFld (fun f => { f with relayDisc := inc32 f.relayDisc })
  else
    let s := s.relayRoute dev (u16 b 2) (u8 b 4 + 1) inner (some k)
    if dev = toAll then take s else s

/-! ### Routing (R464 to R467) -/

/-- What a routed command meets at a device. -/
inductive Hop where
  /-- This device is the target. -/
  | here (hop : Nat)
  /-- Forwarded in ROUTED to member `m` of tier `k`. -/
  | next (k m hop : Nat)
  /-- FOLD_NO_ROUTE with the failing entry and R466's reason. -/
  | fail (hop reason : Nat)

/-- Reads the path from entry `h` in the fold of tier `k` (R465, R466). -/
def hopFrom (s : State) (p : Pkt) : Nat → Nat → Hop
  | k, h =>
    if p.depth ≤ h then .fail (h - 1) 3
    else
      let m := p.pathEntry h
      if m = 0 then
        match k with
        | 0 => if p.depth = h + 1 then .here (h + 1) else .fail (h + 1) 3
        | j + 1 => s.hopFrom p j (h + 1)
      else if (s.rosterEui k m).isNone then .fail h 1
      else match Tab.find? (s.memberKey k m) s.fld.members with
      | none => .fail h 2
      | some x =>
        if x.absent then .fail h 2
        else if x.subdepth = 1 then (if p.depth = h + 1 then .next k m (h + 1) else .fail (h + 1) 3)
        else if p.depth = h + 1 then .fail h 3 else .next k m (h + 1)

/-- FOLD_NO_ROUTE goes back the way the packet came. -/
def noRoute (ver opcode : Nat) (p : Pkt) (hop : Nat) (body : Bytes) (s : State) : State :=
  s.sendPacket p.via { ver := ver, opcode := opcode, flags := p.flags ||| 1, acc := p.acc, sess := p.sess, pre := p.pathBack hop
                       ans := ⟨0x0E40, 0, body⟩ }

/-- A packet whole again, for forwarding. -/
def routedWhole (ver opcode : Nat) (p : Pkt) : Bytes := packetVer ver p.flags opcode p.acc p.sess p.payload

/-- A routed command at a device: answers the packet for this device, if it is the target. -/
def hopAct (ver opcode : Nat) (p : Pkt) (h : Hop) (s : State) : State × Option Pkt :=
  match h with
  | .here n => (s, some (withHop n p))
  | .next k m n => (s.foldSend k msgRouted (some m) (routedWhole ver opcode (withHop n p)), none)
  | .fail n r => (s.noRoute ver opcode p n (le 1 r ++ zeros 3), none)

/-- A fold-routed packet from a host (R464 to R467): refused by a device that is no bellwether; else the entry device remembers
where answers go and reads the path. The checks from VERSION on are the named member's (R77). -/
def routeHost (ver opcode : Nat) (p : Pkt) (s : State) : State × Option Pkt :=
  match headCheck p with
  | some a => (s.refuseVer ver opcode p a, none)
  | none =>
    match s.bellTiers.getLast? with
    | none => (s.noRoute ver opcode p 0 [], none)
    | some k =>
      let key := pathKey p
      let keep := p.acc = 0 ∧ p.sess ≠ 0 ∧ s.fld.paths.any (fun e => e.1 == key)
      let s := if keep then s else s.mapFld (fun f => { f with paths := f.paths.filter (fun e => e.1 != key) ++ [(key, p.via)] })
      s.hopAct ver opcode p (s.hopFrom p k 0)

/-- A reply or completion on its way up: to the host at the entry device, else to the next bellwether (R467). -/
def routeReply (b : Bytes) (s : State) : State :=
  let r := replyOf b
  let key : Bytes := le 1 (u8 r.pre 0) ++ slice r.pre 2 (2 * u8 r.pre 0)
  match (s.fld.paths.find? (fun e => e.1 == (key, r.sess))).or (s.fld.paths.find? (fun e => e.1 == (key, 0))), s.upTier with
  | some e, _ => s.sendPacket e.2 r
  | none, some u => s.foldSend u msgRouted (some 0) b
  | none, none => s.foldDiscard

/-- ROUTED: a packet for this device waits for the tick boundary (R465); others go on. -/
def routedMsg (k fold src : Nat) (b : Bytes) (s : State) : State :=
  let p := pktOf (.fold fold src) b
  match headFault b with
  | some k => s.count p.via (k - 1)
  | none =>
  if bit p.flags 0 then s.routeReply b
  else if bit p.flags 4 then s.count p.via 2
  else match headCheck p with
  | some a => s.refuseVer (u8 b 2) (u16 b 4) p a
  | none =>
    let h := u8 p.payload 1
    let hop : Hop := match k with
      | 0 => if h = p.depth then .here h else .fail h 3
      | j + 1 => s.hopFrom p j h
    match s.hopAct (u8 b 2) (u16 b 4) p hop with
    | (s, some p) => s.mapFld (fun f => { f with routedIn := f.routedIn ++ [(u8 b 2, u16 b 4, p)] })
    | (s, none) => s

/-! ### Reception (R450, R451, R453) -/

/-- A fold message of type `typ` is received; with Q2 out of service it is dropped and counted (R429, R450). -/
def foldTake (typ : Nat) (f : FoldRx) (s : State) : State :=
  if s.fixedDown 2 then s.dropFixed 2
  else match s.tierOf f.fold with
  | none => s.foldDiscard
  | some k =>
    let t := s.tier k
    let whole := foldHeader f.ver typ f.fold f.src f.dst f.seq f.body.length ++ f.body
    let bell := t.member == 0
    if f.ver ≠ 1 ∨ f.crc ≠ crc32c whole ∨ (f.dst ≠ t.member ∧ f.dst ≠ 0xFFFF) ∨ f.src = t.member ∨ 4096 ≤ f.src then s.foldDiscard
    else if bell ∧ typ ≠ msgJoin ∧ Tab.has (f.fold * 4096 + f.src) s.fld.members = false then s.foldDiscard
    else
      let s := s.mapFld (fun x => { x with macs := Tab.put (f.fold * 4096 + f.src) f.mac x.macs })
      let b := f.body
      let n := b.length
      match typ with
      | 0x01 => if bell then (if n = 568 then s.joinMsg k f.src b else s.foldDiscard) else s
      | 0x02 => if n = 8 ∧ f.src = 0 then s.joinAnswer k b else s.foldDiscard
      | 0x03 => if bell ∧ n = 584 then s.heartbeat k f.src f.stamp b else s.foldDiscard
      | 0x04 => if n = 48 ∧ f.src = 0 then s.hbAnswer k b else s.foldDiscard
      | 0x05 => s.routedMsg k f.fold f.src b
      | 0x06 => if n = 16 then s.stopMsg k f.src b else s.foldDiscard
      | 0x07 => if n = 12 then s.stopAck k f.src b else s.foldDiscard
      | 0x08 => if f.src = 0 then s.stopSetMsg k b else s.foldDiscard
      | 0x14 => s.relayMsg k b
      | _ => s.foldDiscard

/-- A frame of a fold message on a CAN port that a fold uses (R453). -/
def canFoldPart (n : Nat) (f : CanFrame) (s : State) : State :=
  let src := f.id / 2 ^ 14 % 4096
  let msg := u16 f.data 0
  let i := u8 f.data 2
  let total := u8 f.data 3
  if f.ide = false ∨ f.fdf = false ∨ f.data.length < 5 ∨ total ≤ i then s.foldDiscard
  else
    let mine (m : CanMsg) : Bool := m.link == n + 3 && m.src == src && m.msg == msg
    let m := (s.fld.canMsgs.find? mine).getD ⟨n + 3, src, msg, total, s.now, []⟩
    let m := { m with parts := Tab.put i (slice f.data 4 60) m.parts }
    let rest := s.fld.canMsgs.filter (fun x => !mine x)
    if m.parts.length < m.total then s.mapFld (fun x => { x with canMsgs := rest ++ [m] })
    else
      let b := m.parts.flatMap Prod.snd
      let len := u16 b 12
      let s := s.mapFld (fun x => { x with canMsgs := rest })
      if b.length < 20 + len ∨ u16 b 14 ≠ 0 then s.foldDiscard
      else s.foldTake (u8 b 1) {
        link := n + 3, mac := 0, stamp := s.clk.count, ver := u8 b 0, fold := u16 b 2, src := u16 b 4, dst := u16 b 6, seq := u32 b 8
        body := slice b 16 len, crc := u32 b (16 + len) }

/-- FOLD_PART_TIMEOUT: messages not whole within 100 ms of their first part (R453). -/
def foldPartTimeout (s : State) : State :=
  let old (m : CanMsg) : Bool := decide (100000000 ≤ s.now - m.since)
  let n := (s.fld.canMsgs.filter old).length
  s.mapFld (fun f => { f with canMsgs := f.canMsgs.filter (fun m => !old m), discarded := satAdd 0xFFFFFFFF f.discarded n })

/-! ### Superframes and configuration (R449, R456, R468, R473) -/

/-- What a superframe boundary does for the fold: missed heartbeats counted, border digests, and the synchronisation
pulse. -/
def foldSuperframe (s : State) : State :=
  let s := if s.prm 0x0E15 ≤ 47 then s.emit (.padPulse (s.prm 0x0E15) 10000) else s
  let s := s.mapFld (fun f => { f with
    seen := false, missSf := if f.seen ∨ f.admitted = false then 0 else f.missSf + 1, digestSf := f.digestSf + 1
    members := Tab.mapVals (fun _ (m : FldMember) => { m with seen := false, missSf := if m.seen then 0 else m.missSf + 1 }) f.members })
  if 100 ≤ s.fld.digestSf then s.sendDigests else s

/-- FLD_ENABLE or a tier has changed: the device leaves every fold it was in; FLD_ENABLE 00h empties the source 3 set. -/
def foldLeave (s : State) : State :=
  let s := s.mapFld (fun f => { f with
    admitted := false, upLevel := 0, upState := 0, upReason := 0, seen := false, missSf := 0, hierDevices := 0, hierCat := 0
    ownReason := 0, ownPasses := 0, members := [], macs := [], stopSends := [], setParts := [], paths := [], canMsgs := []
    oversize := false, inbox := [], routedIn := f.routedIn.filter (fun x => match x.2.2.via with | .fold _ _ => false | _ => true)
    relays := if s.prm 0x0E00 = 0 then [] else f.relays })
  if s.prm 0x0E00 = 0 then (s.mapFld (fun f => { f with stops := [], stopIn := [], setIn := none })).followSet else s

/-- A roster entry has been replaced or deleted: the former device's frames are discarded (R456). -/
def rosterChanged (keys : List Nat) (s : State) : State :=
  s.mapFld (fun f => { f with
    members := f.members.filter (fun (e : Nat × FldMember) => !keys.contains e.1)
    macs := f.macs.filter (fun (e : Nat × Nat) => !keys.contains e.1) })

/-! ### Opcodes (R472) -/

/-- FLD_STATE_READ. -/
def runFldStateRead (c : Cmd) (s : State) : State × CmdRes :=
  if c.params.length ≠ 0 then (s, refuse stBadLength 0)
  else
    let ms := s.membersBelow s.tiers
    (s, fin (le 1 s.tiers ++ le 1 (match s.bellTiers.getLast? with | some k => s.levelOf k | none => 0) ++ le 2 0 ++
      le 4 s.hierDevices ++ le 32 s.hierCat ++ le 2 s.stopSet.length ++ le 2 (ms.filter (fun e => e.2.absent)).length ++
      le 2 (ms.filter (fun e => e.2.reason != 0)).length ++ le 2 0 ++ le 4 s.fld.stopResends ++ le 4 s.fld.discarded ++
      le 4 s.fld.relayFwd ++ le 4 s.fld.relayDisc))

/-- The tier of a fold of which this device is bellwether by its tier records. -/
def bellTierOf (s : State) (fold : Nat) : Option Nat :=
  (List.range 15).find? (fun k => (s.tier k).fold == fold && fold != 0xFFFF && (s.tier k).member == 0)

/-- The roster refusals of R472. -/
def rosterRefusal (s : State) (fold m : Nat) : Option CmdRes :=
  if (List.range 15).all (fun k => (s.tier k).fold == 0xFFFF || (s.tier k).member != 0) then some (refuse 0x0E41 0)
  else if (s.bellTierOf fold).isNone ∨ m = 0 ∨ 4096 ≤ m then some (refuse stBadParam 0)
  else none

/-- FLD_MEMBER_ADD. -/
def runFldMemberAdd (c : Cmd) (s : State) : State × CmdRes :=
  let b := c.params
  if b.length ≠ 12 then (s, refuse stBadLength 0)
  else match s.rosterRefusal (u16 b 0) (u16 b 2) with
  | some r => (s, r)
  | none => (s.mapShadow c.sess (fun h => { h with roster := Tab.put (u16 b 0 * 4096 + u16 b 2) (u64 b 4 + 1) h.roster }), fin [])

/-- FLD_MEMBER_REMOVE. -/
def runFldMemberRemove (c : Cmd) (s : State) : State × CmdRes :=
  let b := c.params
  if b.length ≠ 4 then (s, refuse stBadLength 0)
  else match s.rosterRefusal (u16 b 0) (u16 b 2) with
  | some r => (s, r)
  | none => (s.mapShadow c.sess (fun h => { h with roster := Tab.put (u16 b 0 * 4096 + u16 b 2) 0 h.roster }), fin [])

/-- FLD_MEMBERS_READ. -/
def runFldMembersRead (c : Cmd) (s : State) : State × CmdRes :=
  let b := c.params
  if b.length ≠ 8 then (s, refuse stBadLength 0)
  else if u16 b 4 = 0 ∨ 254 < u16 b 4 ∨ 4096 < u16 b 2 + u16 b 4 ∨ u16 b 6 ≠ 0 then (s, refuse stBadParam 0)
  else match s.bellTierOf (u16 b 0) with
  | none => (s, refuse stBadParam 0)
  | some k => (s, fin ((List.range (u16 b 4)).flatMap (fun i =>
      let m := u16 b 2 + i
      if m = 0 then
        le 2 0 ++ le 1 (b2n (s.fld.ownReason != 0)) ++ le 1 s.fld.ownReason ++ le 8 s.fac.eui ++ le 4 (s.subDevices k)
      else match s.rosterEui k m, Tab.find? (s.memberKey k m) s.fld.members with
      | none, _ => le 2 m ++ le 1 3 ++ zeros 13
      | some e, none => le 2 m ++ le 1 2 ++ le 1 0 ++ le 8 e ++ le 4 0
      | some e, some x =>
        le 2 m ++ le 1 (if x.absent then 2 else b2n (x.reason != 0)) ++ le 1 x.reason ++ le 8 e ++ le 4 x.devices)))

end State

end Sys2Proof.Machine
end

