-- ==== Sys2Proof/Machine/Pair.lean ====
section
/-! DEFINITION. The redundant pair: yielding, the merged intake, digests, the mismatch test, the loss of the link,
resynchronisation, and the opcodes (R476 to R499). -/

namespace Sys2Proof.Machine

/-- The identity of an input (R482); `own`: this unit received it, `active`: this unit is the active. -/
def pairIdOf (own active : Bool) (i : PairIn) : PairId :=
  match i with
  | .cmd _ p order => if p.acc ≠ 0 then .numbered p.sess p.acc p.pcrc else .unnumbered (own == active) order
  | .air _ asn f => .air f.chain asn
  | .fold _ f => .fold f.fold f.src f.seq

/-- STATE of PAI_STATE_READ (R496). -/
def PairMode.code : PairMode → Nat
  | .alone => 0 | .resync => 1 | .lockstep => 2 | .yielded => 3 | .withheld => 4

namespace State

/-- Changes the pair block. -/
def mapPai (f : Pai → Pai) (s : State) : State := { s with pai := f s.pai }

/-- The unit withholds what R490 withholds: yielded, or a standby that is not in lockstep (R490, R493). -/
def pairShut (s : State) : Bool :=
  s.pai.role != 0 && (s.pai.mode == .yielded || s.pai.mode == .withheld || (s.pai.mode == .resync && s.pai.role == 2))

/-! ### Journal confirmations (R495) -/

/-- Sends the reply of an entry that waited for the partner's confirmation. That of a SESSION_CLOSE then ends (R89). -/
def releaseConf (n acc : Nat) (s : State) : State :=
  match s.entry? n acc with
  | some e => match e.awaitConf with
    | some a =>
      let via := match e.close, s.session n with | some v, _ => v | none, some x => x.via | none, none => .spi
      let s := s.mapSes (fun z => { z with
        journal := (z.journal.filter (fun k => !(k.sess == n && k.acc == acc && k.close.isSome))).map (fun k =>
          if k.sess = n ∧ k.acc = acc then { k with awaitConf := none } else k) })
      let s := s.sendPacket via { State.acceptedOf e with ans := a }
      s.pumpSession n
    | none => s
  | none => s

/-- Replies whose confirmation has come, or that need none any more because the unit runs alone. -/
def releaseConfs (s : State) : State :=
  let due := s.ses.journal.filter (fun e => e.awaitConf.isSome &&
    (s.pai.confs.contains (e.sess, e.acc) || (s.pai.mode == .alone)))
  let s := due.foldl (fun s e => s.releaseConf e.sess e.acc) s
  s.mapPai (fun p => { p with confs := p.confs.filter (fun c => !due.any (fun e => (e.sess, e.acc) == c)) })

/-- JOURNAL_CONF: the partner has journaled a command. -/
def journalConf (n acc : Nat) (s : State) : State :=
  if s.merging then (s.mapPai (fun p => { p with confs := p.confs ++ [(n, acc)] })).releaseConfs else s

/-! ### Leaving lockstep (R489 to R492) -/

/-- What ends with lockstep or an attempt at it. -/
def pairApart (mode : PairMode) (s : State) : State :=
  s.mapPai (fun p => { p with
    mode := mode, items := [], owed := [], merged := false, digested := false, match_ := false, matchNext := false, taken := []
    confs := [], heldTick := none, mergeDue := none, own := none, their := none, sealed := [], mute := false, test := none, syncFrom := none, syncAt := none, echoFrom := none, lockTicks := 0 })

/-- This unit yields (R490). -/
def unitYield (reason : Nat) (s : State) : State :=
  if s.pai.mode ≠ .lockstep then s
  else
    let s := (s.emit (.pairYield reason)).pairApart .yielded
    let s := s.mapPai (fun p => { p with linkYield := reason == 4, yieldSeen := p.yieldSeen || reason != 4, silent := 0, silentDone := false, solo := false })
    let s := s.mapCan (fun c => { c with ports := c.ports.map (fun p => { p with onBus := none }) })
    s.raise0 0x0F02 .fault reason 0

/-- This unit becomes the unit in control: it drives CAN and the serial link, and replies wait for the partner no more (R491). What it
holds for a MERGE that will not come it takes at its next tick boundary (assumption 17). -/
def takeUp (s : State) : State :=
  let held := s.pai
  let s := (s.pairApart .alone).mapPai (fun p => { p with solo := true, items := held.items, heldTick := held.heldTick })
  ((s.canOffer 0).canOffer 1).serSend.releaseConfs

/-- A resynchronisation ends without lockstep (R493). -/
def syncFail (level : Nat) (s : State) : State :=
  let cmds := s.pai.syncCmds
  let s := s.pairApart (if s.pai.role = 2 then .withheld else .alone)
  let s := (s.mapPai (fun p => { p with syncCmds := [] })).raise0 0x0F08 .warning level 0
  (cmds.foldl (fun s c => s.complete c.1 c.2 (Ans.bare 0x0F42 level)) s).releaseConfs

/-- YIELD from the partner (R491): a unit in lockstep becomes the unit in control, and a resynchronisation ends. -/
def partnerYields (reason : Nat) (s : State) : State :=
  if s.pai.role = 0 ∨ s.pai.trained = false then s
  else
    let s := (s.mapPai (fun p => { p with yieldSeen := true })).raise0 0x0F03 .warning reason 0
    match s.pai.mode with
    | .lockstep => s.takeUp
    | .resync => s.syncFail 5
    | _ => s

/-- The link is lost (R479, R492): PAIR_LINK_LOST is raised where no YIELD came before it. -/
def linkLost (s : State) : State :=
  if s.pai.trained = false then s
  else
    let s := s.mapPai (fun p => { p with trained := false, linkDown := true, lane0 := false, lane1 := false })
    match s.pai.role, s.pai.mode with
    | 0, _ => s
    | 1, .lockstep => (s.takeUp).raise0 0x0F04 .fault 1 0
    | 1, .resync => (s.raise0 0x0F04 .fault 1 0).syncFail 5
    | 1, _ => if s.pai.yieldSeen then s else s.raise0 0x0F04 .fault 1 0
    | _, .lockstep => (s.unitYield 4).raise0 0x0F04 .fault 2 0
    | _, .resync => (s.raise0 0x0F04 .fault 2 0).syncFail 5
    | _, _ => if s.pai.yieldSeen then s else s.raise0 0x0F04 .fault 2 0

/-- A lane loses lock or fails: with both down the link is lost (R479). -/
def laneDown (lane : Nat) (s : State) : State :=
  let up := if lane = 0 then s.pai.lane0 else s.pai.lane1
  if up = false ∨ 2 ≤ lane then s
  else
    let s := s.mapPai (fun p => if lane = 0 then { p with lane0 := false } else { p with lane1 := false })
    let s := s.raise0 0x0F05 .warning (lane + 1) 0
    if s.pai.lane0 = false ∧ s.pai.lane1 = false then s.linkLost else s

/-- Every robot's link generation ends, and the flock key is drawn anew (R492). -/
def newFlock (s : State) : State :=
  if s.vit.rngFault then (s.lnk.robots.map Prod.fst).foldl (fun s r => (s.endGeneration r).convertNow r false) s
  else
  let (k, s) := s.draw 128
  let s := s.mapLnk (fun l => { l with flockGen := l.flockGen + 1, flockCtr := 0, flockKey := k, flockNext := none })
  (s.lnk.robots.map Prod.fst).foldl (fun s r => (s.endGeneration r).convertNow r false) s

/-- The PAIR_TAKE_CONTROL remedy (R492). -/
def takeControl (event : Nat) (s : State) : State :=
  if s.pai.role ≠ 2 ∨ s.pai.mode = .lockstep ∨ s.pai.mode = .alone then s
  else if event = 0x0F06 then (s.newFlock).takeUp
  else if event = 0x0F09 then s.takeUp
  else s

/-- PARTNER_SILENT (R492). -/
def partnerSilent (s : State) : State :=
  if s.pai.role = 2 ∧ s.pai.mode = .yielded ∧ s.pai.linkYield ∧ s.pai.silentDone = false ∧ s.prm 0x0F02 ≤ s.pai.silent then
    (s.mapPai (fun p => { p with silentDone := true })).raise0 0x0F06 .fault 1 0
  else s

/-- PARTNER_ABSENT (R493). -/
def partnerAbsent (s : State) : State :=
  if s.pai.role = 2 ∧ (s.pai.mode = .withheld ∨ s.pai.mode = .resync) ∧ s.pai.absentDone = false ∧
      s.prm 0x0F01 * 1000000000 ≤ s.now - s.pai.loadAt then
    (s.mapPai (fun p => { p with absentDone := true })).raise0 0x0F09 .fault 1 0
  else s

/-- The unit stops for a reset or loss of VIN: it sends YIELD, which is reported at the next boot (R480, R498). -/
def pairStops (s : State) : State :=
  if s.pai.mode = .lockstep then (s.emit (.pairYield 6)).mapPai (fun p => { p with yieldAtBoot := true }) else s

/-- The pair after a reset (R493). -/
def pairReset (s : State) : State :=
  (s.pairApart (if s.pai.role = 2 then .withheld else .alone)).mapPai (fun p => { p with
    trained := false, linkDown := false, bootTrained := false, lane0 := false, lane1 := false, partner := 0, mismatches := 0, resent := 0, discarded := 0
    syncCmds := [], parts := 0, linkYield := false, silent := 0, silentDone := false, absentDone := false, solo := false, yieldSeen := false, order := 0 })

/-! ### The merged intake (R482, R483) -/

/-- The state as it was for an air frame of an earlier slot: the slot that frame came in is open again. -/
def atSlot (asn : Nat) (f : State → State) (s : State) : State :=
  let a := s.air
  let back := (a.asn + 2 ^ 40 - asn % 2 ^ 40) % 2 ^ 40
  let (tick, slot) := if back < a.slot then (a.tick, a.slot - back) else (a.tick - 1, a.slot + s.sys.slots - back)
  let s := f (s.mapAir (fun x => { x with asn := asn % 2 ^ 40, tick := tick, slot := slot }))
  s.mapAir (fun x => { x with asn := a.asn, tick := a.tick, slot := a.slot })

/-- An input of the merge acts: `run` receives a packet of an opcode. -/
def applyInput (run : Nat → Pkt → State → State) (i : PairIn) (s : State) : State :=
  match i with
  | .cmd op p _ => run op p s
  | .air kind asn f => s.atSlot asn (fun s => match kind with
    | 0 => s.uplinkFrame f
    | 1 => s.corAirFrame f
    | _ => s.joinRequest f)
  | .fold typ f => s.foldTake typ f

/-- An input this unit receives: in a pair it goes to the partner in an ITEM; the active takes it, and the standby holds it for
MERGE, unless it is unnumbered (R482). -/
def pairInput (i : PairIn) (act : State → State) (s : State) : State :=
  if s.merging = false then act s
  else
    let unnumbered : Bool := match i with | .cmd _ p _ => p.acc == 0 | _ => false
    let i := match i with | .cmd op p _ => .cmd op p s.pai.order | x => x
    let s := if unnumbered then s.mapPai (fun p => { p with order := p.order + 1 }) else s
    let s := s.emit (.pairItem i)
    if s.pai.role = 1 then act (s.mapPai (fun p => { p with taken := p.taken ++ [pairIdOf true true i] }))
    else if unnumbered then act s
    else s.mapPai (fun p => { p with items := p.items ++ [⟨i, s.sys.tick⟩] })

/-- A numbered packet whose number the session has passed: a copy of one already taken. -/
def takenBefore (s : State) (p : Pkt) : Bool :=
  p.acc != 0 && (match s.session p.sess with | some x => accPrecedes p.acc x.next | none => false)

/-- The standby takes the sealed intake in the order given, and then runs the tick that waited for it, on the active's measurement set
(R483, R116; assumption 142). -/
def runMerge (run : Nat → Pkt → State → State) (phases : TickObs → State → State) (m : MergeMsg) (s : State) : State :=
  let s := m.ids.foldl (fun s id =>
    match s.pai.items.find? (fun x => pairIdOf true false x.inp == id) with
    | some x => (s.mapPai (fun p => { p with items := p.items.erase x })).applyInput run x.inp
    | none => s) s
  let held := s.pai.heldTick
  let s := s.mapPai (fun p => { p with merged := true, heldTick := none, sealed := m.ids, owed := [], mergeDue := none })
  match held with
  | some o => phases { o with epoch := m.mset } s
  | none => s

/-- MERGE names an item that this unit lacks. An unnumbered packet ran at its receipt. -/
def lacks (s : State) (id : PairId) : Bool :=
  match id with
  | .unnumbered _ _ => false
  | _ => !s.pai.items.any (fun x => pairIdOf true false x.inp == id)

/-- MERGE: the standby takes the sealed intake, once it holds every item that it names (R483). -/
def pairMerge (run : Nat → Pkt → State → State) (phases : TickObs → State → State) (m : MergeMsg) (s : State) : State :=
  if s.merging = false ∨ s.pai.role ≠ 2 then s
  else match m.ids.filter s.lacks with
  | [] => s.runMerge run phases m
  | lack => s.mapPai (fun p => { p with owed := lack.map (fun id => (id, s.now)), mergeDue := some m })

/-- ITEM: an input of the partner's (R482). At the standby, the last item that a MERGE lacked lets it run (R483). -/
def pairItem (run : Nat → Pkt → State → State) (phases : TickObs → State → State) (i : PairIn) (s : State) : State :=
  if s.merging = false then s
  else
    let active := s.pai.role == 1
    let id := pairIdOf false active i
    let unnumbered : Bool := match i with | .cmd _ p _ => p.acc == 0 | _ => false
    if active then
      let dup := s.pai.taken.contains id || (match i with | .cmd _ p _ => s.takenBefore p | _ => false)
      if dup then s
      else (s.mapPai (fun p => { p with taken := p.taken ++ [id] })).applyInput run i
    else if unnumbered then s.applyInput run i
    else
      let mine (x : PairItem) : Bool := pairIdOf true active x.inp == id
      let s := s.mapPai (fun p => { p with
        items := p.items.filter (fun x => !mine x) ++ [⟨i, s.sys.tick⟩], owed := p.owed.filter (fun e => e.1 != id) })
      match s.pai.mergeDue with
      | some m => if s.pai.owed.isEmpty then s.runMerge run phases m else s
      | none => s

/-- ITEM_DISCARD: items that no MERGE named within 10 ticks (R483). -/
def itemDiscard (s : State) : State :=
  let old (x : PairItem) : Bool := decide (x.tick + 10 ≤ s.sys.tick)
  let n := (s.pai.items.filter old).length
  s.mapPai (fun p => { p with items := p.items.filter (fun x => !old x), discarded := satAdd 0xFFFFFFFF p.discarded n })

/-! ### Digests and the mismatch test (R486 to R488) -/

/-- The outcome of the mismatch test, once both results are known (R488). -/
def judgeTest (s : State) : State :=
  match s.pai.test with
  | some t =>
    if t.own = 0 ∨ t.partner = 0 then s
    else
      let s := s.mapPai (fun p => { p with test := none })
      if t.own = 2 then s.unitYield 2
      else if t.partner = 1 ∧ s.pai.role = 2 then s.unitYield 3
      else s
  | none => s

/-- MISMATCH_TEST_DONE: this unit's own test has ended. -/
def mismatchTestDone (passed : Bool) (s : State) : State :=
  match s.pai.test with
  | some t =>
    if t.own ≠ 0 then s
    else (s.mapPai (fun p => { p with test := some { t with own := if passed then 1 else 2 } })).judgeTest
  | none => s

/-- The first matching digests of a resynchronisation (R493). -/
def pairSynced (s : State) : State :=
  let cmds := s.pai.syncCmds
  let s := s.mapPai (fun p => { p with
    mode := .lockstep, syncCmds := [], syncFrom := none, syncAt := none, echoFrom := some (s.sys.sfCount + 3), lockTicks := 0, solo := false })
  let s := s.raise0 0x0F07 .notice 1 0
  cmds.foldl (fun s c => s.completeOk c.1 c.2 []) s

/-- The bytes that stand for an identity in a digest's contents. -/
def idBytes : PairId → Bytes
  | .numbered n a c => [0] ++ le 2 n ++ le 4 a ++ le 4 c
  | .unnumbered own k => [1] ++ le 1 (b2n own) ++ le 4 k
  | .air c a => [2] ++ le 1 c ++ le 5 a
  | .fold f src q => [3] ++ le 1 f ++ le 2 src ++ le 4 q

/-- The events that the output digest leaves out (R486). -/
def unitLocal (code : Nat) : Bool :=
  [0x04, 0x0B, 0x0D, 0x0F].contains (code / 256) || [0x0090, 0x0093, 0x0201, 0x0202].contains code

/-- The two digests of this tick (R486, assumption 134): over the sealed identities and the measurement set used, and over the air
plan of the next tick and the tick's events; a free value stands for the wired outputs and the MRAM transactions. -/
def tickDigests (s : State) : (Nat × Nat) × State :=
  let set := match s.gns.sets.head? with | some m => setBytes m | none => []
  let plan := s.air.planNext.flatMap (fun f => f.payload)
  let evs := (s.sys.events.filter (fun e => e.tick == s.sys.tick && !unitLocal e.code)).flatMap eventBytes
  let (n, s) := s.draw 64
  ((Config.tickDigest (s.pai.sealed.flatMap idBytes ++ set) % 2 ^ 64, Config.tickDigest (plan ++ evs ++ le 8 n) % 2 ^ 64), s)

/-- The digests compared, with whether both units have written the tick's MRAM transactions, and the partner's TEST (R486 to R488). -/
def digestsCompared (inEq outEq written : Bool) (test : Nat) (s : State) : State :=
  let same := inEq && outEq
  let s := s.mapPai (fun p => { p with
    digested := true, matchNext := same && written
    test := p.test.map (fun t => if test = 1 ∨ test = 2 then { t with partner := test } else t) })
  let s := s.judgeTest
  if s.pai.mode = .resync then (if same && written then s.pairSynced else s)
  else if same ∨ s.pai.mode ≠ .lockstep then s
  else
    let s := s.mapPai (fun p => { p with
      mismatches := inc32 p.mismatches, mute := p.mute || p.role == 2
      test := match p.test with | some t => some t | none => some ⟨0, 0, s.now⟩ })
    s.raise0 0x0F01 .fault (if inEq then 2 else 1) 0

/-! ### Close (R13 steps 9 and 10, R54, R55) -/

/-- Step 10 of one tick: the Archive. -/
def closeOne (h : HeldClose) (s : State) : State := s.arcClose h.dieTemp h.vinMv h.entries h.ready

/-- Sends this unit's DIGEST of a tick (R486, R487): every MRAM transaction of the tick is written by then. -/
def digestOut (h : HeldClose) (s : State) : State :=
  match h.digests with
  | some (a, b) =>
    let t := match s.pai.test with | some t => t.own | none => 0
    s.emit (.pairDigest h.tick a b (1 + 2 * b2n (s.pai.test.isSome && t == 0)) t)
  | none => s

/-- The Close work that waited for the partner's DIGEST. -/
def closeDone (s : State) : State :=
  match s.sys.closeDue with
  | some h => (s.mapSys (fun y => { y with closeDue := none })).closeOne h
  | none => s

/-- DIGEST: the partner's digests of the tick. One that comes before this unit has its own waits for them. -/
def pairDigest (inD outD : Nat) (written : Bool) (test : Nat) (s : State) : State :=
  if s.merging = false then s
  else match s.pai.own with
  | none => s.mapPai (fun p => { p with their := some (inD, outD, written, test) })
  | some (a, b) => (s.digestsCompared (a == inD) (b == outD) written test).closeDone

/-- The Close phase of a tick, its work in hand: what an overrun held back comes first, in its order (R54, R55); `ended` says that the
line completes its work in its window. -/
def closePhase (ended : Bool) (dieTemp vinMv : Int) (entries ready : Nat) (s : State) : State :=
  let held := s.sys.closeHeld
  let s := held.foldl (fun s h => (s.digestOut h).closeOne h) (s.mapSys (fun y => { y with closeHeld := [] }))
  let (d, s) : Option (Nat × Nat) × State := if s.merging then (let (d, s) := s.tickDigests; (some d, s)) else (none, s)
  let h : HeldClose := { tick := s.sys.tick, digests := d, dieTemp := dieTemp, vinMv := vinMv, entries := entries, ready := ready }
  if ended = false then s.mapSys (fun y => { y with closeHeld := [h] })
  else match d with
  | none => s.closeOne h
  | some d =>
    let s := ((s.digestOut h).mapPai (fun p => { p with own := some d })).mapSys (fun y => { y with closeDue := some h })
    match s.pai.their with
    | some (a, b, w, t) => s.pairDigest a b w t
    | none => s

/-- The pair's part of a tick boundary (R483, R487, R492, R493): a DIGEST or an item that did not come counts as a link loss;
the active seals its intake and sends MERGE. -/
def pairBoundary (ready beacon : Bool) (s : State) : State :=
  if s.pai.role = 0 then s
  else
    let s := s.mapPai (fun p => { p with silent := if p.linkYield && !beacon then p.silent + 1 else 0
                                         silentDone := p.silentDone && !beacon })
    let late := s.pai.mode == .lockstep && (!s.pai.digested ||
      s.pai.owed.any (fun (e : PairId × Nat) => decide (500000 ≤ s.now - e.2)))
    if late then s.linkLost
    else
      let s := s.mapPai (fun p => { p with
        match_ := p.matchNext, matchNext := false, digested := false, merged := false, own := none, their := none
        lockTicks := if p.mode == .lockstep then inc32 p.lockTicks else p.lockTicks
        syncAt := if p.mode == .resync && p.role == 1 && p.syncAt.isNone && ready && !s.vit.locked then some (s.sys.tick + 1) else p.syncAt })
      if s.merging ∧ s.pai.role = 1 then
        (s.emit (.pairMerge s.pai.taken)).mapPai (fun p => { p with sealed := p.taken, taken := [] })
      else s

/-! ### Resynchronisation (R493) -/

/-- The standby asks for resynchronisation. -/
def syncReq (s : State) : State :=
  (s.emit .pairSyncReq).mapPai (fun p => { p with mode := .resync, syncFrom := some s.now, syncAt := none, parts := 0 })

/-- PAIR_LINK_TRAINED: the link trains with the lanes in service (R479, R493). -/
def linkTrained (lane0 lane1 : Bool) (s : State) : State :=
  if s.pai.trained ∨ (lane0 = false ∧ lane1 = false) then s
  else
    let s := s.mapPai (fun p => { p with trained := true, linkDown := false, lane0 := lane0, lane1 := lane1, yieldSeen := false })
    if s.fwRuns ∧ s.pai.role = 2 ∧ s.prm 0x0F00 = 1 ∧ (s.pai.mode = .withheld ∨ s.pai.mode = .yielded) then s.syncReq else s

/-- SYNC_REQ at the active: the roles, the images and the keys are compared, in that order (R493, R498). -/
def syncReqIn (eui role : Nat) (images keys : Bool) (s : State) : State :=
  if s.pai.role = 0 ∨ s.pai.trained = false then s
  else
    let res := if s.pai.role ≠ 1 ∨ role ≠ 2 ∨ s.pai.mode = .lockstep ∨ s.pai.mode = .yielded then 1
      else if images = false then 2 else if keys = false then 3 else 0
    let s := (s.emit (.pairSyncAnswer res)).mapPai (fun p => { p with partner := eui })
    if res = 0 then s.mapPai (fun p => { p with mode := .resync, syncFrom := some s.now, syncAt := none })
    else s.raise0 0x0F08 .warning res 0

/-- SYNC_ANSWER at the standby. -/
def syncAnswer (result : Nat) (s : State) : State :=
  if s.pai.role ≠ 2 ∨ s.pai.mode ≠ .resync then s
  else if result = 0 then s else s.syncFail result

/-- A part of the resynchronisation copy (R493). Sessions that the active does not hold, in which a PAI_RESYNC may wait, stay. -/
def stateFrame (part : StatePart) (s : State) : State :=
  if s.pai.role ≠ 2 ∨ s.pai.mode ≠ .resync then s
  else
    let s := s.mapPai (fun p => { p with parts := p.parts + 1 })
    match part with
    | .config c => s.mapCfg (fun k => { c with lost := k.lost })
    | .sessions t last j => s.mapSes (fun z => { z with
        sessions := t.foldl (fun a e => Tab.put e.1 e.2 a) (z.sessions.filter (fun e => s.pai.syncCmds.any (fun k => k.1 == e.1)))
        lastSession := last, journal := z.journal.filter (fun e => s.pai.syncCmds.contains (e.sess, e.acc)) ++ j })
    | .tasks t => s.mapTsk (fun _ => t)
    | .pasture p => s.mapPas (fun _ => p)
    | .flock l => s.mapLnk (fun _ => l)
    | .gnss eph alm sv => s.mapGns (fun g => { g with eph := eph, alm := alm, surveyed := sv })
    | .leap l ann trim => s.mapClk (fun c => { c with leap := l, leapAnn := ann, calTrim := trim })
    | .stops all table => s.mapCrk (fun k => { k with all := all, table := table })
    | .fixes f => s.mapFix (fun x => { f with enginesBad := x.enginesBad })
    | .slots map next tickMap beacons =>
      (s.mapAir (fun a => { a with map := map, next := next, tickMap := tickMap })).mapSys (fun y => { y with beacons := beacons })
    | .fold f => s.mapFld (fun _ => f)
    | .boundary n => s.mapPai (fun p => { p with syncAt := some (s.sys.tick + n) })

/-- RESYNC_TIMEOUT (R493). -/
def resyncTimeout (s : State) : State :=
  match s.pai.mode, s.pai.syncFrom with
  | .resync, some t => if 60000000000 ≤ s.now - t then s.syncFail 4 else s
  | _, _ => s

/-- PAIR_TICK: the standby takes pasture time and its boundaries from the active (R186, R480). -/
def pairTick (count : Nat) (s : State) : State :=
  if s.pai.role = 2 ∧ s.pai.trained ∧ (s.pai.mode = .lockstep ∨ s.pai.mode = .resync) then
    (s.mapClk (fun c => { c with count := count })).mapSys (fun y => { y with misalign := none })
  else s

/-- PAIR_STOP: the partner's change of a scope's holders, held as source 4 (R341, R362, R480). -/
def pairStopIn (kind index ramp : Nat) (set : Bool) (s : State) : State :=
  if s.pai.role = 0 ∨ s.pai.trained = false then s
  else if set then (if s.stopsAhead.stopsFull kind index then s else s.setStop 4 kind index ramp)
  else (s.releaseStop 4 kind index).getD s

/-! ### Opcodes (R496) -/

/-- PAI_STATE_READ. -/
def runPaiStateRead (c : Cmd) (s : State) : State × CmdRes :=
  if c.params.length ≠ 0 then (s, refuse stBadLength 0)
  else (s, fin (le 1 s.pai.role ++ le 1 s.pai.mode.code ++ le 1 (b2n s.inControl) ++ le 1 (b2n s.pai.lane0 + 2 * b2n s.pai.lane1) ++
    le 8 s.pai.partner ++ le 4 s.pai.lockTicks ++ le 4 s.pai.mismatches ++ le 4 s.pai.resent ++ le 4 s.pai.discarded ++ zeros 4))

/-- PAI_RESYNC. -/
def runPaiResync (c : Cmd) (s : State) : State × CmdRes :=
  if c.params.length ≠ 4 then (s, refuse stBadLength 0)
  else if u32 c.params 0 ≠ 0 then (s, refuse stBadParam 0)
  else if s.pai.role = 0 then (s, refuse 0x0F40 0)
  else if s.pai.role = 1 ∨ s.pai.mode = .lockstep then (s, refuse stDenied 9)
  else if s.pai.trained = false then (s, refuse 0x0F41 0)
  else
    let s := s.mapPai (fun p => { p with syncCmds := p.syncCmds ++ [(c.sess, c.acc)] })
    (if s.pai.mode = .resync then s else s.syncReq, .later)

/-- PAI_ROLE_SET: a unit that becomes a standby and is not in lockstep withholds (R493). -/
def runPaiRoleSet (c : Cmd) (s : State) : State × CmdRes :=
  let b := c.params
  let r := u8 b 0
  if b.length ≠ 4 then (s, refuse stBadLength 0)
  else if 2 < r ∨ rd b 1 3 ≠ 0 then (s, refuse stBadParam 0)
  else if s.pai.mode = .lockstep ∨ s.pai.mode = .resync then (s, refuse stDenied 8)
  else if r = s.pai.role then (s, fin [])
  else
    let mode := match r, s.pai.mode with
      | 2, _ => .withheld
      | 1, .yielded => .yielded
      | _, _ => .alone
    let was := s.pai.role
    let s := s.mapPai (fun p => { p with role := r, mode := mode })
    let s := if (was = 0) ≠ (r = 0) then (match placeMap s.siteMap with | .ok m => s.acceptMap m | .error _ => s) else s
    (s, fin [])

/-- PAI_YIELD: the unit named yields after its reply (R489). -/
def runPaiYield (c : Cmd) (s : State) : State × CmdRes :=
  let b := c.params
  if b.length ≠ 4 then (s, refuse stBadLength 0)
  else if u8 b 0 = 0 ∨ 2 < u8 b 0 ∨ rd b 1 3 ≠ 0 then (s, refuse stBadParam 0)
  else if s.pai.mode ≠ .lockstep then (s, refuse stDenied 10)
  else (if s.pai.role = u8 b 0 then s.unitYield 5 else s, fin [])

end State

end Sys2Proof.Machine
end

