-- ==== Sys2Proof/Machine/Pins.lean ====
section
/-! DEFINITION. The levels of the K9's output pads (R19, R360, R369, R476, R586, R589), as views of the state. -/

namespace Sys2Proof.Machine

/-- A pad's level; `undriven` in Standby and Backup and with no supply. -/
inductive Pad where
  | low | high | undriven
  deriving DecidableEq, Repr

/-- The level of a bit. -/
def Pad.ofBool (b : Bool) : Pad := if b then .high else .low

namespace State

/-- A fault-class condition persists (R19): a part out of service, a halted core, a cut antenna, lost time, an open discrepancy,
a lost journal or configuration, a port in bus-off, a source of tamper, keys that cannot be used, a lost pair link or an absent or
silent partner, an exhausted frame counter, or a part that fell back to its other image. -/
def faultCondition (s : State) : Bool :=
  !s.sys.badParts.isEmpty || !s.sys.halted.isEmpty || s.air.chains.any (fun c => c.bad) || !s.fix.enginesBad.isEmpty ||
  s.gns.antCut.1 || s.gns.antCut.2 || !s.gns.alarm.isEmpty || s.gns.disagree || s.clk.state == .expired || s.clk.state == .freerun ||
  s.crk.disc || s.can.ports.any (fun p => p.state == .busOff) || s.mem.banks.any (fun b => b.state == .outOfService || b.state == .onSpare) ||
  s.ses.journalFault || s.cfg.lost || s.fld.oversize || s.pai.mode == .yielded || s.pai.mute || s.pai.test.isSome ||
  !s.vit.active.isEmpty || s.vit.rngFault || s.vit.rootBad || s.sys.fw == .recovery ||
  (s.pai.role != 0 && s.pai.linkDown) || (s.pai.role == 2 && s.pai.absentDone && s.pai.mode != .lockstep) || s.pai.silentDone ||
  decide (0xFFFFFFFF ≤ s.lnk.flockCtr) || s.lnk.robots.any (fun e => decide (0xFFFFFFFF ≤ e.2.txCtr)) || !s.upd.fellBack.isEmpty

/-- FAULT_N (R19, R577): low under a persisting fault, and in native mode while a fault-class event is not acknowledged. -/
def padFaultN (s : State) : Pad :=
  if s.sys.power ≠ .run then .undriven
  else if s.sys.fw = .none ∨ s.faultCondition ∨ (s.sys.cx = false ∧ s.sys.unacked ≠ []) then .low else .high

/-- UART1_TX: held high while UART1 is routed to GPIO pads, and high between the bytes sent on it (R103). -/
def padUartTx (s : State) : Pad := if s.sys.power ≠ .run then .undriven else .high

/-- A compare channel's pad, low while time is not valid (R101). -/
def padCompare (s : State) (ch : Nat) : Pad :=
  let b := s.prmRec 12 (0x001C + ch)
  if s.sys.power ≠ .run ∨ u8 b 1 ≠ 4 ∨ u8 b 0 = 0xFF then .undriven
  else Pad.ofBool (s.timeValid && (match s.sys.cc[ch]? with | some k => k.level | none => false))

/-- YIELD_N (R476, R490): low also while a standby withholds what a yielded unit withholds (R493; assumption 180). -/
def padYieldN (s : State) : Pad :=
  if s.sys.power ≠ .run then .undriven
  else if s.sys.fw = .none ∨ s.sys.fw = .recovery ∨ s.pairShut then .low else .high

/-- CROOK_OUT (R360, R586). -/
def padCrookOut (s : State) : Pad :=
  if s.sys.power ≠ .run then .undriven else Pad.ofBool s.crookOutHigh

/-- PPS_OK (R182, R586). -/
def padPpsOk (s : State) : Pad := if s.sys.power ≠ .run then .undriven else Pad.ofBool s.clk.ppsOk

/-- The event output's pad (R100). -/
def padEvent (s : State) : Pad :=
  if s.sys.power ≠ .run ∨ s.prm 0x001A = 0xFF then .undriven
  else Pad.ofBool (match s.sys.evHigh with | some t => decide (s.now < t) | none => false)

/-- Whether an axis's bridges may be driven: its eight gate pads are low otherwise (R369, R485). -/
def axisGates (s : State) (n : Nat) : Bool := s.sys.power == .run && s.axisOn n && !s.sys.cx && (s.sys.fw == .running || s.sys.fw == .paused) && s.inControl

/-- SPI_IRQ_N is low while a reply waits (R107, R564). -/
def padSpiIrqN (s : State) : Pad :=
  if s.sys.power ≠ .run then .undriven
  else if s.sys.cx then (if s.cx.reply.isSome then .low else .undriven)
  else if s.ses.spiOut = [] then .undriven else .low

end State

end Sys2Proof.Machine
end

