-- ==== Sys2Proof/Machine/Cx.lean ====
section
/-! DEFINITION. CX mode and the service of CX-era robots as legacy flock members (R563 to R585). -/

namespace Sys2Proof.Machine

/-- A robot just registered. -/
def CxRobot.fresh (eui addr : Nat) : CxRobot := {
  eui := eui, addr := addr, joined := false, lost := false, report := none, fix := 0, battery := 0, rssi := 0, task := (0, 0, 0, 0)
  tState := 0, tResult := 0, part := 0, cancel := false, msgs := [], ack := false, due := 0, polls := 0, stop := false, corr := [], corrNext := []
  dropDue := false, dropRun := false, answer := false, offer := none }

/-- The configuration with no saved record (R569). -/
def CxConf.fresh : CxConf := {
  robots := [], key := none, radio := none, mask := 10, base := none, rtcm := (0, 0), ant := false, can := none }

/-- CX mode with a configuration and nothing begun. -/
def Cxm.fresh (c : CxConf) (saved : Option CxConf) : Cxm := {
  conf := c, saved := saved, robots := c.robots.map (fun (e : Nat × Nat) => (e.1, CxRobot.fresh e.2 e.1)), legacy := [], reply := none
  counts := List.replicate 7 0, sent := 0, rcvd := 0, host := [], onAir := [], last1074 := 0, last1005 := 0, inbox := [], lineOpen := false
  stopAll := false, canIn := [], canOut := [], events := [], seen := 1, survey := none, surveyed := (0, 0, 0), k := 0, polled := []
  lastPoll := 0, joinReq := [], joining := [], resetAt := none }

/-- A frame of the CX protocol (R565). -/
def cxFrameBytes (op : Nat) (payload : Bytes) : Bytes :=
  let body := le 1 (payload.length + 1) ++ le 1 op ++ payload
  let sum := (body.map (fun (b : Byte) => b.toNat)).sum
  [0xAA] ++ body ++ le 1 (256 - sum % 256)

/-- The channel of a CX tick (R570). -/
def cxChannel (k pan : Nat) : Nat := (7 * k + pan) % 25

/-- Byte 0 of a K9 frame's payload (R571). -/
def cxHead (typ : Nat) (stop : Bool) : Bytes := le 1 (typ + 128 * b2n stop)

/-- Nine payload bytes. -/
def cxPayload (typ : Nat) (stop : Bool) (b : Bytes) : Bytes := (cxHead typ stop ++ padTo 8 0 (b.take 8)).take 9

/-- KIND and the seven bytes of the next poll of a robot, with its state after it (R571): an acknowledgement, a cancel, a task
part, a message, or nothing; one that waits for its acknowledgement goes again. -/
def cxItem (r : CxRobot) : Nat × Bytes :=
  let (id, e, n, code) := r.task
  let kind := if r.due ≠ 0 then r.due else if r.ack then 5 else if r.cancel then 3 else if r.part = 1 then 1 else if r.part = 2 then 2
    else if r.msgs ≠ [] then 4 else 0
  match kind with
  | 1 => (1, le 2 id ++ leS 3 e)
  | 2 => (2, le 2 id ++ leS 3 n ++ le 1 code)
  | 3 => (3, le 2 id)
  | 4 => (4, let m := r.msgs.headD []; le 1 m.length ++ m)
  | 5 => (5, [])
  | _ => (0, [])

/-- A robot acknowledged the poll that waited (R571). -/
def cxAcked (r : CxRobot) : CxRobot :=
  let r' := { r with due := 0 }
  match r.due with
  | 1 => { r' with part := if r.part = 1 then 2 else r.part }
  | 2 => { r' with part := 0, tState := if r.part = 2 ∧ r.tState = 1 then 2 else r.tState }
  | 3 => { r' with cancel := false, tState := 0 }
  | 4 => { r' with msgs := r.msgs.drop 1 }
  | 5 => { r' with ack := false }
  | 6 => { r' with corr := r.corr.drop 6 }
  | _ => r'

/-- A signed 24-bit field. -/
def i24 (b : Bytes) (o : Nat) : Int := toSigned 24 (rd b o 3)

/-- A status frame of a robot (R571): it acknowledges the poll that waits and reports task, fix and battery. -/
def cxStatus (b : Bytes) (r : CxRobot) : CxRobot :=
  let r := cxAcked r
  let mine := u16 b 1 == r.task.1 && r.tState != 0 && r.part == 0 && decide (3 ≤ u8 b 3 ∧ u8 b 3 ≤ 5)
  { r with
    fix := min 3 (u8 b 5), battery := u8 b 6
    tState := if mine then u8 b 3 else r.tState, tResult := if mine then u8 b 4 else r.tResult }

/-- A verified uplink of a robot (R573). -/
def cxHeard (rssi : Int) (r : CxRobot) : CxRobot := { r with polls := 0, lost := false, rssi := rssi }

/-- A robot's frame by its TYPE (R571): position report, message, status. -/
def cxUplink (now : Nat) (f : CxRx) (r : CxRobot) : CxRobot :=
  let b := f.payload
  let r := cxHeard f.rssi r
  match u8 b 0 % 128 with
  | 0x20 => { r with report := some (i24 b 1, i24 b 4, i16 b 7, now) }
  | 0x22 => { r with ack := true }
  | 0x23 => cxStatus b r
  | _ => r

namespace State

/-- Changes CX mode's block. -/
def mapCx (f : Cxm → Cxm) (s : State) : State := { s with cx := f s.cx }

/-- Changes the CX configuration. -/
def mapCxConf (f : CxConf → CxConf) (s : State) : State := s.mapCx (fun x => { x with conf := f x.conf })

/-- Changes one CX robot. -/
def mapCxRobot (a : Nat) (f : CxRobot → CxRobot) (s : State) : State :=
  match Tab.find? a s.cx.robots with
  | some r => s.mapCx (fun x => { x with robots := Tab.put a (f r) x.robots })
  | none => s

/-- Counts at position `k` of GET_COUNTERS. -/
def cxCount (k : Nat) (s : State) : State := s.mapCx (fun x => { x with counts := modAt k inc16 x.counts })

/-- The time of week in ms. -/
def towMs (s : State) : Nat := s.clk.count % 604800000000000 / 1000000

/-- The values that the blocks running in CX mode take (R109, R563, R567, R576): the defaults, with what the CX configuration sets. -/
def cxParams (c : CxConf) : Tab Nat :=
  let base : Tab Nat := [(0x0200, 1), (0x0201, 1), (0x0202, (c.mask * 17453293 + 500) / 1000), (0x0204, if c.ant then 2 else 0), (0x0205, 0)]
  let t := match c.base with
    | some (x, y, z, _) => base ++ [(0x0218, 0), (0x0219, ofSigned 64 (10 * x)), (0x021A, ofSigned 64 (10 * y)), (0x021B, ofSigned 64 (10 * z))]
    | none => base ++ [(0x0218, 0)]
  let t := t ++ [(0x0B00, 0)]
  match c.can with
  | some _ => t ++ [(0x0C00, 1), (0x0C01, 1), (0x0C02, ofLe ([0, 0] ++ le 2 4 ++ le 2 63 ++ [16, 16, 4, 63, 16, 16] ++ zeros 12))]
  | none => t

/-- The CX configuration takes effect. -/
def cxSync (s : State) : State :=
  (s.mapCfg (fun c => { c with eff := { num := 0, params := cxParams s.cx.conf, orders := [], nodes := [], lanes := [], pads := [], roster := [] } })).canConfigure

/-! ### Stops (R575) -/

/-- The all-stop of CX mode. -/
def cxAllStop (s : State) : Bool := s.cx.lineOpen || s.cx.stopAll

/-- Whether an address is covered. -/
def cxCovered (s : State) (a : Nat) : Bool :=
  s.cxAllStop || (match Tab.find? a s.cx.robots with | some r => r.stop | none => false)

/-- A holder of the CX all-stop comes or goes: 1 the line, 2 STOP_ALL. -/
def cxHold (src : Nat) (on : Bool) (s : State) : State :=
  if on then s.setStop src 0 0 0 else (s.releaseStop src 0 0).getD s

/-- CX_STOP_LINE. -/
def cxStopLine (isOpen : Bool) (s : State) : State :=
  if s.sys.cx = false ∨ s.sys.power ≠ .run ∨ s.cx.lineOpen = isOpen then s
  else (s.mapCx (fun x => { x with lineOpen := isOpen })).cxHold 1 isOpen

/-! ### The host link (R564 to R568) -/

/-- Answers a command (R564). -/
def cxAnswer (spi : Bool) (op : Nat) (payload : Bytes) (s : State) : State :=
  let f := cxFrameBytes op payload
  if spi then s.mapCx (fun x => { x with reply := some f }) else s.emit (.cxReply false f)

/-- CX mode takes commands: its firmware runs. -/
def cxRuns (s : State) : Bool := s.sys.cx && s.fwRuns && s.sys.power == .run

/-- A command that comes in while a reply waits unread on SPI (R564). -/
def cxUnread (spi : Bool) (s : State) : State :=
  if spi ∧ s.cx.reply.isSome then (s.mapCx (fun x => { x with reply := none })).cxCount 3 else s

/-- Takes one command of R567: `lens` says which payload lengths suit the opcode, `run` gives the status and the reply data. -/
def cxTake (op : Nat) (lens : Nat → Bool) (run : Bytes → State → State × Nat × Bytes) (spi : Bool) (data : Bytes) (s : State) : State :=
  if s.cxRuns = false ∨ 254 < data.length then s
  else
    let s := s.cxUnread spi
    if lens data.length = false then s.cxAnswer spi op [7]
    else if s.cx.resetAt.isSome then s.cxAnswer spi op [4]
    else
      match run data s with
      | (s, st, body) => s.cxAnswer spi op (le 1 st ++ (if st = 0 then body else []))

/-- CX_UNKNOWN_OPCODE: a whole frame with a wrong CHK, or an opcode outside R567. -/
def cxUnknown (spi : Bool) (op : Nat) (chkOk : Bool) (s : State) : State :=
  if s.cxRuns = false ∨ (chkOk ∧ ((1 ≤ op ∧ op ≤ 0x25) ∨ op = 0xF0)) then s
  else
    let s := s.cxUnread spi
    if chkOk then (s.cxCount 1).cxAnswer spi op [2] else (s.cxCount 0).cxAnswer spi op [1]

/-- CX_BAD_FRAME: a LEN of 0 or a frame cut short. -/
def cxBadFrame (s : State) : State := if s.cxRuns then s.cxCount 2 else s

/-- A registered robot, or NOT_FOUND. -/
def cxWith (a : Nat) (s : State) (f : CxRobot → State × Nat × Bytes) : State × Nat × Bytes :=
  match Tab.find? a s.cx.robots with
  | some r => f r
  | none => (s, 6, [])

/-- An answer without an effect. -/
def cxOk (body : Bytes) (s : State) : State × Nat × Bytes := (s, 0, body)

/-- The satellites of the newest measurement set: one record each. -/
def cxSats (s : State) : List (Nat × SigObs × Nat × Nat) :=
  match s.gns.sets.head? with | some m => (m.recs.filter (fun r => r.2.1.ant == 0)).take 32 | none => []

def cxPing (_ : Bytes) (s : State) : State × Nat × Bytes := cxOk [] s

def cxVersion (_ : Bytes) (s : State) : State × Nat × Bytes := cxOk (le 2 0x0240 ++ le 2 0x0312 ++ le 4 s.fac.eui) s

def cxReset (_ : Bytes) (s : State) : State × Nat × Bytes := (s.mapCx (fun x => { x with resetAt := some (s.now + 20000000) }), 0, [])

def cxStatusRead (_ : Bytes) (s : State) : State × Nat × Bytes :=
  let stop := s.cxAllStop || s.cx.robots.any (fun (e : Nat × CxRobot) => e.2.stop)
  let bits := [s.timeValid, s.basePos.isSome, s.cx.survey.isSome, stop, s.cx.conf.radio.isSome, (s.canPort 0).state == .busOff,
    s.vit.tamper != 0, s.faultCondition]
  let flags := ((bits.zipIdx.map (fun (x : Bool × Nat) => b2n x.1 * 2 ^ x.2))).sum
  cxOk (le 1 flags ++ le 1 ((s.cxSats.filter (fun r => r.2.1.lock)).length) ++ le 1 s.cx.robots.length ++
    le 1 (s.cx.robots.filter (fun (e : Nat × CxRobot) => e.2.joined && !e.2.lost)).length) s

def cxTime (_ : Bytes) (s : State) : State × Nat × Bytes :=
  cxOk (le 2 (s.clk.count / 604800000000000) ++ le 4 s.towMs ++ leS 1 s.clk.leap) s

def cxSetBase (b : Bytes) (s : State) : State × Nat × Bytes :=
  if s.cx.survey.isSome then (s, 4, [])
  else
    let (x, y, z) := (i32 b 0, i32 b 4, i32 b 8)
    let n := x * x + y * y + z * z
    if n < 634000000 ^ 2 ∨ 640000000 ^ 2 < n then (s, 3, [])
    else ((s.mapCxConf (fun c => { c with base := some (x, y, z, 1) })).cxSync, 0, [])

def cxGetBase (_ : Bytes) (s : State) : State × Nat × Bytes :=
  match s.cx.conf.base with
  | some (x, y, z, src) => cxOk (leS 4 x ++ leS 4 y ++ leS 4 z ++ le 1 src) s
  | none => cxOk (zeros 13) s

/-- START_SURVEY. While a survey runs it restarts, and the answer is BUSY (assumption 25). -/
def cxSurvey (b : Bytes) (s : State) : State × Nat × Bytes :=
  if u16 b 0 < 60 then (s, 3, [])
  else
    let busy := s.cx.survey.isSome
    ((s.mapCx (fun x => { x with survey := some (s.now, u16 b 0) })).mapGns (fun g => { g with acc := ⟨0, (0, 0, 0), 0⟩ }),
      if busy then 4 else 0, [])

def cxGetSurvey (_ : Bytes) (s : State) : State × Nat × Bytes :=
  match s.cx.survey with
  | some (t, _) => cxOk ([1] ++ le 2 (min 0xFFFF ((s.now - t) / 1000000000)) ++ le 4 0) s
  | none => let (st, el, sg) := s.cx.surveyed; cxOk (le 1 st ++ le 2 el ++ le 4 sg) s

/-- SURVEY_END in CX mode: the time asked for has passed; without any solution the survey has failed. -/
def cxSurveyEnd (noSigma : Nat) (s : State) : State :=
  match s.cx.survey with
  | none => s
  | some (t, n) =>
    if s.now - t < n * 1000000000 then s
    else
      let ok := s.gns.acc.n != 0
      let xyz := s.gns.acc.mean (0, 0, 0)
      let cm (v : Int) : Int := (v + 5) / 10
      let s := s.mapCx (fun x => { x with survey := none, surveyed := (if ok then 2 else 3, n, s.gns.acc.sigma noSigma) })
      let s := if ok then (s.mapCxConf (fun c => { c with base := some (cm xyz.1, cm xyz.2.1, cm xyz.2.2, 2) })).cxSync else s
      s.raise0 0x020A .notice (b2n (!ok)) 0

def cxMask (b : Bytes) (s : State) : State × Nat × Bytes :=
  if 45 < u8 b 0 then (s, 3, []) else ((s.mapCxConf (fun c => { c with mask := u8 b 0 })).cxSync, 0, [])

def cxSatInfo (_ : Bytes) (s : State) : State × Nat × Bytes :=
  let l := s.cxSats
  cxOk (le 1 l.length ++ l.flatMap (fun r =>
    let o := r.2.1
    le 1 o.svid ++ le 1 (min 255 (o.cn0 / 4)) ++ leS 1 (clampS 8 (o.elev / 17453)) ++ le 2 (Trig.azimuth o.u.1 o.u.2.1 % 360) ++
      le 1 (b2n (s.usableSig o) + 2 * b2n (s.excludedSig (obsKey o))))) s

def cxSetRtcm (b : Bytes) (s : State) : State × Nat × Bytes :=
  if 60 < u8 b 0 ∨ 4 ≤ u8 b 1 then (s, 3, []) else (s.mapCxConf (fun c => { c with rtcm := (u8 b 0, u8 b 1) }), 0, [])

def cxReadRtcm (b : Bytes) (s : State) : State × Nat × Bytes :=
  if u8 b 0 = 0 ∨ 240 < u8 b 0 then (s, 3, [])
  else
    let d := s.cx.host.take (u8 b 0)
    (s.mapCx (fun x => { x with host := x.host.drop (u8 b 0) }), 0, le 1 d.length ++ d)

def cxSetRadio (b : Bytes) (s : State) : State × Nat × Bytes :=
  if u8 b 0 ≠ 1 ∨ i8 b 1 < -10 ∨ 20 < i8 b 1 ∨ u16 b 2 = 0xFFFF then (s, 3, [])
  else (s.mapCxConf (fun c => { c with radio := some (i8 b 1, u16 b 2) }), 0, [])

def cxGetRadio (_ : Bytes) (s : State) : State × Nat × Bytes :=
  let (p, pan) := s.cx.conf.radio.getD (0, 0)
  cxOk (le 1 (b2n s.cx.conf.radio.isSome) ++ leS 1 p ++ le 2 pan ++ le 4 s.cx.sent ++ le 4 s.cx.rcvd) s

def cxAddRobot (b : Bytes) (s : State) : State × Nat × Bytes :=
  match (List.range 48).find? (fun i => !Tab.has (i + 1) s.cx.robots) with
  | none => (s, 5, [])
  | some i =>
    let a := i + 1
    let s := s.mapCxConf (fun c => { c with robots := Tab.put a (u64 b 0) c.robots })
    (s.mapCx (fun x => { x with robots := Tab.put a (CxRobot.fresh (u64 b 0) a) x.robots }), 0, le 1 a)

def cxRemoveRobot (b : Bytes) (s : State) : State × Nat × Bytes :=
  cxWith (u8 b 0) s (fun _ =>
    let s := s.mapCxConf (fun c => { c with robots := Tab.del (u8 b 0) c.robots })
    (s.mapCx (fun x => { x with
      robots := Tab.del (u8 b 0) x.robots, joinReq := x.joinReq.filter (fun a => a != u8 b 0)
      joining := x.joining.filter (fun a => a != u8 b 0) }), 0, []))

def cxListRobots (b : Bytes) (s : State) : State × Nat × Bytes :=
  if u8 b 0 = 0 ∨ 48 < u8 b 0 then (s, 3, [])
  else
    let l := (s.cx.robots.filter (fun (e : Nat × CxRobot) => decide (u8 b 0 ≤ e.1))).take 27
    cxOk (le 1 l.length ++ l.flatMap (fun (e : Nat × CxRobot) => le 1 e.1 ++ le 8 e.2.eui)) s

def cxGetRobot (b : Bytes) (s : State) : State × Nat × Bytes :=
  cxWith (u8 b 0) s (fun r =>
    let st := if r.lost then 2 else if r.joined then 1 else 0
    let (e, n, u, age) := match r.report with
      | some (e, n, u, t) => (e, n, u, min 255 ((s.now - t) / 50000000))
      | none => (0, 0, 0, 255)
    cxOk (le 1 st ++ leS 4 e ++ leS 4 n ++ leS 2 u ++ le 1 r.fix ++ le 1 age ++ le 1 r.battery ++ leS 1 (clampS 8 r.rssi)) s)

/-- SEND_TASK: E and N must fit the poll's 24-bit fields (R571). -/
def cxSendTask (b : Bytes) (s : State) : State × Nat × Bytes :=
  cxWith (u8 b 0) s (fun _ =>
    let fits (v : Int) : Bool := decide (-8388608 ≤ v ∧ v ≤ 8388607)
    if fits (i32 b 3) = false ∨ fits (i32 b 7) = false then (s, 3, [])
    else (s.mapCxRobot (u8 b 0) (fun r => { r with
      task := (u16 b 1, i32 b 3, i32 b 7, u8 b 11), tState := 1, tResult := 0, part := 1, cancel := false
      due := if r.due = 4 ∨ r.due = 5 then r.due else 0 }), 0, []))

def cxCancelTask (b : Bytes) (s : State) : State × Nat × Bytes :=
  cxWith (u8 b 0) s (fun _ =>
    (s.mapCxRobot (u8 b 0) (fun r => { r with
      cancel := true, part := 0, due := if r.due = 4 ∨ r.due = 5 then r.due else 0 }), 0, []))

def cxGetTask (b : Bytes) (s : State) : State × Nat × Bytes :=
  cxWith (u8 b 0) s (fun r => cxOk (le 2 r.task.1 ++ le 1 r.tState ++ le 1 r.tResult) s)

def cxSendMsg (b : Bytes) (s : State) : State × Nat × Bytes :=
  cxWith (u8 b 0) s (fun r =>
    if 4 ≤ r.msgs.length then (s, 5, [])
    else (s.mapCxRobot (u8 b 0) (fun r => { r with msgs := r.msgs ++ [b.drop 1] }), 0, []))

def cxReadMsg (_ : Bytes) (s : State) : State × Nat × Bytes :=
  match s.cx.inbox with
  | [] => cxOk [0, 0] s
  | (a, m) :: t => (s.mapCx (fun x => { x with inbox := t }), 0, le 1 a ++ le 1 m.length ++ m)

def cxStopAll (_ : Bytes) (s : State) : State × Nat × Bytes := ((s.mapCx (fun x => { x with stopAll := true })).cxHold 2 true, 0, [])

def cxReleaseStop (_ : Bytes) (s : State) : State × Nat × Bytes :=
  ((s.mapCx (fun x => { x with stopAll := false })).cxHold 2 false, 0, [])

def cxStopRobot (b : Bytes) (s : State) : State × Nat × Bytes :=
  cxWith (u8 b 0) s (fun _ =>
    if 1 < u8 b 1 then (s, 3, []) else (s.mapCxRobot (u8 b 0) (fun r => { r with stop := u8 b 1 == 1 }), 0, []))

def cxGetStop (_ : Bytes) (s : State) : State × Nat × Bytes :=
  let m := ((s.cx.robots.filter (fun (e : Nat × CxRobot) => e.2.stop)).map (fun (e : Nat × CxRobot) => 2 ^ (e.1 - 1))).sum
  cxOk (le 1 (b2n s.cx.lineOpen + 2 * b2n s.cx.stopAll) ++ le 6 m) s

/-- An identifier word with [31] for extended. -/
def cxIdOk (v : Nat) : Bool := if bit v 31 then decide (v % 2 ^ 31 < 2 ^ 29) else decide (v < 2 ^ 11)

def cxSetCan (b : Bytes) (s : State) : State × Nat × Bytes :=
  if 1 < u8 b 0 then (s, 3, [])
  else ((s.mapCxConf (fun c => { c with can := if u8 b 0 = 1 then some (u32 b 1, u32 b 5) else none })).cxSync, 0, [])

/-- The next queued CAN frame goes to buffer 0 when it is free (R576). -/
def cxCanNext (s : State) : State :=
  match s.cx.canOut, (s.canMb 0 0).tx with
  | f :: t, none =>
    let s := s.mapCx (fun x => { x with canOut := t })
    (s.putMb 0 0 { s.canMb 0 0 with tx := some {
      frame := f, sess := 0, acc := 0, loaded := true, attempts := 0, noAck := 0, aborts := [] } }).canOffer 0
  | _, _ => s

def cxCanSend (b : Bytes) (s : State) : State × Nat × Bytes :=
  let id := u32 b 0
  let dlc := u8 b 4
  if 8 < dlc ∨ cxIdOk id = false then (s, 3, [])
  else if b.length ≠ 5 + dlc then (s, 7, [])
  else if 8 ≤ s.cx.canOut.length + b2n (s.canMb 0 0).tx.isSome then (s, 5, [])
  else
    let f : CanFrame := {
      ide := bit id 31, fdf := false, rtr := false, brs := false, esi := false, dlc := dlc
      id := if bit id 31 then id % 2 ^ 29 else id * 2 ^ 18, data := b.drop 5 }
    ((s.mapCx (fun x => { x with canOut := x.canOut ++ [f] })).cxCanNext, 0, [])

/-- The identifier word of a frame. -/
def cxIdOf (f : CanFrame) : Nat := if f.ide then 2 ^ 31 + f.id else f.id / 2 ^ 18

def cxCanRead (_ : Bytes) (s : State) : State × Nat × Bytes :=
  match s.cx.canIn with
  | [] => cxOk (zeros 18) s
  | (f, t) :: l => (s.mapCx (fun x => { x with canIn := l }), 0,
      [1] ++ le 4 (cxIdOf f) ++ le 1 f.dlc ++ padTo 8 0 f.data ++ le 4 t)

/-- A CAN frame comes in on port 0 in CX mode (R576). -/
def cxCanReceive (f : CanFrame) (age recErr : Nat) (s : State) : State :=
  let before := (s.canPort 0).counts.getD 1 0
  let s := s.canReceive 0 f age recErr
  match s.cx.conf.can with
  | none => s
  | some (id, mask) =>
    if (s.canPort 0).counts.getD 1 0 = before ∨ (cxIdOf f ^^^ id) &&& mask ≠ 0 then s
    else if 16 ≤ s.cx.canIn.length then s.canCount 0 4
    else s.mapCx (fun x => { x with canIn := x.canIn ++ [(f, s.towMs)] })

def cxSetKey (b : Bytes) (s : State) : State × Nat × Bytes := (s.mapCxConf (fun c => { c with key := some (ofLe b) }), 0, [])

def cxSetAnt (b : Bytes) (s : State) : State × Nat × Bytes :=
  if 1 < u8 b 0 then (s, 3, [])
  else ((s.mapCxConf (fun c => { c with ant := u8 b 0 == 1 })).cxSync.biasCommitted 0, 0, [])

def cxGetEvent (_ : Bytes) (s : State) : State × Nat × Bytes :=
  match s.cx.events with
  | [] => cxOk (zeros 5) s
  | (c, t) :: l => (s.mapCx (fun x => { x with events := l }), 0, le 1 c ++ le 4 t)

def cxSave (_ : Bytes) (s : State) : State × Nat × Bytes := (s.mapCx (fun x => { x with saved := some x.conf }), 0, [])

def cxDefaults (_ : Bytes) (s : State) : State × Nat × Bytes :=
  let t := (s.mapCx (fun x => { x with conf := CxConf.fresh, robots := [], joinReq := [], joining := [] })).cxSync
  (if s.cx.conf.ant then t.biasCommitted 0 else t, 0, [])

def cxCounters (_ : Bytes) (s : State) : State × Nat × Bytes :=
  let c (k : Nat) : Bytes := le 2 (s.cx.counts.getD k 0)
  cxOk (c 0 ++ c 1 ++ c 2 ++ c 3 ++ c 4 ++ le 2 (min 0xFFFF ((s.canPort 0).counts.getD 3 0)) ++ c 5 ++ c 6) s

def cxInfo (b : Bytes) (s : State) : State × Nat × Bytes :=
  match u8 b 0 with
  | 0 => cxOk ([0x4B, 0x39] ++ le 2 0x0E10 ++ le 4 s.fwVersion ++ le 8 s.fac.eui) s
  | 1 => cxOk (le 32 s.deviceCat) s
  | _ => (s, 3, [])

/-! ### Events (R577) -/

/-- The CX event of a native one. -/
def cxEventOf (e : Event) : Option Nat :=
  match e.code with
  | 0x0091 => some 1
  | 0x0201 => some 2
  | 0x0202 => some 2
  | 0x0901 => if e.level = 1 then some 3 else none
  | 0x0505 => some 4
  | 0x020A => some 5
  | 0x0C02 => some 6
  | 0x1001 => some 0x40
  | 0x0204 => some 0x41
  | _ => if e.cls = .fault then some 0x42 else none

/-- Fills GET_EVENT's store with the events raised since it was filled last; no standing order is matched in CX mode. -/
def cxEvents (s : State) : State :=
  let new := s.sys.events.filter (fun e => decide (s.cx.seen ≤ e.seq))
  let add := new.filterMap (fun e => (cxEventOf e).map (fun c => (c, s.towMs)))
  (s.mapCx (fun x => { x with events := lastN 32 (x.events ++ add), seen := s.sys.nextSeq })).mapSys (fun y => { y with toMatch := [] })

/-! ### RTCM (R574) -/

/-- 1074 of an epoch, of GPS L1 C/A as the CX-240 knows it, of the satellites in groups of 24 and the rest (R574). A signal below
GNS_CN0_MASK is not used (R120). -/
def cxMsm (m : MeasSet) (s : State) : Bytes :=
  let cells := m.recs.filter (fun r => r.2.1.ant == 0 && r.2.1.signal == 1 && r.2.1.lock && !bit r.2.2.1 2 && !bit r.2.2.1 5)
  let part (more : Bool) (l : List (Nat × SigObs × Nat × Nat)) : Bytes :=
    rtcmWrap (msmBody 1074 (s.prm 0x0305) m.epoch more (l.map (fun r => r.2.1)))
  if 24 < cells.length then part true (cells.take 24) ++ part false (cells.drop 24) else part false cells

/-- 1005 (R148, R574). -/
def cxArp (s : State) : Bytes := rtcmWrap (arpBody (s.prm 0x0305) (s.basePos.getD (0, 0, 0)))

/-- The RTCM of CX mode at an epoch: 1074 at the period set and 1005 every 10 s (R574). -/
def cxRtcmPhase (m : MeasSet) (s : State) : State :=
  let sec := m.epoch / 1000000000
  let (p, out) := s.cx.conf.rtcm
  let msm := s.cx.last1074 == 0 || decide (s.cx.last1074 + p ≤ sec)
  let arp := s.cx.last1005 == 0 || decide (s.cx.last1005 + 10 ≤ sec)
  if p = 0 ∨ s.basePos.isNone ∨ (msm = false ∧ arp = false) then s
  else
    let b := (if msm then s.cxMsm m else []) ++ (if arp then s.cxArp else [])
    let s := s.mapCx (fun x => { x with last1074 := if msm then sec else x.last1074, last1005 := if arp then sec else x.last1005 })
    let s := if bit out 1 then
        (if s.cx.host.length + b.length ≤ 2048 then s.mapCx (fun x => { x with host := x.host ++ b }) else s.cxCount 5) else s
    if bit out 0 then (if s.cx.onAir = [] then s.mapCx (fun x => { x with onAir := b }) else s.cxCount 5) else s

/-! ### The CX tick (R570 to R573) -/

/-- The next addresses polled: joined robots in ascending order after the last, wrapping. -/
def cxNext (s : State) : List Nat :=
  let l := (s.cx.robots.filter (fun (e : Nat × CxRobot) => e.2.joined)).map Prod.fst
  ((l.filter (fun a => decide (s.cx.lastPoll < a))) ++ (l.filter (fun a => decide (a ≤ s.cx.lastPoll)))).take 8

/-- Sends a CX frame. -/
def cxSend (ch slot dst : Nat) (payload : Bytes) (s : State) : State :=
  (s.mapCx (fun x => { x with sent := inc32 x.sent })).emit (.cxFrame ch slot dst payload)

/-- The radio sends: it is on, and the network key can be used (R505, R569). -/
def cxRadioOn (s : State) : Bool := s.cx.conf.radio.isSome && s.cx.conf.key.isSome && s.rootKeys

/-- CX_TICK: the frames of a tick, composed at its start. -/
def cxTick (s : State) : State :=
  if s.cxRuns = false then s
  else
    let k := (s.clk.count + 25000000) / 50000000
    let s := s.mapCx (fun x => { x with k := k, polled := [], joining := [] }) |> fun t =>
      s.cx.joining.foldl (fun t a => t.mapCxRobot a (fun r => { r with joined := true, lost := false, polls := 0 })) t
    match s.cx.conf.radio, s.cxRadioOn with
    | some (_, pan), true =>
      let ch := cxChannel k pan
      let all := s.cxAllStop
      let d6 := s.cx.onAir.take 6
      let rest := s.cx.onAir.drop 6
      let s := s.cxSend ch 0 0xFFFF (cxPayload 0x10 all (le 2 k ++ padTo 6 0 d6))
      let s := if rest = [] then s else s.cxSend ch 2 0xFFFF (cxPayload 0x11 all (rest.take 8))
      let s := s.mapCx (fun x => { x with onAir := rest.drop 8 })
      let l := s.cxNext
      let s := (l.zipIdx).foldl (fun s (x : Nat × Nat) =>
        match Tab.find? x.1 s.cx.robots with
        | none => s
        | some r =>
          let (kind, b) := cxItem r
          let s := s.mapCxRobot x.1 (fun r => { r with due := kind, polls := r.polls + 1 })
          s.cxSend ch (4 + 4 * x.2) x.1 (cxPayload 0x12 (s.cxCovered x.1) (le 1 kind ++ b))) s
      let s := s.mapCx (fun x => { x with polled := l, lastPoll := l.getLast?.getD x.lastPoll })
      match s.cx.joinReq with
      | a :: t =>
        if k % 2 = 0 then s
        else
          let eui := match Tab.find? a s.cx.robots with | some r => r.eui | none => 0
          let s := s.mapCx (fun x => { x with joinReq := t, joining := [a] })
          s.cxSend ch 38 0xFFFF (cxPayload 0x13 all (le 4 eui ++ le 1 a))
      | [] => s
    | _, _ => s

/-- A robot's frame in CX mode: it counts only in the slot of its poll (R572). -/
def cxFrameIn (typ : Nat) (f : CxRx) (s : State) : State :=
  let j := (f.slot - 6) / 4
  if s.cxRuns = false ∨ s.cxRadioOn = false ∨ f.slot < 6 ∨ f.slot % 4 ≠ 2 ∨ s.cx.polled[j]? ≠ some f.src ∨ f.payload.length ≠ 9 then s
  else if f.micOk = false then s.cxCount 4
  else if u8 f.payload 0 % 128 ≠ typ then s
  else
    let s := (s.mapCx (fun x => { x with rcvd := inc32 x.rcvd })).mapCxRobot f.src (cxUplink s.now f)
    if typ = 0x22 then
      let n := min 6 (u8 f.payload 1)
      s.mapCx (fun x => { x with inbox := x.inbox ++ [(f.src, slice f.payload 2 n)] })
    else s

/-- CX_JOIN_REQUEST in CX mode (R570, R572). -/
def cxJoin (f : CxRx) (s : State) : State :=
  if s.cxRuns = false ∨ s.cxRadioOn = false ∨ f.slot ≠ 38 ∨ s.cx.k % 2 = 1 ∨ f.payload.length ≠ 9 then s
  else if f.micOk = false then s.cxCount 4
  else if u8 f.payload 0 % 128 ≠ 0x21 then s
  else
    let s := s.mapCx (fun x => { x with rcvd := inc32 x.rcvd })
    match List.find? (fun (e : Nat × CxRobot) => e.2.eui == u64 f.payload 1) s.cx.robots with
    | some (a, _) => if s.cx.joinReq.contains a then s else s.mapCx (fun x => { x with joinReq := x.joinReq ++ [a] })
    | none => s

/-- CX_ROBOT_LOST in CX mode (R573). -/
def cxLost (a : Nat) (s : State) : State :=
  match Tab.find? a s.cx.robots with
  | some r =>
    if r.joined ∧ r.lost = false ∧ 20 ≤ r.polls then
      ((s.mapCxRobot a (fun r => { r with lost := true })).cxCount 6).raise 0x0505 .warning 1 1 a
    else s
  | none => s

/-- CX mode starts: the saved record takes effect (R569), and the stops survive (R361, R575). -/
def cxBoot (s : State) : State :=
  let s := s.rebuildStops
  let x := s.cx
  let c := Cxm.fresh (x.saved.getD CxConf.fresh) x.saved
  let held (a eui : Nat) : Bool := match Tab.find? a x.robots with | some r => r.stop && r.eui == eui | none => false
  ({ s with cx := { c with
    robots := Tab.mapVals (fun a (r : CxRobot) => { r with stop := held a r.eui }) c.robots
    legacy := x.legacy, lineOpen := x.lineOpen, stopAll := s.crk.all.any (fun h => h.1 == 2) } }).cxSync

/-- The stop line as the hardware path finds it when the internal reset is released in CX mode (R3, R361, R575): CROOK_A alone. -/
def cxLineAtReset (isOpen : Bool) (s : State) : State :=
  (s.mapCx (fun x => { x with lineOpen := isOpen })).cxHold 1 isOpen

/-! ### Legacy flock members (R580 to R582) -/

/-- A legacy member's CX-era state. -/
def legacyOf (s : State) (r : Nat) : CxRobot :=
  match Tab.find? r s.cx.legacy with
  | some x => x
  | none =>
    let eui := match s.robot? r with | some x => x.eui | none => 0
    let a := ((List.range 48).find? (fun i => s.cx.legacy.all (fun (e : Nat × CxRobot) => e.2.addr != i + 1))).getD 0
    CxRobot.fresh eui (a + 1)

/-- Changes it. -/
def mapLegacy (r : Nat) (f : CxRobot → CxRobot) (s : State) : State :=
  s.mapCx (fun x => { x with legacy := Tab.put r (f (s.legacyOf r)) x.legacy })

/-- The base position as a list of coordinates, mm. -/
def baseList (s : State) : List Int := match s.basePos with | some (x, y, z) => [x, y, z] | none => []

/-- The CX task that an allotted task goes out as: the low 16 bits of TASK_ID, PICKUP in cm, and the low 8 bits of KIND (R582). -/
def legacyTask (s : State) (r : Nat) : Option (Nat × (Nat × Int × Int × Nat)) :=
  match s.taskIn r 2 with
  | none => none
  | some id => match s.task? id with
    | none => none
    | some t =>
      let g := s.nodeGeo (taskPickup t.record)
      let (x, y, z) := Trig.ecefOfSite s.siteFrame g.x1 g.y1 0
      let (e, n) := Trig.localOfEcef s.baseList x y z
      some (id, (id % 65536, e / 10, n / 10, u8 t.record 6))

/-- What the legacy members' slots of the tick that opens carry: tasks and corrections that earlier ticks made (R14, R581, R582). -/
def legacyOffers (s : State) : State :=
  (s.lnk.robots.filter (fun (e : Nat × Robot) => e.2.legacy && !s.sys.cx)).foldl (fun s e =>
    let t := (s.legacyTask e.1).map Prod.snd
    s.mapLegacy e.1 (fun x => { x with offer := t, corr := x.corr ++ x.corrNext, corrNext := [] })) s

/-- The legacy key can be used (R580, R584). -/
def legacyOn (s : State) : Bool := s.rootKeys && s.legacyKey (s.prm 0x1300) && s.airOn && s.inControl

/-- The airtime in ns at which a CX-240 frame is metered: it ends within its two slots (R208, R569; assumption 148). -/
def legacyAirtime : Nat := min 2300000 (Config.airtimeNs 255 0 20)

/-- A frame to a legacy member: metered and counted on its chain (R208, R214). -/
def legacySend (c ch dst : Nat) (payload : Bytes) (s : State) : State :=
  ((s.meterAdd c (legacyChannel ch) legacyAirtime).mapChain c (fun k => { k with sent := inc32 k.sent })).cxSend ch (s.air.slot - 1) dst payload

/-- The poll of a legacy member in its first pair (R580): the payload, and what it leaves of the member's state. Bytes of the RTCM stream,
as any KIND but 00h, go again until a status frame acknowledges them (R571, R581). -/
def legacyPollOf (s : State) (r : Nat) (x : CxRobot) : CxRobot × Bytes :=
  let stop := s.covered r
  let x := if x.part = 0 ∧ x.due = 0 then (match x.offer with
    | some t => if x.task = t ∧ x.tState ≠ 0 then x else { x with task := t, tState := 1, part := 1 }
    | none => x) else x
  if x.answer then
    ({ x with answer := false, joined := true, lost := false, polls := 0 }, cxPayload 0x13 stop (le 4 x.eui ++ le 1 x.addr))
  else if x.joined = false then (x, cxPayload 0x12 stop [0])
  else
    let (kind, d) := cxItem x
    let corr := (kind == 0 || x.due == 6) && x.corr != []
    let body := if corr then [0x04] ++ le 1 (x.corr.take 6).length ++ x.corr.take 6 else le 1 kind ++ d
    ({ x with due := if corr then 6 else kind, polls := x.polls + 1 }, cxPayload 0x12 stop body)

/-- A poll to a legacy member in its first pair (R580): one that would pass the meter's limit is deferred whole (R208). A poll that a
failed chain cannot send counts among those without an uplink, so that its members are lost (R242, R573). -/
def legacyPoll (r : Nat) (s : State) : State :=
  match s.robot? r with
  | none => s
  | some b =>
    if s.legacyOn = false then s
    else if (s.chain b.chain).bad then
      s.mapLegacy r (fun x => if x.joined then { x with polls := x.polls + 1 } else x)
    else if s.chainOn b.chain = false then s
    else
      let ch := cxChannel (s.clk.count / 50000000) (s.prm 0x1301)
      let x := s.legacyOf r
      match s.meterOver b.chain (legacyChannel ch) legacyAirtime with
      | some l => s.deferFrame b.chain l 2
      | none =>
        let (y, payload) := s.legacyPollOf r x
        let s := (s.useKey (256 + s.prm 0x1300)).mapLegacy r (fun _ => y)
        let s := if x.answer ∧ b.link ≠ .leaving then (s.mapRobot r (fun y => { y with link := .joined })).raise 0x0504 .notice 1 1 r else s
        s.legacySend b.chain ch x.addr payload

/-- The legacy polls of the slot that opens, unless AIR_OVERRUN withholds the chain (R54). -/
def legacySlot (s : State) : State :=
  (s.itemsAt s.tickNo).foldl (fun s i =>
    match i.robot with
    | some r => if i.typ = .legacy ∧ i.part = 0 ∧ i.slot + 1 = s.air.slot ∧ s.stopTakes i.chain = false ∧ (s.chain i.chain).quiet = false then s.legacyPoll r else s
    | none => s) s

/-- The legacy member whose uplink pair is open: its chain is in service, and no stop frame took a slot of the pair (R242, R352). -/
def legacyOpen (s : State) : Option Nat :=
  ((s.itemsAt s.tickNo).find? (fun i => i.typ == .legacy && (i.part == 2 || i.part == 3) && i.slot + 1 == s.air.slot && s.chainOn i.chain &&
    (match (s.chain i.chain).stopAsn with
      | some a => a != s.air.asn && !(i.part == 3 && (a + 1) % 2 ^ 40 == s.air.asn)
      | none => true))).bind (fun i => i.robot)

/-- A legacy position report becomes a fix record (R581), in the site frame where it lies within the extent (R248). -/
def legacyFix (r : Nat) (s : State) : State :=
  let x := s.legacyOf r
  match x.report with
  | none => s
  | some (e, n, u, _) =>
    let p := Trig.ecefOfLocal s.baseList (10 * e) (10 * n) (100 * u)
    let enu := Trig.siteOfEcef s.siteFrame p.1 p.2.1 p.2.2
    let site := s.prm 0x0600 == 1 && s.basePos.isSome && inExtent enu.1 && inExtent enu.2.1
    s.putFix {
      epoch := s.clk.count, tick := s.sys.tick, robot := r, typ := x.fix, source := 1, reason := 0
      flags := bitsOf ((if site then [4] else []) ++ s.fixFlags s.gns.sets.head?), age := 0, sats := 0, sigs := 0, fixedAmb := 0, timeQ := s.timeQ
      enu := if site then enu else (0, 0, 0), xyz := p, cov := [0, 0, 0, 0, 0, 0]
      ratio := 0, resid := 0 } 0

/-- The disc that replaces the corridor when a legacy member reports its task done (R582). -/
def legacyDisc (r : Nat) (s : State) : State :=
  let c := s.clsOf r
  let p := match (Tab.find? r s.fix.robots).bind (fun f => f.newest) with | some f => (f.enu.1, f.enu.2.1) | none => (0, 0)
  let e : Entry := {
    robot := r, kind := 5, grant := 0, place := 0, seg := 0, cls := c, shape := s.classShape c, geo := ⟨p.1, p.2, p.1, p.2⟩
    tIn := s.rtNow, tOut := none, tseg := none, late := false, border := false, breach := false, conflict := false, xid := none, hits := [] }
  (s.freeWhere (fun o => o.robot == r && o.kind == 4)).addEntries [e]

/-- What a status frame says of the task (R326, R582): acknowledged, done or failed. -/
def legacyReport (r : Nat) (old new : CxRobot) (s : State) : State :=
  let t := (s.tasksOf r).find? (fun (e : Nat × Task) => e.1 % 65536 == new.task.1)
  match t with
  | none => s
  | some (id, _) =>
    let s := if old.tState = 1 ∧ 2 ≤ new.tState then s.taskDelivered r (le 4 id) else s
    if new.tState = old.tState then s
    else if new.tState = 4 then
      (s.taskDone r (le 4 id ++ [0] ++ le 1 new.tResult ++ zeros 6)).legacyDisc r
    else if new.tState = 5 then s.taskDone r (le 4 id ++ [1] ++ le 1 new.tResult ++ zeros 6)
    else s

/-- A legacy member's frame is received on its chain (R214). -/
def legacyHeard (r : Nat) (s : State) : State :=
  match s.robot? r with
  | some b => s.mapChain b.chain (fun k => { k with rcvd := inc32 k.rcvd })
  | none => s

/-- A legacy member's frame in its uplink pair (R580 to R582). -/
def legacyFrame (typ : Nat) (f : CxRx) (s : State) : State :=
  match s.legacyOpen with
  | none => s
  | some r =>
    let s := s.legacyHeard r
    let old := s.legacyOf r
    if s.rootKeys = false ∨ s.legacyKey (s.prm 0x1300) = false ∨ f.src ≠ old.addr ∨ old.joined = false ∨ f.payload.length ≠ 9 then s
    else if f.micOk = false then s.securityDiscard r 1
    else if u8 f.payload 0 % 128 ≠ typ then s
    else
      let s := s.mapLegacy r (cxUplink s.now f)
      let new := s.legacyOf r
      let s := s.mapRobot r (fun x => { x with
        link := if x.link = .lost then .joined else x.link, frames := inc32 x.frames, seen := true, lastFrame := s.now, secRun := false })
      if typ = 0x20 then s.legacyFix r
      else if typ = 0x23 then
        (s.mapTsk (fun k => { k with tstate := Tab.put r (min 100 new.battery, 1) k.tstate })).legacyReport r old new
      else s

/-- A legacy member's join request, in its uplink pair (R242, R580). -/
def legacyJoin (f : CxRx) (s : State) : State :=
  match s.legacyOpen with
  | none => s
  | some r =>
    let s := s.legacyHeard r
    if s.rootKeys = false ∨ s.legacyKey (s.prm 0x1300) = false ∨ f.payload.length ≠ 9 ∨ u64 f.payload 1 ≠ (s.legacyOf r).eui ∨
        u8 f.payload 0 % 128 ≠ 0x21 then s
    else if f.micOk = false then s.securityDiscard r 1
    else s.mapLegacy r (fun x => { x with answer := true })

/-- CX_ROBOT_LOST for a legacy member (R573, R580). -/
def legacyLost (r : Nat) (s : State) : State :=
  match s.robot? r, Tab.find? r s.cx.legacy with
  | some b, some x =>
    if b.legacy ∧ x.joined ∧ b.link = .joined ∧ 20 ≤ x.polls then s.loseRobot r 1 else s
  | _, _ => s

/-- The RTCM bytes for legacy members at an epoch (R581). -/
def legacyCorr (m : MeasSet) (s : State) : State :=
  let sec := m.epoch / 1000000000
  let p := max 1 (s.prm 0x1302)
  if s.basePos.isNone ∨ s.withheld ∨ m.epoch % 1000000000 ≠ 0 ∨ sec % p ≠ 0 then s
  else
    let b := s.cxMsm m ++ s.cxArp
    s.lnk.robots.foldl (fun s (e : Nat × Robot) =>
      if e.2.legacy ∧ e.2.link = .joined then
        s.mapLegacy e.1 (fun x => if x.corr = [] ∧ x.corrNext = [] then { x with corrNext := b, dropRun := false } else { x with dropDue := true })
      else s) s

/-- LEGACY_CORR_DROPPED (R581, R585). -/
def legacyDropped (r : Nat) (s : State) : State :=
  match Tab.find? r s.cx.legacy with
  | some x =>
    if x.dropDue = false then s
    else
      let s := s.mapLegacy r (fun x => { x with dropDue := false, dropRun := true })
      if x.dropRun then s else s.raise 0x1301 .warning 1 1 r
  | none => s

end State

end Sys2Proof.Machine
end

