-- ==== Sys2Proof/Machine/Prm.lean ====
section
/-! DEFINITION. Parameters and standing orders as a session reads and stages them (R20 to R25, R94 to R97), and the claims on
shared resources (R29 to R32). -/

namespace Sys2Proof.Machine

/-- An empty shadow set (R94). -/
def Shadow.empty : Shadow := ⟨[], [], [], [], [], []⟩

/-- The catalogue bits that every parameter of a group needs, with the exceptions that their chapters name (R72). -/
def groupNeed (id : Nat) : List Nat :=
  let g := id / 256
  if g = 0x06 then (if id ≤ 0x0604 then [] else [128])
  else if g = 0x08 then [160] else if g = 0x0A then [165] else if g = 0x0F then [226]
  else if 0x0C00 ≤ id ∧ id ≤ 0x0C03 then [194] else []

/-- The catalogue bits that writing a value needs (R73): GNS_SIGNALS needs the bit of each signal it admits. -/
def paramNeed (id v : Nat) : List Nat :=
  groupNeed id ++ (if id = 0x0200 then ((List.range 6).filter (fun i => bit v i)).map (· + 32) else []) ++
  (match paramDef? id with | some d => d.need (id - d.lo) v | none => [])

/-- One item of PRM_SET, checked (R95): the staged pair, or the failure. -/
def prmItem (agreed idx id len : Nat) (v : Bytes) : Ans ⊕ (Nat × Nat) :=
  match paramDef? id with
  | none => .inl (Ans.bare stBadParam idx)
  | some d =>
    if id = 0x0014 then .inl (Ans.bare stBadParam idx)
    else if len ≠ d.size then .inl (Ans.bare stBadLength idx)
    else if d.ok (id - d.lo) (ofLe v) = false then .inl (Ans.bare stBadParam idx)
    else match missingBit agreed (paramNeed id (ofLe v)) with
      | some b => .inl ⟨stNotNegotiated, idx, le 2 b ++ le 2 0⟩
      | none => .inr (id, ofLe v)

/-- The items of PRM_SET in order; the first failure ends it, and items that do not fill the parameters exactly are of bad
length (R95). -/
def prmItems (agreed : Nat) : Nat → Nat → Bytes → List (Nat × Nat) → Ans ⊕ List (Nat × Nat)
  | 0, _, b, done => if b = [] then .inr done else .inl (Ans.bare stBadLength 0)
  | n + 1, idx, b, done =>
    let len := u16 b 2
    let whole := 4 + 4 * ceilDiv len 4
    if b.length < 4 then .inl (Ans.bare stBadLength 0)
    else match prmItem agreed idx (u16 b 0) len (slice b 4 len) with
      | .inl a => .inl a
      | .inr x => if b.length < whole then .inl (Ans.bare stBadLength 0)
        else prmItems agreed n (idx + 1) (b.drop whole) (done ++ [x])

/-! ### Standing-order entries (R20, R21) -/

/-- Fields of a standing order (R20). -/
def soArmed (e : Nat) : Bool := bit e 63
def soEvent (e : Nat) : Nat := field e 40 16
def soKind (e : Nat) : Nat := field e 36 4
def soIndex (e : Nat) : Nat := field e 24 12
def soLevel (e : Nat) : Nat := field e 16 8
def soRemedy (e : Nat) : Nat := field e 8 8
def soArg (e : Nat) : Nat := field e 0 8

/-- How many indices a scope kind of R20 has. -/
def soKindSize (k : Nat) : Nat :=
  match k with
  | 0 => 1 | 1 => 256 | 2 => 16 | 3 => 1024 | 4 => 4 | 5 => 4 | 6 => 4 | 7 => 48 | _ => 0

/-- The scope kinds and event groups a remedy allows, and its arguments (R21). -/
def soRemedyOk (e : Nat) : Bool :=
  let k := soKind e
  let g := soEvent e / 256
  match soRemedy e with
  | 0 => soArg e == 0
  | 1 => decide (k ≤ 3) && decide (soArg e ≤ 1)
  | 2 => soArg e == 0
  | 3 => k == 0 && (g == 0x00 || g == 0x11) && soArg e == 0
  | 4 => k == 0 && g == 0x04 && soArg e == 0
  | 5 => k == 0 && g == 0x0F && soArg e == 0
  | 6 => k == 0 && g == 0x10 && soArg e == 0
  | 7 => k == 0 && g == 0x10 && soArg e == 0
  | 8 => (k == 0 || k == 5) && soArg e == 0
  | _ => false

/-- Whether an entry may be staged (R20, R21). -/
def soOk (e : Nat) : Bool := field e 56 7 == 0 && decide (soIndex e < soKindSize (soKind e)) && soRemedyOk e

/-- The bits an armed entry's remedy needs (R25). -/
def soNeed (e : Nat) : List Nat :=
  if soArmed e = false then []
  else match soRemedy e with
    | 1 => (if soKind e = 0 then [] else [163]) ++ (if soArg e = 1 then [135] else [])
    | 4 => [73]
    | 5 => [226]
    | 8 => [165]
    | _ => []

/-! ### Generations and claims -/

/-- A claim: the resource, and its holder as block group, with the instance in bits [7:0] and the feature of the group above. -/
abbrev Claim := Nat × Nat × Nat

/-- Resource identifiers (R29). -/
def resPad (n : Nat) : Nat := 0x01000000 + n
def resTimer (n : Nat) : Nat := 0x02000000 + n
def resSnapshot : Nat := 0x03000000
def resChain (n : Nat) : Nat := 0x04000000 + n
def resQueue (n : Nat) : Nat := 0x05000000 + n
def resUart : Nat := 0x06000000
def resCan (n : Nat) : Nat := 0x07000000 + n

/-- The streams that claim hardware queues (R432): parameter value, block group, feature, least size. -/
def queueClaims (g : Gen) : List (Nat × Nat × Nat × Nat) :=
  ([(g.prm 0x021F, 0x02, 1, 8192), (g.prm 0x0300, 0x03, 1, 256), (g.prm 0x0301, 0x03, 2, 2048), (g.prm 0x080D, 0x08, 1, 256),
    (u8 (le 24 (g.prm 0x0C02)) 14, 0x0C, 1, 256), (u8 (le 24 (g.prm 0x0C03)) 14, 0x0C, 2, 256),
    (u8 (le 8 (g.prm 0x0C04)) 6, 0x0C, 3, 512)] : List (Nat × Nat × Nat × Nat)).filter (fun x => x.1 != 0)

/-- The CAN link that a fold tier uses (R449): LINK 3 and 4. -/
def foldLinks (g : Gen) : List Nat :=
  if g.prm 0x0E00 = 0 then []
  else ((List.range 15).filterMap (fun k =>
    let b := le 8 (g.prm (0x0E01 + k))
    if u16 b 0 ≠ 0xFFFF ∧ 3 ≤ u8 b 4 then some (u8 b 4 - 3) else none)).dedup

/-- Every claim that a configuration makes (R29). -/
def claimsOf (g : Gen) : List Claim :=
  let pad (n grp inst : Nat) : List Claim := if n ≤ 47 then [(resPad n, grp, inst)] else []
  pad (g.prm 0x001A) 0 0 ++
  (List.range 4).flatMap (fun n =>
    let b := le 12 (g.prm (0x001C + n))
    if u8 b 1 = 0 then [] else pad (u8 b 0) 0 (256 + n) ++ [(resTimer (u8 b 2), 0, 256 + n)]) ++
  (let c := g.prm 0x040B; if c ≤ 47 then [(resPad c, 4, 0), (resTimer 15, 4, 0)] else []) ++
  (let u := g.prm 0x7F11; if u = 0xFFFF then [] else [(resPad (u % 256), 0x7F, 0), (resPad (u / 256), 0x7F, 0)]) ++
  (if g.prm 0x0220 = 1 then [(resSnapshot, 2, 0)] else []) ++
  (if g.prm 0x7F12 = 1 then [(resSnapshot, 0x7F, 0)] else []) ++
  (let c := g.prm 0x050F; if c ≤ 3 then [(resChain c, 5, c)] else []) ++
  (let c := g.prm 0x7F13; if c ≤ 3 then [(resChain c, 0x7F, c)] else []) ++
  (queueClaims g).map (fun (x : Nat × Nat × Nat × Nat) => (resQueue x.1, x.2.1, 256 * x.2.2.1 + x.1)) ++
  (if g.prm 0x7F10 = 1 then [(resUart, 0x7F, 0)] else []) ++
  (if u32 (le 8 (g.prm 0x0C04)) 0 ≠ 0 then [(resUart, 0x0C, 0)] else []) ++
  (List.range 2).flatMap (fun n => if bit (g.prm 0x0C01) n then [(resCan n, 0x0C, n)] else []) ++
  (foldLinks g).map (fun n => (resCan n, 0x0E, n)) ++
  (List.range 2).flatMap (fun n => pad (u8 (le 24 (g.prm (0x0C02 + n))) 13) 0x0C n) ++
  pad (u8 (le 8 (g.prm 0x0C04)) 5) 0x0C 256 ++
  (List.range 4).flatMap (fun n => if bit (g.prm 0x0A00) n then
    let b := le 52 (g.prm (0x0A10 + n))
    (resTimer (u8 b 47), 0x0A, n) :: pad (u8 b 48) 0x0A n else []) ++
  pad (g.prm 0x0E15) 0x0E 0

/-- The accepted COMMIT that stages a claim. -/
def claimFrom (c : Claim) : Gen → List PendCommit → Option Nat
  | _, [] => none
  | g, p :: t => if (claimsOf (g.after p)).contains c then some p.gen else claimFrom c (g.after p) t

namespace State

/-- The generation in which a holder's claim took effect, or will (R32). -/
def claimGen (s : State) (c : Claim) : Nat :=
  match s.cfg.claims.find? (fun k => k.1 == c.1 && k.2.1 == (c.2.1, c.2.2)) with
  | some k => k.2.2
  | none => (claimFrom c s.cfg.eff s.cfg.pend).getD s.newestNum

/-- The claims in effect follow the configuration in effect, each with the generation that made it (R31, R32). -/
def refreshClaims (gen : Nat) (s : State) : State :=
  s.mapCfg (fun c => { c with claims := (claimsOf c.eff).map (fun (k : Claim) =>
    match c.claims.find? (fun o => o.1 == k.1 && o.2.1 == (k.2.1, k.2.2)) with
    | some o => o
    | none => (k.1, (k.2.1, k.2.2), gen)) })

/-- The shadow set of a session. -/
def shadowOf (s : State) (n : Nat) : Shadow := match s.session n with | some x => x.shadow | none => Shadow.empty

/-- The value PRM_GET returns from the configuration in effect: the reset cause, and the flock's EUI in use until the next reset
(R57, R244). -/
def prmInUse (s : State) (id : Nat) : Nat :=
  if id = 0x0014 then s.sys.resetCause else if id = 0x0511 then s.lnk.flockEui else s.prm id

/-- PRM_GET (R94, R95). -/
def runPrmGet (c : Cmd) (s : State) : State × CmdRes :=
  let b := c.params
  let n := u16 b 0
  if b.length < 4 then (s, refuse stBadLength 0)
  else if n = 0 ∨ 256 < n ∨ 2 ≤ u8 b 2 ∨ u8 b 3 ≠ 0 then (s, refuse stBadParam 0)
  else if b.length ≠ 4 + 2 * n then (s, refuse stBadLength 0)
  else
    let ids := (List.range n).map (fun i => u16 b (4 + 2 * i))
    match findIdx (fun id => (paramDef? id).isNone) ids with
    | some (i, _) => (s, refuse stBadParam i)
    | none =>
      let h := (s.shadowOf c.sess).params
      let body := ids.flatMap (fun id => match paramDef? id with
        | none => []
        | some d =>
          let v := if u8 b 2 = 1 then (match Tab.find? id h with | some x => x | none => s.prmInUse id) else s.prmInUse id
          le 2 id ++ le 2 d.size ++ padMul 4 (le d.size v))
      if 4096 < 20 + c.pre + 4 + body.length then (s, refuse stBadLength 2) else (s, fin body)

/-- PRM_SET (R95). -/
def runPrmSet (c : Cmd) (s : State) : State × CmdRes :=
  let b := c.params
  let n := u16 b 0
  if b.length < 4 then (s, refuse stBadLength 0)
  else if n = 0 ∨ 256 < n ∨ u16 b 2 ≠ 0 then (s, refuse stBadParam 0)
  else match prmItems c.agreed n 0 (b.drop 4) [] with
    | .inl a => (s, .refuse a)
    | .inr items => (s.mapShadow c.sess (fun h => { h with params := Tab.union h.params items }), fin [])

/-- DISCARD (R96). -/
def runDiscard (c : Cmd) (s : State) : State × CmdRes :=
  if c.params.length ≠ 0 then (s, refuse stBadLength 0)
  else (s.mapShadow c.sess (fun _ => Shadow.empty), fin [])

/-- ORDERS_WRITE (R25, R97). -/
def runOrdersWrite (c : Cmd) (s : State) : State × CmdRes :=
  let b := c.params
  let e := u64 b 4
  if b.length ≠ 12 then (s, refuse stBadLength 0)
  else if 256 ≤ u16 b 0 ∨ u16 b 2 ≠ 0 ∨ soOk e = false then (s, refuse stBadParam 0)
  else match missingBit c.agreed (soNeed e) with
    | some k => (s, refuse stNotNegotiated k)
    | none => (s.mapShadow c.sess (fun h => { h with orders := Tab.put (u16 b 0) e h.orders }), fin [])

/-- ORDERS_READ (R97). -/
def runOrdersRead (c : Cmd) (s : State) : State × CmdRes :=
  let b := c.params
  if b.length ≠ 8 then (s, refuse stBadLength 0)
  else if 256 ≤ u16 b 0 ∨ u16 b 2 = 0 ∨ 256 < u16 b 0 + u16 b 2 ∨ 2 ≤ u8 b 4 ∨ rd b 5 3 ≠ 0 then (s, refuse stBadParam 0)
  else
    let h := (s.shadowOf c.sess).orders
    (s, fin ((List.range (u16 b 2)).flatMap (fun i =>
      let n := u16 b 0 + i
      let v := Tab.getD n 0 s.cfg.eff.orders
      le 8 (if u8 b 4 = 1 then Tab.getD n v h else v))))

/-- RESMAP_READ (R97): the holders in effect, then the claims accepted and not yet in effect. -/
def runResmapRead (c : Cmd) (s : State) : State × CmdRes :=
  let b := c.params
  if b.length ≠ 4 then (s, refuse stBadLength 0)
  else if u8 b 0 = 0 ∨ 8 ≤ u8 b 0 ∨ rd b 1 3 ≠ 0 then (s, refuse stBadParam 0)
  else
    let cls (r : Nat) : Bool := r / 0x1000000 == u8 b 0
    let now := s.cfg.claims.filter (fun k => cls k.1)
    let next := (claimsOf s.newest).filter (fun (k : Claim) => cls k.1 &&
      !(s.cfg.claims.any (fun o => o.1 == k.1 && o.2.1 == (k.2.1, k.2.2))))
    let recs := now.map (fun k => le 4 k.1 ++ le 1 k.2.1.1 ++ le 1 (k.2.1.2 % 256) ++ le 2 0 ++ le 4 k.2.2) ++
      next.map (fun (k : Claim) => le 4 k.1 ++ le 1 k.2.1 ++ le 1 (k.2.2 % 256) ++ le 2 1 ++ le 4 (s.claimGen k))
    (s, fin (le 2 recs.length ++ le 2 0 ++ recs.flatten))

end State

end Sys2Proof.Machine
end

