-- ==== Sys2Proof/Machine/Vitrine.lean ====
section
/-! DEFINITION. Vitrine: key loading, attestation, the tamper monitor and its opcodes (R500 to R521). -/

namespace Sys2Proof.Machine

namespace State

/-! ### Key operations (R508, R509) -/

/-- The refusals that hold of every key operation (R505, R518). -/
def keysShut (s : State) : Option Ans :=
  if s.vit.locked then some (Ans.bare 0x1042 0)
  else none

/-- The largest GEN a slot copy has. -/
abbrev lastGen : Nat := 0xFFFFFFFE

/-- GEN of a slot's content, 0 where no copy is valid. -/
def contentGen (s : State) (n : Nat) : Nat := match s.contentCopy n with | some (_, c) => c.gen | none => 0

/-- The copy that does not hold a slot's content: A where neither does. -/
def spareCopy (s : State) (n : Nat) : Nat := match s.contentCopy n with | some (k, _) => 1 - k | none => 0

/-- What stops a key operation when it is run: locked keys, a pair at work, a slot spent or in use (R508 to R510). -/
def keyOpBar (s : State) (slot typ : Nat) : Option Ans :=
  match s.keysShut with
  | some a => some a
  | none =>
    if s.vit.rootBad then some (Ans.bare stFault 0)
    else if s.pai.mode = .lockstep ∨ s.pai.mode = .resync then some (Ans.bare stDenied 0x000B)
    else if typ ≠ 0 then (if s.contentGen slot = lastGen then some (Ans.bare 0x1043 0) else none)
    else if s.lnk.robots.any (fun (e : Nat × Robot) => e.2.keySlot == slot && !e.2.legacy) then some (Ans.bare 0x1044 0)
    else if slot = 0 ∧ s.pai.role ≠ 0 then some (Ans.bare stDenied 0x000C)
    else none

/-- Begins a key operation: the copy that does not hold the content is written, not yet committed (R508 step 3, R509). -/
def beginKeyOp (o : KeyOp) (s : State) : State :=
  let g := s.contentGen o.slot
  let s := (s.readSlot o.slot).useKey 3 |>.useKey 4
  if g = lastGen then
    let p := s.slotCopies o.slot
    let k := s.spareCopy o.slot
    s.putCopy o.slot k { (if k = 0 then p.1 else p.2) with committed := false }
  else s.putCopy o.slot (s.spareCopy o.slot) ⟨g + 1, o.typ, false, o.key, o.kcv, true⟩

/-- Ends a key operation: the copy is committed with the completion (R508 step 4, R509). -/
def endKeyOp (o : KeyOp) (s : State) : State :=
  let g := s.contentGen o.slot
  let s :=
    if g = lastGen then
      let k := 1 - s.spareCopy o.slot
      s.putCopy o.slot k ⟨1, 0, true, 0, 0, true⟩
    else s.putCopy o.slot (s.spareCopy o.slot) ⟨g + 1, o.typ, true, o.key, o.kcv, true⟩
  (s.forgetKey (256 + o.slot)).completeOk o.sess o.acc []

/-- The key engine's part of a tick boundary: the operation that has begun ends, and the next begins. -/
def keyTick (s : State) : State :=
  let s := match s.vit.ops with
    | o :: t => if o.begun then (s.mapVit (fun v => { v with ops := t })).endKeyOp o else s
    | [] => s
  match s.vit.ops with
  | o :: t =>
    match s.keyOpBar o.slot o.typ with
    | some a => (s.mapVit (fun v => { v with ops := t })).complete o.sess o.acc a
    | none => (s.beginKeyOp o).mapVit (fun v => { v with ops := { o with begun := true } :: t })
  | [] => s

/-- Queues a key operation. -/
def keyOp (c : Cmd) (slot typ key kcv : Nat) (s : State) : State × CmdRes :=
  (s.mapVit (fun v => { v with ops := v.ops ++ [⟨c.sess, c.acc, slot, typ, key, kcv, false⟩] }), .later)

/-- A key operation's bar as a result: FAULT ends an accepted command (R518). -/
def barRes (a : Ans) : CmdRes := if a.status = stFault then .fin a else .refuse a

/-- VIT_KEY_LOAD (R508). -/
def runVitKeyLoad (c : Cmd) (s : State) : State × CmdRes :=
  let b := c.params
  let slot := u16 b 0
  let typ := u8 b 2
  if b.length ≠ 96 then (s, refuse stBadLength 0)
  else if 512 ≤ slot ∨ typ = 0 ∨ 3 < typ ∨ u8 b 3 ≠ 0 ∨ (typ = 2) ≠ (slot = 0) then (s, refuse stBadParam 0)
  else match s.keyOpBar slot typ with
  | some a => (s, barRes a)
  | none =>
    match Config.unwrapLoad (slice b 4 64) (slice b 68 24) with
    | none => (s, refuse 0x1040 0)
    | some k => if Config.kcv k % 2 ^ 32 ≠ u32 b 92 then (s, refuse 0x1041 0) else (s.useKey 2).keyOp c slot typ k (u32 b 92)

/-- VIT_KEY_ERASE (R509). -/
def runVitKeyErase (c : Cmd) (s : State) : State × CmdRes :=
  let b := c.params
  let slot := u16 b 0
  if b.length ≠ 4 then (s, refuse stBadLength 0)
  else if 512 ≤ slot ∨ u16 b 2 ≠ 0 then (s, refuse stBadParam 0)
  else match s.keyOpBar slot 0 with
  | some a => (s, barRes a)
  | none => s.keyOp c slot 0 0 0

/-- A record of VIT_SLOT_READ. -/
def slotRecord (s : State) (n : Nat) : Bytes :=
  match s.contentCopy n with
  | some (k, c) => if c.typ = 0 then le 2 n ++ [0, 0xFF] ++ le 4 c.gen ++ le 4 0
      else le 2 n ++ le 1 c.typ ++ le 1 k ++ le 4 c.gen ++ le 4 c.kcv
  | none => le 2 n ++ [0, 0xFF] ++ zeros 8

/-- VIT_SLOT_READ. -/
def runVitSlotRead (c : Cmd) (s : State) : State × CmdRes :=
  let b := c.params
  let n := u16 b 2
  if b.length ≠ 4 then (s, refuse stBadLength 0)
  else if 512 ≤ u16 b 0 ∨ n = 0 ∨ 256 ≤ n ∨ 512 < u16 b 0 + n then (s, refuse stBadParam 0)
  else match s.keysShut with
  | some a => (s, .refuse a)
  | none =>
    if s.vit.rootBad then (s, .fin (Ans.bare stFault 0))
    else
      let s := (List.range n).foldl (fun s i => s.readSlot (u16 b 0 + i)) s
      (s, fin ((List.range n).flatMap (fun i => s.slotRecord (u16 b 0 + i))))

/-! ### Attestation (R511, R512) -/

/-- The measurements: each image part with the bank it runs. -/
def measurements (s : State) : Bytes :=
  [1, 2, 3, 4].flatMap (fun p =>
    let d := (s.imgBank p (s.runBank p)).data
    le 1 p ++ le 1 (s.runBank p) ++ le 2 0 ++ le 4 (imgVersion d) ++ padTo 32 0 (slice d 32 32))

/-- Bytes 0 to LEN − 1 of the statement. -/
def statement (s : State) (nonce : Bytes) : Bytes :=
  let m := s.measurements
  le 2 1 ++ le 2 (192 + m.length) ++ le 8 s.fac.eui ++ le 2 s.sys.resetCause ++ le 1 s.vit.tamper ++
  le 1 (b2n s.vit.locked + 2 * b2n s.vit.zeroized + 4 * b2n s.vit.rootBad + 8 * b2n s.vit.rngFault) ++ le 8 s.clk.count ++
  le 4 s.sys.tick ++ le 1 s.timeQ ++ le 1 (m.length / 40) ++ le 2 nonce.length ++ s.slotHash ++
  (padTo 64 0 Config.provPub).take 64 ++ padTo 64 0 nonce ++ m

/-- VIT_ATTEST. -/
def runVitAttest (c : Cmd) (s : State) : State × CmdRes :=
  let b := c.params
  let n := u16 b 0
  if b.length < 4 ∨ n < 16 ∨ 64 < n ∨ b.length ≠ 4 + n then (s, refuse stBadLength 0)
  else if u16 b 2 ≠ 0 then (s, refuse stBadParam 0)
  else match s.keysShut with
  | some a => (s, .refuse a)
  | none =>
    if s.vit.rootBad then (s, .fin (Ans.bare stFault 0))
    else
      let s := s.useKey 1
      let t := s.statement (b.drop 4)
      (s, fin (t ++ (padTo 64 0 (Config.attestSig t)).take 64))

/-- VIT_CERT_READ. -/
def runVitCertRead (c : Cmd) (s : State) : State × CmdRes :=
  if c.params.length ≠ 0 then (s, refuse stBadLength 0)
  else (s, fin (le 2 s.fac.cert.length ++ le 2 0 ++ s.fac.cert))

/-! ### Tamper (R513 to R517) -/

/-- The monitor's copy of a tamper record: MODE, LEVEL, FILTER. -/
def tamperRec (s : State) (n : Nat) : Bytes := le 4 (s.vit.backup.getD n 0)

/-- Whether a source is enabled: inputs 0 to 3, then the voltage, temperature and crystal detectors. -/
def tamperOn (s : State) (src : Nat) : Bool :=
  if src < 4 then u8 (s.tamperRec src) 0 != 0 else bit (s.vit.backup.getD 4 0) (src - 4)

/-- A source's level. -/
def tamperLevel (s : State) (src : Nat) : Nat := if src < 4 then u8 (s.tamperRec src) 1 else s.vit.backup.getD 5 0

/-- The state of an alarm (R520). -/
def tamperState (s : State) : Nat :=
  match s.sys.power with
  | .standby => 1
  | .backup => 2
  | _ => if s.sys.fw = .running ∨ s.sys.fw = .paused then 0 else 3

/-- Runs `f` so that no event it raises is matched against standing orders (R23). -/
def unmatched (f : State → State) (s : State) : State :=
  let m := s.sys.toMatch
  (f s).mapSys (fun y => { y with toMatch := m })

/-- REMEDY_APPLIED of an entry (R23). -/
def remedyApplied (i : Nat) (s : State) : State := s.unmatched (fun s => s.raise0 0x0080 .notice i 0)

/-- The hardware applies one held entry (R515). -/
def hwRemedy (o : Nat) (s : State) : State :=
  s.unmatched (fun s => if field o 8 8 = 7 then s.zeroizeAll else s.zeroizeWorking)

/-- A source begins or ends being active (R513 to R517). A held entry whose remedy is already in effect is not applied (R22, R515). -/
def tamperAlarm (src : Nat) (active : Bool) (s : State) : State :=
  if s.sys.power = .off ∨ s.tamperOn src = false then s
  else if active = false then s.mapVit (fun v => { v with active := v.active.filter (fun k => k != src) })
  else if s.vit.active.contains src then s
  else
    let l := s.tamperLevel src
    let st := s.tamperState
    let hits := s.vit.orders.filter (fun (e : Nat × Nat) => decide (field e.2 16 8 ≤ l))
    let s := s.mapVit (fun v => { v with active := v.active ++ [src], tamper := max v.tamper l, alarms := inc32 v.alarms })
    if s.sys.power = .run then
      let s := s.raise0 0x1001 .fault l (src + 256 * st)
      hits.foldl (fun s (e : Nat × Nat) =>
        if s.zeroedFor (field e.2 8 8) then s
        else
          let s := s.hwRemedy e.2
          if s.fwRuns then s.remedyApplied e.1 else s.mapVit (fun v => { v with applied := v.applied ++ [e.1] })) s
    else
      let done := hits.foldl (fun (a : State × List Nat) (e : Nat × Nat) =>
        if a.1.zeroedFor (field e.2 8 8) then a
        else (a.1.mapVit (fun v => { v with keys := [], locked := true, erasePend := v.erasePend || field e.2 8 8 == 7 }), a.2 ++ [e.1]))
        (s, [])
      done.1.mapVit (fun v => { v with late := v.late ++ [⟨src, l, st, done.2⟩] })

/-- At a boot: what the monitor did while the controller die had no power is reported, and a pending slot erase is done before
image selection (R514, R517). -/
def tamperBoot (s : State) : State :=
  let late := s.vit.late
  let s := s.mapVit (fun v => { v with late := [] })
  let s := late.foldl (fun s a =>
    let s := s.raise0 0x1001 .fault a.level (a.source + 256 * a.state)
    s.mapVit (fun v => { v with applied := v.applied ++ a.applied })) s
  let s := if late.any (fun a => !a.applied.isEmpty) then s.unmatched (fun s => s.raise0 0x1002 .notice 1 0) else s
  if s.vit.erasePend then s.unmatched eraseSlots else s

/-- Firmware runs again: the REMEDY_APPLIED notices that are due (R515). -/
def tamperReport (s : State) : State :=
  let l := s.vit.applied
  l.foldl (fun s i => s.remedyApplied i) (s.mapVit (fun v => { v with applied := [] }))

/-- The armed orders of a table that the monitor holds (R515). -/
def heldOrders (t : Tab Nat) : Tab Nat :=
  t.filter (fun (e : Nat × Nat) => bit e.2 63 && field e.2 40 16 == 0x1001 && (field e.2 8 8 == 6 || field e.2 8 8 == 7))

/-- A COMMIT that touches SYS: the backup domain copies the held entries (R515). -/
def holdOrders (s : State) : State := s.mapVit (fun v => { v with orders := heldOrders s.cfg.eff.orders })

/-- A COMMIT of VIT writes the monitor's copy (R519). -/
def holdTamper (s : State) : State :=
  s.mapVit (fun v => { v with backup := [0x1000, 0x1001, 0x1002, 0x1003, 0x1004, 0x1005].map s.prm })

/-- The input whose mesh is not allowed (R519), over the values a COMMIT would put in effect. -/
def meshFault (prm : Nat → Nat) : Option Nat :=
  let mode (n : Nat) : Nat := u8 (le 4 (prm (0x1000 + n))) 0
  (List.range 4).find? (fun n => mode n == 3 && (n % 2 == 1 || mode (n + 1) != 0))

/-- KEY_REMASK (R504). -/
def keyRemask (s : State) : State :=
  if s.vit.rngFault ∨ s.sys.power = .off then s else s.mapVit (fun v => { v with masks := inc32 v.masks })

/-- RNG_FAULT (R502). -/
def rngFault (s : State) : State :=
  if s.vit.rngFault ∨ s.sys.power ≠ .run then s
  else (s.mapVit (fun v => { v with rngFault := true })).raise0 0x1003 .fault 1 0

/-- VIT_STATE_READ. -/
def runVitStateRead (c : Cmd) (s : State) : State × CmdRes :=
  if c.params.length ≠ 0 then (s, refuse stBadLength 0)
  else
    let used := (s.vit.slots.filter (fun (e : Nat × (SlotCopy × SlotCopy)) => (s.slotContent e.1).isSome)).length
    (s, fin (le 1 s.vit.tamper ++ le 1 (bitsOf s.vit.active) ++ le 1 (b2n s.vit.locked) ++ le 1 (b2n s.vit.rngFault) ++
      le 2 s.vit.keys.length ++ le 2 used ++ le 4 s.vit.alarms ++ le 4 0))

/-- VIT_TAMPER_CLEAR (R514). -/
def runVitTamperClear (c : Cmd) (s : State) : State × CmdRes :=
  if c.params.length ≠ 4 then (s, refuse stBadLength 0)
  else if u32 c.params 0 ≠ 0 then (s, refuse stBadParam 0)
  else if s.vit.active ≠ [] then (s, refuse 0x1046 0)
  else (s.mapVit (fun v => { v with tamper := 0 }), fin [])

/-- What a reset does to Vitrine (R502, R503, R505): `lost`: the backup domain lost power. The monitor, which runs from the first step
of the boot in both modes (R3), then takes its copies from the stored configuration (R517; assumption 128). -/
def vitReset (lost : Bool) (s : State) : State :=
  s.mapVit (fun v => { v with
    keys := if lost then [] else v.keys, locked := false, rngFault := false, active := [], alarms := 0, repaired := [], ops := []
    orders := if lost then heldOrders s.cfg.stored.orders else v.orders
    backup := if lost then [0x1000, 0x1001, 0x1002, 0x1003, 0x1004, 0x1005].map s.cfg.stored.prm else v.backup
    erasePend := v.erasePend && !lost, late := if lost then [] else v.late })

end State

end Sys2Proof.Machine
end

