-- ==== Sys2Proof/Machine/Commit.lean ====
section
/-! DEFINITION. COMMIT: the checks at acceptance, the boundaries at which each domain takes effect, and the COMMIT's completion
(R31, R37, R48, R73, R96, R115, R205, R249, R253, R254, R431, R432, R542 to R546). -/

namespace Sys2Proof.Machine

/-! ### Roadmap and paddocks (R253) -/

/-- Nodes and lanes of a generation, by index below its counts. -/
def Gen.node (g : Gen) (i : Nat) : Node := nodeOf (Tab.getD i (zeros 16) g.nodes)
def Gen.lane (g : Gen) (i : Nat) : Lane := laneOf (Tab.getD i (zeros 12) g.lanes)
def Gen.nodeCount (g : Gen) : Nat := g.prm 0x0605
def Gen.laneCount (g : Gen) : Nat := g.prm 0x0606

/-- The reason of R253 for which a lane fails, if any; `earlier` are the lanes before it as FROM and TO. -/
def laneFault (g : Gen) (earlier : List (Nat × Nat)) (l : Lane) : Option Nat :=
  let a := g.node l.fromN
  let b := g.node l.toN
  let len := (⟨a.e, a.n, b.e, b.n⟩ : Geo).len
  if g.nodeCount ≤ l.fromN ∨ g.nodeCount ≤ l.toN then some 2
  else if l.fromN = l.toN then some 3
  else if len < 100 ∨ 1000000 < len then some 4
  else if earlier.contains (l.fromN, l.toN) then some 5 else none

/-- The first lane that fails, scanning `n` lanes from index `i`. -/
def laneFaults (g : Gen) : Nat → Nat → List (Nat × Nat) → Option (Nat × Nat)
  | 0, _, _ => none
  | n + 1, i, earlier =>
    let l := g.lane i
    match laneFault g earlier l with
    | some r => some (r, i)
    | none => laneFaults g n (i + 1) (earlier ++ [(l.fromN, l.toN)])

/-- Whether a polygon crosses itself or leaves the extent: edges that are not neighbours touch, or neighbours fold back on each other
(assumption 99). -/
def padFault (p : Paddock) : Bool :=
  let es := p.edges.zipIdx
  let n := es.length
  p.verts.any (fun v => !(inExtent v.1 && inExtent v.2)) ||
  es.any (fun x => es.any (fun y =>
    if x.2 = y.2 then false
    else if (x.2 + 1) % n = y.2 then x.1.cross y.1 == 0 && decide (x.1.dot y.1 < 0)
    else if (y.2 + 1) % n = x.2 then false
    else x.1.touches y.1))

/-- ROADMAP_INVALID of a generation (R253): reason and index. -/
def roadmapFault (g : Gen) : Option (Nat × Nat) :=
  match (List.range g.nodeCount).find? (fun i => !(inExtent (g.node i).e && inExtent (g.node i).n)) with
  | some i => some (1, i)
  | none => match laneFaults g g.laneCount 0 [] with
    | some x => some x
    | none => (List.find? (fun (e : Nat × Bytes) => match paddockOf e.2 with | some p => padFault p | none => false) g.pads).map
        (fun (e : Nat × Bytes) => (6, e.1))

/-- Whether a lane that entries hold keeps its FROM, TO and node positions (R253). -/
def laneKept (old new : Gen) (i : Nat) : Bool :=
  let a := old.lane i
  let b := new.lane i
  let pos (g : Gen) (n : Nat) : Int × Int := ((g.node n).e, (g.node n).n)
  decide (i < new.laneCount) && a.fromN == b.fromN && a.toN == b.toN &&
  pos old a.fromN == pos new b.fromN && pos old a.toN == pos new b.toN

/-! ### Stored size (R544) -/

/-- The size of the configuration area's copy (R544). -/
abbrev areaSize : Nat := 2064384

/-- The sizes of the node table, lane table, paddock set and roster of a generation. -/
def tableSizes (g : Gen) : List Nat :=
  [10 * g.nodeCount, 10 * g.laneCount, (g.pads.map (fun (e : Nat × Bytes) => 16 + 8 * u8 e.2 2)).sum, 8 * g.roster.length]

/-- The stored size of a generation. -/
def storedSize (g : Gen) : Nat := 32768 + (tableSizes g).sum

/-- Whether a COMMIT changes each of the four tables. -/
def tablesChanged (old new : Gen) (h : Shadow) : List Bool :=
  [!h.nodes.isEmpty || old.nodeCount != new.nodeCount, !h.lanes.isEmpty || old.laneCount != new.laneCount,
   !h.pads.isEmpty, !h.roster.isEmpty]

/-- What an accepted COMMIT adds to the area. -/
def pendSize (old new : Gen) (h : Shadow) : Nat :=
  32768 + ((List.zip (tablesChanged old new h) (tableSizes new)).map (fun x => if x.1 then x.2 else 0)).sum

/-- The content of the area: the generation in effect, and each COMMIT accepted. -/
def areaUsed : Gen → List PendCommit → Nat
  | _, [] => 0
  | g, p :: t => pendSize g (g.after p) p.shadow + areaUsed (g.after p) t

/-! ### Queues (R431, R432) -/

/-- The size of a host queue in a generation. -/
def Gen.queueSize (g : Gen) (q : Nat) : Nat := g.prm (0x0D10 + (q - 16))

/-- Places newly claimed queues, lowest number first, beside those placed (R431). -/
def placeQueues : List (Nat × Nat) → List (Nat × Nat × Nat) → Option (List (Nat × Nat × Nat))
  | [], placed => some placed
  | (q, size) :: t, placed =>
    match placeQueue size (placed.map (fun (x : Nat × Nat × Nat) => x.2)) with
    | some base => placeQueues t (placed ++ [(q, base, size)])
    | none => none

/-- The claimed queues of a generation with their sizes, in order of number. -/
def claimedQueues (g : Gen) : List (Nat × Nat) :=
  sortBy (fun a b => decide (a.1 ≤ b.1)) (((queueClaims g).map (fun (x : Nat × Nat × Nat × Nat) => (x.1, g.queueSize x.1))).dedup)

namespace State

/-- The storage of the queues that stay claimed, and the queues of `g` that still need storage. -/
def queueSplit (s : State) (g : Gen) : List (Nat × Nat × Nat) × List (Nat × Nat) :=
  let qs := claimedQueues g
  (qs.filterMap (fun (q : Nat × Nat) => (Tab.find? q.1 s.mem.queues).map (fun (x : Queue) => (q.1, x.base, x.size))),
   qs.filter (fun (q : Nat × Nat) => (Tab.find? q.1 s.mem.queues).isNone))

/-- The queue checks of a COMMIT (R431, R432). -/
def queueRefusal (s : State) (old new : Gen) : Option Ans :=
  let small := (queueClaims new).find? (fun (x : Nat × Nat × Nat × Nat) => decide (new.queueSize x.1 < x.2.2.2))
  let was := (claimedQueues old).map (fun (q : Nat × Nat) => q.1)
  let resized := (claimedQueues new).find? (fun (q : Nat × Nat) => was.contains q.1 && q.2 != old.queueSize q.1)
  let sum := ((claimedQueues new).map (fun (q : Nat × Nat) => q.2)).sum
  match small with
  | some x => some (Ans.bare 0x0D41 x.1)
  | none => match resized with
    | some q => some (Ans.bare stNeedsQuiesce (0x0D00 + q.1))
    | none =>
      if poolSize < sum then some (Ans.bare 0x0D40 0)
      else
        let (held, more) := s.queueSplit new
        match placeQueues more held with
        | some _ => none
        | none => some (Ans.bare 0x0D40 1)

/-- Host queues open and close as their claims take effect: one whose claim passes to another block keeps its storage and opens empty, and
one with storage in a bank out of service is disabled (R429, R431, R437). -/
def syncQueues (s : State) : State :=
  let g := s.cfg.eff
  let (held, more) := s.queueSplit g
  let holder (q : Nat) : Nat := match (queueClaims g).find? (fun (x : Nat × Nat × Nat × Nat) => x.1 == q) with
    | some x => x.2.1 | none => 0
  let kept := s.mem.queues.filter (fun (e : Nat × Queue) => held.any (fun (x : Nat × Nat × Nat) => x.1 == e.1))
  let placed := match placeQueues more held with | some l => l | none => held
  let opened := placed.filter (fun (x : Nat × Nat × Nat) => more.any (fun (q : Nat × Nat) => q.1 == x.1))
  let fresh (n size base : Nat) : Queue :=
    let q := Queue.opened (holder n) size base
    { q with disabled := (List.range 48).any (fun b => (s.bank b).state == .outOfService && queueInBank b q) }
  let kept := kept.map (fun (e : Nat × Queue) => if e.2.holder = holder e.1 then e else (e.1, fresh e.1 e.2.size e.2.base))
  s.mapMem (fun m => { m with queues := opened.foldl (fun t (x : Nat × Nat × Nat) =>
    Tab.put x.1 (fresh x.1 x.2.2 x.2.1) t) kept })

/-! ### Checks at acceptance -/

/-- The tick lengths in effect and pending (R37). -/
def standingLengths (s : State) : List Nat := s.sys.slots :: s.cfg.pend.filterMap (fun p => p.tickAt.map Prod.fst)

/-- The tick lengths against which a COMMIT is judged: those, and the one it puts in effect (R37). -/
def lengths (s : State) (g : Gen) : List Nat := (g.prm 0x0010 :: s.standingLengths).dedup

/-- R31 and R32: a claim on a resource with another holder, then two claims of one shadow set. -/
def claimRefusal (s : State) (old new : Gen) : Option Ans :=
  let was := claimsOf old
  let staged := (claimsOf new).filter (fun k => !was.contains k)
  let held := staged.findSome? (fun (k : Claim) => was.find? (fun (o : Claim) => o.1 == k.1))
  match held with
  | some o => some ⟨0x0021, o.2.1 * 256 + o.2.2 % 256, le 4 o.1 ++ le 4 (s.claimGen o)⟩
  | none =>
    if (staged.map (fun (k : Claim) => k.1)).dedup.length < staged.length then some (Ans.bare stBadParam 0) else none

/-- R48 and R37: the price at every tick length. What stands over capacity now, does so at the length in effect; a length that this
COMMIT brings is compared with the demand at the length in effect. -/
def priceRefusal (s : State) (old new : Gen) : Option Ans :=
  let before := s.siteFor old
  let z := s.siteFor new
  (s.lengths new).findSome? (fun n =>
    let y : Site := { z with slots := n }
    let was := if s.standingLengths.contains n then n else s.sys.slots
    (Site.refusedBy s.siteNow { before with slots := was } y).map (fun l => (⟨stOverBudget, l, s.budgetBlock false y⟩ : Ans)))

/-- R205: the slot map at every tick length. -/
def placeRefusal (s : State) (new : Gen) : Option Ans :=
  (s.lengths new).findSome? (fun n => match placeMap (s.siteAt new n) with
    | .ok _ => none
    | .error e => some (scheduleFull e))

/-- R73: the bits of every staged write. -/
def bitRefusal (agreed : Nat) (h : Shadow) : Option Ans :=
  (missingBit agreed (h.params.flatMap (fun (e : Nat × Nat) => paramNeed e.1 e.2) ++
    h.orders.flatMap (fun (e : Nat × Nat) => soNeed e.2))).map (fun b => Ans.bare stNotNegotiated b)

/-- Checks of the system and GNSS chapters: R101, R105, R115, R122, R134. -/
def sysGnsRefusal (s : State) (new : Gen) : Option Ans :=
  let bad (d : Nat) : Option Ans := some (Ans.bare stBadParam d)
  let cc := (List.range 4).find? (fun n =>
    let b := le 12 (new.prm (0x001C + n))
    (u8 b 1 != 0 && u8 b 0 == 0xFF) || (u8 b 1 == 4 && (1000000 % u32 b 4 != 0 || decide (u32 b 4 ≤ u32 b 8))))
  let rf := new.prm 0x7F13
  let v (id w : Nat) : Int := toSigned w (new.prm id)
  let sq (a b c : Int) : Int := a * a + b * b + c * c
  let base2 := sq (v 0x020D 32) (v 0x020E 32) (v 0x020F 32)
  let pos2 := sq (v 0x0219 64) (v 0x021A 64) (v 0x021B 64)
  match cc with
  | some n => bad n
  | none =>
    if rf ≤ 3 ∧ (bit (new.prm 0x0501) rf ∨ new.prm 0x0500 = 0) then bad 0x7F13
    else if (s.lengths new).any (fun k => 800 / new.prm 0x0201 % k != 0) then some (Ans.bare 0x0240 0)
    else if base2 ≠ 0 ∧ (base2 < 250 ^ 2 ∨ 5000 ^ 2 < base2) then bad 0
    else if pos2 ≠ 0 ∧ (pos2 < 6340000000 ^ 2 ∨ 6400000000 ^ 2 < pos2) then bad 0
    else none

/-- Checks of the fixes chapter: R142, R169. -/
def fixRefusal (s : State) (new : Gen) : Option Ans :=
  let g := new.prm 0x0201
  let robots := s.fix.robots.filter (fun (e : Nat × FixRobot) =>
    (e.2.base && decide (e.2.rate ≠ 0) && g % e.2.rate != 0) ||
    (match e.2.pend with | some m => m.base && decide (m.rate ≠ 0) && g % m.rate != 0 | none => false))
  match robots.head? with
  | some e => some (Ans.bare 0x0340 e.1)
  | none =>
    if new.prm 0x0302 ≠ 0 ∧ g % new.prm 0x0303 ≠ 0 then some (Ans.bare 0x0340 0x00FF)
    else if new.prm 0x0302 ≠ 0 ∧ new.prm 0x0301 = 0 then some (Ans.bare stBadParam 0) else none

/-- Checks of the air and CX chapters: R196, R207, R212, R215, R229, R580, R584. -/
def airRefusal (s : State) (new : Gen) : Option Ans :=
  let dom := new.prm 0x0500
  let opt := new.prm 0x0502
  let chains := new.prm 0x0501
  let lc := new.prm 0x050F
  let power := (List.range 4).find? (fun c => decide (domainPower dom < toSigned 8 (new.prm (0x050B + c))))
  if dom ≠ 0 ∧ hopOk (hopList dom opt (new.prm 0x0503)) (new.prm 0x0504) = false then some (Ans.bare 0x0540 0)
  else if lc ≠ 0xFF ∧ (s.lengths new).any (fun k => !([4, 5, 8, 10, 20, 40].contains k)) then some (Ans.bare 0x0543 0)
  else if [0x0506, 0x0507, 0x0508, 0x0509].any (fun i => decide (phyCount opt ≤ new.prm i)) then some (Ans.bare stBadParam 0)
  else if phyL opt (new.prm 0x0506) < 21 ∨ phyL opt (new.prm 0x0507) < 43 ∨ phyL opt (new.prm 0x0508) < 33 then
    some (Ans.bare 0x0542 0)
  else if new.prm 0x0509 < new.prm 0x0508 then some (Ans.bare stBadParam 0)
  else if chains ≠ 0 ∧ dom = 0 then some (Ans.bare stBadParam 0)
  else match power with
    | some c => some (Ans.bare stBadParam (0x050B + c))
    | none =>
      if lc ≠ 0xFF ∧ dom ≠ 1 then some (Ans.bare stBadParam 0)
      else if lc ≠ 0xFF ∧ s.legacyKey (new.prm 0x1300) = false then some (Ans.bare 0x1045 0) else none

/-- A parameter record that both generations give alike. -/
def sameRec (old new : Gen) (id : Nat) : Bool := old.prm id == new.prm id

/-- An overlap of two roadmaps stands, or waits for its boundary (R546). -/
def overlapStands (s : State) : Bool := s.cfg.old.isSome || s.cfg.pend.any (fun p => p.overlap)

/-- The nodes that must keep their place in an overlap (R546). -/
def overlapNodes (s : State) : List Nat :=
  let es := (s.pas.entries.filter (fun e => e.tOut.isNone && e.kind == 1)).map (fun e => e.place)
  let ov := (s.pas.entries.filter (fun e => e.kind == 2)).flatMap (fun e => match s.lane? e.place with
    | some l => [l.fromN, l.toN] | none => [])
  let ts := (s.tsk.tasks.filter (fun (e : Nat × Task) => e.2.state != 5)).flatMap (fun (e : Nat × Task) => taskDests e.2.record)
  let mv := s.pas.robots.filterMap (fun (e : Nat × PasRobot) => e.2.move.map (fun m => m.1))
  sortBy (fun a b => decide (a ≤ b)) (es ++ ov ++ ts ++ mv).dedup

/-- Checks of the pasture and profile chapters (R249, R253, R254, R293, R546): the refusal, or whether the COMMIT is an overlap. -/
def pastureRefusal (s : State) (agreed : Nat) (old new : Gen) (h : Shadow) : Ans ⊕ Bool :=
  let held := !s.pas.entries.isEmpty
  let roads := (tablesChanged old new h).take 2
  let lanes := sortBy (fun a b => decide (a ≤ b)) ((s.pas.entries.filter Entry.laneLike).map (fun e => e.place)).dedup
  let cls := (List.range 16).find? (fun c => !sameRec old new (0x0610 + c) && s.pas.entries.any (fun e => e.cls == c))
  let prf := (List.range 16).find? (fun c =>
    let b := le 32 (new.prm (0x0700 + c))
    decide (u16 b 0 < u16 b 2 ∨ u16 b 12 < u16 b 6 ∨ u32 b 16 < u32 b 8))
  if held ∧ (List.range 5).any (fun i => !sameRec old new (0x0600 + i)) then .inl (Ans.bare stNeedsQuiesce 0x0601)
  else match roadmapFault new with
  | some (r, i) => .inl ⟨0x0640, r, le 4 i⟩
  | none =>
    if roads.any id ∧ s.overlapStands then .inl (Ans.bare stNeedsQuiesce 0x1112)
    else
    let lap : Ans ⊕ Bool := match lanes.find? (fun i => !laneKept old new i) with
      | none => .inr false
      | some i =>
        if bit agreed 230 = false then .inl ⟨0x0641, 0, le 4 i⟩
        else match (s.overlapNodes).find? (fun n => decide (n < old.nodeCount) && (decide (new.nodeCount ≤ n) ||
            !((old.node n).e == (new.node n).e && (old.node n).n == (new.node n).n &&
              bit (old.node n).flags 0 == bit (new.node n).flags 0))) with
          | some n => .inl ⟨0x1143, 0, le 4 n⟩
          | none => .inr true
    match lap with
    | .inl a => .inl a
    | .inr o => match cls with
      | some c => .inl (Ans.bare 0x0642 c)
      | none => match prf with
        | some c => .inl (Ans.bare stBadParam c)
        | none => .inr o

/-- Checks of the tasks, Crook and site-axes chapters: R338, R366, R383. -/
def workRefusal (s : State) (old new : Gen) : Option Ans :=
  let w := new.prm 0x0807
  let moving := (List.range 4).find? (fun n => s.axisMoving n &&
    (!bit (new.prm 0x0A00) n || !sameRec old new (0x0A10 + n)))
  let limits := (List.range 4).find? (fun n =>
    let b := le 52 (new.prm (0x0A10 + n))
    decide (u32 b 12 < u32 b 4 ∨ u32 b 16 < u32 b 8))
  if w < new.prm 0x0808 ∨ new.prm 0x0809 < w then some (Ans.bare stBadParam 0)
  else if new.prm 0x0900 = 0 ∧ Tab.has 1 s.crk.all then some (Ans.bare stNeedsQuiesce 0x0901)
  else match moving with
    | some n => some (Ans.bare stNeedsQuiesce (0x0A10 + n))
    | none => limits.map (fun n => Ans.bare stBadParam n)

/-- Checks of the link chapters and Vitrine: R399, R404 to R406, R449, R454, R519. -/
def linkRefusal (s : State) (old new : Gen) : Option Ans :=
  let src := new.prm 0x0400
  let timing := (List.range 2).find? (fun n => !canTimingOk (le 24 (new.prm (0x0C02 + n))))
  let mb := (List.range 128).find? (fun i => !sameRec old new (0x0C40 + i) && (s.canMb (i / 64) (i % 64)).tx.isSome)
  let tier (k : Nat) : Bytes := le 8 (new.prm (0x0E01 + k))
  let used (k : Nat) : Bool := u16 (tier k) 0 != 0xFFFF
  let badTier := (List.range 15).find? (fun k =>
    (k == 0 && new.prm 0x0E00 == 1 && !used 0) ||
    (used k && ((decide (0 < k) && (!used (k - 1) || u16 (tier (k - 1)) 2 != 0)) ||
      (List.range k).any (fun j => used j && u16 (tier j) 0 == u16 (tier k) 0) ||
      (decide (u8 (tier k) 4 ≤ 2) && !bit (new.prm 0x0B00) (u8 (tier k) 4)))))
  if src ≠ 0 ∧ bit (new.prm 0x0B0B) (src - 1) then some (Ans.bare stBadParam 0)
  else match timing with
  | some n => some (Ans.bare 0x0C40 n)
  | none => match mb with
    | some i => some (Ans.bare stNeedsQuiesce (0x0C00 + i))
    | none => match badTier with
      | some k => some (Ans.bare stBadParam k)
      | none =>
        if sameRec old new 0x0E16 = false ∧ (s.tsk.tasks.any (fun (e : Nat × Task) => e.2.state != 5) ∨
            s.pas.entries.any (fun e => e.kind == 3)) then some (Ans.bare stNeedsQuiesce 0x0E16)
        else (meshFault new.prm).map (fun n => Ans.bare stBadParam n)

/-- R544: room in the configuration area; true: the COMMIT is an in-place replacement. -/
def areaRefusal (s : State) (old new : Gen) (h : Shadow) : Ans ⊕ Bool :=
  let total := storedSize s.cfg.eff + areaUsed s.cfg.eff s.cfg.pend + pendSize old new h
  if total ≤ areaSize then .inr false
  else if areaSize < storedSize new then .inl ⟨0x1142, 0, le 4 (storedSize new)⟩
  else if ((tablesChanged old new h).take 3).any id ∧ s.pas.entries.isEmpty ∧ s.cfg.pend.isEmpty then .inr true
  else .inl ⟨stNeedsQuiesce, if s.pas.entries.isEmpty then 0x1111 else 0x1110, le 4 (total - areaSize)⟩

/-- A chain bit that the shadow set writes, whose chain is out of service (R215): judged before the budget of R48, which no such
chain fits. -/
def chainRefusal (s : State) (h : Shadow) : Option Ans :=
  match Tab.find? 0x0501 h.params with
  | some v => if (List.range 4).any (fun c => bit v c && (s.chain c).bad) then some (Ans.bare stFault 0) else none
  | none => none

/-- All checks of a COMMIT in order (R96): the refusal, or whether it is an overlap and whether in place. -/
def commitCheck (s : State) (agreed : Nat) (old new : Gen) (h : Shadow) : Ans ⊕ (Bool × Bool) :=
  let first := [s.chainRefusal h, s.claimRefusal old new, s.priceRefusal old new, s.placeRefusal new, bitRefusal agreed h,
    s.queueRefusal old new, s.sysGnsRefusal new, s.fixRefusal new, s.airRefusal new].findSome? id
  match first with
  | some a => .inl a
  | none => match s.pastureRefusal agreed old new h with
    | .inl a => .inl a
    | .inr o => match [s.workRefusal old new, s.linkRefusal old new].findSome? id with
      | some a => .inl a
      | none => match s.areaRefusal old new h with
        | .inl a => .inl a
        | .inr p => .inr (o, p)

/-! ### Acceptance -/

/-- The instant at which a new tick length takes effect (R37): a superframe boundary of the length before it and of its own, at
least two superframes on, and not before an earlier change's. -/
def tickInstant (s : State) (slots : Nat) : Nat :=
  let prev := s.cfg.pend.filterMap (fun p => p.tickAt) |>.getLast?
  let cur := 10 * (match prev with | some t => t.1 | none => s.sys.slots) * 1250000
  let m := Nat.lcm cur (10 * slots * 1250000)
  let least := max (s.clk.count + 2 * cur) (match prev with | some t => t.2 | none => 0)
  ceilDiv least m * m

/-- AIR_CFG to every joined robot when a COMMIT changes what it carries (R215, R230). -/
def announceAir (old new : Gen) (s : State) : State :=
  if [0x0500, 0x0502, 0x0503, 0x0504, 0x0505, 0x0512, 0x0513].all (fun i => sameRec old new i) then s
  else (s.lnk.robots.map Prod.fst).foldl (fun s r =>
    if s.joined r then s.sendElem r 0x02 (airCfg new.prm (s.effOf s.mapSf)) else s) s

/-- A COMMIT's record with its late parts set apart (R37, R115). -/
def pendOf (s : State) (c : Cmd) (old : Gen) (h : Shadow) (overlap inPlace : Bool) : PendCommit :=
  let slots := match Tab.find? 0x0010 h.params with | some v => if v = old.prm 0x0010 then none else some v | none => none
  let rate := match Tab.find? 0x0201 h.params with | some v => v != old.prm 0x0201 | none => false
  let h' : Shadow := match slots with | some _ => { h with params := Tab.del 0x0010 h.params } | none => h
  { gen := s.newestNum % 0xFFFFFFFF + 1, sess := c.sess, acc := c.acc, shadow := h', todo := h'.touched, accSf := s.sys.sfCount
    inPlace := inPlace, overlap := overlap, tickAt := slots.map (fun n => (n, s.tickInstant n))
    lateAt := if rate then some ((s.clk.count / 1000000000 + 1) * 1000000000) else none, again := false }

/-- COMMIT (R96). -/
def runCommit (c : Cmd) (s : State) : State × CmdRes :=
  let h := s.shadowOf c.sess
  let old := s.newest
  let new := old.takeAll h
  if c.params.length ≠ 4 then (s, refuse stBadLength 0)
  else if u32 c.params 0 ≠ 0 ∧ u32 c.params 0 ≠ s.newestNum then (s, refuse stDenied 1)
  else if h.isEmpty then (s, finD 1)
  else if s.cfg.lost then (s, refuse stFault 2)
  else match s.commitCheck c.agreed old new h with
    | .inl a => (s, .refuse a)
    | .inr (overlap, inPlace) =>
      let p := s.pendOf c old h overlap inPlace
      let s := (s.mapCfg (fun k => { k with pend := k.pend ++ [p] })).mapShadow c.sess (fun _ => Shadow.empty)
      let s := s.announceAir old new
      let s := match placeMap (s.siteAt new s.sys.slots) with
        | .ok m => if m = s.newestMap then s else s.acceptMap m
        | .error _ => s
      (s, .later)

/-! ### Taking effect (R542) -/

/-- Whether the values of a parameter range differ between two generations. -/
def rangeChanged (old new : Gen) (lo n : Nat) : Bool := (List.range n).any (fun i => !sameRec old new (lo + i))

/-- Each robot with a route asks for a new one to the same end (R546). -/
def rerouteAll (s : State) : State :=
  s.pas.robots.foldl (fun s (e : Nat × PasRobot) =>
    match e.2.route.bind (fun t => t.legs.flatten.getLast?) with
    | some i => match s.lane? i with
      | some l => s.askPlan e.1 ⟨[l.toN], false, false⟩
      | none => s
    | none => s) s

/-- GEN_OVERLAP at the start of an overlap (R546). -/
def startOverlap (old : Gen) (s : State) : State :=
  (s.mapCfg (fun c => { c with old := some (old.nodes, old.lanes, (s.pas.entries.map (fun e => (e.robot, e.grant))).dedup) })).raise0
    0x1107 .notice 1 0

/-- The overlap ends when no entry refers to the earlier generation (R546). -/
def endOverlap (s : State) : State :=
  match s.cfg.old with
  | none => s
  | some (_, _, gs) =>
    if s.pas.entries.any (fun e => gs.contains (e.robot, e.grant)) then s
    else (s.mapCfg (fun c => { c with old := none })).raise0 0x1107 .notice 0 0

/-- CLASS to every joined robot of a class whose profile record is committed (R294). -/
def announceClasses (h : Shadow) (s : State) : State :=
  let sf := s.sys.sfCount + 3
  s.lnk.robots.foldl (fun s (e : Nat × Robot) =>
    if s.joined e.1 ∧ Tab.has (0x0700 + e.2.cls) h.params then
      (s.sendElem e.1 0x29 (s.classElem e.2.cls (s.effOf sf))).mapRobot e.1 (fun x => { x with
        classes := x.classes ++ [(sf, s.prfClass e.2.cls)] })
    else s) s

/-- What a domain's new values do at their boundary, beside being in effect. A COMMIT that enables a chain starts the beacons, but not
one that was accepted before the reset and runs again at load (R62, R543). -/
def domainEffect (d : Domain) (p : PendCommit) (old : Gen) (s : State) : State :=
  let new := s.cfg.eff
  match d with
  | .SYS =>
    (s.mapSys (fun y => { y with wdtOrders := new.orders.filter (fun (e : Nat × Nat) =>
      soArmed e.2 && soEvent e.2 == 0x0090 && soRemedy e.2 == 2) })).holdOrders
  | .GNS =>
    let s := if Tab.has 0x0204 p.shadow.params then s.biasCommitted 0 else s
    let back := Tab.has 0x0205 p.shadow.params && new.prm 0x0205 != 0 && (s.antCut 1 || old.prm 0x0205 == 0)
    let s := if Tab.has 0x0205 p.shadow.params then s.biasCommitted 1 else s
    let s := if back ∨ rangeChanged old new 0x020D 3 then s.recalibrate else s
    s.channelAllocationEv s.gns.cands
  | .CLK =>
    let s := if sameRec old new 0x0400 then s
      else (s.mapEth (fun e => { e with master := none, masterGone := false, sync := none, syncSeq := none })).clkSourceChanged
    if new.prm 0x0401 = 0 ∧ s.clk.refin then (s.mapClk (fun c => { c with refin := false })).rebaseErr else s
  | .AIR =>
    let lc := new.prm 0x050F
    let s := s.mapLnk (fun l => { l with robots := Tab.mapVals (fun _ (x : Robot) =>
      { x with dlMcs := s.fitMcs x.dlMcs, ulMcs := s.fitMcs x.ulMcs }) l.robots })
    let s := match Tab.find? 0x0501 p.shadow.params with
      | some v => if v = 0 ∨ p.again then s else s.mapSys (fun y => { y with beacons := true })
      | none => s
    if lc ≤ 3 then s.mapLnk (fun l => { l with robots := Tab.mapVals (fun _ (x : Robot) => if x.legacy then { x with chain := lc } else x) l.robots })
    else s
  | .PAS =>
    let s := if p.overlap then (s.startOverlap old).rerouteAll else s
    ((p.shadow.pads.map Prod.fst).foldl (fun s i => s.forgetHits (1024 + i)) s).sendDigests
  | .PRF => s.announceClasses p.shadow
  | .TSK => s.mapTsk (fun k => { k with wAge := new.prm 0x0807 })
  | .CRK => s.copyLoopPrms
  | .AXS => s.axesCommit old
  | .ETH =>
    (List.range 3).foldl (fun s n =>
      let s := if s.ethOn n then s else (s.portCaptureEnd n).mapPort n (fun q => { q with link := 0, seen := 0 })
      if n = 0 then s
      else
        let on := decide (u8 (le 8 (new.prm (0x0B07 + n))) 0 = 1)
        s.mapPort n (fun q => { q with plca := if on then (if q.plca = 0 then 1 else q.plca) else 0 })) s
  | .CAN => s.canConfigure
  | .FLD =>
    let keys := p.shadow.roster.filterMap (fun (e : Nat × Nat) =>
      if Tab.find? e.1 old.roster = Tab.find? e.1 new.roster then none else some e.1)
    let s := if rangeChanged old new 0x0E00 16 then s.foldLeave.canConfigure else s
    s.rosterChanged keys
  | .VIT => s.holdTamper
  | .ARC => if sameRec old new 0x1200 then s else s.arcEndInterval
  | _ => s

/-- One domain of one COMMIT takes effect (R542). A late GNS_EPOCH_RATE stays out (R115). -/
def takeDomain (d : Domain) (p : PendCommit) (s : State) : State :=
  let h : Shadow := if p.lateAt.isSome then { p.shadow with params := Tab.del 0x0201 p.shadow.params } else p.shadow
  let old := s.cfg.eff
  let s := s.mapCfg (fun c => { c with
    eff := old.take d h
    pend := c.pend.map (fun q => if q.gen = p.gen then { q with todo := q.todo.filter (fun k => k != d) } else q) })
  domainEffect d p old ((s.refreshClaims p.gen).snapshotPassed).syncQueues

/-- An earlier COMMIT whose change to the domain has not taken effect (R542). -/
def heldBack (earlier : List PendCommit) (d : Domain) : Bool :=
  earlier.any (fun q => q.todo.contains d || (d == .SYS && q.tickAt.isSome) || (d == .GNS && q.lateAt.isSome))

/-- Whether the boundary of domain `d` has come for a COMMIT (R542). -/
def domainDue (s : State) (d : Domain) (p : PendCommit) : Bool :=
  p.todo.contains d && (d != .AIR || decide (p.accSf + 3 ≤ s.sys.sfCount))

/-- A COMMIT that is in effect everywhere becomes the stored generation, and completes (R96, R543). -/
def completeCommits (seq : Nat) (s : State) : State :=
  s.cfg.pend.foldl (fun s p =>
    if p.todo = [] ∧ p.tickAt = none ∧ p.lateAt = none then
      let n := max p.gen s.cfg.eff.num
      let s := s.mapCfg (fun c => { c with
        eff := { c.eff with num := n }, stored := { c.stored.after p with num := n }, pend := c.pend.filter (fun q => q.gen != p.gen) })
      s.completeOk p.sess p.acc (le 4 p.gen ++ le 4 seq)
    else s) s

/-- The domains `ds` take effect where they are due, COMMIT by COMMIT in order; `seq` is the tick in which they do. -/
def takeDomains (ds : List Domain) (seq : Nat) (s : State) : State :=
  let s := s.cfg.pend.foldl (fun s p =>
    ds.foldl (fun s d =>
      let earlier := s.cfg.pend.takeWhile (fun q => q.gen != p.gen)
      if s.domainDue d p ∧ heldBack earlier d = false then s.takeDomain d p else s) s) s
  s.completeCommits seq

/-- DOMAIN_TAKES_EFFECT: domain number `n` takes effect, ahead of the tick that opens (R542). -/
def domainTakesEffect (n : Nat) (s : State) : State :=
  match domainList[n]? with
  | some d => s.takeDomains [d] (s.sys.tick + 1)
  | none => s

/-- The late values whose whole second has come take effect (R115). -/
def takeLate (s : State) : State :=
  s.cfg.pend.foldl (fun s p => match p.lateAt with
    | some t =>
      if t ≤ s.clk.count then s.mapCfg (fun c => { c with
        eff := { c.eff with params := putParam 0x0201 (Tab.getD 0x0201 (c.eff.prm 0x0201) p.shadow.params) c.eff.params }
        pend := c.pend.map (fun q => if q.gen = p.gen then { q with lateAt := none } else q) })
      else s
    | none => s) s

/-- TICK_LENGTH_CHANGE: the pending length takes effect at its superframe boundary, with the map placed for it of everything accepted
(R37, R205), and the tick that opens is planned by that map (R206). -/
def tickLengthChange (s : State) : State :=
  match s.cfg.pend.find? (fun p => p.tickAt.isSome) with
  | none => s
  | some p => match p.tickAt with
    | none => s
    | some (n, t) =>
      if s.sys.sfTick ≠ 10 ∨ s.clk.count < t then s
      else
        let s := s.mapCfg (fun c => { c with
          eff := { c.eff with params := putParam 0x0010 n c.eff.params }
          pend := c.pend.map (fun q => if q.gen = p.gen then { q with tickAt := none } else q) })
        let s := s.mapSys (fun y => { y with slots := n })
        let s := match placeMap s.siteMap with
          | .ok m => (s.mapAir (fun a => { a with map := m, next := [], tickMap := none })).replan
          | .error _ => s
        let s := s.raise0 0x008D .notice n 0
        (s.refreshClaims p.gen).completeCommits (s.sys.tick + 1)

/-- The map for a pending tick length is computed anew with what has been accepted; each joined robot that it moves is told, with the
superframe's number at the new length (R205, R230). -/
def tickMapRefresh (s : State) : State :=
  match s.cfg.pend.findSome? (fun p => p.tickAt) with
  | none => if s.air.tickMap.isNone then s else s.mapAir (fun a => { a with tickMap := none })
  | some (n, t) => match placeMap (s.siteAt s.newest n) with
    | .error _ => s
    | .ok m =>
      let e := t / 1250000 % 2 ^ 40 / (10 * max 1 n)
      if s.air.tickMap = some (e, m) then s
      else
        let old := match s.air.tickMap with | some o => o.2 | none => s.newestMap
        let s := s.mapAir (fun a => { a with tickMap := some (e, m) })
        m.pos.foldl (fun s (x : Nat × Pos) =>
          if s.joined x.1 ∧ Tab.find? x.1 old.pos ≠ some x.2 then s.sendElem x.1 0x01 (Pos.bytes x.2 ++ le 2 (e % 65536)) else s) s

/-- At firmware load the stored generation is in effect, and every accepted COMMIT runs again (R543). -/
def loadConfig (s : State) : State :=
  let s := s.mapCfg (fun c => { c with eff := c.stored })
  let pend := s.cfg.pend
  let s := s.mapCfg (fun c => { c with pend := [] })
  pend.foldl (fun s p => s.mapCfg (fun c => { c with pend := c.pend ++ [{ p with
    todo := p.shadow.touched, accSf := 0, again := true, tickAt := p.tickAt.map (fun t => (t.1, s.tickInstant t.1))
    lateAt := p.lateAt.map (fun _ => (s.clk.count / 1000000000 + 1) * 1000000000) }] })) s

end State

end Sys2Proof.Machine
end

