-- ==== Sys2Proof/Machine/SysOps.lean ====
section
/-! DEFINITION. The system and diagnostics opcodes, and the system's own events in time: sessions, completions, events, capture
and compare, budget reads, reset and Standby requests, and the RF test (R19, R52 to R54, R58, R63, R64, R67, R69, R87 to R89,
R92, R93, R97 to R105). -/

namespace Sys2Proof.Machine

/-- Eight catalogue words, word 0 first (R69). -/
def catBytes (n : Nat) : Bytes := le 32 n

/-- A test that transmits. -/
def RfTest.sends (t : RfTest) : Bool := t.mode == 1 || t.mode == 2

namespace State

/-! ### Sessions (R69, R70, R87 to R89) -/

/-- The catalogue a session is opened with: only bits 0 to 2 in the recovery ROM (R540). -/
def openCat (s : State) : Nat := if s.sys.fw = .recovery then s.deviceCat % 8 else s.sessionCat

/-- The number of the next session: the one after the newest, passing over numbers that are held or that journal entries still
name. -/
def nextSession (s : State) : Nat :=
  let used := (s.ses.sessions.map Prod.fst) ++ ((s.ses.romKept.getD []).map Prod.fst) ++ (s.ses.journal.map (fun e => e.sess))
  let start := s.ses.lastSession
  ((List.range (used.length + 1)).findSome? (fun i =>
    let n := (start + i) % 0xFFFE + 1
    if used.contains n then none else some n)).getD 1

/-- SESSION_OPEN (R69, R70). Reserved bytes that are not 0 are refused before the offer and the number of sessions are judged (DESIGN
CHOICE, assumption 157). -/
def runSessionOpen (c : Cmd) (s : State) : State × CmdRes :=
  let b := c.params
  if b.length ≠ 40 then (s, refuse stBadLength 0)
  else if u32 b 36 ≠ 0 then (s, refuse stBadParam 0)
  else if bit (rd b 0 32) 0 = false then (s, refuse stNotNegotiated 0)
  else if (if s.sys.fw = .recovery then 1 else 8) ≤ s.ses.sessions.length then (s, refuse stSessionsFull 0)
  else
    let n := s.nextSession
    let agreed := rd b 0 32 &&& s.openCat
    let x : Session := {
      tag := u32 b 32, agreed := agreed, via := c.via, next := 1, shadow := Shadow.empty, heard := s.now, part := none, waiting := [] }
    (s.mapSes (fun z => { z with sessions := Tab.put n x z.sessions, lastSession := n }),
      fin (le 2 n ++ le 2 s.sys.resetCause ++ catBytes agreed ++
        catBytes (if s.sys.fw = .recovery then s.deviceCat % 8 else s.deviceCat) ++ zeros 4))

/-- A number that the session has not accepted: E, a number after it, or 0 (R82, R88). -/
def notAccepted (x : Session) (acc : Nat) : Bool := acc == 0 || decide (accSteps x.next acc ≤ 0x7FFFFFFF)

/-- SESSION_RESUME (R88): after the reply, every held completion in order and the ACCEPTED state of each running command. -/
def runSessionResume (c : Cmd) (s : State) : State × CmdRes :=
  let b := c.params
  let n := u16 b 0
  let acked := u32 b 8
  if b.length ≠ 16 then (s, refuse stBadLength 0)
  else if u16 b 2 ≠ 0 ∨ u32 b 12 ≠ 0 then (s, refuse stBadParam 0)
  else match s.session n with
  | none => (s, refuse stSessionUnknown 0)
  | some x =>
    if x.tag ≠ u32 b 4 then (s, refuse stDenied 3)
    else if acked ≠ 0 ∧ notAccepted x acked then (s, refuse stBadParam 4)
    else
      let s := if acked = 0 then s else s.ackCompletions n acked
      let s := s.mapSession n (fun x => { x with via := c.via, heard := s.now })
      let held := (s.entriesOf n).filter (fun e => e.result.isSome && e.awaitConf.isNone)
      (s, fin (le 2 n ++ le 2 s.sys.resetCause ++ le 4 x.next ++ le 4 held.length ++ le 4 0 ++ catBytes x.agreed))

/-- What follows SESSION_RESUME's reply (R88). A command whose reply waits for the partner is answered when the confirmation comes
(R91, assumption 151). -/
def afterResume (n : Nat) (s : State) : State :=
  match s.session n with
  | none => s
  | some x =>
    let es := (s.entriesOf n).filter (fun e => e.awaitConf.isNone)
    let s := es.foldl (fun s e => match e.result with
      | some a => s.sendPacket x.via (completionOf e a)
      | none => s) s
    let s := s.mapSes (fun z => { z with journal := z.journal.map (fun e => if e.sess = n ∧ e.result.isSome ∧ e.awaitConf.isNone then { e with sent := true } else e) })
    es.foldl (fun s e => if e.result.isNone then s.sendPacket x.via (acceptedOf e) else s) s

/-- SESSION_CLOSE (R89). -/
def runSessionClose (c : Cmd) (s : State) : State × CmdRes :=
  if c.params.length ≠ 0 then (s, refuse stBadLength 0)
  else if (s.entriesOf c.sess).any (fun e => !(c.replay && e.acc == c.acc)) then (s, refuse stNeedsQuiesce 0)
  else
    let s := s.mapSes (fun z => { z with sessions := Tab.del c.sess z.sessions })
    (s.lockSessionEnds c.sess, fin [])

/-- A session expires when nothing of it has arrived for SYS_SESSION_LINGER_S, in the recovery ROM too (R89, R540). The count in
SESSION_EXPIRED takes in commands that still run, whose completions are discarded later (DESIGN CHOICE, assumption 160). -/
def sessionExpiry (n : Nat) (s : State) : State :=
  match s.session n with
  | none => s
  | some x =>
    if s.now - x.heard < s.prm 0x0018 * 1000000000 ∨ (s.fwRuns = false ∧ s.sys.fw ≠ .recovery) then s
    else
      let k := (s.entriesOf n).length
      let s := s.mapSes (fun z => { z with
        sessions := Tab.del n z.sessions, journal := z.journal.filter (fun e => !(e.sess == n && e.result.isSome)) })
      (s.lockSessionEnds n).raise0 0x0095 .warning 0 (n + 65536 * k)

/-- Partial reassemblies without a fragment for 1 s are discarded (R93). -/
def fragmentTimeout (s : State) : State :=
  let f (_ : Nat) (x : Session) : Session := match x.part with
    | some q => if 1000000000 ≤ s.now - q.last then { x with part := none } else x
    | none => x
  s.mapSes (fun z => { z with sessions := Tab.mapVals f z.sessions })

/-- COMPLETION_ACK (R87). -/
def runCompletionAck (c : Cmd) (s : State) : State × CmdRes :=
  let n := u32 c.params 0
  if c.params.length ≠ 4 then (s, refuse stBadLength 0)
  else match s.session c.sess with
  | none => (s, refuse stSessionUnknown 0)
  | some x =>
    if notAccepted x n || (match s.entry? c.sess n with | some e => e.result.isNone || e.awaitConf.isSome | none => false) then (s, refuse stBadParam 0)
    else ((s.ackCompletions c.sess n).pumpSession c.sess, fin [])

/-- COMPLETION_READ (R87). -/
def runCompletionRead (c : Cmd) (s : State) : State × CmdRes :=
  if c.params.length ≠ 4 then (s, refuse stBadLength 0)
  else match s.entry? c.sess (u32 c.params 0) with
  | none => (s, refuse stBadParam 0)
  | some e =>
    if e.awaitConf.isSome then (s, refuse stBadParam 0)
    else match e.result with
    | some a => (s.sendPacket c.via (completionOf e a), .sent)
    | none => (s.sendPacket c.via (acceptedOf e), .sent)

/-- BARRIER (R92). -/
def runBarrier (c : Cmd) (s : State) : State × CmdRes :=
  if c.params.length ≠ 4 then (s, refuse stBadLength 0)
  else if 2 ≤ u8 c.params 0 ∨ rd c.params 1 3 ≠ 0 then (s, refuse stBadParam 0)
  else (s, .later)

/-- A packet that check 1, 2 or 3 of R78 discards is counted. -/
def badPacket (via : Via) (check : Nat) (s : State) : State := s.count via (check - 1)

/-! ### Events (R19, R97, R98) -/

/-- FAULT_ACK. -/
def runFaultAck (c : Cmd) (s : State) : State × CmdRes :=
  let q := u32 c.params 0
  if c.params.length ≠ 4 then (s, refuse stBadLength 0)
  else if s.sys.nextSeq ≤ q then (s, refuse stBadParam 0)
  else (s.mapSys (fun y => { y with
    unacked := y.unacked.filter (fun k => decide (q < k))
    events := y.events.map (fun e => if e.cls = .fault ∧ e.seq ≤ q then { e with acked := true } else e) }), fin [])

/-- EVENT_READ. -/
def runEventRead (c : Cmd) (s : State) : State × CmdRes :=
  let b := c.params
  if b.length ≠ 8 then (s, refuse stBadLength 0)
  else if u16 b 4 = 0 ∨ 64 < u16 b 4 ∨ u16 b 6 ≠ 0 then (s, refuse stBadParam 0)
  else
    let es := (s.sys.events.filter (fun e => decide (u32 b 0 ≤ e.seq))).take (u16 b 4)
    let lost := match s.sys.events.head? with | some e => decide (u32 b 0 < e.seq ∧ 1 < e.seq) | none => false
    (s, .fin ⟨stOk, b2n lost, le 2 es.length ++ le 2 0 ++ es.flatMap eventBytes⟩)

/-- The event output falls 100 µs after the newest qualifying event (R100). -/
def eventOutputFall (s : State) : State :=
  match s.sys.evHigh with
  | some t => if t ≤ s.now then s.mapSys (fun y => { y with evHigh := none }) else s
  | none => s

/-- A console line has been written; the count of dropped lines follows when there is room (R103). -/
def consoleLineSent (s : State) : State :=
  let rest := s.sys.console.drop 1
  let d : Bytes := [0x44] ++ hexStr 8 s.sys.consoleDropped ++ [0x0D, 0x0A]
  let room := decide ((rest.map List.length).sum + d.length ≤ 4096) && decide (0 < s.sys.consoleDropped)
  let s := match s.sys.console.head? with | some l => s.emit (.serial s.uartTx l) | none => s
  s.mapSys (fun y => { y with
    console := if room then rest ++ [d] else rest, consoleDropped := if room then 0 else y.consoleDropped })

/-! ### Capture and compare (R101, R102) -/

/-- The record of a capture and compare channel. -/
def ccRec (s : State) (ch : Nat) : Bytes := s.prmRec 12 (0x001C + ch)

/-- An edge on a capture channel's pad. -/
def captureEdge (ch : Nat) (falling : Bool) (s : State) : State :=
  let mode := u8 (s.ccRec ch) 1
  let wants := (mode == 1 && !falling) || (mode == 2 && falling) || mode == 3
  match s.sys.cc[ch]? with
  | none => s
  | some k =>
    if wants = false then s
    else if 64 ≤ k.stamps.length then
      let s := s.mapSys (fun y => { y with cc := modAt ch (fun k => { k with lost := inc16 k.lost, run := true }) y.cc })
      if k.run then s else s.raise0 0x0097 .warning ch 0
    else s.mapSys (fun y => { y with cc := modAt ch (fun k => { k with
      stamps := k.stamps ++ [(s.clk.count, falling, s.timeValid)], run := false }) y.cc })

/-- An edge of a compare channel: it rises while time is valid at an instant that is a multiple of PERIOD_US, unless half a period has
not passed since the rise before, and falls WIDTH_US after it. -/
def compareEdge (ch : Nat) (rise : Bool) (s : State) : State :=
  let b := s.ccRec ch
  if u8 b 1 ≠ 4 then s
  else match s.sys.cc[ch]? with
  | none => s
  | some k =>
    let set (f : CcState → CcState) : State := s.mapSys (fun y => { y with cc := modAt ch f y.cc })
    let since := s.now - k.lastRise.getD 0
    if rise then
      if s.timeValid = false ∨ s.clk.count % (u32 b 4 * 1000) ≠ 0 ∨ (k.lastRise.isSome ∧ since < u32 b 4 * 500) then s
      else set (fun k => { k with level := true, lastRise := some s.now })
    else if k.lastRise.isSome ∧ u32 b 8 * 1000 ≤ since then set (fun k => { k with level := false })
    else s

/-- SYS_CAPTURE_READ (R102). -/
def runSysCaptureRead (c : Cmd) (s : State) : State × CmdRes :=
  let b := c.params
  let ch := u8 b 0
  if b.length ≠ 4 then (s, refuse stBadLength 0)
  else if 4 ≤ ch ∨ u8 b 1 = 0 ∨ 64 < u8 b 1 ∨ u16 b 2 ≠ 0 then (s, refuse stBadParam 0)
  else if u8 (s.ccRec ch) 1 = 0 ∨ 4 ≤ u8 (s.ccRec ch) 1 then (s, refuse stDenied 0x0010)
  else match s.sys.cc[ch]? with
  | none => (s, refuse stBadParam 0)
  | some k =>
    let l := k.stamps.take (u8 b 1)
    (s.mapSys (fun y => { y with cc := modAt ch (fun k => { k with stamps := k.stamps.drop (u8 b 1), lost := 0 }) y.cc }),
      fin (le 2 l.length ++ le 2 k.lost ++ l.flatMap (fun (x : Nat × Bool × Bool) =>
        le 8 x.1 ++ le 1 (b2n x.2.1) ++ le 1 (b2n x.2.2) ++ zeros 6)))

/-! ### Budget (R52 to R54) -/

/-- BUDGET_READ. -/
def runBudgetRead (c : Cmd) (s : State) : State × CmdRes :=
  if c.params.length ≠ 0 then (s, refuse stBadLength 0) else (s, fin (s.budgetBlock false s.siteEffect))

/-- Whether an 8-byte entry of BUDGET_PROBE keeps its ranges (R53). -/
def probeEntryOk (b : Bytes) (legacy : Nat) : Bool :=
  let k := u8 b 0
  let chain := u8 b 1
  decide (1 ≤ k ∧ k ≤ 5) && (decide (chain ≤ 3) || chain == 0xFF) && !(decide (4 ≤ k) && chain != 0xFF) &&
  !(k == 3 && chain == 0xFF && legacy == 0xFF) &&
  (if k = 2 then [1, 2, 5, 10, 20].contains (u8 b 2) else u8 b 2 == 0) && u8 b 3 == 0 &&
  decide (1 ≤ u16 b 4 ∧ u16 b 4 ≤ 256) && u16 b 6 == 0

/-- Adds robots one by one, each placed under R49 where its chain is open. -/
def probeRobots (legacy : Bool) (rate chain : Nat) : Nat → Site → Site
  | 0, z => z
  | n + 1, z =>
    let c := if chain = 0xFF then (if legacy then z.legacyChain else z.pricedChain) else chain
    probeRobots legacy rate chain n { z with robots := z.robots ++ [{ idx := 256 + z.robots.length, chain := c, legacy := legacy, rate := rate, selfNow := false }] }

/-- The site with one entry added. -/
def probeAdd (z : Site) (b : Bytes) : Site :=
  match u8 b 0 with
  | 1 => probeRobots false 0 (u8 b 1) (u16 b 4) z
  | 2 => probeRobots false (u8 b 2) (u8 b 1) (u16 b 4) z
  | 3 => probeRobots true 0 (u8 b 1) (u16 b 4) z
  | 4 => { z with hurdles := z.hurdles + u16 b 4 }
  | _ => { z with paddocks := z.paddocks + u16 b 4 }

/-- BUDGET_PROBE: the session's shadow set on the configuration in effect, with the entries (R52, R53). -/
def runBudgetProbe (c : Cmd) (s : State) : State × CmdRes :=
  let b := c.params
  let n := u16 b 0
  if 64 < n ∨ u16 b 2 ≠ 0 then (s, refuse stBadParam 0xFFF0)
  else if b.length ≠ 4 + 8 * n then (s, refuse stBadLength 0)
  else
    let g := s.newest.takeAll (s.shadowOf c.sess)
    let es := (List.range n).map (fun i => slice b (4 + 8 * i) 8)
    match findIdx (fun e => !probeEntryOk e (g.prm 0x050F)) es with
    | some (i, _) => (s, refuse stBadParam i)
    | none =>
      let z := es.foldl probeAdd (s.siteFor g)
      let d := match z.lines.find? (fun l => Site.overLine l) with | some l => l.code | none => 0
      (s, .fin ⟨stOk, d, s.budgetBlock true z⟩)

/-- A line's step has not completed by the end of its window (R54): lines 01h, 03h to 09h, and 10 for Close.
Each line that overruns in a tick adds one to OVERRUNS (R53; DESIGN CHOICE, assumption 133). -/
def windowOverrun (line : Nat) (s : State) : State :=
  if Tab.has (16 + line) s.sys.runs then s
  else
    let n := min 255 (Tab.getD line 0 s.sys.runs + 1)
    let s := s.mapSys (fun y => { y with
      overruns := inc32 y.overruns, runs := Tab.put (16 + line) 1 (Tab.put line n y.runs) })
    match line with
    | 1 => s.raise 0x0084 .fault n 0 0
    | 3 => s.raise 0x0085 .fault n 0 0
    | 4 => s.discardRound.raise 0x0086 .fault n 0 0
    | 5 => s.raise 0x0087 .fault n 0 0
    | 10 => s.raise 0x0089 .fault n 0 0
    | _ => (s.mapChain (line - 6) (fun k => { k with planLate := true })).raise 0x0088 .fault n 4 (line - 6)

/-- At a tick boundary a line that did not overrun in the tick that ends has no run open (R54). -/
def overrunTick (s : State) : State :=
  s.mapSys (fun y => { y with runs := y.runs.filter (fun (e : Nat × Nat) => decide (e.1 < 16) && Tab.has (16 + e.1) y.runs) })

/-! ### Reset, Standby and the watchdog (R58, R63, R64, R66, R67) -/

/-- SYS_RESET (R58): not run again after the reset it asked for. -/
def runSysReset (c : Cmd) (s : State) : State × CmdRes :=
  let k := u16 c.params 0
  if c.params.length ≠ 2 then (s, refuse stBadLength 0)
  else if 2 ≤ k then (s, refuse stBadParam 0)
  else if c.replay then (s, fin [])
  else (s.mapSys (fun y => { y with pendReset := some ⟨k == 1, 4, false, false, some (c.sess, c.acc)⟩ }), fin [])

/-- POWER_STANDBY (R67, R397). -/
def runPowerStandby (c : Cmd) (s : State) : State × CmdRes :=
  let m := u8 c.params 0
  if c.params.length ≠ 1 then (s, refuse stBadLength 0)
  else if 8 ≤ m then (s, refuse stBadParam 0)
  else match missingBit c.agreed (if m = 0 then [] else [196]) with
  | some b => (s, refuse stNotNegotiated b)
  | none =>
    if c.replay then (s, fin [])
    else if (s.beaconsOn && (List.range 4).any (fun k => s.chainOn k)) || (List.range 4).any (fun n => s.axisMoving n) ||
        s.upd.lock.isSome then (s, refuse stNeedsQuiesce 0)
    else (s.mapSys (fun y => { y with pendStandby := some ⟨m, c.sess, c.acc⟩ }), fin [])

/-- A core's watchdog has not been serviced for SYS_WDT_TICKS ticks (R63): the core halts, and the wait of the hardware copy of
the standing orders begins (R64). -/
def watchdog (core : Nat) (s : State) : State :=
  if s.sys.halted.contains core then s
  else
    let s := s.mapSys (fun y => { y with halted := y.halted ++ [core] })
    let n := s.sys.halted.length
    let hit := s.sys.wdtOrders.any (fun (e : Nat × Nat) => decide (soLevel e.2 ≤ n) && (soKind e.2 == 0))
    let s := if hit ∧ s.sys.wdtWait = none then s.mapSys (fun y => { y with wdtWait := some 0 }) else s
    let s := s.raise0 0x0090 .fault n 0
    let s := if 2 ≤ core then s.returnStaged core else s
    s.budgetShort 5 0 0

/-- Cores 0 and 1 are both halted: no command intake, and no standing order is matched (R40, R64). -/
def coresDown (s : State) : Bool := s.sys.halted.contains 0 && s.sys.halted.contains 1

/-! ### Diagnostics (R99, R105) -/

/-- ECHO. -/
def runEcho (c : Cmd) (s : State) : State × CmdRes :=
  if 4072 < c.params.length then (s, refuse stBadLength 3) else (s, fin c.params)

/-- COUNTERS_READ. -/
def runCountersRead (c : Cmd) (s : State) : State × CmdRes :=
  if c.params.length ≠ 0 then (s, refuse stBadLength 0) else (s, fin (s.ses.counts.flatMap (fun r => r.flatMap (le 4))))

/-- COUNTERS_CLEAR. -/
def runCountersClear (c : Cmd) (s : State) : State × CmdRes :=
  if c.params.length ≠ 0 then (s, refuse stBadLength 0)
  else (s.mapSes (fun z => { z with counts := List.replicate 3 (List.replicate 8 0) }), fin [])

/-- The 1,024 bytes of a halted core's captured state: free values, for the manual does not give a core's state (assumption 5). -/
def coreBytes (core block : Nat) : Bytes :=
  (List.range 1024).map (fun i => BitVec.ofNat 8 (Config.freeNat 8 (2 ^ 64 + (core * 64 + block) * 1024 + i)))

/-- CORE_CAPTURE_READ. -/
def runCoreCaptureRead (c : Cmd) (s : State) : State × CmdRes :=
  let b := c.params
  if b.length ≠ 4 then (s, refuse stBadLength 0)
  else if 8 ≤ u8 b 0 ∨ u8 b 1 ≠ 0 ∨ 64 ≤ u16 b 2 then (s, refuse stBadParam 0)
  else if s.sys.halted.contains (u8 b 0) = false then (s, refuse stDenied 0)
  else (s, fin (coreBytes (u8 b 0) (u16 b 2)))

/-- The operands of DIA_RF_TEST lie in their ranges (R11, R105), whatever MODE says. -/
def rfOk (dom opt : Nat) (b : Bytes) : Bool :=
  decide (u8 b 0 ≤ 3) && decide (u8 b 1 < (channelPlan dom opt).2.2) && decide (-10 ≤ i8 b 2) && decide (i8 b 2 ≤ domainPower dom) &&
  decide (u8 b 3 < phyCount opt) && decide (1 ≤ u32 b 4) && decide (u32 b 4 ≤ 60000)

/-- DIA_RF_TEST (R105). -/
def runRfTest (c : Cmd) (s : State) : State × CmdRes :=
  let b := c.params
  let mode := u8 b 0
  let dom := s.prm 0x0500
  let opt := s.prm 0x0502
  let ch := s.prm 0x7F13
  if b.length ≠ 8 then (s, refuse stBadLength 0)
  else if rfOk dom opt b = false then (s, refuse stBadParam 0)
  else if mode = 0 then
    match s.sys.rfTest with
    | none => (s, finD 1)
    | some t => (s.mapSys (fun y => { y with rfTest := some { t with stopped := true } }), fin [])
  else if 4 ≤ ch then (s, refuse stDenied 0)
  else if s.sys.rfTest.isSome then (s, refuse stDenied 0x0012)
  else if (s.chain ch).bad then (s, .fin (Ans.bare stFault 0))
  else (s.mapSys (fun y => { y with rfTest := some {
    mode := mode, channel := u8 b 1, power := i8 b 2, mcs := u8 b 3, started := s.now, durNs := u32 b 4 * 1000000
    sess := c.sess, acc := c.acc, stopped := false } }), .later)

/-- How long a test may run: its duration, and where it transmits no longer than the chain's meter and, under domain 01h, the dwell
limit of its one channel allow (R105, R194, R208). -/
def rfSpan (s : State) (t : RfTest) : Nat :=
  let left := s.meterWindow.2 - s.meterUsed (s.prm 0x7F13) t.channel
  if t.sends then min t.durNs (if s.prm 0x0500 = 1 then min 400000000 left else left) else t.durNs

/-- An RF test ends: on time or at the meter or dwell limit (`busy` false), or because carrier sense found the channel busy, which
domain 03h senses (R209); a stop by MODE 00h is outcome 2. The airtime of a transmitting test is metered (R105, R208). -/
def rfTestEnd (busy : Bool) (mean peak : Int) (good bad : Nat) (s : State) : State :=
  match s.sys.rfTest with
  | none => s
  | some t =>
    let el := s.now - t.started
    let span := s.rfSpan t
    let sensed := busy && t.sends && s.prm 0x0500 == 3
    if t.stopped = false ∧ el < span ∧ sensed = false then s
    else
      let s := s.mapSys (fun y => { y with rfTest := none })
      let s := if t.sends then s.meterAdd (s.prm 0x7F13) t.channel (min el span) else s
      let meas (x : Int) : Bytes := leS 1 (if t.mode = 3 then clampS 8 x else -128)
      let limited := sensed || decide (span < t.durNs)
      s.completeOk t.sess t.acc (le 1 (if t.stopped then 2 else b2n limited) ++ meas mean ++ meas peak ++ le 1 0 ++
        le 4 (if t.mode = 3 then good else 0) ++ le 4 (if t.mode = 3 then bad else 0))

end State

end Sys2Proof.Machine
end

