-- ==== Sys2Proof/Machine/OpTable.lean ====
section
/-! DEFINITION. The opcodes of the native protocol with their kind, catalogue bits and meaning (R28, R73, R81, R84, R85), and what
a received packet does (R78, R106, R107, R464, R482, R490, R540). -/

namespace Sys2Proof.Machine

/-- SESSION_OPEN. -/
def opSessionOpen : OpSpec :=
  { code := 0x0001, kind := .control, urgent := false, bits := [], maxBody := 0, holds := false, run := State.runSessionOpen }

/-- SESSION_RESUME. -/
def opSessionResume : OpSpec :=
  { code := 0x0002, kind := .control, urgent := false, bits := [], maxBody := 0, holds := false, run := State.runSessionResume }

/-- SESSION_CLOSE. -/
def opSessionClose : OpSpec :=
  { code := 0x0003, kind := .work, urgent := false, bits := [], maxBody := 0, holds := false, run := State.runSessionClose }

/-- BARRIER. -/
def opBarrier : OpSpec :=
  { code := 0x0004, kind := .work, urgent := false, bits := [4], maxBody := 0, holds := true, run := State.runBarrier }

/-- COMPLETION_ACK. -/
def opCompletionAck : OpSpec :=
  { code := 0x0005, kind := .control, urgent := false, bits := [], maxBody := 0, holds := false, run := State.runCompletionAck }

/-- COMPLETION_READ. -/
def opCompletionRead : OpSpec :=
  { code := 0x0006, kind := .control, urgent := false, bits := [], maxBody := 0, holds := false, run := State.runCompletionRead }

/-- ORDERS_WRITE. -/
def opOrdersWrite : OpSpec :=
  { code := 0x0030, kind := .work, urgent := false, bits := [7], maxBody := 0, holds := false, run := State.runOrdersWrite }

/-- ORDERS_READ. -/
def opOrdersRead : OpSpec :=
  { code := 0x0031, kind := .query, urgent := false, bits := [7], maxBody := 0, holds := false, run := State.runOrdersRead }

/-- FAULT_ACK. -/
def opFaultAck : OpSpec :=
  { code := 0x0033, kind := .control, urgent := true, bits := [], maxBody := 0, holds := false, run := State.runFaultAck }

/-- RESMAP_READ. -/
def opResmapRead : OpSpec :=
  { code := 0x0034, kind := .query, urgent := false, bits := [], maxBody := 0, holds := false, run := State.runResmapRead }

/-- EVENT_READ. -/
def opEventRead : OpSpec :=
  { code := 0x0035, kind := .control, urgent := false, bits := [], maxBody := 0, holds := false, run := State.runEventRead }

/-- SYS_CAPTURE_READ. -/
def opSysCaptureRead : OpSpec :=
  { code := 0x0036, kind := .work, urgent := false, bits := [], maxBody := 1028, holds := false, run := State.runSysCaptureRead }

/-- BUDGET_READ. -/
def opBudgetRead : OpSpec :=
  { code := 0x0038, kind := .query, urgent := false, bits := [8], maxBody := 0, holds := false, run := State.runBudgetRead }

/-- BUDGET_PROBE. -/
def opBudgetProbe : OpSpec :=
  { code := 0x0039, kind := .query, urgent := false, bits := [8], maxBody := 0, holds := false, run := State.runBudgetProbe }

/-- SYS_RESET. -/
def opSysReset : OpSpec :=
  { code := 0x0041, kind := .work, urgent := false, bits := [], maxBody := 0, holds := false, run := State.runSysReset }

/-- POWER_STANDBY. -/
def opPowerStandby : OpSpec :=
  { code := 0x0042, kind := .work, urgent := false, bits := [10], maxBody := 0, holds := false, run := State.runPowerStandby }

/-- PRM_GET. -/
def opPrmGet : OpSpec :=
  { code := 0x0100, kind := .query, urgent := false, bits := [], maxBody := 0, holds := false, run := State.runPrmGet }

/-- PRM_SET. -/
def opPrmSet : OpSpec :=
  { code := 0x0101, kind := .work, urgent := false, bits := [], maxBody := 0, holds := false, run := State.runPrmSet }

/-- COMMIT. -/
def opCommit : OpSpec :=
  { code := 0x0102, kind := .work, urgent := false, bits := [], maxBody := 8, holds := true, run := State.runCommit }

/-- DISCARD. -/
def opDiscard : OpSpec :=
  { code := 0x0103, kind := .work, urgent := false, bits := [], maxBody := 0, holds := false, run := State.runDiscard }

/-- GNS_STATUS_READ. -/
def opGnsStatusRead : OpSpec :=
  { code := 0x0200, kind := .query, urgent := false, bits := [], maxBody := 0, holds := false, run := State.runGnsStatusRead }

/-- GNS_MEAS_READ. -/
def opGnsMeasRead : OpSpec :=
  { code := 0x0201, kind := .query, urgent := false, bits := [43], maxBody := 0, holds := false, run := State.runGnsMeasRead }

/-- GNS_EXCLUDE. -/
def opGnsExclude : OpSpec :=
  { code := 0x0202, kind := .work, urgent := false, bits := [], maxBody := 0, holds := false, run := State.runGnsExclude }

/-- GNS_SNAP_START. -/
def opGnsSnapStart : OpSpec :=
  { code := 0x0203, kind := .work, urgent := false, bits := [39], maxBody := 16, holds := false, run := State.runGnsSnapStart }

/-- GNS_SNAP_READ. -/
def opGnsSnapRead : OpSpec :=
  { code := 0x0204, kind := .query, urgent := false, bits := [40], maxBody := 0, holds := false, run := State.runGnsSnapRead }

/-- GNS_SNAP_SOLVE. -/
def opGnsSnapSolve : OpSpec :=
  { code := 0x0205, kind := .work, urgent := false, bits := [39], maxBody := 48, holds := false, run := State.runGnsSnapSolve }

/-- GNS_SURVEY_START. -/
def opGnsSurveyStart : OpSpec :=
  { code := 0x0206, kind := .work, urgent := false, bits := [41], maxBody := 32, holds := false, run := State.runGnsSurveyStart }

/-- GNS_BASELINE_MEASURE. -/
def opGnsBaselineMeasure : OpSpec :=
  { code := 0x0207, kind := .work, urgent := false, bits := [38], maxBody := 20, holds := false, run := State.runGnsBaselineMeasure }

/-- GNS_READMIT. -/
def opGnsReadmit : OpSpec :=
  { code := 0x0208, kind := .work, urgent := false, bits := [], maxBody := 0, holds := false, run := State.runGnsReadmit }

/-- FIX_READ. -/
def opFixRead : OpSpec :=
  { code := 0x0300, kind := .query, urgent := false, bits := [], maxBody := 0, holds := false, run := State.runFixRead }

/-- FIX_MODE_SET. -/
def opFixModeSet : OpSpec :=
  { code := 0x0301, kind := .work, urgent := false, bits := [], maxBody := 8, holds := true, run := State.runFixModeSet }

/-- FIX_STATE_READ. -/
def opFixStateRead : OpSpec :=
  { code := 0x0302, kind := .query, urgent := false, bits := [], maxBody := 0, holds := false, run := State.runFixStateRead }

/-- FIX_FILTER_RESET. -/
def opFixFilterReset : OpSpec :=
  { code := 0x0303, kind := .work, urgent := false, bits := [67], maxBody := 0, holds := false, run := State.runFixFilterReset }

/-- CLK_TIME_READ. -/
def opClkTimeRead : OpSpec :=
  { code := 0x0400, kind := .query, urgent := false, bits := [], maxBody := 0, holds := false, run := State.runTimeRead }

/-- CLK_TIME_SET. -/
def opClkTimeSet : OpSpec :=
  { code := 0x0401, kind := .work, urgent := false, bits := [], maxBody := 0, holds := false, run := State.runTimeSet }

/-- AIR_CHAIN_READ. -/
def opAirChainRead : OpSpec :=
  { code := 0x0500, kind := .query, urgent := false, bits := [], maxBody := 0, holds := false, run := State.runAirChainRead }

/-- AIR_MAP_READ. -/
def opAirMapRead : OpSpec :=
  { code := 0x0501, kind := .query, urgent := false, bits := [], maxBody := 0, holds := false, run := State.runAirMapRead }

/-- AIR_ROBOT_ADD. -/
def opAirRobotAdd : OpSpec :=
  { code := 0x0510, kind := .work, urgent := false, bits := [], maxBody := 4, holds := false, run := State.runAirRobotAdd }

/-- AIR_ROBOT_REMOVE. -/
def opAirRobotRemove : OpSpec :=
  { code := 0x0511, kind := .work, urgent := false, bits := [], maxBody := 0, holds := true, run := State.runAirRobotRemove }

/-- AIR_LINK_READ. -/
def opAirLinkRead : OpSpec :=
  { code := 0x0512, kind := .query, urgent := false, bits := [], maxBody := 0, holds := false, run := State.runAirLinkRead }

/-- PAS_NODES_WRITE. -/
def opPasNodesWrite : OpSpec :=
  { code := 0x0600, kind := .work, urgent := false, bits := [128], maxBody := 0, holds := false, run := State.runPasNodesWrite }

/-- PAS_LANES_WRITE. -/
def opPasLanesWrite : OpSpec :=
  { code := 0x0601, kind := .work, urgent := false, bits := [128], maxBody := 0, holds := false, run := State.runPasLanesWrite }

/-- PAS_PADDOCK_WRITE. -/
def opPasPaddockWrite : OpSpec :=
  { code := 0x0602, kind := .work, urgent := false, bits := [128, 129], maxBody := 0, holds := false, run := State.runPasPaddockWrite }

/-- PAS_HURDLE_PLACE. -/
def opPasHurdlePlace : OpSpec :=
  { code := 0x0603, kind := .work, urgent := false, bits := [128, 130], maxBody := 0, holds := true, run := State.runPasHurdlePlace }

/-- PAS_HURDLE_REMOVE. -/
def opPasHurdleRemove : OpSpec :=
  { code := 0x0604, kind := .work, urgent := false, bits := [128, 130], maxBody := 0, holds := true, run := State.runPasHurdleRemove }

/-- PAS_MOVE. -/
def opPasMove : OpSpec :=
  { code := 0x0605, kind := .work, urgent := false, bits := [128], maxBody := 0, holds := false, run := State.runPasMove }

/-- PAS_RESV_READ. -/
def opPasResvRead : OpSpec :=
  { code := 0x0606, kind := .query, urgent := false, bits := [128], maxBody := 0, holds := false, run := State.runPasResvRead }

/-- PAS_STATE_READ. -/
def opPasStateRead : OpSpec :=
  { code := 0x0607, kind := .query, urgent := false, bits := [128], maxBody := 0, holds := false, run := State.runPasStateRead }

/-- PAS_RESV_CLEAR. -/
def opPasResvClear : OpSpec :=
  { code := 0x0608, kind := .work, urgent := false, bits := [128], maxBody := 0, holds := false, run := State.runPasResvClear }

/-- PRF_STATE_READ. -/
def opPrfStateRead : OpSpec :=
  { code := 0x0700, kind := .query, urgent := false, bits := [], maxBody := 0, holds := false, run := State.runPrfStateRead }

/-- PRF_PF_SET. -/
def opPrfPfSet : OpSpec :=
  { code := 0x0701, kind := .work, urgent := false, bits := [134], maxBody := 0, holds := false, run := State.runPrfPfSet }

/-- PRF_TRACK_READ. -/
def opPrfTrackRead : OpSpec :=
  { code := 0x0702, kind := .query, urgent := false, bits := [], maxBody := 0, holds := false, run := State.runPrfTrackRead }

/-- TSK_SUBMIT. -/
def opTskSubmit : OpSpec :=
  { code := 0x0800, kind := .work, urgent := false, bits := [160], maxBody := 252, holds := true, run := State.runTskSubmit }

/-- TSK_CANCEL. -/
def opTskCancel : OpSpec :=
  { code := 0x0801, kind := .work, urgent := false, bits := [160], maxBody := 4, holds := true, run := State.runTskCancel }

/-- TSK_RESULT_READ. -/
def opTskResultRead : OpSpec :=
  { code := 0x0802, kind := .query, urgent := false, bits := [160], maxBody := 0, holds := false, run := State.runTskResultRead }

/-- TSK_RESULT_ACK. -/
def opTskResultAck : OpSpec :=
  { code := 0x0803, kind := .work, urgent := false, bits := [160], maxBody := 0, holds := false, run := State.runTskResultAck }

/-- TSK_STATE_READ. -/
def opTskStateRead : OpSpec :=
  { code := 0x0804, kind := .query, urgent := false, bits := [160], maxBody := 0, holds := false, run := State.runTskStateRead }

/-- TSK_READ. -/
def opTskRead : OpSpec :=
  { code := 0x0805, kind := .query, urgent := false, bits := [160], maxBody := 0, holds := false, run := State.runTskRead }

/-- CRK_STOP. -/
def opCrkStop : OpSpec :=
  { code := 0x0900, kind := .work, urgent := true, bits := [], maxBody := 4, holds := false, run := State.runCrkStop }

/-- CRK_RELEASE. -/
def opCrkRelease : OpSpec :=
  { code := 0x0901, kind := .work, urgent := false, bits := [], maxBody := 0, holds := true, run := State.runCrkRelease }

/-- CRK_STATE_READ. -/
def opCrkStateRead : OpSpec :=
  { code := 0x0902, kind := .query, urgent := false, bits := [], maxBody := 0, holds := false, run := State.runCrkStateRead }

/-- CRK_ROBOT_READ. -/
def opCrkRobotRead : OpSpec :=
  { code := 0x0903, kind := .query, urgent := false, bits := [], maxBody := 0, holds := false, run := State.runCrkRobotRead }

/-- AXS_MOVE. -/
def opAxsMove : OpSpec :=
  { code := 0x0A00, kind := .work, urgent := false, bits := [165], maxBody := 8, holds := false, run := State.runAxsMove }

/-- AXS_HALT. -/
def opAxsHalt : OpSpec :=
  { code := 0x0A01, kind := .work, urgent := true, bits := [165], maxBody := 0, holds := false, run := State.runAxsHalt }

/-- AXS_HOME. -/
def opAxsHome : OpSpec :=
  { code := 0x0A02, kind := .work, urgent := false, bits := [165], maxBody := 8, holds := false, run := State.runAxsHome }

/-- AXS_SET_POS. -/
def opAxsSetPos : OpSpec :=
  { code := 0x0A03, kind := .work, urgent := false, bits := [165], maxBody := 0, holds := false, run := State.runAxsSetPos }

/-- AXS_STATE_READ. -/
def opAxsStateRead : OpSpec :=
  { code := 0x0A04, kind := .query, urgent := false, bits := [165], maxBody := 0, holds := false, run := State.runAxsStateRead }

/-- ETH_PORT_READ. -/
def opEthPortRead : OpSpec :=
  { code := 0x0B00, kind := .query, urgent := false, bits := [], maxBody := 0, holds := false, run := State.runEthPortRead }

/-- ETH_PROBE. -/
def opEthProbe : OpSpec :=
  { code := 0x0B01, kind := .work, urgent := false, bits := [], maxBody := 1024, holds := false, run := State.runEthProbe }

/-- CAN_TX. -/
def opCanTx : OpSpec :=
  { code := 0x0C00, kind := .work, urgent := false, bits := [194], maxBody := 16, holds := false, run := State.runCanTx }

/-- CAN_TX_ABORT. -/
def opCanTxAbort : OpSpec :=
  { code := 0x0C01, kind := .work, urgent := true, bits := [194], maxBody := 0, holds := false, run := State.runCanTxAbort }

/-- CAN_MB_READ. -/
def opCanMbRead : OpSpec :=
  { code := 0x0C02, kind := .work, urgent := false, bits := [194], maxBody := 80, holds := false, run := State.runCanMbRead }

/-- CAN_STATE_READ. -/
def opCanStateRead : OpSpec :=
  { code := 0x0C03, kind := .query, urgent := false, bits := [194], maxBody := 0, holds := false, run := State.runCanStateRead }

/-- CAN_RECOVER. -/
def opCanRecover : OpSpec :=
  { code := 0x0C04, kind := .work, urgent := false, bits := [194], maxBody := 0, holds := false, run := State.runCanRecover }

/-- CAN_SERIAL_TX. -/
def opCanSerialTx : OpSpec :=
  { code := 0x0C05, kind := .work, urgent := false, bits := [194], maxBody := 8, holds := false, run := State.runCanSerialTx }

/-- QUE_READ. -/
def opQueRead : OpSpec :=
  { code := 0x0D00, kind := .query, urgent := false, bits := [195], maxBody := 0, holds := false, run := State.runQueRead }

/-- QUE_RELEASE. -/
def opQueRelease : OpSpec :=
  { code := 0x0D01, kind := .work, urgent := false, bits := [195], maxBody := 0, holds := false, run := State.runQueRelease }

/-- QUE_STATE_READ. -/
def opQueStateRead : OpSpec :=
  { code := 0x0D02, kind := .query, urgent := false, bits := [195], maxBody := 0, holds := false, run := State.runQueStateRead }

/-- MEM_STATE_READ. -/
def opMemStateRead : OpSpec :=
  { code := 0x0D80, kind := .query, urgent := false, bits := [], maxBody := 0, holds := false, run := State.runMemStateRead }

/-- FLD_STATE_READ. -/
def opFldStateRead : OpSpec :=
  { code := 0x0E00, kind := .query, urgent := false, bits := [224], maxBody := 0, holds := false, run := State.runFldStateRead }

/-- FLD_MEMBER_ADD. -/
def opFldMemberAdd : OpSpec :=
  { code := 0x0E01, kind := .work, urgent := false, bits := [224], maxBody := 0, holds := false, run := State.runFldMemberAdd }

/-- FLD_MEMBER_REMOVE. -/
def opFldMemberRemove : OpSpec :=
  { code := 0x0E02, kind := .work, urgent := false, bits := [224], maxBody := 0, holds := false, run := State.runFldMemberRemove }

/-- FLD_MEMBERS_READ. -/
def opFldMembersRead : OpSpec :=
  { code := 0x0E03, kind := .query, urgent := false, bits := [224], maxBody := 0, holds := false, run := State.runFldMembersRead }

/-- PAI_STATE_READ. -/
def opPaiStateRead : OpSpec :=
  { code := 0x0F00, kind := .query, urgent := false, bits := [226], maxBody := 0, holds := false, run := State.runPaiStateRead }

/-- PAI_RESYNC. -/
def opPaiResync : OpSpec :=
  { code := 0x0F01, kind := .work, urgent := false, bits := [226], maxBody := 0, holds := false, run := State.runPaiResync }

/-- PAI_ROLE_SET. -/
def opPaiRoleSet : OpSpec :=
  { code := 0x0F02, kind := .control, urgent := false, bits := [226], maxBody := 0, holds := false, run := State.runPaiRoleSet }

/-- PAI_YIELD. -/
def opPaiYield : OpSpec :=
  { code := 0x0F03, kind := .work, urgent := true, bits := [226], maxBody := 0, holds := false, run := State.runPaiYield }

/-- VIT_KEY_LOAD. -/
def opVitKeyLoad : OpSpec :=
  { code := 0x1000, kind := .work, urgent := false, bits := [228], maxBody := 0, holds := true, run := State.runVitKeyLoad }

/-- VIT_KEY_ERASE. -/
def opVitKeyErase : OpSpec :=
  { code := 0x1001, kind := .work, urgent := false, bits := [228], maxBody := 0, holds := true, run := State.runVitKeyErase }

/-- VIT_SLOT_READ. -/
def opVitSlotRead : OpSpec :=
  { code := 0x1002, kind := .query, urgent := false, bits := [228], maxBody := 0, holds := false, run := State.runVitSlotRead }

/-- VIT_ATTEST. -/
def opVitAttest : OpSpec :=
  { code := 0x1003, kind := .query, urgent := false, bits := [227], maxBody := 0, holds := false, run := State.runVitAttest }

/-- VIT_CERT_READ. -/
def opVitCertRead : OpSpec :=
  { code := 0x1004, kind := .query, urgent := false, bits := [227], maxBody := 0, holds := false, run := State.runVitCertRead }

/-- VIT_STATE_READ. -/
def opVitStateRead : OpSpec :=
  { code := 0x1005, kind := .query, urgent := false, bits := [], maxBody := 0, holds := false, run := State.runVitStateRead }

/-- VIT_TAMPER_CLEAR. -/
def opVitTamperClear : OpSpec :=
  { code := 0x1006, kind := .work, urgent := false, bits := [], maxBody := 0, holds := false, run := State.runVitTamperClear }

/-- UPD_OPEN. -/
def opUpdOpen : OpSpec :=
  { code := 0x1100, kind := .work, urgent := false, bits := [], maxBody := 0, holds := false, run := State.runUpdOpen }

/-- UPD_BEGIN. -/
def opUpdBegin : OpSpec :=
  { code := 0x1101, kind := .work, urgent := false, bits := [], maxBody := 4, holds := false, run := State.runUpdBegin }

/-- UPD_WRITE. -/
def opUpdWrite : OpSpec :=
  { code := 0x1102, kind := .work, urgent := false, bits := [], maxBody := 0, holds := false, run := State.runUpdWrite }

/-- UPD_VERIFY. -/
def opUpdVerify : OpSpec :=
  { code := 0x1103, kind := .query, urgent := false, bits := [], maxBody := 0, holds := false, run := State.runUpdVerify }

/-- UPD_ACTIVATE. -/
def opUpdActivate : OpSpec :=
  { code := 0x1104, kind := .work, urgent := false, bits := [], maxBody := 8, holds := false, run := State.runUpdActivate }

/-- UPD_CONFIRM. -/
def opUpdConfirm : OpSpec :=
  { code := 0x1105, kind := .work, urgent := false, bits := [], maxBody := 0, holds := false, run := State.runUpdConfirm }

/-- UPD_CLOSE. -/
def opUpdClose : OpSpec :=
  { code := 0x1106, kind := .work, urgent := false, bits := [], maxBody := 0, holds := false, run := State.runUpdClose }

/-- UPD_STATE_READ. -/
def opUpdStateRead : OpSpec :=
  { code := 0x1107, kind := .query, urgent := false, bits := [], maxBody := 0, holds := false, run := State.runUpdStateRead }

/-- ARC_READ. -/
def opArcRead : OpSpec :=
  { code := 0x1200, kind := .query, urgent := false, bits := [231], maxBody := 0, holds := false, run := State.runArcRead }

/-- ARC_STATE_READ. -/
def opArcStateRead : OpSpec :=
  { code := 0x1201, kind := .query, urgent := false, bits := [231], maxBody := 0, holds := false, run := State.runArcStateRead }

/-- ECHO. -/
def opEcho : OpSpec :=
  { code := 0x7F00, kind := .control, urgent := false, bits := [9], maxBody := 0, holds := false, run := State.runEcho }

/-- COUNTERS_READ. -/
def opCountersRead : OpSpec :=
  { code := 0x7F01, kind := .query, urgent := false, bits := [9], maxBody := 0, holds := false, run := State.runCountersRead }

/-- COUNTERS_CLEAR. -/
def opCountersClear : OpSpec :=
  { code := 0x7F02, kind := .work, urgent := false, bits := [9], maxBody := 0, holds := false, run := State.runCountersClear }

/-- CORE_CAPTURE_READ. -/
def opCoreCaptureRead : OpSpec :=
  { code := 0x7F03, kind := .query, urgent := false, bits := [9], maxBody := 0, holds := false, run := State.runCoreCaptureRead }

/-- DIA_ETH_CAPTURE. -/
def opDiaEthCapture : OpSpec :=
  { code := 0x7F04, kind := .work, urgent := false, bits := [9], maxBody := 12, holds := false, run := State.runEthCapture }

/-- DIA_CAPTURE_READ. -/
def opDiaCaptureRead : OpSpec :=
  { code := 0x7F05, kind := .query, urgent := false, bits := [9], maxBody := 0, holds := false, run := State.runCaptureRead }

/-- DIA_RF_TEST. -/
def opDiaRfTest : OpSpec :=
  { code := 0x7F06, kind := .work, urgent := false, bits := [9], maxBody := 12, holds := false, run := State.runRfTest }

/-- Every assigned opcode (R28). -/
def opTable : List OpSpec :=
  [opSessionOpen, opSessionResume, opSessionClose, opBarrier, opCompletionAck, opCompletionRead, opOrdersWrite, opOrdersRead,
   opFaultAck, opResmapRead, opEventRead, opSysCaptureRead, opBudgetRead, opBudgetProbe, opSysReset, opPowerStandby,
   opPrmGet, opPrmSet, opCommit, opDiscard, opGnsStatusRead, opGnsMeasRead, opGnsExclude, opGnsSnapStart,
   opGnsSnapRead, opGnsSnapSolve, opGnsSurveyStart, opGnsBaselineMeasure, opGnsReadmit, opFixRead, opFixModeSet, opFixStateRead,
   opFixFilterReset, opClkTimeRead, opClkTimeSet, opAirChainRead, opAirMapRead, opAirRobotAdd, opAirRobotRemove, opAirLinkRead,
   opPasNodesWrite, opPasLanesWrite, opPasPaddockWrite, opPasHurdlePlace, opPasHurdleRemove, opPasMove, opPasResvRead, opPasStateRead,
   opPasResvClear, opPrfStateRead, opPrfPfSet, opPrfTrackRead, opTskSubmit, opTskCancel, opTskResultRead, opTskResultAck,
   opTskStateRead, opTskRead, opCrkStop, opCrkRelease, opCrkStateRead, opCrkRobotRead, opAxsMove, opAxsHalt,
   opAxsHome, opAxsSetPos, opAxsStateRead, opEthPortRead, opEthProbe, opCanTx, opCanTxAbort, opCanMbRead,
   opCanStateRead, opCanRecover, opCanSerialTx, opQueRead, opQueRelease, opQueStateRead, opMemStateRead, opFldStateRead,
   opFldMemberAdd, opFldMemberRemove, opFldMembersRead, opPaiStateRead, opPaiResync, opPaiRoleSet, opPaiYield, opVitKeyLoad,
   opVitKeyErase, opVitSlotRead, opVitAttest, opVitCertRead, opVitStateRead, opVitTamperClear, opUpdOpen, opUpdBegin,
   opUpdWrite, opUpdVerify, opUpdActivate, opUpdConfirm, opUpdClose, opUpdStateRead, opArcRead, opArcStateRead,
   opEcho, opCountersRead, opCountersClear, opCoreCaptureRead, opDiaEthCapture, opDiaCaptureRead, opDiaRfTest]

/-- The opcode of a number, if it is assigned. -/
def opSpec? (op : Nat) : Option OpSpec := opTable.find? (fun x => x.code == op)

/-- The opcodes for whose completion later numbered commands of the session wait (R84, R92, assumption 6). -/
def holdsOp (op : Nat) : Bool :=
  [0x0004, 0x0102, 0x0301, 0x0511, 0x0603, 0x0604, 0x0801, 0x0901, 0x1000, 0x1001, 0x1101].contains op

namespace State

/-- In lockstep the replies of work commands wait for the partner's journal confirmation, on both units (R91, R495). -/
def mirror (s : State) : Bool := s.pai.role != 0 && s.pai.mode == .lockstep

/-- SESSION_OPEN and SESSION_RESUME: from check 4 on (R69, R78, R88, R93). Their packets carry session 0000h, so no catalogue bit
is agreed for their flags. One that names an open session is run as if it carried 0000h (DESIGN CHOICE, assumption 158). -/
def openReceive (spec : OpSpec) (p : Pkt) (s : State) : State :=
  match headCheck p with
  | some a => s.refusePkt spec.code p a
  | none =>
    match flagCheck p with
    | some a => s.refusePkt spec.code p a
    | none =>
      if p.sess ≠ 0 ∧ (s.session p.sess).isNone then s.refusePkt spec.code p (Ans.bare stSessionUnknown 0)
      else if p.urgent then s.refusePkt spec.code p (Ans.bare stBadOpcode 1)
      else if s.sys.fw = .recovery ∧ romAccepts s spec.code = false then s.refusePkt spec.code p (Ans.bare stDenied 0x000D)
      else if p.fragment then s.refusePkt spec.code p (Ans.bare stNotNegotiated 6)
      else if p.acc ≠ 0 then s.refusePkt spec.code p (Ans.bare stBadParam 0xFFFF)
      else
        let c : Cmd := {
          sess := 0, acc := 0, opcode := spec.code, params := p.body, pre := p.pathLen, via := p.via, agreed := 0, replay := false }
        match spec.run c s with
        | (s', .fin a) =>
          let s' := s'.reply spec.code p a
          if spec.code = 0x0002 then s'.afterResume (u16 p.body 0) else s'
        | (s', .refuse a) => s'.refusePkt spec.code p a
        | (s', _) => s'

/-- With MRAM failed the ROM holds no session and answers UPD_STATE_READ and SYS_RESET alone, after the checks that need no session
(R78, R540). -/
def bareReceive (version op : Nat) (p : Pkt) (s : State) : State :=
  match opSpec? op with
  | none => s
  | some spec =>
    if romAccepts s op = false then s
    else match headCheck p with
    | some a => s.refuseVer version op p a
    | none =>
      if version ≠ 2 then s.refuseVer version op p (Ans.bare stBadOpcode 0xFFFE)
      else match flagCheck p with
      | some a => s.refusePkt op p a
      | none =>
        if p.urgent then s.refusePkt op p (Ans.bare stBadOpcode 1)
        else
          let c : Cmd := {
            sess := p.sess, acc := p.acc, opcode := op, params := p.body, pre := p.pathLen, via := p.via, agreed := 7, replay := false }
          match spec.run c s with
          | (s', .fin a) => s'.reply op p a
          | (s', .refuse a) => s'.refusePkt op p a
          | (s', _) => s'

/-- A packet of an assigned opcode at the device it is meant for. -/
def receiveOp (spec : OpSpec) (p : Pkt) (s : State) : State :=
  if spec.code = 0x0001 ∨ spec.code = 0x0002 then s.openReceive spec p
  else s.receive s.mirror holdsOp spec p

/-- BAD_OPCODE: a VERSION other than 02h, or an opcode that no row assigns, judged in R78's order. -/
def badOpcode (opcode version : Nat) (p : Pkt) (s : State) : State :=
  match headCheck p with
  | some a => s.refuseVer version opcode p a
  | none =>
    if version ≠ 2 then s.refuseVer version opcode p (Ans.bare stBadOpcode 0xFFFE)
    else match flagCheck p with
    | some a => s.refusePkt opcode p a
    | none =>
      if p.sess = 0 then s.refusePkt opcode p (Ans.bare stNotNegotiated 0xFFFF)
      else match s.session p.sess with
      | none => s.refusePkt opcode p (Ans.bare stSessionUnknown 0)
      | some _ => (s.mapSession p.sess (hear opcode p s.now)).refusePkt opcode p (Ans.bare stBadOpcode 0)

/-- A packet at the device it is meant for, by opcode and VERSION. -/
def judgeOp (version op : Nat) (p : Pkt) (s : State) : State :=
  if s.sys.fw = .recovery ∧ s.sys.badParts.contains .mram then s.bareReceive version op p
  else if version ≠ 2 then s.badOpcode op version p
  else match opSpec? op with
  | some spec => s.receiveOp spec p
  | none => s.badOpcode op version p

/-- A packet by opcode and VERSION. A fold-routed one from a host goes its way, unless it ends here (R77, R464 to R466). -/
def deliverOp (version op : Nat) (p : Pkt) (s : State) : State :=
  if p.far then
    match s.routeHost version op p with
    | (s, some p) => s.judgeOp version op p
    | (s, none) => s
  else s.judgeOp version op p

/-- A packet of the merged intake (R482). -/
def deliverItem (op : Nat) (p : Pkt) (s : State) : State := s.deliverOp 2 op p

/-- The queue that takes a transport's packets in (R430). -/
def intakeQueue : Via → Nat
  | .udp _ _ => 0
  | .spi => 1
  | .fold _ _ => 2

/-- Whether the device takes packets over a transport at all: in Run and native mode, with a core that runs intake (R2, R40, R61) and the
transport's queue in service (R429);
UDP needs MAC0 running with its link up and an address (R106, R390), and in the ROM the stored address (R540). The ROM entered with CX_MODE
high serves no host: R2 and R540 differ (DESIGN CHOICE, assumption 159). -/
def hearsHost (s : State) (via : Via) : Bool :=
  s.sys.power == .run && !s.sys.cx && s.sys.fw != .none && !s.coresDown && !s.fixedDown (intakeQueue via) &&
  (match via with
   | .udp _ _ => if s.sys.fw = .recovery then !s.cfg.lost && Tab.getD 0x0B06 0 s.cfg.stored.params != 0 else s.ethUp 0 && s.prm 0x0B06 != 0
   | _ => true)

/-- What a command packet from outside does: over SPI none is taken while queue 3 lacks room (R107); during a pause of the firmware it stays in the intake (R531); a unit that is shut
answers a few opcodes and forwards or discards the others (R490); in lockstep it is shared with the partner (R482).
One for a queue out of service is dropped and counted (R429). -/
def hostPacket (version op : Nat) (p : Pkt) (s : State) : State :=
  if s.hearsHost p.via = false then (if s.fixedDown (intakeQueue p.via) then s.dropFixed (intakeQueue p.via) else s)
  else if p.via = .spi ∧ s.spiFull then s
  else if s.sys.fw = .paused then s.mapFld (fun f => { f with routedIn := f.routedIn ++ [(version, op, p)] })
  else if s.pairShut ∧ pairAnswers op = false then (if s.pai.trained then s.emit (.pairItem (.cmd op p 0)) else s)
  else if version ≠ 2 then s.deliverOp version op p
  else s.pairInput (.cmd op p 0) (fun s => s.deliverOp 2 op p)

/-- Bytes that are one packet: discarded and counted where they fail checks 1 to 3 of R78. -/
def wirePacket (via : Via) (b : Bytes) (s : State) : State :=
  if s.hearsHost via = false then s
  else match headFault b with
  | some k => s.badPacket via k
  | none => if bit (u8 b 3) 0 ∨ bit (u8 b 3) 4 then s.badPacket via 3 else s.hostPacket (u8 b 2) (u16 b 4) (pktOf via b)

/-- A datagram to SYS_UDP_PORT is a host packet, answered to the MAC it came from (R106, R390). -/
def takeDatagram (mac ip port : Nat) (b : Bytes) (s : State) : State :=
  let known (a : Nat) : Bool := s.ses.sessions.any (fun e => match e.2.via with | .udp x _ => x == a | _ => false)
  (s.mapEth (fun e => { e with peers := Tab.put ip mac (e.peers.filter (fun (p : Nat × Nat) => known p.1)) })).wirePacket (.udp ip port) b

/-- The commands that waited during a pause, and those that came over the fold (R465). -/
def drainIntake (s : State) : State :=
  let q := s.fld.routedIn
  let s := s.mapFld (fun f => { f with routedIn := [] })
  q.foldl (fun s (x : Nat × Nat × Pkt) => s.deliverOp x.1 x.2.1 x.2.2) s

/-! ### Numbered packets that wait (R84) -/

/-- The first packet that waits in a session whose earlier effects are in place is judged. -/
def judgeWaiting (s : State) : Option State :=
  match List.find? (fun (e : Nat × Session) => match e.2.waiting with
      | [] => false
      | (op, _, params) :: _ => !blocked holdsOp op params s e.1) s.ses.sessions with
  | none => none
  | some (n, x) => match x.waiting with
    | [] => none
    | (op, p, params) :: rest =>
      let s := s.mapSession n (fun x => { x with waiting := rest })
      match opSpec? op with
      | none => some s
      | some spec =>
        let c : Cmd := {
          sess := n, acc := p.acc, opcode := op, params := params, pre := p.pathLen, via := p.via, agreed := x.agreed, replay := false }
        some (s.judgeNumbered s.mirror spec p c x)

/-- Judges the packets that wait, as far as they may be. -/
def judgeAll : Nat → State → State
  | 0, s => s
  | k + 1, s =>
    match s.judgeWaiting with
    | some s => judgeAll k s
    | none => s

/-- Every packet that may be judged now. -/
def pumpWaiting (s : State) : State :=
  if s.fwRuns = false then s
  else judgeAll (s.ses.sessions.map (fun (e : Nat × Session) => e.2.waiting.length)).sum s

/-! ### Journaled commands run again (R90) -/

/-- Runs one journaled command again: its execution checks are made again, and a failure completes it. -/
def replayEntry (e : JEntry) (s : State) : State :=
  match opSpec? e.opcode with
  | some spec =>
    if e.opcode = 0x0102 then s
    else if e.opcode = 0x0004 then s
    else
      let c : Cmd := {
        sess := e.sess, acc := e.acc, opcode := e.opcode, params := e.params, pre := e.pre.length
        via := match s.session e.sess with | some x => x.via | none => .spi
        agreed := match s.session e.sess with | some x => x.agreed | none => s.deviceCat
        replay := true }
      match spec.run c s with
      | (s, .fin a) => s.complete e.sess e.acc a
      | (s, .refuse a) => s.complete e.sess e.acc a
      | (s, _) => s
  | none => s

/-- Every journaled command without a completion entry, in accession order by session (R90). -/
def replayJournal (s : State) : State :=
  ((s.ses.journal.filter (fun e => e.result.isNone)).foldl (fun s e => s.replayEntry e) s).pumpBarriers

end State

end Sys2Proof.Machine
end

