-- ==== Sys2Proof/Machine/Settle.lean ====
section
/-! DEFINITION. What follows every command: standing orders are matched and their remedies applied (R20 to R26), the unit of a pair
yields on its own faults (R489), packets and fold messages that are due are sent, and waiting packets are judged (R84, R467). -/

namespace Sys2Proof.Machine

/-- The scope of an entry meets an event's (R22). -/
def scopeMeets (e : Nat) (m : MatchItem) : Bool :=
  let k := soKind e
  let i := soIndex e
  k == 0 || (k == m.kind && i == m.idx) || (k == 2 && m.kind == 1 && m.rclass == some i) || (k == 3 && m.kind == 1 && m.zones.contains i)

/-- An entry matches an event (R22). -/
def orderMeets (e : Nat) (m : MatchItem) : Bool :=
  soArmed e && soEvent e == m.code && scopeMeets e m && decide (soLevel e ≤ m.level)

/-- The hardware, and not firmware, applies this entry to this event: zeroizing for a tamper alarm (R515), and rolling back for
IMAGE_INVALID (R26, R536). -/
def hwHeld (e : Nat) (m : MatchItem) : Bool :=
  (m.code == 0x1001 && (soRemedy e == 6 || soRemedy e == 7)) || (m.code == 0x1108 && soRemedy e == 3)

/-- The events on which a unit of a pair yields (R489). -/
def yieldsOn (m : MatchItem) : Bool :=
  [0x0090, 0x0306, 0x0502, 0x0096, 0x0D06, 0x0202].contains m.code || (m.code == 0x0D02 && m.level == 2)

namespace State

/-- CROOK_STOP of an entry: none where the stop already stands or the table is full (R22, R346). -/
def crookRemedy (i e : Nat) (s : State) : Option State :=
  let k := soKind e
  let x := soIndex e
  if s.stopsAhead.alreadyHeld 2 k x (soArg e) then none
  else if s.stopsAhead.stopsFull k x then some (s.raise 0x0906 .fault i k x)
  else some (s.setStop 2 k x (soArg e))

/-- The DEVICE_RESET remedy: the event is in the Archive, and the reset waits for its boundary (R22). A reset to the recovery ROM
that waits already keeps its destination (assumption 135). -/
def deviceReset (s : State) : State :=
  (s.arcFlush).mapSys (fun y => { y with
    pendReset := some ⟨y.pendReset.any (fun p => p.recovery), 5, true, y.pendReset.any (fun p => p.rollback), y.pendReset.bind (fun p => p.reply)⟩
    wdtWait := none })

/-- The remedy of entry `i`, unless it is already in effect for its scope (R21, R22). The Boolean says whether REMEDY_APPLIED
follows: not where a full stop table turns the stop away. -/
def remedy (i : Nat) (e : Nat) (m : MatchItem) (s : State) : Option (State × Bool) :=
  match soRemedy e with
  | 0 => some (s, true)
  | 1 => (s.crookRemedy i e).map (fun t => (t, !s.stopsAhead.stopsFull (soKind e) (soIndex e)))
  | 2 => if s.sys.pendReset.any (fun p => p.device) then none else some (s.deviceReset, true)
  | 3 => match s.upd.trial with
    | none => none
    | some t => if t.bootUsed ∧ s.sys.pendReset.any (fun p => p.rollback) then none else some ((s.arcFlush).imageRollback, true)
  | 4 => if s.clk.step.isSome ∨ s.clk.slewOn = false then none else some (s.armStep, true)
  | 5 => if s.inControl then none else some (s.takeControl m.code, true)
  | 6 => if s.zeroedFor 6 then none else some (s.zeroizeWorking, true)
  | 7 => if s.zeroedFor 7 then none else some (s.zeroizeAll, true)
  | 8 =>
    let n := if soKind e = 5 then some (soIndex e) else none
    if s.axisRamped n then none else some (s.axisEmergency n, true)
  | _ => none

/-- Applies one matching entry: events its remedy raises are not matched (R23). -/
def applyOrder (m : MatchItem) (s : State) (o : Nat × Nat) : State :=
  let q := s.sys.toMatch
  match s.remedy o.1 o.2 m with
  | none => s
  | some (t, note) =>
    let t := if note then t.raise0 0x0080 .notice o.1 0 else t
    t.mapSys (fun y => { y with toMatch := q })

/-- The remedies that end in a reset come after the others (R22, assumption 135). -/
def resets (e : Nat) : Bool := soRemedy e == 2 || soRemedy e == 3

/-- Applies the entries that match one event, in ascending order, a reset last (R22). -/
def matchItem (s : State) (m : MatchItem) : State :=
  let hits := s.sys.orders.filter (fun (o : Nat × Nat) => orderMeets o.2 m && !hwHeld o.2 m)
  let s := (hits.filter (fun (o : Nat × Nat) => !resets o.2)).foldl (applyOrder m) s
  (hits.filter (fun (o : Nat × Nat) => resets o.2)).foldl (applyOrder m) s

/-- Matches the events raised, in the order of the event queue (R24); while no firmware runs, matching waits (R26), and with cores
0 and 1 halted nothing matches (R64). -/
def matchOrders (s : State) : State :=
  if s.sys.power ≠ .run ∨ s.fwRuns = false ∨ s.coresDown then s
  else
    let q := s.sys.toMatch
    q.foldl matchItem (s.mapSys (fun y => { y with toMatch := [] }))

/-- The unit yields when it has raised an event of R489; `before` counts the events that waited already. -/
def selfYield (before : Nat) (s : State) : State :=
  if s.pai.role ≠ 0 ∧ (s.sys.toMatch.drop before).any yieldsOn then s.unitYield 1 else s

/-- An output that goes on by another unit of the block: a packet over UDP to MAC0's transmit queue (R106), one over the fold to
its tier (R465, R467). -/
def sendOut (s : State) (o : Output) : State :=
  match o with
  | .packet (.udp ip port) r => s.ethReply (bit r.flags 2) ip port r
  | .packet (.fold f src) r => match s.tierOf f with
    | some k => s.foldSend k msgRouted (some src) (replyWhole r)
    | none => s
  | _ => s

/-- Sends on what the outputs from position `n` on ask for. -/
def sendOuts (n : Nat) (s : State) : State := (s.out.drop n).foldl sendOut s

/-- The Test state of the Archive (R556): an episode runs while a mismatch test or a resynchronisation does. -/
def testEpisode (s : State) : State :=
  let on := s.pai.test.isSome || s.pai.mode == .resync
  match s.episode with
  | none => if on then s.mapArc (fun a => { a with episode := some .test, epCounts := [] }) else s
  | some .test => if on then s else s.mapArc (fun a => { a with episode := none, epCounts := [] })
  | _ => s

/-- What ends every command of native mode. -/
def settleNative (before : Nat) (s : State) : State :=
  let s := (s.selfYield before).matchOrders
  let s := s.pumpWaiting.tickMapRefresh
  let s := s.forwardStop.foldFlush
  let s := if s.pai.role = 0 then s else s.releaseConfs.testEpisode
  s.sendOuts 0

/-- What ends every command: once firmware runs, the notices of entries that hardware applied (R23, R515); in CX mode the events go to
GET_EVENT's store alone (R577). -/
def settle (before : Nat) (s : State) : State :=
  let s := if s.fwRuns then s.tamperReport else s
  if s.sys.cx then s.cxEvents else s.settleNative before

/-- With the controller die unpowered no firmware runs, and no event, packet, reply or console line waits (R65, R66, R599). -/
def unpowered (s : State) : State :=
  if s.sys.power = .run then s
  else { s with
    sys := { s.sys with fw := .none, toMatch := [], console := [] }
    ses := { s.ses with spiOut := [] }
    cx := { s.cx with reply := none } }

/-- The state that a command meets: time has passed, and the stops due in it have taken effect (R362). -/
def before (dt : Nat) (s : State) : State := (s.advance dt).stopsDue

/-- A command's whole effect: time passes, the command acts, and what follows from it is done. No command reaches the queue of the
commands that wait, the model's clock but by `dt`, or what the module holds from manufacture. -/
def act (dt : Nat) (f : State → State) (s : State) : State :=
  let t := s.before dt
  let t := ((f t).settle t.sys.toMatch.length).unpowered
  { t with pending := s.pending, now := s.now + dt, fac := s.fac }

/-- A row of a native block that is absent in CX mode (R2), and needs control firmware to run or to pause. -/
def native (f : State → State) (s : State) : State :=
  if s.sys.power = .run ∧ s.sys.cx = false ∧ (s.sys.fw = .running ∨ s.sys.fw = .paused) then f s else s

/-- A row of hardware that works in native mode whenever the K9 is in Run, whatever the cores do. -/
def nativeHw (f : State → State) (s : State) : State := if s.sys.power = .run ∧ s.sys.cx = false then f s else s

/-- A row that works in both modes while firmware runs. -/
def inRun (f : State → State) (s : State) : State :=
  if s.sys.power = .run ∧ (s.sys.fw = .running ∨ s.sys.fw = .paused) then f s else s

/-- A row of CX mode alone. -/
def inCx (f : State → State) (s : State) : State := if s.sys.power = .run ∧ s.sys.cx then f s else s

end State

end Sys2Proof.Machine
end

