-- ==== Sys2Proof/Machine/Start.lean ====
section
/-! DEFINITION. Reset, boot, the recovery ROM and the power states (R56 to R68, R90, R280, R345, R361, R420, R437, R536 to R540, R556,
R559, R598 to R601). A boot is one step here: its duration is the next command's `dt` (assumption 14). -/

namespace Sys2Proof.Machine

/-- All eight samples of a strap agree on a level (R59). -/
def strapAll (l : List Bool) (v : Bool) : Bool := !l.isEmpty && l.all (fun x => x == v)

/-- The samples of a strap disagree (R59). -/
def strapMixed (l : List Bool) : Bool := l.any id && l.any (fun x => !x)

/-- The part that a code of the boot observation names (R61). -/
def partOf (x : Nat × Nat) : Option Part :=
  match x.1 with
  | 0 => if x.2 < 48 then some (.bank x.2) else none
  | 1 => if x.2 < 4 then some (.engine x.2) else none
  | 2 => if x.2 < 4 then some (.chain x.2) else none
  | 3 => some .gnss
  | 4 => some .pairLink
  | 5 => some .mram
  | 6 => if x.2 < 8 then some (.core x.2) else none
  | _ => none

/-- The scope of a part in SELFTEST_FAIL (R18, R61). R18 has no scope kind for the front end, the pair link, the MRAM and the cores: they
are reported with scope 0h and index 0 (DESIGN CHOICE, assumption 149). -/
def Part.scope : Part → Nat × Nat
  | .bank n => (7, n) | .engine n => (6, n) | .chain n => (4, n) | _ => (0, 0)

/-- A failure that keeps the K9 in the recovery ROM (R61). -/
def Part.fatal : Part → Bool
  | .mram => true | .core n => decide (n < 2) | _ => false

/-- What MRAM keeps of a robot's registration (R218, R223, R224, R439). -/
def Robot.kept (mcs now : Nat) (x : Robot) : Robot :=
  { Robot.fresh x.eui x.cls x.legacy x.sleepOk x.keySlot x.chain mcs now with
    genIssued := x.genIssued, joinRx := x.joinRx, joinTx := x.joinTx }

/-- A legacy member's CX-era state after a reset. -/
def CxRobot.kept (x : CxRobot) : CxRobot := CxRobot.fresh x.eui x.addr

/-- Whether firmware load makes an entry overstayed (R280): none of this device's robots is joined, and of another's robot the entry's
window tells. -/
def Entry.hitAtLoad (s : State) (e : Entry) : Bool := if e.robot < 256 then e.kind == 0 || e.kind == 1 else s.windowEnded e

namespace State

/-! ### What a reset keeps and loses -/

/-- The blocks whose state SRAM and registers hold, after a reset; MRAM and NOR contents stand (R56, R420, R437, R439). -/
def clearBlocks (s : State) : State :=
  let now := s.now
  { s with
    mem := { Mem.reset with scrubStart := now }
    gns := { Gns.reset with survey := none, surveyed := s.gns.surveyed, eph := s.gns.eph, alm := s.gns.alm }
    fix := { Fix.reset with robots := Tab.mapVals (fun _ (x : FixRobot) =>
      { FixRobot.fresh with base := x.base, rate := x.rate, keyFirst := x.base, lastGood := now }) s.fix.robots }
    air := Air.reset
    lnk := { Lnk.reset with
      robots := Tab.mapVals (fun _ (x : Robot) => x.kept 0 now) s.lnk.robots, flockGen := s.lnk.flockGen, flockKey := s.lnk.flockKey }
    pas := { Pas.reset with
      entries := s.pas.entries, hurdles := s.pas.hurdles, borders := s.pas.borders, nextXid := s.pas.nextXid
      peak := s.pas.entries.length
      robots := Tab.mapVals (fun _ (x : PasRobot) => { PasRobot.fresh with p := x.pNext.getD x.p, lastGrant := x.lastGrant }) s.pas.robots }
    tsk := { Tsk.reset with
      serial := s.tsk.serial, resultSeq := s.tsk.resultSeq, submits := s.tsk.submits
      tasks := Tab.mapVals (fun _ (t : Task) => { t with cancel := none }) s.tsk.tasks, proxies := s.tsk.proxies }
    crk := { Crk.reset with
      all := s.crk.all, table := s.crk.table.map (fun e => { e with carried := none }), openA := s.crk.openA, openB := s.crk.openB
      latched := s.crk.latched, backup := s.crk.backup, disc := s.crk.disc, bothOpen := s.crk.bothOpen, mram := s.crk.mram }
    axs := s.axs.map (fun a => { Axis.reset with refActive := a.refActive })
    eth := Eth.reset
    can := Can.reset
    fld := { Fld.reset with stops := s.fld.stops, stopSeq := s.fld.stopSeq } }

/-- Sessions and journal after a reset: partial reassemblies, packets not yet judged, and replies waiting for SPI are lost (R90, R93,
R437); the sessions that MRAM keeps come back when the ROM has served (R540). -/
def clearSessions (s : State) : State :=
  let kept := s.ses.romKept.getD s.ses.sessions
  s.mapSes (fun z => { Ses.reset with
    sessions := Tab.mapVals (fun _ (x : Session) => { x with part := none, waiting := [] }) kept
    journal := (z.journal.filter (fun e => e.close.isNone)).map (fun e => { e with awaitConf := none }), lastSession := z.lastSession })

/-- The system block at a reset; the pad and console state, events and captures are lost. What the recovery ROM raised, or a pause
of the control firmware, is matched in the first tick of firmware (R26). -/
def clearSys (cause : Nat) (cx : Bool) (s : State) : State :=
  { s with sys := { Sys.reset with
      fw := .none, cx := cx, resetCause := cause, slots := s.prm 0x0010, events := [], nextSeq := 1, snapFails := s.sys.snapFails
      toMatch := if s.sys.fw = .recovery ∨ s.sys.fw = .paused then s.sys.toMatch else [] } }

/-- The Archive at a reset: the open block and interval are lost with SRAM (R555, R557); `keep` are entries that another unit
captured (R64). -/
def clearArc (keep : List (Event × Nat × Nat)) (s : State) : State :=
  s.mapArc (fun a => { a with
    block := keep, start := 0, startNow := s.now, metrics := [], codes := [], suppressed := 0, episode := some .startup, epCounts := []
    startupEnd := s.now + 86400000000000 })

/-! ### Self-test (R61) -/

/-- The parts that fail are out of service, with SELFTEST_FAIL for each; MRAM and cores 0 and 1 keep the K9 in the ROM. A bank that
fails is retired (R428), the spare first, so that no bank goes onto a spare that failed. -/
def selfTest (ps : List Part) (s : State) : State :=
  let s := ps.foldl (fun s p =>
    let s := s.mapSys (fun y => { y with badParts := y.badParts ++ [p] })
    let s := match p with
      | .engine n => s.mapFix (fun f => { f with enginesBad := f.enginesBad ++ [n] })
      | .chain n => s.mapChain n (fun c => { c with bad := true })
      | _ => s
    s.raise 0x0093 .fault 1 p.scope.1 p.scope.2) s
  let s := if ps.contains (.bank 47) then s.retireBank 47 else s
  ps.foldl (fun s p => match p with
    | .bank n => s.retireBank n
    | _ => s) s

/-- BUDGET_SHORT for the engines, enabled chains and cores 2 to 7 that failed self-test, under the configuration loaded (R51). A lost core
has no scope in R604: it has the scope of the watchdog's (assumption 149). -/
def selfTestShort (s : State) : State :=
  s.sys.badParts.foldl (fun s p => match p with
    | .engine n => s.budgetShort 1 6 n
    | .chain n => if bit (s.prm 0x0501) n then s.budgetShort (6 + n) 4 n else s
    | .core n => if 2 ≤ n then s.budgetShort 5 0 0 else s
    | _ => s) s

/-- The lowest entry of the stored standing orders that answers IMAGE_INVALID of a part with IMAGE_ROLLBACK (R22, R536). -/
def rollbackOrder (s : State) (p : Nat) : Option Nat :=
  (List.find? (fun (e : Nat × Nat) =>
    soArmed e.2 && soEvent e.2 == 0x1108 && soRemedy e.2 == 3 && soKind e.2 == 0 && decide (soLevel e.2 ≤ p)) s.cfg.stored.orders).map Prod.fst

/-- Image selection with what is reported of it (R23, R536, R61): the state, whether the ROM keeps the K9, the trial parts reverted and
the parts that fell back, for each of which the ROM has applied an entry. -/
def pickImages (unloaded : List (Nat × Nat)) (s : State) : State × Bool × Nat × List Nat :=
  let k := s.selectImages (fun p => (s.rollbackOrder p).isSome) unloaded
  let t := k.invalid.foldl (fun s p => s.raise0 0x1108 .fault p 0) k.st
  let q := t.sys.toMatch
  let t := k.fallback.foldl (fun s p => match s.rollbackOrder p with
    | some i => s.raise0 0x0080 .notice i 0
    | none => s) t
  ((t.mapSys (fun y => { y with toMatch := q })).mapU (fun u => { u with fellBack := k.fallback }), k.stuck, k.reverted, k.fallback)

/-! ### Firmware load -/

/-- UPD_BEGIN, UPD_WRITE and UPD_ACTIVATE without a completion entry end with UPD_ABANDONED (R539). -/
def abandonUpdates (flipped : Nat) (s : State) : State :=
  (s.ses.journal.filter (fun e => e.result.isNone && [0x1101, 0x1102, 0x1104].contains e.opcode)).foldl (fun s e =>
    s.complete e.sess e.acc (Ans.bare 0x1144 (if e.opcode = 0x1104 then flipped else 0))) s

/-- A new flock key (R225), unless the noise source has failed (R502). -/
def drawFlock (s : State) : State :=
  if s.vit.rngFault then s
  else
    let (k, s) := s.draw 128
    s.mapLnk (fun l => { l with flockGen := l.flockGen + 1, flockCtr := 0, flockKey := k, flockNext := none })

/-- The flock at firmware load: registrations in state 0 (R218), a new flock key, the identity latched (R244), a map (R204), and the map
of the COMMITs that run again (R205, R543). -/
def loadFlock (s : State) : State :=
  let s := s.drawFlock
  let s := s.mapLnk (fun l => { l with
    flockEui := s.prm 0x0511
    robots := Tab.mapVals (fun _ (x : Robot) => { x with dlMcs := s.prm 0x0508, ulMcs := s.prm 0x0508 }) l.robots })
  let s := match placeMap s.siteNow with
    | .ok m => s.mapAir (fun a => { a with map := m })
    | .error _ => s
  match placeMap s.siteMap with
  | .ok m => if m = s.air.map then s else s.acceptMap m
  | .error _ => s

/-- The pasture at firmware load: entries are overstayed, with OVERSTAY for each robot of which one changes (R277, R280; assumption
174), and a border run without a decision is aborted (R283). -/
def loadPasture (s : State) : State :=
  let bs := s.pas.borders
  let now := s.rtNow
  let hit := s.pas.entries.filter (fun e => Entry.hitAtLoad s e && e != overstayEntry now e)
  let s := s.mapPas (fun p => { p with
    entries := p.entries.map (fun e => if Entry.hitAtLoad s e then overstayEntry now e else e), borders := [] })
  let s := (((hit.map (fun e => e.robot)).dedup).filter (fun r => decide (r < 256))).foldl (fun s r => s.overstayed r) s
  bs.foldl (fun s b => (b.waiting ++ b.voted).foldl (fun s d => s.decide1 b.xid d true) s) s

/-- Crook at firmware load (R345, R361): the stops found are watched again, and the loop's copy follows the configuration. -/
def loadCrook (s : State) : State :=
  let s := s.rebuildStops
  let w := (if s.crk.all.isEmpty then [] else [(⟨0, 0, s.now, false, [], []⟩ : StopWatch)]) ++
    s.crk.table.map (fun e => ⟨e.kind, e.index, s.now, false, [], []⟩)
  ((s.mapCrk (fun k => { k with watch := w })).copyLoopPrms).loopAfterLoad

/-- The survey of R135 starts when no result is stored. -/
def loadSurvey (s : State) : State :=
  if s.prm 0x0218 = 1 ∧ s.gns.surveyed = none then s.startSurvey none else s

/-- The configuration at firmware load (R543); with both copies lost there is none. -/
def loadStored (s : State) : State :=
  let s := if s.cfg.lost then s.mapCfg (fun c => { c with lost := false, stored := Gen.reset, pend := [] }) else s
  (s.loadConfig).refreshClaims s.cfg.stored.num

/-- What the K9 reports once firmware runs, in either mode (R57, R59, R66, R184, R536, R538, R539). `fails` counts the Standby snapshots
without a solution (R68, assumption 136). -/
def bootReports (was : Power) (fails unst reverted : Nat) (fallback : List Nat) (s : State) : State :=
  let s := s.raise0 0x0091 .notice (s.sys.resetCause % 16) 0
  let s := if s.clk.state = .none then s.raise0 0x0408 .notice 1 0 else s
  let s := if unst = 0 then s else s.raise0 0x0092 .warning unst 0
  let s := if reverted = 0 then s else s.raise0 0x1105 .warning reverted 0
  let s := fallback.foldl (fun s p => s.raise0 0x1106 .fault p 0) s
  let s := if s.upd.lockLost then (s.mapU (fun u => { u with lockLost := false })).raise0 0x1101 .notice 4 0 else s
  match was with
  | .standby => s.raise0 0x0094 .notice 0 fails
  | .backup => s.raise0 0x0094 .notice 2 0
  | _ => s

/-- Firmware load and the first tick of native mode (R60 steps 8 and 9). -/
def loadFirmware (lostI lostB : Bool) (flipped : Nat) (o : BootObs) (s : State) : State :=
  let s := s.loadStored
  let s := s.mapSys (fun y => { y with fw := .running, slots := s.prm 0x0010 })
  let s := s.arcLoad lostI lostB [s.partVersion 1, s.partVersion 2, s.partVersion 3, s.partVersion 4]
  let s := s.mapSys (fun y => { y with
    orders := s.cfg.eff.orders, ordersAt := s.cfg.eff.orders
    wdtOrders := s.cfg.eff.orders.filter (fun (e : Nat × Nat) => soArmed e.2 && soEvent e.2 == 0x0090 && soRemedy e.2 == 2) })
  let s := s.holdOrders.holdTamper.syncQueues.canConfigure
  let s := s.mapTsk (fun k => { k with wAge := s.prm 0x0807 })
  let s := s.mapAir (fun a => { a with asn := alignedAsn s.clk.count, tick := s.tickNoNow })
  let s := s.loadFlock.loadPasture.loadCrook.loadSurvey.selfTestShort
  let s := s.mapPai (fun p => { p with
    loadAt := s.now, bootTrained := (o.lane0 || o.lane1) && !s.sys.badParts.contains .pairLink, yieldAtBoot := false })
  let s := s.abandonUpdates flipped
  let s := s.replayJournal
  if s.pai.bootTrained then s.linkTrained o.lane0 o.lane1 else s

/-- The boot sequence of R60 from the release of the internal reset: straps, image selection, self-test, and firmware load, CX mode
or the recovery ROM. `cold`: the backup domain has lost power; `rom`: the reset asks for the ROM; `keep`: captured entries. -/
def boot (cause : Nat) (cold rom : Bool) (keep : List (Event × Nat × Nat)) (o : BootObs) (s : State) : State :=
  let cx := strapAll o.cxMode true
  let unst := b2n (strapMixed o.cxMode) + 2 * b2n (strapMixed o.recoverN)
  let lostB := s.arc.block.length != keep.length
  let lostI := !s.arc.metrics.isEmpty || !s.arc.codes.isEmpty
  let flipped := match s.upd.act with | some a => a.flipped | none => 0
  let was := s.sys.power
  let fails := s.sys.snapFails
  let yield := s.pai.yieldAtBoot
  let s := (((s.clearSys cause cx).clearArc keep).clearSessions).clearBlocks
  let s := if cold then s.loseStops.mapCrk (fun k => { k with backup := [1, 100, 50, 1, 1] }) else s
  let s := ((s.loadCalendar cold o.calErr).pairReset).updReset
  let s := (s.vitReset cold).mapVit (fun v => { v with rootBad := o.rootBad })
  let s := s.tamperBoot
  let s := if cx then s.cxLineAtReset o.openA else s.loopAtReset cold o.openA o.openB
  let (s, stuck, reverted, fallback) := s.pickImages o.unloaded
  let ps := o.bad.filterMap partOf
  let s := s.selfTest ps
  let rom := rom || strapAll o.recoverN false || stuck || ps.any Part.fatal
  let cause := cause + 256 * b2n cold + 512 * b2n (s.upd.trialBoot && !rom) + 1024 * b2n rom + 2048 * b2n (unst != 0)
  let s := s.mapSys (fun y => { y with resetCause := cause })
  let report (s : State) : State := s.bootReports was fails unst reverted fallback
  if rom then
    let s := if ps.contains .pairLink then s else s.linkTrained o.lane0 o.lane1
    let s := s.mapSes (fun z => { z with sessions := [], romKept := some z.sessions })
    (s.mapCfg (fun c => { c with eff := if c.lost then Gen.reset else c.stored })).mapSys (fun y => { y with fw := .recovery })
      |>.mapArc (fun a => { a with episode := some .recovery })
  else if cx then
    let s := (s.mapSys (fun y => { y with fw := .running })).cxBoot
    report (s.arcLoad lostI lostB [s.partVersion 1, s.partVersion 2, s.partVersion 3, s.partVersion 4])
  else
    let s := report (s.loadFirmware lostI lostB flipped o)
    if yield then s.raise0 0x0F02 .fault 6 0 else s

/-! ### The reset and power rows -/

/-- What is written before a reset that the K9 chooses (R555, R557), and what a pair is told (R480). -/
def beforeReset (s : State) : State := ((s.arcFlush).arcEndInterval).pairStops

/-- POWER_ON: VIN rises, with the backup domain kept or lost (R56, R60). -/
def powerOn (o : BootObs) (s : State) : State :=
  match s.sys.power with
  | .backup => s.boot 2 false false [] o
  | .off => s.boot 1 true false [] o
  | _ => s

/-- EXTERNAL_RESET: RST_N low for 10 µs or longer (R56, R66). -/
def externalReset (o : BootObs) (s : State) : State :=
  match s.sys.power with
  | .run => s.pairStops.boot 3 false false [] o
  | .standby => s.boot 3 false false [] o
  | _ => s

/-- VIN_FALL: the device powers down into Backup (R65, R66, R599). -/
def vinFall (s : State) : State :=
  match s.sys.power with
  | .run => s.pairStops.mapSys (fun y => { y with power := .backup, fw := .none })
  | .standby => s.mapSys (fun y => { y with power := .backup })
  | _ => s

/-- VBAT_LOSS: with VIN absent too, the backup domain loses power (R65, R601). -/
def vbatLoss (s : State) : State :=
  match s.sys.power with
  | .backup => s.mapSys (fun y => { y with power := .off })
  | _ => s

/-- A fold message that carries the answer of a routed command (R467). -/
def carriesReply (f : EthFrame) (n a : Nat) : Bool :=
  match f.kind with
  | .fold t _ => t == msgRouted && (let r := replyOf (f.data.drop 16); r.sess == n && r.acc == a)
  | .reply m b => m == n && b == a
  | _ => false

/-- The answer of the command that asked for a reset or for Standby still waits on its port, SPI, MAC0 or a fold's link (R58, R66, R535). -/
def replyWaits (s : State) (w : Option (Nat × Nat)) : Bool :=
  match w with
  | none => false
  | some (n, a) =>
    s.ses.spiOut.any (fun r => r.sess == n && r.acc == a) ||
    s.eth.ports.any (fun p => (p.queues.flatten ++ p.waiting ++ p.busy.toList).any (fun f => carriesReply f n a)) ||
    s.ses.journal.any (fun e => e.sess == n && e.acc == a && (e.awaitConf.isSome || (e.later && !e.sent)))

/-- RESET_EXECUTE: the reset that SYS_RESET, a DEVICE_RESET or IMAGE_ROLLBACK remedy, UPD_ACTIVATE or the CX RESET asked for
(R22, R58, R535, R567). -/
def resetExecute (o : BootObs) (s : State) : State :=
  if s.sys.power ≠ .run then s
  else if s.sys.cx then
    match s.cx.resetAt with
    | some t => if t ≤ s.now then s.beforeReset.boot 4 false false [] o else s
    | none => s
  else match s.sys.pendReset with
    | some p => if s.replyWaits p.reply then s else s.beforeReset.boot p.cause false p.recovery [] o
    | none => s

/-- STANDBY_ENTRY (R66): once the answer of POWER_STANDBY has left, the event, then the Archive, then power-down. -/
def standbyEntry (s : State) : State :=
  match s.sys.pendStandby with
  | some p =>
    if s.sys.power = .run ∧ s.fwRuns ∧ s.replyWaits (some p.reply) = false then
      let s := (s.raise0 0x0094 .notice 1 0).arcEndInterval.arcFlush
      s.mapSys (fun y => { y with
        power := .standby, fw := .none, pendStandby := none, wakeMask := p.mask, snapFails := 0, snapLast := s.now })
    else s
  | none => s

/-- WAKE_PATTERN (R66, R397): a matching frame on a port that the wake mask enables. -/
def wakePattern (port : Nat) (frame : Bytes) (fcsOk : Bool) (o : BootObs) (s : State) : State :=
  if s.sys.power = .standby ∧ bit s.sys.wakeMask port ∧ s.wakeMatch port frame fcsOk then s.boot 7 false false [] o else s

/-- STANDBY_SNAPSHOT (R68): the calendar is set from the solved snapshot, with its deviation in ns, or the failure is counted. -/
def standbySnapshot (solved : Option (Nat × Nat)) (s : State) : State :=
  let p := s.prm 0x0016
  if s.sys.power ≠ .standby ∨ p = 0 ∨ s.now - s.sys.snapLast < p * 1000000000 then s
  else
    let s := s.mapSys (fun y => { y with snapLast := s.now })
    match solved with
    | some (t, sg) => s.calendarCopy t sg
    | none => s.mapSys (fun y => { y with snapFails := y.snapFails + 1 })

/-- WATCHDOG_HW_RESET (R64): the watchdog unit resets the device when an armed DEVICE_RESET has not been applied within
SYS_WDT_TICKS ticks; it keeps the event for the Archive of the next boot. -/
def watchdogHwReset (o : BootObs) (s : State) : State :=
  match s.sys.power, s.sys.wdtWait with
  | .run, some n =>
    if s.prm 0x0015 ≤ n then
      s.pairStops.boot 6 false false (s.arc.block.filter (fun x => x.1.code == 0x0090)) o
    else s
  | _, _ => s

end State

end Sys2Proof.Machine
end

