-- ==== Sys2Proof/Machine/Tick.lean ====
section
/-! DEFINITION. Superframe and tick boundaries: numbering, domains, the intake and the phases of R13 and R39, in their order
(R35 to R39, R54, R198, R483, R542). Every phase of a tick acts at its boundary (assumption 16). -/

namespace Sys2Proof.Machine

/-- What an antenna that gives nothing is observed as: RX_BIAS and the position difference of such an epoch are taken as 0, and both
checks of R126 run on them (DESIGN CHOICE, assumption 164). -/
def noEpoch : EpochObs := { sigs := [], bias := 0, drift := 0, posDiff := 0, sol := .none, disc := .none, nav := .none, eph := [], alm := [] }

/-- The units of work a line completes in its window (R54). -/
def doneOf (o : TickObs) (line : Nat) : Nat := Tab.getD line 65536 o.done

namespace State

/-! ### Numbering (R35, R38, R198) -/

/-- The number of the next tick (R38). -/
def nextTick (s : State) : Nat := (s.sys.tick + 1) % 2 ^ 32

/-- The ASN at the start of the slot that follows the present tick's last (R198). -/
def nextAsn (s : State) : Nat := (s.air.asn + s.sys.slots - (s.air.slot - 1)) % 2 ^ 40

/-- The number of slots of the ticks before tick `n`, which ASN equals while ticks are aligned (R198). -/
def asnOfTick (s : State) (n : Nat) : Nat := (n * s.sys.slots) % 2 ^ 40

/-- ASN takes its value of R198 in a single jump, and every robot's entries are converted. -/
def asnJump (asn : Nat) (s : State) : State :=
  let jumps := decide (asn ≠ s.nextAsn)
  let s := s.mapAir (fun a => { a with asn := asn, slot := 0, jump := false })
  if jumps then s.convertAll else s

/-- SUPERFRAME_BOUNDARY: what takes effect with a superframe, ahead of its first tick (R35, R198, R205, R218, R225, R323, R542). It
comes once at each tick whose number, counted from pasture time 0, is a multiple of 10. -/
def superframeOpens (s : State) : State :=
  let n := s.tickNoNow
  if n % 10 ≠ 0 ∨ s.air.tick = n ∨ s.sys.sfTick = 10 then s
  else
    let k := s.sfNumber
    let s := if s.air.jump ∧ s.sys.misalign.isNone ∧ s.timeValid then s.asnJump (s.asnOfTick n)
      else s.mapAir (fun a => { a with asn := s.nextAsn, slot := 0 })
    let s := s.mapSys (fun y => { y with sfTick := 10, sfCount := y.sfCount + 1 })
    let rs := s.starting
    let s := (((s.mapsTake).superframeLink k).foldSuperframe).retune
    (s.takeDomains [.AIR] s.nextTick).planJoined rs n

/-- The plan of the tick that opens: the one made in the last tick, without the chains whose plan was late (R54, R206); a pause of
the control firmware leaves none (R531). A chain whose plan was late sends its beacon alone. -/
def takePlan (s : State) : State :=
  let fs := s.air.planNext.filter (fun f => !(s.chain f.chain).planLate && s.sys.fw == .running)
  s.mapAir (fun a => { a with
    plan := fs, planNext := [], chains := a.chains.map (fun (k : ChainState) => { k with quiet := k.planLate, planLate := false }) })

/-- The tick's number, slots and place in its superframe. -/
def openTick (s : State) : State :=
  let s := s.alignNow
  let n := s.tickNoNow
  let s := if s.sys.sfTick = 10 then s else s.mapAir (fun a => { a with asn := s.nextAsn, slot := 0 })
  let s := s.mapAir (fun a => { a with tick := n })
  let s := s.mapSys (fun y => { y with tick := s.nextTick, sfTick := n % 10, wdtWait := y.wdtWait.map (fun k => k + 1) })
  (s.takePlan).deferTick.overrunTick.legacyOffers

/-! ### Measure and solve -/

/-- An epoch falls on the boundary just opened (R35, R115). -/
def epochDue (s : State) : Bool := s.air.tick * s.tickNs * s.prm 0x0201 % 1000000000 == 0

/-- The observations that count: none while the baseband reloads (R531). -/
def epochInput (s : State) (o : TickObs) : EpochObs := if s.gnssReloads then noEpoch else o.epoch.getD noEpoch

/-- The discipline input of an epoch, or the reason there is none (R176, R178, R189). -/
def epochDiscipline (o : EpochObs) (clkFail : Bool) (s : State) : State :=
  if s.prm 0x0400 ≠ 0 then s
  else if s.antCut 0 then s.discMissing 1
  else if s.gns.degraded.isSome then s.discMissing 2
  else if clkFail then s.discMissing 3
  else match o.disc with
  | some (d, e) => (s.discInput d e).alignNow
  | none => s.discMissing 4

/-- The baseband's part of an epoch: the set, the navigation data and the discipline. -/
def epochMeasure (o : TickObs) (s : State) : State :=
  let e := s.epochInput o
  let (s, clkFail) := s.epochPhase e
  let s := s.noteSlips
  let s := match s.gns.sets.head? with
    | some m => if s.merging ∧ s.pai.role = 1 then s.emit (.pairSet m) else s
    | none => s
  let s := match e.nav with
    | some (leap, ann) => s.navLeap leap ann
    | none => s
  s.epochDiscipline e clkFail

/-- The set of the epoch that falls on the boundary just opened. -/
def newSet (s : State) : Option MeasSet := if s.epochDue then s.gns.sets.head? else none

/-- Corrections for the air, RTCM and the legacy members at an epoch: the CCS frames of the next tick. -/
def epochCorrections (s : State) : State × List Bytes :=
  match s.newSet with
  | some m =>
    let (s, parts) := s.underNextAir (fun s => s.ccsPhase m)
    ((s.rtcmPhase m).legacyCorr m, parts)
  | none => (s, [])

/-! ### Budget use (R53, R558) -/

/-- The measured use of the lines, as peaks and metric samples; an AIR line's use is taken once per superframe. -/
def budgetUses (o : TickObs) (s : State) : State :=
  let ls := s.siteNow.lines
  let now := o.uses.filter (fun (e : Nat × Nat) => decide (1 ≤ e.1 ∧ e.1 ≤ 9) && (decide (e.1 < 6) || s.sys.sfTick == 0))
  now.foldl (fun s (e : Nat × Nat) =>
    let cap := match ls.find? (fun l => l.code == e.1) with | some l => l.cap | none => 0
    let s := s.mapSys (fun y => { y with peaks := Tab.put e.1 (max (Tab.getD e.1 0 y.peaks) e.2) y.peaks })
    s.sample e.1 (if cap = 0 then 0 else e.2 * 1000 / cap)) s

/-! ### The phases -/

/-- The intake of a tick (R39): packets that waited, uplinks, robots released at a superframe boundary (R241), key operations, hurdles, releases, CAN and axis commands, probes,
captures, tasks, and the fold's messages; a stop whose last robot without confirmation has gone is confirmed (R358). -/
def intake (s : State) : State :=
  let s := s.progressTick.drainIntake.airLosses.takeUplinks
  let s := if s.sys.sfTick = 0 then s.roamRelease else s
  let s := s.keyTick.hurdleTick.releaseTick
  let s := s.canTick.axesTick.probesTick.captureTick.snapTick
  s.taskCommands.foldTick.confirmStops.noteCover

/-- Measure and solve, Check: steps 1 to 3 of R13. -/
def solvePhases (o : TickObs) (s : State) : State × List Bytes :=
  let s := if s.epochDue then s.epochMeasure o else s
  let s := s.withheldPhase
  let (s, recs) := s.fixPhase (doneOf o 1) o.engines o.us
  let (s, parts) := s.epochCorrections
  let s := recs.foldl (fun s f => s.checkFix f) s
  ((recs.foldl (fun s f => s.evidenceFix f) s).gapTick, parts)

/-- Reserve, Firmware, Assign and Stage: steps 4 to 6 of R13. The assignment uses reservations as they stand at 0.60 T (R39) and the travel
tables as they stood at the intake (R317); the tables built in this tick use those held at the intake, `at0` (R318). -/
def workPhases (at0 : Pas) (o : TickObs) (s : State) : State :=
  let s := s.tickJobs.taskTimes
  let (s, at60) := s.reservePhase (doneOf o 3) o.early
  let n := min (s.prm 0x0012) (doneOf o 5)
  let (s, used) := (s.upkeepPhase (doneOf o 60)).planPhase n (s.prm 0x0012)
  let s := if doneOf o 4 = 0 then s.discardRound else s.withPas at60 assignPhase
  let s := s.withPas at0 (fun s => s.buildPhase (n - used))
  s.stagePhase.fillCores

/-- Close: steps 9 and 10 of R13. An overrun holds the work back to the next tick (R54). -/
def closePhases (o : TickObs) (s : State) : State :=
  let s := (s.ethClose.budgetUses o).endOverlap
  let ready := (s.tsk.tasks.filter (fun (e : Nat × Task) => e.2.state == 1)).length
  s.closePhase (doneOf o 10 != 0) o.dieTemp o.vinMv s.pas.entries.length ready

/-- The phases of one tick, in the order of R13 and R39. -/
def phases (o : TickObs) (s : State) : State :=
  let s := s.intake
  let at0 := s.pas
  let (s, parts) := (s.windowReads o.window).solvePhases o
  let s := (s.workPhases at0 o).planAir s.tickNs (s.air.tick + 1) ((s.air.tick + 1) % 10) parts
  s.closePhases o

/-- What goes on during a pause of the control firmware (R531): the Crook path, the axes and the intake queues. -/
def pausedPhases (s : State) : State := s.axesTick

/-! ### The boundary -/

/-- The standing orders that the tick matches, domains due, and commands with effect (R24, R542): a table that takes effect at this
boundary is matched from the next tick on. -/
def boundaryDomains (s : State) : State :=
  let s := s.mapSys (fun y => { y with orders := y.ordersAt })
  let ds := domainList.filter (fun d => d != .AIR)
  let s := (s.takeDomains ds s.sys.tick).takeLate
  let s := s.completeCommits s.sys.tick
  s.mapSys (fun y => { y with ordersAt := s.cfg.eff.orders })

/-- A unit that has left lockstep as the unit in control takes the inputs it held for MERGE, and runs the tick that waited for it. -/
def takeHeld (s : State) : State :=
  if s.merging then s
  else
    let items := s.pai.items
    let held := s.pai.heldTick
    let s := s.mapPai (fun p => { p with items := [], heldTick := none })
    let s := items.foldl (fun s x => s.applyInput deliverItem x.inp) s
    match held with
    | some o => s.phases o
    | none => s

/-- A tick in native mode: the beacons' stop token first, whatever the work has reached (R15, R201), and Close work that still waits
for a DIGEST; a standby that merges holds its phases for MERGE (R483). -/
def nativeTick (o : TickObs) (s : State) : State :=
  let s := s.chooseToken.closeDone
  let s := (s.takeHeld.openTick.updBoundary o.copied).pairBoundary o.ready o.beacon
  if s.sys.fw = .paused then s.pausedPhases
  else
    let s := s.boundaryDomains
    if s.merging ∧ s.pai.role = 2 then s.mapPai (fun p => { p with heldTick := some o })
    else s.phases o

/-- A tick in CX mode: the baseband, the RTCM stream and the Archive (R563, R574). -/
def cxTickOpens (o : TickObs) (s : State) : State :=
  let s := s.openTick
  let s := if s.epochDue then s.epochMeasure o else s
  let s := match s.newSet with | some m => s.cxRtcmPhase m | none => s
  s.arcClose o.dieTemp o.vinMv 0 0

/-- The ROM runs no ticks (R540): it ends an activation and writes the Archive's block when due (R535, R556). -/
def romTick (s : State) : State :=
  let s := s.updBoundary false
  if s.arcBlockDue then s.arcFlush else s

/-- TICK_BOUNDARY. -/
def tickOpens (o : TickObs) (s : State) : State :=
  if s.sys.power ≠ .run then s
  else match s.sys.fw with
  | .none => s
  | .recovery => s.romTick
  | _ => if s.sys.cx then s.cxTickOpens o else s.nativeTick o

/-- MERGE at the standby: the tick that waited runs (R483), on the active's measurement set only (R116, R482; assumption 142). -/
def mergeIn (m : MergeMsg) (s : State) : State :=
  s.pairMerge deliverItem phases m

end State

end Sys2Proof.Machine
end

