-- ==== Sys2Proof/Machine/RowsBlock.lean ====
section
/-! DEFINITION. Power, reset, ticks, sessions, diagnostics: the rows that no host packet carries. Each lets `dt` ns pass, acts, and settles what follows. -/

namespace Sys2Proof.Machine

namespace State

/-- SPI_READ (R107, R564): the oldest waiting packet goes out, and leaves queue 3 when all its bytes have been clocked. -/
def spiRead (whole : Bool) (s : State) : State :=
  if s.sys.power ≠ .run then s
  else if s.sys.cx then
    match s.cx.reply with
    | some f => if whole then (s.mapCx (fun x => { x with reply := none })).emit (.cxReply true f) else s
    | none => s
  else if s.sys.fw = .none then s
  else
    let s' := s.emit (.spiRead s.ses.spiOut.head?)
    if whole then (s'.mapSes (fun z => { z with spiOut := z.spiOut.drop 1 })).releaseSlot (s.ses.spiOut.head?.map replyLen) else s'

/-- SLOT_START (R197, R198, R582): the slot's native frames, and a legacy member's in its slots. -/
def slotStart (sense : List Int) (s : State) : State := (s.slotOpen sense).legacySlot

/-- A packet that checks 1 to 3 of R78 discard, at a device that takes packets. -/
def badIn (via : Via) (check : Nat) (s : State) : State := if s.hearsHost via then s.badPacket via check else s

end State

open State

/-- POWER_ON (R60): VIN rises past its threshold and the K9 runs its boot sequence, cold or from Backup, up to the first tick in the unnegotiated state. -/
def execPowerOn (dt : Nat) (o : BootObs) (s : State) : Host.Outcome State Fault Refusal :=
  .next (s.act dt (fun s => s.powerOn o))

/-- EXTERNAL_RESET (R56): RST_N held low for 10 µs or longer resets the device with cause 3h. -/
def execExternalReset (dt : Nat) (o : BootObs) (s : State) : Host.Outcome State Fault Refusal :=
  .next (s.act dt (fun s => s.externalReset o))

/-- VIN_FALL (R599): VIN falls below its threshold for 5 µs and the device powers down into Backup under its hold-up. -/
def execVinFall (dt : Nat) (s : State) : Host.Outcome State Fault Refusal :=
  .next (s.act dt (fun s => s.vinFall))

/-- VBAT_LOSS (R601): VBAT falls below retention while VIN is absent, so the backup domain loses power. -/
def execVbatLoss (dt : Nat) (s : State) : Host.Outcome State Fault Refusal :=
  .next (s.act dt (fun s => s.vbatLoss))

/-- RESET_EXECUTE (R58): At the first tick boundary after the reply to a reset request has left the port, the device resets. -/
def execResetExecute (dt : Nat) (o : BootObs) (s : State) : Host.Outcome State Fault Refusal :=
  .next (s.act dt (fun s => s.resetExecute o))

/-- STANDBY_ENTRY (R66): At the first tick boundary after the POWER_STANDBY reply, MRAM writes finish, the event is archived and the device powers down. -/
def execStandbyEntry (dt : Nat) (s : State) : Host.Outcome State Fault Refusal :=
  .next (s.act dt (fun s => s.standbyEntry))

/-- WAKE_PATTERN (R397): A matching wake frame on an enabled port wakes the K9 from Standby with cause 7h. -/
def execWakePattern (dt : Nat) (port : Nat) (frame : Bytes) (fcsOk : Bool) (o : BootObs) (s : State) : Host.Outcome State Fault Refusal :=
  if port < 3 then .next (s.act dt (fun s => s.wakePattern port frame fcsOk o))
  else .fault (.noSuchUnit "WAKE_PATTERN")

/-- STANDBY_SNAPSHOT (R68): Every SYS_STBY_SNAP_S seconds in Standby, a GNSS snapshot is captured and solved to set the calendar. -/
def execStandbySnapshot (dt : Nat) (solved : Option (Nat × Nat)) (s : State) : Host.Outcome State Fault Refusal :=
  .next (s.act dt (fun s => s.standbySnapshot solved))

/-- TICK_BOUNDARY (R39): A tick opens: the intake is sealed and the periodic steps of R13 run in their windows. -/
def execTickBoundary (dt : Nat) (o : TickObs) (s : State) : Host.Outcome State Fault Refusal :=
  .next (s.act dt (fun s => s.tickOpens o))

/-- WINDOW_OVERRUN (R54): A line's step has not completed its admitted work by the end of its window, so an overrun event is raised. -/
def execWindowOverrun (dt : Nat) (line : Nat) (s : State) : Host.Outcome State Fault Refusal :=
  if [1, 3, 4, 5, 6, 7, 8, 9, 10].contains line then .next (s.act dt (native (fun s => s.windowOverrun line)))
  else .fault (.noSuchUnit "WINDOW_OVERRUN")

/-- SUPERFRAME_BOUNDARY (R35): A superframe boundary passes, at which maps, key generations and air changes take effect. -/
def execSuperframeBoundary (dt : Nat) (s : State) : Host.Outcome State Fault Refusal :=
  .next (s.act dt (native (fun s => s.superframeOpens)))

/-- SLOT_START (R197): A slot starts on each chain and its frame is sent or received on the hopped channel; `sense` is the power in dBm
that each chain senses on its channel (R209). -/
def execSlotStart (dt : Nat) (sense : List Int) (s : State) : Host.Outcome State Fault Refusal :=
  .next (s.act dt (native (fun s => s.slotStart sense)))

/-- TICK_LENGTH_CHANGE (R37): A pending SYS_TICK_SLOTS takes effect at its superframe instant and TICK_LENGTH_CHANGED is raised. -/
def execTickLengthChange (dt : Nat) (s : State) : Host.Outcome State Fault Refusal :=
  .next (s.act dt (native (fun s => s.tickLengthChange)))

/-- TICK_REALIGN (R36): When time becomes valid off alignment, ticks are lengthened or shortened until aligned, raising TICK_UNALIGNED and TICK_ALIGNED. -/
def execTickRealign (dt : Nat) (s : State) : Host.Outcome State Fault Refusal :=
  .next (s.act dt (inRun (fun s => s.tickRealign)))

/-- DOMAIN_TAKES_EFFECT (R542): A committed domain's generation takes effect at its boundary, and the COMMIT completes when every touched domain has taken effect. -/
def execDomainTakesEffect (dt : Nat) (dom : Nat) (s : State) : Host.Outcome State Fault Refusal :=
  if dom < 19 then .next (s.act dt (native (fun s => s.domainTakesEffect dom)))
  else .fault (.noSuchUnit "DOMAIN_TAKES_EFFECT")

/-- WATCHDOG (R63): A core's watchdog is not serviced for SYS_WDT_TICKS ticks, so the core is halted and WATCHDOG is raised. -/
def execWatchdog (dt : Nat) (core : Nat) (s : State) : Host.Outcome State Fault Refusal :=
  if core < 8 then .next (s.act dt (inRun (fun s => s.watchdog core)))
  else .fault (.noSuchUnit "WATCHDOG")

/-- WATCHDOG_HW_RESET (R64): An armed DEVICE_RESET for WATCHDOG has not been applied within SYS_WDT_TICKS ticks, so the watchdog unit resets the device. -/
def execWatchdogHwReset (dt : Nat) (o : BootObs) (s : State) : Host.Outcome State Fault Refusal :=
  .next (s.act dt (fun s => s.watchdogHwReset o))

/-- SESSION_EXPIRY (R89): No packet of a session has arrived for SYS_SESSION_LINGER_S, so it expires and its completions are discarded. -/
def execSessionExpiry (dt : Nat) (n : Nat) (s : State) : Host.Outcome State Fault Refusal :=
  .next (s.act dt (nativeHw (fun s => s.sessionExpiry n)))

/-- FRAGMENT_TIMEOUT (R93): A partial reassembly with no fragment for 1 s is discarded. -/
def execFragmentTimeout (dt : Nat) (s : State) : Host.Outcome State Fault Refusal :=
  .next (s.act dt (nativeHw (fun s => s.fragmentTimeout)))

/-- BAD_PACKET (R78): A received packet failing sync, HCRC or reply-flag checks is discarded and counted. -/
def execBadPacket (dt : Nat) (via : Via) (check : Nat) (s : State) : Host.Outcome State Fault Refusal :=
  if 1 ≤ check ∧ check ≤ 3 then .next (s.act dt (fun s => s.badIn via check))
  else .fault (.noSuchUnit "BAD_PACKET")

/-- FRAGMENT (R93): A fragment other than the last is stored and answered with FRAGMENT_HELD. -/
def execFragment (dt : Nat) (opcode : Nat) (p : Pkt) (s : State) : Host.Outcome State Fault Refusal :=
  .next (s.act dt (fun s => s.hostPacket 2 opcode p))

/-- SPI_READ (R107): An SPI read transaction returns the oldest waiting reply or completion. -/
def execSpiRead (dt : Nat) (whole : Bool) (s : State) : Host.Outcome State Fault Refusal :=
  .next (s.act dt (fun s => s.spiRead whole))

/-- ETH_CAPTURE_END (R104): A frame capture ends on time, a full buffer or link down, and completes. -/
def execEthCaptureEnd (dt : Nat) (s : State) : Host.Outcome State Fault Refusal :=
  .next (s.act dt (native (fun s => s.captureTimeout)))

/-- RF_TEST_END (R105): An RF test ends by duration, meter or carrier sense, and completes. -/
def execRfTestEnd (dt : Nat) (busy : Bool) (mean peak : Int) (good bad : Nat) (s : State) : Host.Outcome State Fault Refusal :=
  .next (s.act dt (native (fun s => s.rfTestEnd busy mean peak good bad)))

/-- CAPTURE_EDGE (R101): An edge on a capture channel's pad is stamped and stored, or lost with CAPTURE_LOST. -/
def execCaptureEdge (dt : Nat) (ch : Nat) (falling : Bool) (s : State) : Host.Outcome State Fault Refusal :=
  if ch < 4 then .next (s.act dt (native (fun s => s.captureEdge ch falling)))
  else .fault (.noSuchUnit "CAPTURE_EDGE")

/-- COMPARE_EDGE (R101): A compare channel's pad rises at each multiple of PERIOD_US and falls after WIDTH_US. -/
def execCompareEdge (dt : Nat) (ch : Nat) (rise : Bool) (s : State) : Host.Outcome State Fault Refusal :=
  if ch < 4 then .next (s.act dt (native (fun s => s.compareEdge ch rise)))
  else .fault (.noSuchUnit "COMPARE_EDGE")

/-- BAD_OPCODE (R78): A native packet that passes the sync, HCRC and reply-flag checks but carries a bad version or an unassigned opcode is refused with BAD_OPCODE. -/
def execBadOpcode (dt : Nat) (opcode version : Nat) (p : Pkt) (s : State) : Host.Outcome State Fault Refusal :=
  .next (s.act dt (fun s => s.hostPacket version opcode p))

/-- CONSOLE_LINE_SENT (R103): A diagnostics console line finishes on UART1, freeing buffer room so that the D line of dropped lines can be written. -/
def execConsoleLineSent (dt : Nat) (s : State) : Host.Outcome State Fault Refusal :=
  .next (s.act dt (nativeHw (fun s => s.consoleLineSent)))

/-- EVENT_OUTPUT_FALL (R100): The event output pad falls 100 µs after the newest qualifying event. -/
def execEventOutputFall (dt : Nat) (s : State) : Host.Outcome State Fault Refusal :=
  .next (s.act dt (nativeHw (fun s => s.eventOutputFall)))

end Sys2Proof.Machine
end

