-- ==== Sys2Proof/Machine/RowsCx.lean ====
section
/-! DEFINITION. The commands and frames of CX mode and of legacy members. Each lets `dt` ns pass, acts, and settles what follows. -/

namespace Sys2Proof.Machine

namespace State

/-- CX_JOIN_REQUEST: at the CX member table, or at a legacy member's registration (R572, R580). -/
def joinIn (f : CxRx) (s : State) : State := if s.sys.cx then s.cxJoin f else s.legacyJoin f

/-- A CX robot's frame, in CX mode or of a legacy member (R571, R581). -/
def memberFrame (typ : Nat) (f : CxRx) (s : State) : State := if s.sys.cx then s.cxFrameIn typ f else s.legacyFrame typ f

/-- CX_ROBOT_LOST (R573). -/
def memberLost (a : Nat) (s : State) : State := if s.sys.cx then s.cxLost a else s.legacyLost a

end State

open State

/-- CX_BAD_FRAME (R565): A CX frame with LEN 0 or cut short is discarded and counted. -/
def execCxBadFrame (dt : Nat) (s : State) : Host.Outcome State Fault Refusal :=
  .next (s.act dt (fun s => s.cxBadFrame))

/-- PING (R567): CX opcode 01h, answered with OK. -/
def execPing (dt : Nat) (spi : Bool) (data : Bytes) (s : State) : Host.Outcome State Fault Refusal :=
  .next (s.act dt (fun s => s.cxTake 0x01 (fun n => n == 0) cxPing spi data))

/-- GET_VERSION (R567): Returns CX hardware and firmware versions. -/
def execGetVersion (dt : Nat) (spi : Bool) (data : Bytes) (s : State) : Host.Outcome State Fault Refusal :=
  .next (s.act dt (fun s => s.cxTake 0x02 (fun n => n == 0) cxVersion spi data))

/-- RESET (R567): CX reset 20 ms after the reply. -/
def execReset (dt : Nat) (spi : Bool) (data : Bytes) (s : State) : Host.Outcome State Fault Refusal :=
  .next (s.act dt (fun s => s.cxTake 0x03 (fun n => n == 0) cxReset spi data))

/-- GET_STATUS (R567): Returns CX status. -/
def execGetStatus (dt : Nat) (spi : Bool) (data : Bytes) (s : State) : Host.Outcome State Fault Refusal :=
  .next (s.act dt (fun s => s.cxTake 0x04 (fun n => n == 0) cxStatusRead spi data))

/-- GET_TIME (R567): Returns GPS week and time of week. -/
def execGetTime (dt : Nat) (spi : Bool) (data : Bytes) (s : State) : Host.Outcome State Fault Refusal :=
  .next (s.act dt (fun s => s.cxTake 0x05 (fun n => n == 0) cxTime spi data))

/-- SET_BASE_POS (R567): Fixes the base position. -/
def execSetBasePos (dt : Nat) (spi : Bool) (data : Bytes) (s : State) : Host.Outcome State Fault Refusal :=
  .next (s.act dt (fun s => s.cxTake 0x06 (fun n => n == 12) cxSetBase spi data))

/-- GET_BASE_POS (R567): Returns the base position. -/
def execGetBasePos (dt : Nat) (spi : Bool) (data : Bytes) (s : State) : Host.Outcome State Fault Refusal :=
  .next (s.act dt (fun s => s.cxTake 0x07 (fun n => n == 0) cxGetBase spi data))

/-- START_SURVEY (R567): Starts or restarts a survey. -/
def execStartSurvey (dt : Nat) (spi : Bool) (data : Bytes) (s : State) : Host.Outcome State Fault Refusal :=
  .next (s.act dt (fun s => s.cxTake 0x08 (fun n => n == 2) cxSurvey spi data))

/-- GET_SURVEY (R567): Returns survey state. -/
def execGetSurvey (dt : Nat) (spi : Bool) (data : Bytes) (s : State) : Host.Outcome State Fault Refusal :=
  .next (s.act dt (fun s => s.cxTake 0x09 (fun n => n == 0) cxGetSurvey spi data))

/-- SET_ELEV_MASK (R567): Sets the elevation mask. -/
def execSetElevMask (dt : Nat) (spi : Bool) (data : Bytes) (s : State) : Host.Outcome State Fault Refusal :=
  .next (s.act dt (fun s => s.cxTake 0x0A (fun n => n == 1) cxMask spi data))

/-- GET_SAT_INFO (R567): Returns satellite information. -/
def execGetSatInfo (dt : Nat) (spi : Bool) (data : Bytes) (s : State) : Host.Outcome State Fault Refusal :=
  .next (s.act dt (fun s => s.cxTake 0x0B (fun n => n == 0) cxSatInfo spi data))

/-- SET_RTCM (R574): Sets the RTCM period and outputs. -/
def execSetRtcm (dt : Nat) (spi : Bool) (data : Bytes) (s : State) : Host.Outcome State Fault Refusal :=
  .next (s.act dt (fun s => s.cxTake 0x0C (fun n => n == 2) cxSetRtcm spi data))

/-- READ_RTCM (R567): Returns bytes of the RTCM host buffer. -/
def execReadRtcm (dt : Nat) (spi : Bool) (data : Bytes) (s : State) : Host.Outcome State Fault Refusal :=
  .next (s.act dt (fun s => s.cxTake 0x0D (fun n => n == 1) cxReadRtcm spi data))

/-- SET_RADIO (R567): Sets domain, power and PAN. -/
def execSetRadio (dt : Nat) (spi : Bool) (data : Bytes) (s : State) : Host.Outcome State Fault Refusal :=
  .next (s.act dt (fun s => s.cxTake 0x0E (fun n => n == 4) cxSetRadio spi data))

/-- GET_RADIO (R567): Returns radio settings and counts. -/
def execGetRadio (dt : Nat) (spi : Bool) (data : Bytes) (s : State) : Host.Outcome State Fault Refusal :=
  .next (s.act dt (fun s => s.cxTake 0x0F (fun n => n == 0) cxGetRadio spi data))

/-- ADD_ROBOT (R567): Registers a CX robot. -/
def execAddRobot (dt : Nat) (spi : Bool) (data : Bytes) (s : State) : Host.Outcome State Fault Refusal :=
  .next (s.act dt (fun s => s.cxTake 0x10 (fun n => n == 8) cxAddRobot spi data))

/-- REMOVE_ROBOT (R567): Removes a CX robot. -/
def execRemoveRobot (dt : Nat) (spi : Bool) (data : Bytes) (s : State) : Host.Outcome State Fault Refusal :=
  .next (s.act dt (fun s => s.cxTake 0x11 (fun n => n == 1) cxRemoveRobot spi data))

/-- LIST_ROBOTS (R567): Lists registered robots. -/
def execListRobots (dt : Nat) (spi : Bool) (data : Bytes) (s : State) : Host.Outcome State Fault Refusal :=
  .next (s.act dt (fun s => s.cxTake 0x12 (fun n => n == 1) cxListRobots spi data))

/-- GET_ROBOT (R567): Returns a robot's newest report. -/
def execGetRobot (dt : Nat) (spi : Bool) (data : Bytes) (s : State) : Host.Outcome State Fault Refusal :=
  .next (s.act dt (fun s => s.cxTake 0x13 (fun n => n == 1) cxGetRobot spi data))

/-- SEND_TASK (R567): Sends a task to a robot. -/
def execSendTask (dt : Nat) (spi : Bool) (data : Bytes) (s : State) : Host.Outcome State Fault Refusal :=
  .next (s.act dt (fun s => s.cxTake 0x14 (fun n => n == 12) cxSendTask spi data))

/-- CANCEL_TASK (R567): Cancels a robot's task. -/
def execCancelTask (dt : Nat) (spi : Bool) (data : Bytes) (s : State) : Host.Outcome State Fault Refusal :=
  .next (s.act dt (fun s => s.cxTake 0x15 (fun n => n == 1) cxCancelTask spi data))

/-- GET_TASK (R567): Returns a robot's task state. -/
def execGetTask (dt : Nat) (spi : Bool) (data : Bytes) (s : State) : Host.Outcome State Fault Refusal :=
  .next (s.act dt (fun s => s.cxTake 0x16 (fun n => n == 1) cxGetTask spi data))

/-- SEND_MSG (R567): Queues a message to a robot. -/
def execSendMsg (dt : Nat) (spi : Bool) (data : Bytes) (s : State) : Host.Outcome State Fault Refusal :=
  .next (s.act dt (fun s => s.cxTake 0x17 (fun n => decide (2 ≤ n ∧ n ≤ 7)) cxSendMsg spi data))

/-- READ_MSG (R567): Returns the oldest robot message. -/
def execReadMsg (dt : Nat) (spi : Bool) (data : Bytes) (s : State) : Host.Outcome State Fault Refusal :=
  .next (s.act dt (fun s => s.cxTake 0x18 (fun n => n == 0) cxReadMsg spi data))

/-- STOP_ALL (R575): Holds a CX all-stop. -/
def execStopAll (dt : Nat) (spi : Bool) (data : Bytes) (s : State) : Host.Outcome State Fault Refusal :=
  .next (s.act dt (fun s => s.cxTake 0x19 (fun n => n == 0) cxStopAll spi data))

/-- RELEASE_STOP (R575): Releases STOP_ALL. -/
def execReleaseStop (dt : Nat) (spi : Bool) (data : Bytes) (s : State) : Host.Outcome State Fault Refusal :=
  .next (s.act dt (fun s => s.cxTake 0x1A (fun n => n == 0) cxReleaseStop spi data))

/-- STOP_ROBOT (R575): Stops or releases one robot. -/
def execStopRobot (dt : Nat) (spi : Bool) (data : Bytes) (s : State) : Host.Outcome State Fault Refusal :=
  .next (s.act dt (fun s => s.cxTake 0x1B (fun n => n == 2) cxStopRobot spi data))

/-- GET_STOP (R567): Returns the stop state. -/
def execGetStop (dt : Nat) (spi : Bool) (data : Bytes) (s : State) : Host.Outcome State Fault Refusal :=
  .next (s.act dt (fun s => s.cxTake 0x1C (fun n => n == 0) cxGetStop spi data))

/-- SET_CAN (R576): Enables CAN port 0 with a filter. -/
def execSetCan (dt : Nat) (spi : Bool) (data : Bytes) (s : State) : Host.Outcome State Fault Refusal :=
  .next (s.act dt (fun s => s.cxTake 0x1D (fun n => n == 9) cxSetCan spi data))

/-- CAN_SEND (R576): Queues a CAN frame. -/
def execCanSend (dt : Nat) (spi : Bool) (data : Bytes) (s : State) : Host.Outcome State Fault Refusal :=
  .next (s.act dt (fun s => s.cxTake 0x1E (fun n => decide (5 ≤ n)) cxCanSend spi data))

/-- CAN_READ (R576): Returns the oldest received CAN frame. -/
def execCanRead (dt : Nat) (spi : Bool) (data : Bytes) (s : State) : Host.Outcome State Fault Refusal :=
  .next (s.act dt (fun s => s.cxTake 0x1F (fun n => n == 0) cxCanRead spi data))

/-- SET_NETKEY (R567): Sets the CX network key. -/
def execSetNetkey (dt : Nat) (spi : Bool) (data : Bytes) (s : State) : Host.Outcome State Fault Refusal :=
  .next (s.act dt (fun s => s.cxTake 0x20 (fun n => n == 16) cxSetKey spi data))

/-- SET_ANT (R567): Sets antenna bias. -/
def execSetAnt (dt : Nat) (spi : Bool) (data : Bytes) (s : State) : Host.Outcome State Fault Refusal :=
  .next (s.act dt (fun s => s.cxTake 0x21 (fun n => n == 1) cxSetAnt spi data))

/-- GET_EVENT (R577): Returns and removes the oldest CX event. -/
def execGetEvent (dt : Nat) (spi : Bool) (data : Bytes) (s : State) : Host.Outcome State Fault Refusal :=
  .next (s.act dt (fun s => s.cxTake 0x22 (fun n => n == 0) cxGetEvent spi data))

/-- SAVE_CONFIG (R569): Saves the CX configuration to MRAM. -/
def execSaveConfig (dt : Nat) (spi : Bool) (data : Bytes) (s : State) : Host.Outcome State Fault Refusal :=
  .next (s.act dt (fun s => s.cxTake 0x23 (fun n => n == 0) cxSave spi data))

/-- LOAD_DEFAULTS (R567): Loads default CX settings. -/
def execLoadDefaults (dt : Nat) (spi : Bool) (data : Bytes) (s : State) : Host.Outcome State Fault Refusal :=
  .next (s.act dt (fun s => s.cxTake 0x24 (fun n => n == 0) cxDefaults spi data))

/-- GET_COUNTERS (R567): Returns CX counters. -/
def execGetCounters (dt : Nat) (spi : Bool) (data : Bytes) (s : State) : Host.Outcome State Fault Refusal :=
  .next (s.act dt (fun s => s.cxTake 0x25 (fun n => n == 0) cxCounters spi data))

/-- K9_INFO (R568): Returns K9 identity or catalogue. -/
def execK9Info (dt : Nat) (spi : Bool) (data : Bytes) (s : State) : Host.Outcome State Fault Refusal :=
  .next (s.act dt (fun s => s.cxTake 0xF0 (fun n => n == 1) cxInfo spi data))

/-- CX_TICK (R570): A 50 ms CX tick begins and its slots carry beacon, corrections, polls and join. -/
def execCxTick (dt : Nat) (s : State) : Host.Outcome State Fault Refusal :=
  .next (s.act dt (inCx (fun s => s.cxTick)))

/-- CX_JOIN_REQUEST (R572): A CX join request is verified and answered in the next odd tick. -/
def execCxJoinRequest (dt : Nat) (f : CxRx) (s : State) : Host.Outcome State Fault Refusal :=
  .next (s.act dt (inRun (fun s => s.joinIn f)))

/-- CX_POSITION_REPORT (R581): A CX position report is stored, or made a fix record for a legacy member. -/
def execCxPositionReport (dt : Nat) (f : CxRx) (s : State) : Host.Outcome State Fault Refusal :=
  .next (s.act dt (inRun (fun s => s.memberFrame 0x20 f)))

/-- CX_MESSAGE_FRAME (R571): A robot's message is queued for READ_MSG. -/
def execCxMessageFrame (dt : Nat) (f : CxRx) (s : State) : Host.Outcome State Fault Refusal :=
  .next (s.act dt (inRun (fun s => s.memberFrame 0x22 f)))

/-- CX_STATUS_FRAME (R571): A robot's status acknowledges a poll and reports its task. -/
def execCxStatusFrame (dt : Nat) (f : CxRx) (s : State) : Host.Outcome State Fault Refusal :=
  .next (s.act dt (inRun (fun s => s.memberFrame 0x23 f)))

/-- CX_ROBOT_LOST (R573): A robot is polled 20 times without a verified uplink. -/
def execCxRobotLost (dt : Nat) (a : Nat) (s : State) : Host.Outcome State Fault Refusal :=
  if a < 256 then .next (s.act dt (inRun (fun s => s.memberLost a)))
  else .fault (.noSuchUnit "CX_ROBOT_LOST")

/-- CX_STOP_LINE (R575): CROOK_A opens after 100 µs low, or closes, setting or releasing the line stop. -/
def execCxStopLine (dt : Nat) (isOpen : Bool) (s : State) : Host.Outcome State Fault Refusal :=
  .next (s.act dt (fun s => s.cxStopLine isOpen))

/-- LEGACY_CORR_DROPPED (R581): A legacy member lacks an epoch's bytes before the next is due. -/
def execLegacyCorrDropped (dt : Nat) (r : Nat) (s : State) : Host.Outcome State Fault Refusal :=
  if r < 256 then .next (s.act dt (native (fun s => s.legacyDropped r)))
  else .fault (.noSuchUnit "LEGACY_CORR_DROPPED")

/-- CX_UNKNOWN_OPCODE (R566): A whole CX frame with a wrong CHK or an opcode outside R567 is answered with status 01h or 02h. -/
def execCxUnknownOpcode (dt : Nat) (spi : Bool) (op : Nat) (chkOk : Bool) (s : State) : Host.Outcome State Fault Refusal :=
  .next (s.act dt (fun s => s.cxUnknown spi op chkOk))

end Sys2Proof.Machine
end

