-- ==== Sys2Proof/Machine/RowsFlock.lean ====
section
/-! DEFINITION. Air interface, flock, pasture, tasks and Crook: the rows that no host packet carries. Each lets `dt` ns pass, acts, and settles what follows. -/

namespace Sys2Proof.Machine

namespace State

/-- An air frame of KIND 0 uplink, 1 COR, 2 join request: in a pair a verified one enters the merge (R482). -/
def airIn (kind : Nat) (f : AirRx) (act : AirRx → State → State) (s : State) : State :=
  if s.fixedDown (4 + f.chain) then s.dropFixed (4 + f.chain)
  else if f.fcsOk ∧ f.micOk then s.pairInput (.air kind s.air.asn f) (act f) else act f s

/-- An element delivered in a parcel of a registered robot (R230). -/
def elementIn (typ r : Nat) (v : Bytes) (s : State) : State :=
  if (s.robot? r).isSome then s.deliverElem true r typ v else s

end State

open State

/-- CHAIN_FAULT (R213): A chain check fails and the chain goes out of service. -/
def execChainFault (dt : Nat) (c level : Nat) (s : State) : Host.Outcome State Fault Refusal :=
  if c < 4 then .next (s.act dt (native (fun s => s.chainFault c level)))
  else .fault (.noSuchUnit "CHAIN_FAULT")

/-- ROBOT_RELEASED (R220): The index is released when LEAVE is acknowledged or AIR_LOST_SF passes, and the removal completes. -/
def execRobotReleased (dt : Nat) (r : Nat) (s : State) : Host.Outcome State Fault Refusal :=
  if r < 256 then .next (s.act dt (native (fun s => s.robotReleased r)))
  else .fault (.noSuchUnit "ROBOT_RELEASED")

/-- JOIN_REQUEST (R226): A join or roam request in a rejoin slot is verified and answered in the next superframe. -/
def execJoinRequest (dt : Nat) (f : AirRx) (s : State) : Host.Outcome State Fault Refusal :=
  if f.chain < 4 then .next (s.act dt (native (fun s => s.airIn 2 f joinRequest)))
  else .fault (.noSuchUnit "JOIN_REQUEST")

/-- UPLINK_FRAME (R229): A secured uplink frame is verified and its acknowledgements and parcels are taken. -/
def execUplinkFrame (dt : Nat) (f : AirRx) (s : State) : Host.Outcome State Fault Refusal :=
  if f.chain < 4 then .next (s.act dt (native (fun s => s.airIn 0 f uplinkFrame)))
  else .fault (.noSuchUnit "UPLINK_FRAME")

/-- COR_FRAME (R156): A COR in its slot is validated and decoded for the robot's fix. -/
def execCorFrame (dt : Nat) (f : AirRx) (s : State) : Host.Outcome State Fault Refusal :=
  if f.chain < 4 then .next (s.act dt (native (fun s => s.airIn 1 f corAirFrame)))
  else .fault (.noSuchUnit "COR_FRAME")

/-- COR_MISSED (R165): No COR has arrived by the boundary after its epoch's slots, so a NONE record is produced. -/
def execCorMissed (dt : Nat) (r : Nat) (s : State) : Host.Outcome State Fault Refusal :=
  if r < 256 then .next (s.act dt (native (fun s => s.corMissed r)))
  else .fault (.noSuchUnit "COR_MISSED")

/-- SPR (R150): A self-solved position report is turned into a fix record. -/
def execSpr (dt : Nat) (r : Nat) (v : Bytes) (s : State) : Host.Outcome State Fault Refusal :=
  if r < 256 then .next (s.act dt (native (fun s => s.elementIn 0x82 r v)))
  else .fault (.noSuchUnit "SPR")

/-- RESUME (R235): A robot's RESUME parcel lists its local slot and is reconciled with the task records. -/
def execResume (dt : Nat) (r : Nat) (v : Bytes) (s : State) : Host.Outcome State Fault Refusal :=
  if r < 256 then .next (s.act dt (native (fun s => s.elementIn 0x83 r v)))
  else .fault (.noSuchUnit "RESUME")

/-- SLEEP_REQ (R239): A robot asks to sleep, and a WAKE element is granted. -/
def execSleepReq (dt : Nat) (r : Nat) (v : Bytes) (s : State) : Host.Outcome State Fault Refusal :=
  if r < 256 then .next (s.act dt (native (fun s => s.elementIn 0x84 r v)))
  else .fault (.noSuchUnit "SLEEP_REQ")

/-- LEAVE (R605): A robot's LEAVE ends its link generation or acknowledges a removal. -/
def execLeave (dt : Nat) (r : Nat) (v : Bytes) (s : State) : Host.Outcome State Fault Refusal :=
  if r < 256 then .next (s.act dt (native (fun s => s.elementIn 0x09 r v)))
  else .fault (.noSuchUnit "LEAVE")

/-- SEG_REQ (R268): A robot requests segments of its route for reservation. -/
def execSegReq (dt : Nat) (r : Nat) (v : Bytes) (s : State) : Host.Outcome State Fault Refusal :=
  if r < 256 then .next (s.act dt (native (fun s => s.elementIn 0xA0 r v)))
  else .fault (.noSuchUnit "SEG_REQ")

/-- RELEASE (R276): A robot releases segments of a grant after KEEP. -/
def execRelease (dt : Nat) (r : Nat) (v : Bytes) (s : State) : Host.Outcome State Fault Refusal :=
  if r < 256 then .next (s.act dt (native (fun s => s.elementIn 0xA1 r v)))
  else .fault (.noSuchUnit "RELEASE")

/-- TASK_DONE (R326): A robot reports how its task ended, or declines it. -/
def execTaskDone (dt : Nat) (r : Nat) (v : Bytes) (s : State) : Host.Outcome State Fault Refusal :=
  if r < 256 then .next (s.act dt (native (fun s => s.elementIn 0xA8 r v)))
  else .fault (.noSuchUnit "TASK_DONE")

/-- TASK_STATE (R325): A robot reports battery and availability. -/
def execTaskState (dt : Nat) (r : Nat) (v : Bytes) (s : State) : Host.Outcome State Fault Refusal :=
  if r < 256 then .next (s.act dt (native (fun s => s.elementIn 0xA9 r v)))
  else .fault (.noSuchUnit "TASK_STATE")

/-- STOP_STATE (R358): A covered robot reports ramping or standstill, confirming a stop. -/
def execStopState (dt : Nat) (r : Nat) (v : Bytes) (s : State) : Host.Outcome State Fault Refusal :=
  if r < 256 then .next (s.act dt (native (fun s => s.elementIn 0xB0 r v)))
  else .fault (.noSuchUnit "STOP_STATE")

/-- PARCEL_RETX (R233): AIR_RETX_SF superframes pass without a verified frame, so unacknowledged parcels are sent again. -/
def execParcelRetx (dt : Nat) (r : Nat) (s : State) : Host.Outcome State Fault Refusal :=
  if r < 256 then .next (s.act dt (native (fun s => s.parcelRetx r)))
  else .fault (.noSuchUnit "PARCEL_RETX")

/-- ROBOT_LOST (R237): No verified frame for AIR_LOST_SF superframes, or missed wakes, put the robot in state 03h. -/
def execRobotLost (dt : Nat) (r : Nat) (s : State) : Host.Outcome State Fault Refusal :=
  if r < 256 then .next (s.act dt (native (fun s => s.robotLost r)))
  else .fault (.noSuchUnit "ROBOT_LOST")

/-- WAKE_MISSED (R240): A sleeper sends no verified frame in its wake superframe. -/
def execWakeMissed (dt : Nat) (r : Nat) (s : State) : Host.Outcome State Fault Refusal :=
  if r < 256 then .next (s.act dt (native (fun s => s.wakeMissed r)))
  else .fault (.noSuchUnit "WAKE_MISSED")

/-- COUNTER_EXHAUSTED (R225): A key's frame counter would reach FFFF_FFFFh, so frames under that key are withheld. -/
def execCounterExhausted (dt : Nat) (key : Option Nat) (s : State) : Host.Outcome State Fault Refusal :=
  if key.getD 0 < 256 then .next (s.act dt (native (fun s => s.counterExhausted key)))
  else .fault (.noSuchUnit "COUNTER_EXHAUSTED")

/-- OVERSTAY (R277): An entry reaches its window's end unfreed and is converted. -/
def execOverstay (dt : Nat) (s : State) : Host.Outcome State Fault Refusal :=
  .next (s.act dt (native (fun s => s.overstayDue)))

/-- BORDER_VOTE_TIMEOUT (R283): No vote arrives within PAS_BORDER_VOTE_TICKS, so the coordinator aborts. -/
def execBorderVoteTimeout (dt : Nat) (s : State) : Host.Outcome State Fault Refusal :=
  .next (s.act dt (native (fun s => s.borderTimeouts)))

/-- PREPARED_ENTRY_EXPIRY (R283): A prepared border entry's window ends without DECIDE. -/
def execPreparedEntryExpiry (dt : Nat) (s : State) : Host.Outcome State Fault Refusal :=
  .next (s.act dt (native (fun s => s.overstayDue)))

/-- NO_EVIDENCE (R303): A moving robot has had no evidence fix for PRF_EVIDENCE_GAP_MS. -/
def execNoEvidence (dt : Nat) (r : Nat) (s : State) : Host.Outcome State Fault Refusal :=
  if r < 256 then .next (s.act dt (native (fun s => s.noEvidence r)))
  else .fault (.noSuchUnit "NO_EVIDENCE")

/-- DROVER_JOB_END (R334): A core ends its job and its staged job becomes current. -/
def execDroverJobEnd (dt : Nat) (core : Nat) (s : State) : Host.Outcome State Fault Refusal :=
  if 2 ≤ core ∧ core < 8 then .next (s.act dt (native (fun s => s.droverJobEnd core)))
  else .fault (.noSuchUnit "DROVER_JOB_END")

/-- LOOP_OPEN (R342): A loop channel has been low for a time; once that is the filter time, the all-stop takes effect. -/
def execLoopOpen (dt : Nat) (low : PadLow) (s : State) : Host.Outcome State Fault Refusal :=
  if low.ch < 2 then .next (s.act dt (nativeHw (fun s => s.loopLow low)))
  else .fault (.noSuchUnit "LOOP_OPEN")

/-- LOOP_CLOSE (R344): The loop counts as closed, releasing its stop unless latched. -/
def execLoopClose (dt : Nat) (a b : Bool) (s : State) : Host.Outcome State Fault Refusal :=
  .next (s.act dt (nativeHw (fun s => s.loopClose a b)))

/-- LOOP_DISCREPANCY (R343): One channel is open and the other closed for longer than CRK_DISC_MS. -/
def execLoopDiscrepancy (dt : Nat) (s : State) : Host.Outcome State Fault Refusal :=
  .next (s.act dt (nativeHw (fun s => s.loopDiscrepancy)))

/-- STOP_FRAME_SEND (R352): A preemptive stop frame is sent at the now or next occasion of a stop change; `sense` is the power in dBm
sensed before it (R209). -/
def execStopFrameSend (dt : Nat) (c : Nat) (sense : Int) (s : State) : Host.Outcome State Fault Refusal :=
  if c < 4 then .next (s.act dt (nativeHw (fun s => s.stopFrameSend c sense)))
  else .fault (.noSuchUnit "STOP_FRAME_SEND")

/-- STOP_UNCONFIRMED (R358): A covered robot is not confirmed within T_E plus CRK_CONFIRM_MS. -/
def execStopUnconfirmed (dt : Nat) (r : Nat) (s : State) : Host.Outcome State Fault Refusal :=
  if r < 256 then .next (s.act dt (native (fun s => s.stopUnconfirmed r)))
  else .fault (.noSuchUnit "STOP_UNCONFIRMED")

end Sys2Proof.Machine
end

