-- ==== Sys2Proof/Machine/RowsFold.lean ====
section
/-! DEFINITION. Fold, pair, Vitrine, updates and Archive: the rows that no host packet carries. Each lets `dt` ns pass, acts, and settles what follows. -/

namespace Sys2Proof.Machine

namespace State

/-- A fold message of this link: in a pair it enters the merge (R482). -/
def foldIn (typ : Nat) (f : FoldRx) (s : State) : State := s.pairInput (.fold typ f) (fun s => s.foldTake typ f)

end State

open State

/-- JOIN (R457): A device asks to join a fold and the bellwether answers. -/
def execJoin (dt : Nat) (f : FoldRx) (s : State) : Host.Outcome State Fault Refusal :=
  .next (s.act dt (native (fun s => s.foldIn 0x01 f)))

/-- JOIN_ANSWER (R457): A device is admitted or refused. -/
def execJoinAnswer (dt : Nat) (f : FoldRx) (s : State) : Host.Outcome State Fault Refusal :=
  .next (s.act dt (native (fun s => s.foldIn 0x02 f)))

/-- HEARTBEAT (R462): A member's heartbeat is judged for step and answered. -/
def execHeartbeat (dt : Nat) (f : FoldRx) (s : State) : Host.Outcome State Fault Refusal :=
  .next (s.act dt (native (fun s => s.foldIn 0x03 f)))

/-- HB_ANSWER (R459): A member takes its state and the fold catalogue. -/
def execHbAnswer (dt : Nat) (f : FoldRx) (s : State) : Host.Outcome State Fault Refusal :=
  .next (s.act dt (native (fun s => s.foldIn 0x04 f)))

/-- FOLD_PERIODIC_SEND (R458): Each superframe, a device sends JOIN or HEARTBEAT and resends unanswered messages. -/
def execFoldPeriodicSend (dt : Nat) (s : State) : Host.Outcome State Fault Refusal :=
  .next (s.act dt (native (fun s => s.foldPeriodic)))

/-- MEMBER_ABSENT (R458): No heartbeat for FLD_MISS_SF superframes marks a member absent. -/
def execMemberAbsent (dt : Nat) (fold m : Nat) (s : State) : Host.Outcome State Fault Refusal :=
  .next (s.act dt (native (fun s => s.memberAbsent fold m)))

/-- FOLD_LOST (R458): No HB_ANSWER for FLD_MISS_SF superframes, so the member joins again. -/
def execFoldLost (dt : Nat) (s : State) : Host.Outcome State Fault Refusal :=
  .next (s.act dt (native (fun s => s.foldLost)))

/-- ROUTED (R465): A routed packet is forwarded along its path or taken by its target. -/
def execRouted (dt : Nat) (f : FoldRx) (s : State) : Host.Outcome State Fault Refusal :=
  .next (s.act dt (native (fun s => s.foldIn 0x05 f)))

/-- STOP (R468): A fold STOP is forwarded, acknowledged and applied to the source 3 set. -/
def execStop (dt : Nat) (f : FoldRx) (s : State) : Host.Outcome State Fault Refusal :=
  .next (s.act dt (native (fun s => s.foldIn 0x06 f)))

/-- STOP_ACK (R452): Ends resends of a fold STOP. -/
def execStopAck (dt : Nat) (f : FoldRx) (s : State) : Host.Outcome State Fault Refusal :=
  .next (s.act dt (native (fun s => s.foldIn 0x07 f)))

/-- STOP_SET (R468): A member replaces its source 3 set. -/
def execStopSet (dt : Nat) (f : FoldRx) (s : State) : Host.Outcome State Fault Refusal :=
  .next (s.act dt (native (fun s => s.foldIn 0x08 f)))

/-- RELEASE_REQ (R241): A member releases a roaming robot. -/
def execReleaseReq (dt : Nat) (dev : Nat) (body : Bytes) (s : State) : Host.Outcome State Fault Refusal :=
  .next (s.act dt (native (fun s => s.relayTake dev 0x09 body)))

/-- FOLD_RELEASE (R469): The new member takes the robot's hold and acknowledges. -/
def execFoldRelease (dt : Nat) (dev : Nat) (body : Bytes) (s : State) : Host.Outcome State Fault Refusal :=
  .next (s.act dt (native (fun s => s.relayTake dev 0x0A body)))

/-- RELEASE_ACK (R469): The former member frees the hold. -/
def execReleaseAck (dt : Nat) (dev : Nat) (body : Bytes) (s : State) : Host.Outcome State Fault Refusal :=
  .next (s.act dt (native (fun s => s.relayTake dev 0x0B body)))

/-- PREPARE (R283): A neighbour tests border entries and votes. -/
def execPrepare (dt : Nat) (dev : Nat) (body : Bytes) (s : State) : Host.Outcome State Fault Refusal :=
  .next (s.act dt (native (fun s => s.relayTake dev 0x0C body)))

/-- VOTE (R282): The coordinator collects a border vote and grants or aborts. -/
def execVote (dt : Nat) (dev : Nat) (body : Bytes) (s : State) : Host.Outcome State Fault Refusal :=
  .next (s.act dt (native (fun s => s.relayTake dev 0x0D body)))

/-- DECIDE (R283): Prepared entries are committed or freed. -/
def execDecide (dt : Nat) (dev : Nat) (body : Bytes) (s : State) : Host.Outcome State Fault Refusal :=
  .next (s.act dt (native (fun s => s.relayTake dev 0x0E body)))

/-- RESUME_NOTE (R470): A member applies a roamed robot's RESUME to its own tasks. -/
def execResumeNote (dt : Nat) (dev : Nat) (body : Bytes) (s : State) : Host.Outcome State Fault Refusal :=
  .next (s.act dt (native (fun s => s.relayTake dev 0x0F body)))

/-- NOTE_ACK (R452): Ends resends of RESUME_NOTE. -/
def execNoteAck (dt : Nat) (dev : Nat) (body : Bytes) (s : State) : Host.Outcome State Fault Refusal :=
  .next (s.act dt (native (fun s => s.relayTake dev 0x10 body)))

/-- TASK_REPORT (R470): An issuer counts a delivery or completion of its task. -/
def execTaskReport (dt : Nat) (dev : Nat) (body : Bytes) (s : State) : Host.Outcome State Fault Refusal :=
  .next (s.act dt (native (fun s => s.relayTake dev 0x11 body)))

/-- REPORT_ACK (R470): The serving member frees or recalls its proxy record. -/
def execReportAck (dt : Nat) (dev : Nat) (body : Bytes) (s : State) : Host.Outcome State Fault Refusal :=
  .next (s.act dt (native (fun s => s.relayTake dev 0x12 body)))

/-- BORDER_DIGEST (R471): A neighbour's border digest is compared with the member's own. -/
def execBorderDigest (dt : Nat) (dev : Nat) (body : Bytes) (s : State) : Host.Outcome State Fault Refusal :=
  .next (s.act dt (native (fun s => s.relayTake dev 0x13 body)))

/-- RELAY (R455): A relayed message is forwarded by device number or taken. -/
def execRelay (dt : Nat) (f : FoldRx) (s : State) : Host.Outcome State Fault Refusal :=
  .next (s.act dt (native (fun s => s.foldIn 0x14 f)))

/-- FOLD_PART_TIMEOUT (R453): A CAN fold message incomplete after 100 ms is discarded. -/
def execFoldPartTimeout (dt : Nat) (s : State) : Host.Outcome State Fault Refusal :=
  .next (s.act dt (native (fun s => s.foldPartTimeout)))

/-- PAIR_TICK (R480): The standby takes tick boundaries and time from the active. -/
def execPairTick (dt : Nat) (count : Nat) (s : State) : Host.Outcome State Fault Refusal :=
  .next (s.act dt (native (fun s => s.pairTick count)))

/-- PAIR_STOP (R362): A partner's stop change is applied as source 4. -/
def execPairStop (dt : Nat) (kind index ramp : Nat) (set : Bool) (s : State) : Host.Outcome State Fault Refusal :=
  .next (s.act dt (nativeHw (fun s => s.pairStopIn kind index ramp set)))

/-- YIELD (R491): The partner has yielded, so this unit takes control. -/
def execYield (dt : Nat) (reason : Nat) (s : State) : Host.Outcome State Fault Refusal :=
  .next (s.act dt (native (fun s => s.partnerYields reason)))

/-- ITEM (R482): A partner's received input is added to the merge. -/
def execItem (dt : Nat) (inp : PairIn) (s : State) : Host.Outcome State Fault Refusal :=
  .next (s.act dt (native (fun s => s.pairItem deliverItem phases inp)))

/-- MERGE (R483): The standby takes the sealed intake. -/
def execMerge (dt : Nat) (m : MergeMsg) (s : State) : Host.Outcome State Fault Refusal :=
  .next (s.act dt (native (fun s => s.mergeIn m)))

/-- JOURNAL_CONF (R495): The partner confirms a journal write, allowing the reply. -/
def execJournalConf (dt : Nat) (sess acc : Nat) (s : State) : Host.Outcome State Fault Refusal :=
  .next (s.act dt (native (fun s => s.journalConf sess acc)))

/-- DIGEST (R487): Tick digests are compared and the next plan released. -/
def execDigest (dt : Nat) (inD outD : Nat) (written : Bool) (test : Nat) (s : State) : Host.Outcome State Fault Refusal :=
  .next (s.act dt (native (fun s => s.pairDigest inD outD written test)))

/-- MISMATCH_TEST_DONE (R488): The mismatch test results decide which unit yields. -/
def execMismatchTestDone (dt : Nat) (passed : Bool) (s : State) : Host.Outcome State Fault Refusal :=
  .next (s.act dt (native (fun s => s.mismatchTestDone passed)))

/-- SYNC_REQ (R493): The active answers and starts streaming state. -/
def execSyncReq (dt : Nat) (eui role : Nat) (images keys : Bool) (s : State) : Host.Outcome State Fault Refusal :=
  .next (s.act dt (native (fun s => s.syncReqIn eui role images keys)))

/-- SYNC_ANSWER (R493): The standby learns whether resynchronisation proceeds. -/
def execSyncAnswer (dt : Nat) (result : Nat) (s : State) : Host.Outcome State Fault Refusal :=
  .next (s.act dt (native (fun s => s.syncAnswer result)))

/-- PAIR_STATE_FRAME (R493): The standby takes a part of the resynchronisation copy. -/
def execPairStateFrame (dt : Nat) (part : StatePart) (s : State) : Host.Outcome State Fault Refusal :=
  .next (s.act dt (native (fun s => s.stateFrame part)))

/-- PAIR_LINK_TRAINED (R493): The link trains, and a standby with PAI_AUTO_SYNC sends SYNC_REQ. -/
def execPairLinkTrained (dt : Nat) (lane0 lane1 : Bool) (s : State) : Host.Outcome State Fault Refusal :=
  .next (s.act dt (nativeHw (fun s => s.linkTrained lane0 lane1)))

/-- PAIR_LANE_DOWN (R479): A lane loses lock or fails, and traffic continues on the other. -/
def execPairLaneDown (dt : Nat) (lane : Nat) (s : State) : Host.Outcome State Fault Refusal :=
  if lane < 2 then .next (s.act dt (nativeHw (fun s => s.laneDown lane)))
  else .fault (.noSuchUnit "PAIR_LANE_DOWN")

/-- PAIR_LINK_LOST (R492): The link is lost without YIELD, so the standby yields. -/
def execPairLinkLost (dt : Nat) (s : State) : Host.Outcome State Fault Refusal :=
  .next (s.act dt (native (fun s => s.linkLost)))

/-- PARTNER_SILENT (R492): A yielded standby verifies no beacon for PAI_SILENT_TICKS. -/
def execPartnerSilent (dt : Nat) (s : State) : Host.Outcome State Fault Refusal :=
  .next (s.act dt (native (fun s => s.partnerSilent)))

/-- PARTNER_ABSENT (R493): A standby is not in lockstep PAI_FORM_S after load. -/
def execPartnerAbsent (dt : Nat) (s : State) : Host.Outcome State Fault Refusal :=
  .next (s.act dt (native (fun s => s.partnerAbsent)))

/-- RESYNC_TIMEOUT (R493): Resynchronisation exceeds 60 s and fails. -/
def execResyncTimeout (dt : Nat) (s : State) : Host.Outcome State Fault Refusal :=
  .next (s.act dt (native (fun s => s.resyncTimeout)))

/-- ITEM_DISCARD (R483): An item named by no MERGE within 10 ticks is discarded. -/
def execItemDiscard (dt : Nat) (s : State) : Host.Outcome State Fault Refusal :=
  .next (s.act dt (native (fun s => s.itemDiscard)))

/-- TAMPER_ALARM (R517): A tamper source alarms and hardware-held entries zeroize keys. -/
def execTamperAlarm (dt : Nat) (source : Nat) (active : Bool) (s : State) : Host.Outcome State Fault Refusal :=
  if source < 7 then .next (s.act dt (fun s => s.tamperAlarm source active))
  else .fault (.noSuchUnit "TAMPER_ALARM")

/-- KEY_REMASK (R504): Working-key shares are remasked. -/
def execKeyRemask (dt : Nat) (s : State) : Host.Outcome State Fault Refusal :=
  .next (s.act dt (fun s => s.keyRemask))

/-- RNG_FAULT (R502): A noise-source health test fails. -/
def execRngFault (dt : Nat) (s : State) : Host.Outcome State Fault Refusal :=
  .next (s.act dt (fun s => s.rngFault))

/-- BANK_ERASE_DONE (R527): The erase finishes and UPD_BEGIN completes. -/
def execBankEraseDone (dt : Nat) (part : Nat) (s : State) : Host.Outcome State Fault Refusal :=
  if 1 ≤ part ∧ part ≤ 4 then .next (s.act dt (nativeHw (fun s => s.bankEraseDone part)))
  else .fault (.noSuchUnit "BANK_ERASE_DONE")

/-- HANDOVER_PAUSE (R531): A part's handover pause ends and its boot entry flips. -/
def execHandoverPause (dt : Nat) (part c us : Nat) (s : State) : Host.Outcome State Fault Refusal :=
  if 1 ≤ part ∧ part ≤ 4 ∧ c < 4 then .next (s.act dt (native (fun s => s.handoverPause part c us)))
  else .fault (.noSuchUnit "HANDOVER_PAUSE")

/-- HANDOVER_FAIL (R534): New firmware does not resume by B + 3 T, or a chain fails after loading. -/
def execHandoverFail (dt : Nat) (part c : Nat) (again : Bool) (s : State) : Host.Outcome State Fault Refusal :=
  if 1 ≤ part ∧ part ≤ 4 ∧ c < 4 then .next (s.act dt (native (fun s => s.handoverFail part c again)))
  else .fault (.noSuchUnit "HANDOVER_FAIL")

/-- UPD_IDLE_TIMEOUT (R525): UPD_IDLE_S passes without an update command, so the lock ends. -/
def execUpdIdleTimeout (dt : Nat) (s : State) : Host.Outcome State Fault Refusal :=
  .next (s.act dt (nativeHw (fun s => s.updIdle)))

/-- TRIAL_UNCONFIRMED (R538): UPD_TRIAL_S passes without confirmation. -/
def execTrialUnconfirmed (dt : Nat) (s : State) : Host.Outcome State Fault Refusal :=
  .next (s.act dt (native (fun s => s.trialUnconfirmed)))

/-- ARCHIVE_INTERVAL_END (R557): An interval ends and its interval and count records are written. -/
def execArchiveIntervalEnd (dt : Nat) (s : State) : Host.Outcome State Fault Refusal :=
  .next (s.act dt (inRun (fun s => s.archiveIntervalEnd)))

end Sys2Proof.Machine
end

