-- ==== Sys2Proof/Machine/RowsHost.lean ====
section
/-! DEFINITION. The opcodes that host packets carry. Each lets `dt` ns pass, acts, and settles what follows. -/

namespace Sys2Proof.Machine

open State

/-- SESSION_OPEN (R69): Opens a session and agrees the catalogue. -/
def execSessionOpen (dt : Nat) (p : Pkt) (s : State) : Host.Outcome State Fault Refusal :=
  .next (s.act dt (hostPacket 2 0x0001 p))

/-- SESSION_RESUME (R88): Resumes a session, acknowledges completions and resends those held. -/
def execSessionResume (dt : Nat) (p : Pkt) (s : State) : Host.Outcome State Fault Refusal :=
  .next (s.act dt (hostPacket 2 0x0002 p))

/-- SESSION_CLOSE (R89): Closes a session that holds no other credit. -/
def execSessionClose (dt : Nat) (p : Pkt) (s : State) : Host.Outcome State Fault Refusal :=
  .next (s.act dt (hostPacket 2 0x0003 p))

/-- BARRIER (R92): Completes when every earlier work command has completed and orders later ones. -/
def execBarrier (dt : Nat) (p : Pkt) (s : State) : Host.Outcome State Fault Refusal :=
  .next (s.act dt (hostPacket 2 0x0004 p))

/-- COMPLETION_ACK (R87): Acknowledges completions up to UPTO and frees credits. -/
def execCompletionAck (dt : Nat) (p : Pkt) (s : State) : Host.Outcome State Fault Refusal :=
  .next (s.act dt (hostPacket 2 0x0005 p))

/-- COMPLETION_READ (R87): Returns a held completion or the running state of a command. -/
def execCompletionRead (dt : Nat) (p : Pkt) (s : State) : Host.Outcome State Fault Refusal :=
  .next (s.act dt (hostPacket 2 0x0006 p))

/-- ORDERS_WRITE (R25): Stages one standing-order entry. -/
def execOrdersWrite (dt : Nat) (p : Pkt) (s : State) : Host.Outcome State Fault Refusal :=
  .next (s.act dt (hostPacket 2 0x0030 p))

/-- ORDERS_READ (R97): Returns standing-order entries. -/
def execOrdersRead (dt : Nat) (p : Pkt) (s : State) : Host.Outcome State Fault Refusal :=
  .next (s.act dt (hostPacket 2 0x0031 p))

/-- FAULT_ACK (R19): Acknowledges fault events up to SEQ. -/
def execFaultAck (dt : Nat) (p : Pkt) (s : State) : Host.Outcome State Fault Refusal :=
  .next (s.act dt (hostPacket 2 0x0033 p))

/-- RESMAP_READ (R97): Returns the holders of a resource class. -/
def execResmapRead (dt : Nat) (p : Pkt) (s : State) : Host.Outcome State Fault Refusal :=
  .next (s.act dt (hostPacket 2 0x0034 p))

/-- EVENT_READ (R98): Returns event records from FROM_SEQ. -/
def execEventRead (dt : Nat) (p : Pkt) (s : State) : Host.Outcome State Fault Refusal :=
  .next (s.act dt (hostPacket 2 0x0035 p))

/-- SYS_CAPTURE_READ (R102): Returns and removes the stamps of a capture channel. -/
def execSysCaptureRead (dt : Nat) (p : Pkt) (s : State) : Host.Outcome State Fault Refusal :=
  .next (s.act dt (hostPacket 2 0x0036 p))

/-- BUDGET_READ (R52): Returns the budget block of the configuration in effect. -/
def execBudgetRead (dt : Nat) (p : Pkt) (s : State) : Host.Outcome State Fault Refusal :=
  .next (s.act dt (hostPacket 2 0x0038 p))

/-- BUDGET_PROBE (R53): Prices the shadow set with hypothetical additions. -/
def execBudgetProbe (dt : Nat) (p : Pkt) (s : State) : Host.Outcome State Fault Refusal :=
  .next (s.act dt (hostPacket 2 0x0039 p))

/-- SYS_RESET (R58): Requests a reset to the normal boot or the recovery ROM. -/
def execSysReset (dt : Nat) (p : Pkt) (s : State) : Host.Outcome State Fault Refusal :=
  .next (s.act dt (hostPacket 2 0x0041 p))

/-- POWER_STANDBY (R67): Requests Standby with a wake mask. -/
def execPowerStandby (dt : Nat) (p : Pkt) (s : State) : Host.Outcome State Fault Refusal :=
  .next (s.act dt (hostPacket 2 0x0042 p))

/-- PRM_GET (R94): Returns parameter values in effect or staged. -/
def execPrmGet (dt : Nat) (p : Pkt) (s : State) : Host.Outcome State Fault Refusal :=
  .next (s.act dt (hostPacket 2 0x0100 p))

/-- PRM_SET (R95): Stages parameter values into the shadow set. -/
def execPrmSet (dt : Nat) (p : Pkt) (s : State) : Host.Outcome State Fault Refusal :=
  .next (s.act dt (hostPacket 2 0x0101 p))

/-- COMMIT (R96): Carries the shadow set to a new configuration generation. -/
def execCommit (dt : Nat) (p : Pkt) (s : State) : Host.Outcome State Fault Refusal :=
  .next (s.act dt (hostPacket 2 0x0102 p))

/-- DISCARD (R96): Empties the shadow set. -/
def execDiscard (dt : Nat) (p : Pkt) (s : State) : Host.Outcome State Fault Refusal :=
  .next (s.act dt (hostPacket 2 0x0103 p))

/-- ECHO (R99): Returns its parameters unchanged. -/
def execEcho (dt : Nat) (p : Pkt) (s : State) : Host.Outcome State Fault Refusal :=
  .next (s.act dt (hostPacket 2 0x7F00 p))

/-- COUNTERS_READ (R99): Returns the transport link counters. -/
def execCountersRead (dt : Nat) (p : Pkt) (s : State) : Host.Outcome State Fault Refusal :=
  .next (s.act dt (hostPacket 2 0x7F01 p))

/-- COUNTERS_CLEAR (R99): Clears the link counters. -/
def execCountersClear (dt : Nat) (p : Pkt) (s : State) : Host.Outcome State Fault Refusal :=
  .next (s.act dt (hostPacket 2 0x7F02 p))

/-- CORE_CAPTURE_READ (R99): Returns the state that the watchdog captured from a halted core. -/
def execCoreCaptureRead (dt : Nat) (p : Pkt) (s : State) : Host.Outcome State Fault Refusal :=
  .next (s.act dt (hostPacket 2 0x7F03 p))

/-- DIA_ETH_CAPTURE (R104): Captures the frames that one port receives into the snapshot buffer. -/
def execDiaEthCapture (dt : Nat) (p : Pkt) (s : State) : Host.Outcome State Fault Refusal :=
  .next (s.act dt (hostPacket 2 0x7F04 p))

/-- DIA_CAPTURE_READ (R104): Reads the frame-capture buffer. -/
def execDiaCaptureRead (dt : Nat) (p : Pkt) (s : State) : Host.Outcome State Fault Refusal :=
  .next (s.act dt (hostPacket 2 0x7F05 p))

/-- DIA_RF_TEST (R105): Starts or stops an RF test on the claimed chain. -/
def execDiaRfTest (dt : Nat) (p : Pkt) (s : State) : Host.Outcome State Fault Refusal :=
  .next (s.act dt (hostPacket 2 0x7F06 p))

/-- GNS_STATUS_READ (R137): Returns the baseband status. -/
def execGnsStatusRead (dt : Nat) (p : Pkt) (s : State) : Host.Outcome State Fault Refusal :=
  .next (s.act dt (hostPacket 2 0x0200 p))

/-- GNS_MEAS_READ (R137): Returns records of a recent measurement set. -/
def execGnsMeasRead (dt : Nat) (p : Pkt) (s : State) : Host.Outcome State Fault Refusal :=
  .next (s.act dt (hostPacket 2 0x0201 p))

/-- GNS_EXCLUDE (R137): Excludes a signal by host order. -/
def execGnsExclude (dt : Nat) (p : Pkt) (s : State) : Host.Outcome State Fault Refusal :=
  .next (s.act dt (hostPacket 2 0x0202 p))

/-- GNS_READMIT (R128): Readmits a suspect or host-excluded signal. -/
def execGnsReadmit (dt : Nat) (p : Pkt) (s : State) : Host.Outcome State Fault Refusal :=
  .next (s.act dt (hostPacket 2 0x0208 p))

/-- GNS_SNAP_START (R130): Schedules a snapshot capture. -/
def execGnsSnapStart (dt : Nat) (p : Pkt) (s : State) : Host.Outcome State Fault Refusal :=
  .next (s.act dt (hostPacket 2 0x0203 p))

/-- GNS_SNAP_READ (R132): Returns bytes of the snapshot buffer. -/
def execGnsSnapRead (dt : Nat) (p : Pkt) (s : State) : Host.Outcome State Fault Refusal :=
  .next (s.act dt (hostPacket 2 0x0204 p))

/-- GNS_SNAP_SOLVE (R133): Starts solving the last capture for time and position. -/
def execGnsSnapSolve (dt : Nat) (p : Pkt) (s : State) : Host.Outcome State Fault Refusal :=
  .next (s.act dt (hostPacket 2 0x0205 p))

/-- GNS_SURVEY_START (R135): Starts a self-survey of the base position. -/
def execGnsSurveyStart (dt : Nat) (p : Pkt) (s : State) : Host.Outcome State Fault Refusal :=
  .next (s.act dt (hostPacket 2 0x0206 p))

/-- GNS_BASELINE_MEASURE (R136): Starts a measurement of the antenna baseline. -/
def execGnsBaselineMeasure (dt : Nat) (p : Pkt) (s : State) : Host.Outcome State Fault Refusal :=
  .next (s.act dt (hostPacket 2 0x0207 p))

/-- FIX_READ (R168): Returns the newest fix records. -/
def execFixRead (dt : Nat) (p : Pkt) (s : State) : Host.Outcome State Fault Refusal :=
  .next (s.act dt (hostPacket 2 0x0300 p))

/-- FIX_MODE_SET (R143): Schedules a change of a robot's positioning mode or fix rate. -/
def execFixModeSet (dt : Nat) (p : Pkt) (s : State) : Host.Outcome State Fault Refusal :=
  .next (s.act dt (hostPacket 2 0x0301 p))

/-- FIX_STATE_READ (R168): Returns per-robot fix state. -/
def execFixStateRead (dt : Nat) (p : Pkt) (s : State) : Host.Outcome State Fault Refusal :=
  .next (s.act dt (hostPacket 2 0x0302 p))

/-- FIX_FILTER_RESET (R168): Restarts a robot's filter at its next epoch. -/
def execFixFilterReset (dt : Nat) (p : Pkt) (s : State) : Host.Outcome State Fault Refusal :=
  .next (s.act dt (hostPacket 2 0x0303 p))

/-- CLK_TIME_READ (R187): Returns pasture time, UTC and quality. -/
def execClkTimeRead (dt : Nat) (p : Pkt) (s : State) : Host.Outcome State Fault Refusal :=
  .next (s.act dt (hostPacket 2 0x0400 p))

/-- CLK_TIME_SET (R185): Sets pasture time and the calendar while time is not valid. -/
def execClkTimeSet (dt : Nat) (p : Pkt) (s : State) : Host.Outcome State Fault Refusal :=
  .next (s.act dt (hostPacket 2 0x0401 p))

/-- AIR_CHAIN_READ (R214): Returns per-chain state and counters. -/
def execAirChainRead (dt : Nat) (p : Pkt) (s : State) : Host.Outcome State Fault Refusal :=
  .next (s.act dt (hostPacket 2 0x0500 p))

/-- AIR_MAP_READ (R214): Returns robots' slot positions. -/
def execAirMapRead (dt : Nat) (p : Pkt) (s : State) : Host.Outcome State Fault Refusal :=
  .next (s.act dt (hostPacket 2 0x0501 p))

/-- AIR_ROBOT_ADD (R219): Registers a robot and places it on a chain. -/
def execAirRobotAdd (dt : Nat) (p : Pkt) (s : State) : Host.Outcome State Fault Refusal :=
  .next (s.act dt (hostPacket 2 0x0510 p))

/-- AIR_ROBOT_REMOVE (R220): Sends LEAVE to a robot and releases its index. -/
def execAirRobotRemove (dt : Nat) (p : Pkt) (s : State) : Host.Outcome State Fault Refusal :=
  .next (s.act dt (hostPacket 2 0x0511 p))

/-- AIR_LINK_READ (R243): Returns per-robot link state. -/
def execAirLinkRead (dt : Nat) (p : Pkt) (s : State) : Host.Outcome State Fault Refusal :=
  .next (s.act dt (hostPacket 2 0x0512 p))

/-- PAS_NODES_WRITE (R252): Stages roadmap node records. -/
def execPasNodesWrite (dt : Nat) (p : Pkt) (s : State) : Host.Outcome State Fault Refusal :=
  .next (s.act dt (hostPacket 2 0x0600 p))

/-- PAS_LANES_WRITE (R252): Stages roadmap lane records. -/
def execPasLanesWrite (dt : Nat) (p : Pkt) (s : State) : Host.Outcome State Fault Refusal :=
  .next (s.act dt (hostPacket 2 0x0601 p))

/-- PAS_PADDOCK_WRITE (R255): Stages one paddock. -/
def execPasPaddockWrite (dt : Nat) (p : Pkt) (s : State) : Host.Outcome State Fault Refusal :=
  .next (s.act dt (hostPacket 2 0x0602 p))

/-- PAS_HURDLE_PLACE (R257): Places a hurdle from the next tick boundary. -/
def execPasHurdlePlace (dt : Nat) (p : Pkt) (s : State) : Host.Outcome State Fault Refusal :=
  .next (s.act dt (hostPacket 2 0x0603 p))

/-- PAS_HURDLE_REMOVE (R257): Removes a hurdle. -/
def execPasHurdleRemove (dt : Nat) (p : Pkt) (s : State) : Host.Outcome State Fault Refusal :=
  .next (s.act dt (hostPacket 2 0x0604 p))

/-- PAS_MOVE (R284): Plans a robot to a destination node and completes on arrival. -/
def execPasMove (dt : Nat) (p : Pkt) (s : State) : Host.Outcome State Fault Refusal :=
  .next (s.act dt (hostPacket 2 0x0605 p))

/-- PAS_RESV_READ (R284): Returns reservation records. -/
def execPasResvRead (dt : Nat) (p : Pkt) (s : State) : Host.Outcome State Fault Refusal :=
  .next (s.act dt (hostPacket 2 0x0606 p))

/-- PAS_STATE_READ (R284): Returns reservation table counts. -/
def execPasStateRead (dt : Nat) (p : Pkt) (s : State) : Host.Outcome State Fault Refusal :=
  .next (s.act dt (hostPacket 2 0x0607 p))

/-- PAS_RESV_CLEAR (R276): Frees every entry of a robot. -/
def execPasResvClear (dt : Nat) (p : Pkt) (s : State) : Host.Outcome State Fault Refusal :=
  .next (s.act dt (hostPacket 2 0x0608 p))

/-- PRF_STATE_READ (R306): Returns deviation state and progress factors. -/
def execPrfStateRead (dt : Nat) (p : Pkt) (s : State) : Host.Outcome State Fault Refusal :=
  .next (s.act dt (hostPacket 2 0x0700 p))

/-- PRF_PF_SET (R306): Sets a robot's progress factor. -/
def execPrfPfSet (dt : Nat) (p : Pkt) (s : State) : Host.Outcome State Fault Refusal :=
  .next (s.act dt (hostPacket 2 0x0701 p))

/-- PRF_TRACK_READ (R306): Returns a robot's granted track and profiles. -/
def execPrfTrackRead (dt : Nat) (p : Pkt) (s : State) : Host.Outcome State Fault Refusal :=
  .next (s.act dt (hostPacket 2 0x0702 p))

/-- TSK_SUBMIT (R313): Submits task records. -/
def execTskSubmit (dt : Nat) (p : Pkt) (s : State) : Host.Outcome State Fault Refusal :=
  .next (s.act dt (hostPacket 2 0x0800 p))

/-- TSK_CANCEL (R329): Cancels a task or recalls it from its robot. -/
def execTskCancel (dt : Nat) (p : Pkt) (s : State) : Host.Outcome State Fault Refusal :=
  .next (s.act dt (hostPacket 2 0x0801 p))

/-- TSK_RESULT_READ (R332): Returns held task results. -/
def execTskResultRead (dt : Nat) (p : Pkt) (s : State) : Host.Outcome State Fault Refusal :=
  .next (s.act dt (hostPacket 2 0x0802 p))

/-- TSK_RESULT_ACK (R332): Frees held results up to UPTO. -/
def execTskResultAck (dt : Nat) (p : Pkt) (s : State) : Host.Outcome State Fault Refusal :=
  .next (s.act dt (hostPacket 2 0x0803 p))

/-- TSK_STATE_READ (R337): Returns task store counts. -/
def execTskStateRead (dt : Nat) (p : Pkt) (s : State) : Host.Outcome State Fault Refusal :=
  .next (s.act dt (hostPacket 2 0x0804 p))

/-- TSK_READ (R337): Returns one task's state and record. -/
def execTskRead (dt : Nat) (p : Pkt) (s : State) : Host.Outcome State Fault Refusal :=
  .next (s.act dt (hostPacket 2 0x0805 p))

/-- CRK_STOP (R365): Sets a host stop of a given scope and ramp. -/
def execCrkStop (dt : Nat) (p : Pkt) (s : State) : Host.Outcome State Fault Refusal :=
  .next (s.act dt (hostPacket 2 0x0900 p))

/-- CRK_RELEASE (R359): Removes one holder at the next tick boundary. -/
def execCrkRelease (dt : Nat) (p : Pkt) (s : State) : Host.Outcome State Fault Refusal :=
  .next (s.act dt (hostPacket 2 0x0901 p))

/-- CRK_STATE_READ (R365): Returns the stop state. -/
def execCrkStateRead (dt : Nat) (p : Pkt) (s : State) : Host.Outcome State Fault Refusal :=
  .next (s.act dt (hostPacket 2 0x0902 p))

/-- CRK_ROBOT_READ (R365): Returns per-robot stop coverage. -/
def execCrkRobotRead (dt : Nat) (p : Pkt) (s : State) : Host.Outcome State Fault Refusal :=
  .next (s.act dt (hostPacket 2 0x0903 p))

/-- AXS_MOVE (R372): Starts an axis move. -/
def execAxsMove (dt : Nat) (p : Pkt) (s : State) : Host.Outcome State Fault Refusal :=
  .next (s.act dt (hostPacket 2 0x0A00 p))

/-- AXS_HALT (R380): Halts an axis with a normal or emergency ramp. -/
def execAxsHalt (dt : Nat) (p : Pkt) (s : State) : Host.Outcome State Fault Refusal :=
  .next (s.act dt (hostPacket 2 0x0A01 p))

/-- AXS_HOME (R382): Searches for the reference edge and sets the position. -/
def execAxsHome (dt : Nat) (p : Pkt) (s : State) : Host.Outcome State Fault Refusal :=
  .next (s.act dt (hostPacket 2 0x0A02 p))

/-- AXS_SET_POS (R380): Sets an axis's position. -/
def execAxsSetPos (dt : Nat) (p : Pkt) (s : State) : Host.Outcome State Fault Refusal :=
  .next (s.act dt (hostPacket 2 0x0A03 p))

/-- AXS_STATE_READ (R382): Returns axis state records. -/
def execAxsStateRead (dt : Nat) (p : Pkt) (s : State) : Host.Outcome State Fault Refusal :=
  .next (s.act dt (hostPacket 2 0x0A04 p))

/-- ETH_PORT_READ (R398): Returns per-port state and counters. -/
def execEthPortRead (dt : Nat) (p : Pkt) (s : State) : Host.Outcome State Fault Refusal :=
  .next (s.act dt (hostPacket 2 0x0B00 p))

/-- ETH_PROBE (R396): Sends probe frames and reports their egress stamps. -/
def execEthProbe (dt : Nat) (p : Pkt) (s : State) : Host.Outcome State Fault Refusal :=
  .next (s.act dt (hostPacket 2 0x0B01 p))

/-- CAN_TX (R410): Loads a frame into a transmit buffer and makes it pending. -/
def execCanTx (dt : Nat) (p : Pkt) (s : State) : Host.Outcome State Fault Refusal :=
  .next (s.act dt (hostPacket 2 0x0C00 p))

/-- CAN_TX_ABORT (R411): Aborts a pending transmission. -/
def execCanTxAbort (dt : Nat) (p : Pkt) (s : State) : Host.Outcome State Fault Refusal :=
  .next (s.act dt (hostPacket 2 0x0C01 p))

/-- CAN_MB_READ (R409): Reads buffer words, taking and releasing the read lock. -/
def execCanMbRead (dt : Nat) (p : Pkt) (s : State) : Host.Outcome State Fault Refusal :=
  .next (s.act dt (hostPacket 2 0x0C02 p))

/-- CAN_STATE_READ (R416): Returns CAN port state. -/
def execCanStateRead (dt : Nat) (p : Pkt) (s : State) : Host.Outcome State Fault Refusal :=
  .next (s.act dt (hostPacket 2 0x0C03 p))

/-- CAN_RECOVER (R413): Starts bus-off recovery counting. -/
def execCanRecover (dt : Nat) (p : Pkt) (s : State) : Host.Outcome State Fault Refusal :=
  .next (s.act dt (hostPacket 2 0x0C04 p))

/-- CAN_SERIAL_TX (R415): Queues bytes on the site-device serial link. -/
def execCanSerialTx (dt : Nat) (p : Pkt) (s : State) : Host.Outcome State Fault Refusal :=
  .next (s.act dt (hostPacket 2 0x0C05 p))

/-- QUE_READ (R436): Returns packets of a host queue. -/
def execQueRead (dt : Nat) (p : Pkt) (s : State) : Host.Outcome State Fault Refusal :=
  .next (s.act dt (hostPacket 2 0x0D00 p))

/-- QUE_RELEASE (R436): Frees packets up to UPTO. -/
def execQueRelease (dt : Nat) (p : Pkt) (s : State) : Host.Outcome State Fault Refusal :=
  .next (s.act dt (hostPacket 2 0x0D01 p))

/-- QUE_STATE_READ (R443): Returns queue status words. -/
def execQueStateRead (dt : Nat) (p : Pkt) (s : State) : Host.Outcome State Fault Refusal :=
  .next (s.act dt (hostPacket 2 0x0D02 p))

/-- MEM_STATE_READ (R443): Returns bank and MRAM state. -/
def execMemStateRead (dt : Nat) (p : Pkt) (s : State) : Host.Outcome State Fault Refusal :=
  .next (s.act dt (hostPacket 2 0x0D80 p))

/-- FLD_STATE_READ (R472): Returns fold state. -/
def execFldStateRead (dt : Nat) (p : Pkt) (s : State) : Host.Outcome State Fault Refusal :=
  .next (s.act dt (hostPacket 2 0x0E00 p))

/-- FLD_MEMBER_ADD (R456): Stages a roster entry. -/
def execFldMemberAdd (dt : Nat) (p : Pkt) (s : State) : Host.Outcome State Fault Refusal :=
  .next (s.act dt (hostPacket 2 0x0E01 p))

/-- FLD_MEMBER_REMOVE (R456): Deletes a roster entry. -/
def execFldMemberRemove (dt : Nat) (p : Pkt) (s : State) : Host.Outcome State Fault Refusal :=
  .next (s.act dt (hostPacket 2 0x0E02 p))

/-- FLD_MEMBERS_READ (R472): Returns roster records. -/
def execFldMembersRead (dt : Nat) (p : Pkt) (s : State) : Host.Outcome State Fault Refusal :=
  .next (s.act dt (hostPacket 2 0x0E03 p))

/-- PAI_STATE_READ (R496): Returns pair state. -/
def execPaiStateRead (dt : Nat) (p : Pkt) (s : State) : Host.Outcome State Fault Refusal :=
  .next (s.act dt (hostPacket 2 0x0F00 p))

/-- PAI_RESYNC (R493): Starts resynchronisation of the standby. -/
def execPaiResync (dt : Nat) (p : Pkt) (s : State) : Host.Outcome State Fault Refusal :=
  .next (s.act dt (hostPacket 2 0x0F01 p))

/-- PAI_ROLE_SET (R476): Sets the unit's pair role. -/
def execPaiRoleSet (dt : Nat) (p : Pkt) (s : State) : Host.Outcome State Fault Refusal :=
  .next (s.act dt (hostPacket 2 0x0F02 p))

/-- PAI_YIELD (R489): Makes a named unit yield. -/
def execPaiYield (dt : Nat) (p : Pkt) (s : State) : Host.Outcome State Fault Refusal :=
  .next (s.act dt (hostPacket 2 0x0F03 p))

/-- VIT_KEY_LOAD (R508): Loads a wrapped key into a slot. -/
def execVitKeyLoad (dt : Nat) (p : Pkt) (s : State) : Host.Outcome State Fault Refusal :=
  .next (s.act dt (hostPacket 2 0x1000 p))

/-- VIT_KEY_ERASE (R509): Empties a slot. -/
def execVitKeyErase (dt : Nat) (p : Pkt) (s : State) : Host.Outcome State Fault Refusal :=
  .next (s.act dt (hostPacket 2 0x1001 p))

/-- VIT_SLOT_READ (R518): Returns slot records. -/
def execVitSlotRead (dt : Nat) (p : Pkt) (s : State) : Host.Outcome State Fault Refusal :=
  .next (s.act dt (hostPacket 2 0x1002 p))

/-- VIT_ATTEST (R511): Returns a signed attestation statement. -/
def execVitAttest (dt : Nat) (p : Pkt) (s : State) : Host.Outcome State Fault Refusal :=
  .next (s.act dt (hostPacket 2 0x1003 p))

/-- VIT_CERT_READ (R512): Returns the device certificate. -/
def execVitCertRead (dt : Nat) (p : Pkt) (s : State) : Host.Outcome State Fault Refusal :=
  .next (s.act dt (hostPacket 2 0x1004 p))

/-- VIT_STATE_READ (R518): Returns Vitrine state. -/
def execVitStateRead (dt : Nat) (p : Pkt) (s : State) : Host.Outcome State Fault Refusal :=
  .next (s.act dt (hostPacket 2 0x1005 p))

/-- VIT_TAMPER_CLEAR (R514): Clears the latched tamper level. -/
def execVitTamperClear (dt : Nat) (p : Pkt) (s : State) : Host.Outcome State Fault Refusal :=
  .next (s.act dt (hostPacket 2 0x1006 p))

/-- UPD_OPEN (R525): Takes the update lock. -/
def execUpdOpen (dt : Nat) (p : Pkt) (s : State) : Host.Outcome State Fault Refusal :=
  .next (s.act dt (hostPacket 2 0x1100 p))

/-- UPD_BEGIN (R527): Starts a download into the non-running bank and erases it. -/
def execUpdBegin (dt : Nat) (p : Pkt) (s : State) : Host.Outcome State Fault Refusal :=
  .next (s.act dt (hostPacket 2 0x1101 p))

/-- UPD_WRITE (R528): Programs image bytes at the next offset. -/
def execUpdWrite (dt : Nat) (p : Pkt) (s : State) : Host.Outcome State Fault Refusal :=
  .next (s.act dt (hostPacket 2 0x1102 p))

/-- UPD_VERIFY (R529): Checks a written bank. -/
def execUpdVerify (dt : Nat) (p : Pkt) (s : State) : Host.Outcome State Fault Refusal :=
  .next (s.act dt (hostPacket 2 0x1103 p))

/-- UPD_ACTIVATE (R530): Activates new banks by handover or at reset. -/
def execUpdActivate (dt : Nat) (p : Pkt) (s : State) : Host.Outcome State Fault Refusal :=
  .next (s.act dt (hostPacket 2 0x1104 p))

/-- UPD_CONFIRM (R537): Confirms the trial banks. -/
def execUpdConfirm (dt : Nat) (p : Pkt) (s : State) : Host.Outcome State Fault Refusal :=
  .next (s.act dt (hostPacket 2 0x1105 p))

/-- UPD_CLOSE (R525): Ends the update lock. -/
def execUpdClose (dt : Nat) (p : Pkt) (s : State) : Host.Outcome State Fault Refusal :=
  .next (s.act dt (hostPacket 2 0x1106 p))

/-- UPD_STATE_READ (R547): Returns update state. -/
def execUpdStateRead (dt : Nat) (p : Pkt) (s : State) : Host.Outcome State Fault Refusal :=
  .next (s.act dt (hostPacket 2 0x1107 p))

/-- ARC_READ (R560): Returns Archive records. -/
def execArcRead (dt : Nat) (p : Pkt) (s : State) : Host.Outcome State Fault Refusal :=
  .next (s.act dt (hostPacket 2 0x1200 p))

/-- ARC_STATE_READ (R560): Returns Archive state. -/
def execArcStateRead (dt : Nat) (p : Pkt) (s : State) : Host.Outcome State Fault Refusal :=
  .next (s.act dt (hostPacket 2 0x1201 p))

end Sys2Proof.Machine
end

