-- ==== Sys2Proof/Machine/RowsPorts.lean ====
section
/-! DEFINITION. Axes, Ethernet, serial, CAN and memory: the rows that no host packet carries. Each lets `dt` ns pass, acts, and settles what follows. -/

namespace Sys2Proof.Machine

namespace State

/-- CAN_FRAME_RECEIVED (R407, R453, R576): a fold link's frame, one for CX mode, or one for the message buffers. -/
def canFrameIn (port : Nat) (f : CanFrame) (age recErr : Nat) (s : State) : State :=
  if s.sys.cx then (if port = 0 then s.cxCanReceive f age recErr else s)
  else if s.foldCan port then s.canFoldPart port f
  else s.canReceive port f age recErr

/-- CAN_ATTEMPT_END (R410): in CX mode the next queued frame follows. -/
def canAttempt (port result age : Nat) (s : State) : State :=
  let t := s.canAttemptEnd port result age
  if s.sys.cx then t.cxCanNext else t

end State

open State

/-- AXIS_PWM_PERIOD (R371): Each PWM period advances the position, applies phase voltages and compares the encoder. -/
def execAxisPwmPeriod (dt : Nat) (n vbus : Nat) (edges : Int) (s : State) : Host.Outcome State Fault Refusal :=
  if n < 4 then .next (s.act dt (nativeHw (fun s => s.axisPwm n vbus edges)))
  else .fault (.noSuchUnit "AXIS_PWM_PERIOD")

/-- AXIS_MOVE_DONE (R380): An axis reaches its target or stops, and the move completes with its outcome. -/
def execAxisMoveDone (dt : Nat) (n : Nat) (s : State) : Host.Outcome State Fault Refusal :=
  if n < 4 then .next (s.act dt (nativeHw (fun s => s.axisMoveDone n)))
  else .fault (.noSuchUnit "AXIS_MOVE_DONE")

/-- AXIS_STOP_RAMP (R377): A new or raised all-stop makes moving axes ramp by ON_STOP. -/
def execAxisStopRamp (dt : Nat) (s : State) : Host.Outcome State Fault Refusal :=
  .next (s.act dt (nativeHw (fun s => s.axisStopRamp)))

/-- AXIS_STALL (R373): The load angle exceeds STALL_ANGLE for STALL_N estimates. -/
def execAxisStall (dt : Nat) (n delta : Nat) (s : State) : Host.Outcome State Fault Refusal :=
  if n < 4 then .next (s.act dt (nativeHw (fun s => s.axisStall n delta)))
  else .fault (.noSuchUnit "AXIS_STALL")

/-- AXIS_REF_EDGE (R376): An active reference or AUX edge latches position and count. -/
def execAxisRefEdge (dt : Nat) (n : Nat) (aux active : Bool) (s : State) : Host.Outcome State Fault Refusal :=
  if n < 4 then .next (s.act dt (nativeHw (fun s => s.axisRefEdge n aux active)))
  else .fault (.noSuchUnit "AXIS_REF_EDGE")

/-- ENC_INDEX_EDGE (R374): A rising ENC_Z edge latches the encoder count. -/
def execEncIndexEdge (dt : Nat) (n : Nat) (s : State) : Host.Outcome State Fault Refusal :=
  if n < 4 then .next (s.act dt (nativeHw (fun s => s.encIndexEdge n)))
  else .fault (.noSuchUnit "ENC_INDEX_EDGE")

/-- ENC_ERROR (R374): A quadrature or rate error suspends encoder comparison. -/
def execEncError (dt : Nat) (n level : Nat) (s : State) : Host.Outcome State Fault Refusal :=
  if n < 4 then .next (s.act dt (nativeHw (fun s => s.encError n level)))
  else .fault (.noSuchUnit "ENC_ERROR")

/-- ETH_FRAME_RECEIVED (R389): A received frame is filtered, stamped and passed to its protocol. -/
def execEthFrameReceived (dt : Nat) (port : Nat) (frame : Bytes) (fcsOk : Bool) (s : State) : Host.Outcome State Fault Refusal :=
  if port < 3 then .next (s.act dt (nativeHw (fun s => s.ethReceive takeDatagram port frame fcsOk)))
  else .fault (.noSuchUnit "ETH_FRAME_RECEIVED")

/-- ARP_REQUEST (R390): An ARP request for ETH_IP_ADDR is answered. -/
def execArpRequest (dt : Nat) (mac ip target : Nat) (s : State) : Host.Outcome State Fault Refusal :=
  .next (s.act dt (nativeHw (fun s => s.arpAnswer mac ip target)))

/-- ICMP_ECHO (R390): An ICMP echo request is answered. -/
def execIcmpEcho (dt : Nat) (mac ip : Nat) (data : Bytes) (s : State) : Host.Outcome State Fault Refusal :=
  .next (s.act dt (nativeHw (fun s => s.icmpEcho mac ip data)))

/-- IP_REASSEMBLY_TIMEOUT (R390): A reassembly incomplete after 1 s is discarded. -/
def execIpReassemblyTimeout (dt : Nat) (s : State) : Host.Outcome State Fault Refusal :=
  .next (s.act dt (nativeHw (fun s => s.ipTimeout)))

/-- PHY_POLL (R387): Every 10 ms in RGMII mode, the PHY is polled and link changes are raised. -/
def execPhyPoll (dt : Nat) (mode : Nat) (s : State) : Host.Outcome State Fault Refusal :=
  .next (s.act dt (nativeHw (fun s => s.phyPoll mode)))

/-- LINK_CHANGED (R387): A port's link state changes. -/
def execLinkChanged (dt : Nat) (port mode : Nat) (s : State) : Host.Outcome State Fault Refusal :=
  if port < 3 then .next (s.act dt (nativeHw (fun s => s.setLink port mode)))
  else .fault (.noSuchUnit "LINK_CHANGED")

/-- EXCESS_COLLISIONS (R388): A frame meets 16 collisions and is dropped. -/
def execExcessCollisions (dt : Nat) (port : Nat) (s : State) : Host.Outcome State Fault Refusal :=
  if port < 3 then .next (s.act dt (nativeHw (fun s => s.ethCollisions port)))
  else .fault (.noSuchUnit "EXCESS_COLLISIONS")

/-- PLCA_LOST (R388): The PLCA status goes false or returns. -/
def execPlcaLost (dt : Nat) (port : Nat) (active : Bool) (s : State) : Host.Outcome State Fault Refusal :=
  if port < 3 then .next (s.act dt (nativeHw (fun s => s.plcaStatus port active)))
  else .fault (.noSuchUnit "PLCA_LOST")

/-- PTP_SYNC (R395): A Sync exchange as slave gives a discipline input. -/
def execPtpSync (dt : Nat) (port ident : Nat) (delta : Int) (err : Nat) (s : State) : Host.Outcome State Fault Refusal :=
  if port < 3 then .next (s.act dt (native (fun s => s.ptpSync port ident delta err)))
  else .fault (.noSuchUnit "PTP_SYNC")

/-- PTP_ANNOUNCE_TIMEOUT (R395): Three announce intervals pass without the master, so it is changed. -/
def execPtpAnnounceTimeout (dt : Nat) (next : Option Nat) (s : State) : Host.Outcome State Fault Refusal :=
  .next (s.act dt (native (fun s => s.ptpAnnounceTimeout next)))

/-- PTP_MASTER_SYNC (R395): As master, Sync and Announce are sent at their intervals. -/
def execPtpMasterSync (dt : Nat) (port : Nat) (s : State) : Host.Outcome State Fault Refusal :=
  if port < 3 then .next (s.act dt (native (fun s => s.ptpMasterSend port)))
  else .fault (.noSuchUnit "PTP_MASTER_SYNC")

/-- PTP_DELAY_REQ (R395): As master, a Delay_Req is answered. -/
def execPtpDelayReq (dt : Nat) (port mac : Nat) (req : Bytes) (s : State) : Host.Outcome State Fault Refusal :=
  if port < 3 then .next (s.act dt (native (fun s => s.ptpDelayReq port mac req)))
  else .fault (.noSuchUnit "PTP_DELAY_REQ")

/-- SERIAL_TX_DONE (R415): The last stop bit of a serial command ends and it completes. -/
def execSerialTxDone (dt : Nat) (s : State) : Host.Outcome State Fault Refusal :=
  .next (s.act dt (native (fun s => s.serialTxDone)))

/-- SERIAL_PACKET_END (R415): An idle gap or 256 bytes ends a received serial packet. -/
def execSerialPacketEnd (dt : Nat) (r : SerialRx) (age : Nat) (err : Bool) (s : State) : Host.Outcome State Fault Refusal :=
  .next (s.act dt (native (fun s => s.serialPacket r.pad r.data age err)))

/-- CAN_FRAME_RECEIVED (R407): A valid frame goes to a matching buffer or is dropped. -/
def execCanFrameReceived (dt : Nat) (port : Nat) (f : CanFrame) (age recErr : Nat) (s : State) : Host.Outcome State Fault Refusal :=
  if port < 2 then .next (s.act dt (inRun (fun s => s.canFrameIn port f age recErr)))
  else .fault (.noSuchUnit "CAN_FRAME_RECEIVED")

/-- CAN_ATTEMPT_END (R410): A transmission attempt succeeds, loses arbitration or errs. -/
def execCanAttemptEnd (dt : Nat) (port result age : Nat) (s : State) : Host.Outcome State Fault Refusal :=
  if port < 2 then .next (s.act dt (inRun (fun s => s.canAttempt port result age)))
  else .fault (.noSuchUnit "CAN_ATTEMPT_END")

/-- CAN_BUS_OFF (R413): A port goes bus-off and stops sending. -/
def execCanBusOff (dt : Nat) (port : Nat) (s : State) : Host.Outcome State Fault Refusal :=
  if port < 2 then .next (s.act dt (inRun (fun s => s.canBusOff port)))
  else .fault (.noSuchUnit "CAN_BUS_OFF")

/-- CAN_BUS_ON (R413): 128 recessive sequences return the port to error active. -/
def execCanBusOn (dt : Nat) (port seqs : Nat) (s : State) : Host.Outcome State Fault Refusal :=
  if port < 2 then .next (s.act dt (inRun (fun s => s.canBusOn port seqs)))
  else .fault (.noSuchUnit "CAN_BUS_ON")

/-- CAN_LOCK_TIMEOUT (R409): A read lock held 1 s is released. -/
def execCanLockTimeout (dt : Nat) (s : State) : Host.Outcome State Fault Refusal :=
  .next (s.act dt (native (fun s => s.canLockTimeout)))

/-- MEM_UNCORRECTABLE (R425): A read finds an uncorrectable word and poisons it. -/
def execMemUncorrectable (dt : Nat) (b addr : Nat) (w : List Nat) (s : State) : Host.Outcome State Fault Refusal :=
  if b < 48 then .next (s.act dt (inRun (fun s => s.readWord b addr w)))
  else .fault (.noSuchUnit "MEM_UNCORRECTABLE")

/-- BANK_COPY_DONE (R428): The copy onto the spare completes and the spare serves in its place. -/
def execBankCopyDone (dt : Nat) (s : State) : Host.Outcome State Fault Refusal :=
  .next (s.act dt (inRun (fun s => s.bankCopyDone)))

/-- SCRUB_PASS_END (R426): A scrub pass ends, or is late at MEM_SCRUB_S. -/
def execScrubPassEnd (dt : Nat) (complete : Bool) (reads : List (Nat × Nat × List Nat × Option (List Nat))) (s : State) : Host.Outcome State Fault Refusal :=
  .next (s.act dt (inRun (fun s => s.scrubPassEnd complete reads)))

/-- MRAM_SCRUB (R441): The daily MRAM scrub corrects or reports words. -/
def execMramScrub (dt : Nat) (ce : List Nat) (bad : List (Nat × Nat × Bool)) (s : State) : Host.Outcome State Fault Refusal :=
  .next (s.act dt (inRun (fun s => s.mramScrub ce bad)))

/-- ETH_FRAME_SENT (R392): A frame finishes on a port's wire, the next frame of the highest non-empty transmit queue starts and is egress-stamped, possibly losing its stamp. -/
def execEthFrameSent (dt : Nat) (port : Nat) (s : State) : Host.Outcome State Fault Refusal :=
  if port < 3 then .next (s.act dt (nativeHw (fun s => s.ethFrameSent port)))
  else .fault (.noSuchUnit "ETH_FRAME_SENT")

/-- FOLLOW_UP_TIMEOUT (R395): A two-step Sync whose Follow_Up has not arrived within 1 s is discarded. -/
def execFollowUpTimeout (dt : Nat) (s : State) : Host.Outcome State Fault Refusal :=
  .next (s.act dt (native (fun s => s.followUpTimeout)))

end Sys2Proof.Machine
end

