-- ==== Sys2Proof/Machine/RowsTime.lean ====
section
/-! DEFINITION. GNSS, fixes and time: the rows that no host packet carries. Each lets `dt` ns pass, acts, and settles what follows. -/

namespace Sys2Proof.Machine

namespace State

/-- SURVEY_END (R135, R567): the survey of native mode, or of CX mode. -/
def surveyEnds (xyz : Int × Int × Int) (sigma : Nat) (s : State) : State :=
  if s.sys.cx then s.cxSurveyEnd sigma else s.surveyEnd xyz sigma

end State

open State

/-- SNAPSHOT_CAPTURE (R131): At START the streams are sampled into the buffer, and the capture completes. -/
def execSnapshotCapture (dt : Nat) (wave : List (Nat × Byte)) (s : State) : Host.Outcome State Fault Refusal :=
  .next (s.act dt (native (fun s => s.snapshotCapture wave)))

/-- SNAPSHOT_SOLVE_DONE (R133): The snapshot solve ends and completes with its result. -/
def execSnapshotSolveDone (dt : Nat) (result sats time : Nat) (xyz : Int × Int × Int) (tSig pSig : Nat) (s : State) : Host.Outcome State Fault Refusal :=
  .next (s.act dt (native (fun s => s.snapshotSolveDone result sats time xyz tSig pSig)))

/-- SURVEY_END (R135): A survey meets its duration and deviation, or times out failed, and SURVEY_DONE is raised. -/
def execSurveyEnd (dt : Nat) (xyz : Int × Int × Int) (sigma : Nat) (s : State) : Host.Outcome State Fault Refusal :=
  .next (s.act dt (inRun (fun s => s.surveyEnds xyz sigma)))

/-- BASELINE_MEASURE_DONE (R136): The baseline measurement duration ends and the command completes. -/
def execBaselineMeasureDone (dt : Nat) (e n u : Int) (sigma : Nat) (b1 b5 : Int) (s : State) : Host.Outcome State Fault Refusal :=
  .next (s.act dt (native (fun s => s.baselineDone e n u sigma b1 b5)))

/-- CHANNEL_ALLOCATION (R111): Once per second, the candidate list is formed and channels are allotted. -/
def execChannelAllocation (dt : Nat) (cands : List Cand) (s : State) : Host.Outcome State Fault Refusal :=
  .next (s.act dt (inRun (fun s => s.channelAllocationEv cands)))

/-- ANT_OPEN (R110): Bias current stays below 3 mA for 1 s, so the antenna is open. -/
def execAntOpen (dt : Nat) (ant : Nat) (s : State) : Host.Outcome State Fault Refusal :=
  if ant < 2 then .next (s.act dt (inRun (fun s => s.antOpenEv ant)))
  else .fault (.noSuchUnit "ANT_OPEN")

/-- ANT_SHORT (R110): Bias current exceeds 80 mA, so the bias is cut within 10 µs. -/
def execAntShort (dt : Nat) (ant : Nat) (s : State) : Host.Outcome State Fault Refusal :=
  if ant < 2 then .next (s.act dt (inRun (fun s => s.antShortEv ant)))
  else .fault (.noSuchUnit "ANT_SHORT")

/-- MODE_CHANGE_INSTANT (R143): A pending mode change takes effect at its whole second and completes. -/
def execModeChangeInstant (dt : Nat) (s : State) : Host.Outcome State Fault Refusal :=
  .next (s.act dt (native (fun s => s.modeChangeInstant)))

/-- HOLDOVER_EXPIRY (R178): CLK_HOLDOVER_S passes in holdover, so the state becomes HOLDOVER_EXPIRED. -/
def execHoldoverExpiry (dt : Nat) (s : State) : Host.Outcome State Fault Refusal :=
  .next (s.act dt (inRun (fun s => s.holdoverExpiry)))

/-- TIME_FREERUN (R178): The estimated error passes 1 ms, so the state becomes FREERUN and TIME_INVALID is raised. -/
def execTimeFreerun (dt : Nat) (s : State) : Host.Outcome State Fault Refusal :=
  .next (s.act dt (inRun (fun s => s.timeFreerun)))

/-- TIME_OFFSET (R180): On restored discipline, an offset beyond CLK_STEP_NS raises TIME_OFFSET, or a slew starts. -/
def execTimeOffset (dt : Nat) (s : State) : Host.Outcome State Fault Refusal :=
  .next (s.act dt (inRun (fun s => s.timeOffset)))

/-- TIME_STEP (R180): Under an armed entry, the count is stepped by −Δ at the next tick boundary. -/
def execTimeStep (dt : Nat) (s : State) : Host.Outcome State Fault Refusal :=
  .next (s.act dt (inRun (fun s => s.timeStep)))

/-- SLEW_COMPLETE (R180): A slew removes the offset and the state becomes LOCKED. -/
def execSlewComplete (dt : Nat) (s : State) : Host.Outcome State Fault Refusal :=
  .next (s.act dt (inRun (fun s => s.slewComplete)))

/-- LEAP_SECOND (R173): An announced leap second is applied and LEAP_CHANGED is raised. -/
def execLeapSecond (dt : Nat) (s : State) : Host.Outcome State Fault Refusal :=
  .next (s.act dt (inRun (fun s => s.leapSecond)))

/-- REFIN_LOST (R177): REFIN leaves its tolerance and the timebase returns to the TCXO. -/
def execRefinLost (dt : Nat) (s : State) : Host.Outcome State Fault Refusal :=
  .next (s.act dt (inRun (fun s => s.refinLost)))

/-- REFIN_RETAKEN (R177): REFIN has been in tolerance for 10 s and is retaken. -/
def execRefinRetaken (dt : Nat) (s : State) : Host.Outcome State Fault Refusal :=
  .next (s.act dt (inRun (fun s => s.refinRetaken)))

/-- PPS_PULSE (R181): PPS_OUT rises at each whole second plus the offset. -/
def execPpsPulse (dt : Nat) (s : State) : Host.Outcome State Fault Refusal :=
  .next (s.act dt (inRun (fun s => s.ppsPulse)))

/-- PPS_OK_MIDPOINT (R182): At each midpoint, PPS_OK takes the time state in effect. -/
def execPpsOkMidpoint (dt : Nat) (s : State) : Host.Outcome State Fault Refusal :=
  .next (s.act dt (inRun (fun s => s.ppsOkMidpoint)))

/-- CALENDAR_TRIM (R183): Once per 60 s while LOCKED, the calendar is trimmed and copied. -/
def execCalendarTrim (dt : Nat) (s : State) : Host.Outcome State Fault Refusal :=
  .next (s.act dt (inRun (fun s => s.calendarTrim)))

end Sys2Proof.Machine
end

