-- ==== Sys2Proof/Machine/Dispatch.lean ====
section
/-! DEFINITION. One arm per command: the call of its meaning. -/

namespace Sys2Proof.Machine

def exec (i : Instr) (s : State) : Host.Outcome State Fault Refusal :=
  match i with
  | .powerOn dt o => Sys2Proof.Machine.execPowerOn dt o s
  | .externalReset dt o => Sys2Proof.Machine.execExternalReset dt o s
  | .vinFall dt => Sys2Proof.Machine.execVinFall dt s
  | .vbatLoss dt => Sys2Proof.Machine.execVbatLoss dt s
  | .resetExecute dt o => Sys2Proof.Machine.execResetExecute dt o s
  | .standbyEntry dt => Sys2Proof.Machine.execStandbyEntry dt s
  | .wakePattern dt port frame fcsOk o => Sys2Proof.Machine.execWakePattern dt port frame fcsOk o s
  | .standbySnapshot dt solved => Sys2Proof.Machine.execStandbySnapshot dt solved s
  | .tickBoundary dt o => Sys2Proof.Machine.execTickBoundary dt o s
  | .windowOverrun dt line => Sys2Proof.Machine.execWindowOverrun dt line s
  | .superframeBoundary dt => Sys2Proof.Machine.execSuperframeBoundary dt s
  | .slotStart dt sense => Sys2Proof.Machine.execSlotStart dt sense s
  | .tickLengthChange dt => Sys2Proof.Machine.execTickLengthChange dt s
  | .tickRealign dt => Sys2Proof.Machine.execTickRealign dt s
  | .domainTakesEffect dt dom => Sys2Proof.Machine.execDomainTakesEffect dt dom s
  | .watchdog dt core => Sys2Proof.Machine.execWatchdog dt core s
  | .watchdogHwReset dt o => Sys2Proof.Machine.execWatchdogHwReset dt o s
  | .sessionExpiry dt n => Sys2Proof.Machine.execSessionExpiry dt n s
  | .fragmentTimeout dt => Sys2Proof.Machine.execFragmentTimeout dt s
  | .badPacket dt via check => Sys2Proof.Machine.execBadPacket dt via check s
  | .fragment dt opcode p => Sys2Proof.Machine.execFragment dt opcode p s
  | .spiRead dt whole => Sys2Proof.Machine.execSpiRead dt whole s
  | .sessionOpen dt p => Sys2Proof.Machine.execSessionOpen dt p s
  | .sessionResume dt p => Sys2Proof.Machine.execSessionResume dt p s
  | .sessionClose dt p => Sys2Proof.Machine.execSessionClose dt p s
  | .barrier dt p => Sys2Proof.Machine.execBarrier dt p s
  | .completionAck dt p => Sys2Proof.Machine.execCompletionAck dt p s
  | .completionRead dt p => Sys2Proof.Machine.execCompletionRead dt p s
  | .ordersWrite dt p => Sys2Proof.Machine.execOrdersWrite dt p s
  | .ordersRead dt p => Sys2Proof.Machine.execOrdersRead dt p s
  | .faultAck dt p => Sys2Proof.Machine.execFaultAck dt p s
  | .resmapRead dt p => Sys2Proof.Machine.execResmapRead dt p s
  | .eventRead dt p => Sys2Proof.Machine.execEventRead dt p s
  | .sysCaptureRead dt p => Sys2Proof.Machine.execSysCaptureRead dt p s
  | .budgetRead dt p => Sys2Proof.Machine.execBudgetRead dt p s
  | .budgetProbe dt p => Sys2Proof.Machine.execBudgetProbe dt p s
  | .sysReset dt p => Sys2Proof.Machine.execSysReset dt p s
  | .powerStandby dt p => Sys2Proof.Machine.execPowerStandby dt p s
  | .prmGet dt p => Sys2Proof.Machine.execPrmGet dt p s
  | .prmSet dt p => Sys2Proof.Machine.execPrmSet dt p s
  | .commit dt p => Sys2Proof.Machine.execCommit dt p s
  | .discard dt p => Sys2Proof.Machine.execDiscard dt p s
  | .echo dt p => Sys2Proof.Machine.execEcho dt p s
  | .countersRead dt p => Sys2Proof.Machine.execCountersRead dt p s
  | .countersClear dt p => Sys2Proof.Machine.execCountersClear dt p s
  | .coreCaptureRead dt p => Sys2Proof.Machine.execCoreCaptureRead dt p s
  | .diaEthCapture dt p => Sys2Proof.Machine.execDiaEthCapture dt p s
  | .ethCaptureEnd dt => Sys2Proof.Machine.execEthCaptureEnd dt s
  | .diaCaptureRead dt p => Sys2Proof.Machine.execDiaCaptureRead dt p s
  | .diaRfTest dt p => Sys2Proof.Machine.execDiaRfTest dt p s
  | .rfTestEnd dt busy mean peak good bad => Sys2Proof.Machine.execRfTestEnd dt busy mean peak good bad s
  | .captureEdge dt ch falling => Sys2Proof.Machine.execCaptureEdge dt ch falling s
  | .compareEdge dt ch rise => Sys2Proof.Machine.execCompareEdge dt ch rise s
  | .gnsStatusRead dt p => Sys2Proof.Machine.execGnsStatusRead dt p s
  | .gnsMeasRead dt p => Sys2Proof.Machine.execGnsMeasRead dt p s
  | .gnsExclude dt p => Sys2Proof.Machine.execGnsExclude dt p s
  | .gnsReadmit dt p => Sys2Proof.Machine.execGnsReadmit dt p s
  | .gnsSnapStart dt p => Sys2Proof.Machine.execGnsSnapStart dt p s
  | .snapshotCapture dt wave => Sys2Proof.Machine.execSnapshotCapture dt wave s
  | .gnsSnapRead dt p => Sys2Proof.Machine.execGnsSnapRead dt p s
  | .gnsSnapSolve dt p => Sys2Proof.Machine.execGnsSnapSolve dt p s
  | .snapshotSolveDone dt result sats time xyz tSig pSig => Sys2Proof.Machine.execSnapshotSolveDone dt result sats time xyz tSig pSig s
  | .gnsSurveyStart dt p => Sys2Proof.Machine.execGnsSurveyStart dt p s
  | .surveyEnd dt xyz sigma => Sys2Proof.Machine.execSurveyEnd dt xyz sigma s
  | .gnsBaselineMeasure dt p => Sys2Proof.Machine.execGnsBaselineMeasure dt p s
  | .baselineMeasureDone dt e n u sigma b1 b5 => Sys2Proof.Machine.execBaselineMeasureDone dt e n u sigma b1 b5 s
  | .channelAllocation dt cands => Sys2Proof.Machine.execChannelAllocation dt cands s
  | .antOpen dt ant => Sys2Proof.Machine.execAntOpen dt ant s
  | .antShort dt ant => Sys2Proof.Machine.execAntShort dt ant s
  | .fixRead dt p => Sys2Proof.Machine.execFixRead dt p s
  | .fixModeSet dt p => Sys2Proof.Machine.execFixModeSet dt p s
  | .modeChangeInstant dt => Sys2Proof.Machine.execModeChangeInstant dt s
  | .fixStateRead dt p => Sys2Proof.Machine.execFixStateRead dt p s
  | .fixFilterReset dt p => Sys2Proof.Machine.execFixFilterReset dt p s
  | .clkTimeRead dt p => Sys2Proof.Machine.execClkTimeRead dt p s
  | .clkTimeSet dt p => Sys2Proof.Machine.execClkTimeSet dt p s
  | .holdoverExpiry dt => Sys2Proof.Machine.execHoldoverExpiry dt s
  | .timeFreerun dt => Sys2Proof.Machine.execTimeFreerun dt s
  | .timeOffset dt => Sys2Proof.Machine.execTimeOffset dt s
  | .timeStep dt => Sys2Proof.Machine.execTimeStep dt s
  | .slewComplete dt => Sys2Proof.Machine.execSlewComplete dt s
  | .leapSecond dt => Sys2Proof.Machine.execLeapSecond dt s
  | .refinLost dt => Sys2Proof.Machine.execRefinLost dt s
  | .refinRetaken dt => Sys2Proof.Machine.execRefinRetaken dt s
  | .ppsPulse dt => Sys2Proof.Machine.execPpsPulse dt s
  | .ppsOkMidpoint dt => Sys2Proof.Machine.execPpsOkMidpoint dt s
  | .calendarTrim dt => Sys2Proof.Machine.execCalendarTrim dt s
  | .airChainRead dt p => Sys2Proof.Machine.execAirChainRead dt p s
  | .airMapRead dt p => Sys2Proof.Machine.execAirMapRead dt p s
  | .chainFault dt c level => Sys2Proof.Machine.execChainFault dt c level s
  | .airRobotAdd dt p => Sys2Proof.Machine.execAirRobotAdd dt p s
  | .airRobotRemove dt p => Sys2Proof.Machine.execAirRobotRemove dt p s
  | .robotReleased dt r => Sys2Proof.Machine.execRobotReleased dt r s
  | .airLinkRead dt p => Sys2Proof.Machine.execAirLinkRead dt p s
  | .joinRequest dt f => Sys2Proof.Machine.execJoinRequest dt f s
  | .uplinkFrame dt f => Sys2Proof.Machine.execUplinkFrame dt f s
  | .corFrame dt f => Sys2Proof.Machine.execCorFrame dt f s
  | .corMissed dt r => Sys2Proof.Machine.execCorMissed dt r s
  | .spr dt r v => Sys2Proof.Machine.execSpr dt r v s
  | .resume dt r v => Sys2Proof.Machine.execResume dt r v s
  | .sleepReq dt r v => Sys2Proof.Machine.execSleepReq dt r v s
  | .leave dt r v => Sys2Proof.Machine.execLeave dt r v s
  | .segReq dt r v => Sys2Proof.Machine.execSegReq dt r v s
  | .release dt r v => Sys2Proof.Machine.execRelease dt r v s
  | .taskDone dt r v => Sys2Proof.Machine.execTaskDone dt r v s
  | .taskState dt r v => Sys2Proof.Machine.execTaskState dt r v s
  | .stopState dt r v => Sys2Proof.Machine.execStopState dt r v s
  | .parcelRetx dt r => Sys2Proof.Machine.execParcelRetx dt r s
  | .robotLost dt r => Sys2Proof.Machine.execRobotLost dt r s
  | .wakeMissed dt r => Sys2Proof.Machine.execWakeMissed dt r s
  | .counterExhausted dt key => Sys2Proof.Machine.execCounterExhausted dt key s
  | .pasNodesWrite dt p => Sys2Proof.Machine.execPasNodesWrite dt p s
  | .pasLanesWrite dt p => Sys2Proof.Machine.execPasLanesWrite dt p s
  | .pasPaddockWrite dt p => Sys2Proof.Machine.execPasPaddockWrite dt p s
  | .pasHurdlePlace dt p => Sys2Proof.Machine.execPasHurdlePlace dt p s
  | .pasHurdleRemove dt p => Sys2Proof.Machine.execPasHurdleRemove dt p s
  | .pasMove dt p => Sys2Proof.Machine.execPasMove dt p s
  | .pasResvRead dt p => Sys2Proof.Machine.execPasResvRead dt p s
  | .pasStateRead dt p => Sys2Proof.Machine.execPasStateRead dt p s
  | .pasResvClear dt p => Sys2Proof.Machine.execPasResvClear dt p s
  | .overstay dt => Sys2Proof.Machine.execOverstay dt s
  | .borderVoteTimeout dt => Sys2Proof.Machine.execBorderVoteTimeout dt s
  | .preparedEntryExpiry dt => Sys2Proof.Machine.execPreparedEntryExpiry dt s
  | .noEvidence dt r => Sys2Proof.Machine.execNoEvidence dt r s
  | .prfStateRead dt p => Sys2Proof.Machine.execPrfStateRead dt p s
  | .prfPfSet dt p => Sys2Proof.Machine.execPrfPfSet dt p s
  | .prfTrackRead dt p => Sys2Proof.Machine.execPrfTrackRead dt p s
  | .tskSubmit dt p => Sys2Proof.Machine.execTskSubmit dt p s
  | .tskCancel dt p => Sys2Proof.Machine.execTskCancel dt p s
  | .tskResultRead dt p => Sys2Proof.Machine.execTskResultRead dt p s
  | .tskResultAck dt p => Sys2Proof.Machine.execTskResultAck dt p s
  | .tskStateRead dt p => Sys2Proof.Machine.execTskStateRead dt p s
  | .tskRead dt p => Sys2Proof.Machine.execTskRead dt p s
  | .droverJobEnd dt core => Sys2Proof.Machine.execDroverJobEnd dt core s
  | .crkStop dt p => Sys2Proof.Machine.execCrkStop dt p s
  | .crkRelease dt p => Sys2Proof.Machine.execCrkRelease dt p s
  | .crkStateRead dt p => Sys2Proof.Machine.execCrkStateRead dt p s
  | .crkRobotRead dt p => Sys2Proof.Machine.execCrkRobotRead dt p s
  | .loopOpen dt low => Sys2Proof.Machine.execLoopOpen dt low s
  | .loopClose dt a b => Sys2Proof.Machine.execLoopClose dt a b s
  | .loopDiscrepancy dt => Sys2Proof.Machine.execLoopDiscrepancy dt s
  | .stopFrameSend dt c sense => Sys2Proof.Machine.execStopFrameSend dt c sense s
  | .stopUnconfirmed dt r => Sys2Proof.Machine.execStopUnconfirmed dt r s
  | .axsMove dt p => Sys2Proof.Machine.execAxsMove dt p s
  | .axsHalt dt p => Sys2Proof.Machine.execAxsHalt dt p s
  | .axsHome dt p => Sys2Proof.Machine.execAxsHome dt p s
  | .axsSetPos dt p => Sys2Proof.Machine.execAxsSetPos dt p s
  | .axsStateRead dt p => Sys2Proof.Machine.execAxsStateRead dt p s
  | .axisPwmPeriod dt n vbus edges => Sys2Proof.Machine.execAxisPwmPeriod dt n vbus edges s
  | .axisMoveDone dt n => Sys2Proof.Machine.execAxisMoveDone dt n s
  | .axisStopRamp dt => Sys2Proof.Machine.execAxisStopRamp dt s
  | .axisStall dt n delta => Sys2Proof.Machine.execAxisStall dt n delta s
  | .axisRefEdge dt n aux active => Sys2Proof.Machine.execAxisRefEdge dt n aux active s
  | .encIndexEdge dt n => Sys2Proof.Machine.execEncIndexEdge dt n s
  | .encError dt n level => Sys2Proof.Machine.execEncError dt n level s
  | .ethPortRead dt p => Sys2Proof.Machine.execEthPortRead dt p s
  | .ethProbe dt p => Sys2Proof.Machine.execEthProbe dt p s
  | .ethFrameReceived dt port frame fcsOk => Sys2Proof.Machine.execEthFrameReceived dt port frame fcsOk s
  | .arpRequest dt mac ip target => Sys2Proof.Machine.execArpRequest dt mac ip target s
  | .icmpEcho dt mac ip data => Sys2Proof.Machine.execIcmpEcho dt mac ip data s
  | .ipReassemblyTimeout dt => Sys2Proof.Machine.execIpReassemblyTimeout dt s
  | .phyPoll dt mode => Sys2Proof.Machine.execPhyPoll dt mode s
  | .linkChanged dt port mode => Sys2Proof.Machine.execLinkChanged dt port mode s
  | .excessCollisions dt port => Sys2Proof.Machine.execExcessCollisions dt port s
  | .plcaLost dt port active => Sys2Proof.Machine.execPlcaLost dt port active s
  | .ptpSync dt port ident delta err => Sys2Proof.Machine.execPtpSync dt port ident delta err s
  | .ptpAnnounceTimeout dt next => Sys2Proof.Machine.execPtpAnnounceTimeout dt next s
  | .ptpMasterSync dt port => Sys2Proof.Machine.execPtpMasterSync dt port s
  | .ptpDelayReq dt port mac req => Sys2Proof.Machine.execPtpDelayReq dt port mac req s
  | .canTx dt p => Sys2Proof.Machine.execCanTx dt p s
  | .canTxAbort dt p => Sys2Proof.Machine.execCanTxAbort dt p s
  | .canMbRead dt p => Sys2Proof.Machine.execCanMbRead dt p s
  | .canStateRead dt p => Sys2Proof.Machine.execCanStateRead dt p s
  | .canRecover dt p => Sys2Proof.Machine.execCanRecover dt p s
  | .canSerialTx dt p => Sys2Proof.Machine.execCanSerialTx dt p s
  | .serialTxDone dt => Sys2Proof.Machine.execSerialTxDone dt s
  | .serialPacketEnd dt r age err => Sys2Proof.Machine.execSerialPacketEnd dt r age err s
  | .canFrameReceived dt port f age recErr => Sys2Proof.Machine.execCanFrameReceived dt port f age recErr s
  | .canAttemptEnd dt port result age => Sys2Proof.Machine.execCanAttemptEnd dt port result age s
  | .canBusOff dt port => Sys2Proof.Machine.execCanBusOff dt port s
  | .canBusOn dt port seqs => Sys2Proof.Machine.execCanBusOn dt port seqs s
  | .canLockTimeout dt => Sys2Proof.Machine.execCanLockTimeout dt s
  | .queRead dt p => Sys2Proof.Machine.execQueRead dt p s
  | .queRelease dt p => Sys2Proof.Machine.execQueRelease dt p s
  | .queStateRead dt p => Sys2Proof.Machine.execQueStateRead dt p s
  | .memStateRead dt p => Sys2Proof.Machine.execMemStateRead dt p s
  | .memUncorrectable dt b addr w => Sys2Proof.Machine.execMemUncorrectable dt b addr w s
  | .bankCopyDone dt => Sys2Proof.Machine.execBankCopyDone dt s
  | .scrubPassEnd dt complete reads => Sys2Proof.Machine.execScrubPassEnd dt complete reads s
  | .mramScrub dt ce bad => Sys2Proof.Machine.execMramScrub dt ce bad s
  | .fldStateRead dt p => Sys2Proof.Machine.execFldStateRead dt p s
  | .fldMemberAdd dt p => Sys2Proof.Machine.execFldMemberAdd dt p s
  | .fldMemberRemove dt p => Sys2Proof.Machine.execFldMemberRemove dt p s
  | .fldMembersRead dt p => Sys2Proof.Machine.execFldMembersRead dt p s
  | .join dt f => Sys2Proof.Machine.execJoin dt f s
  | .joinAnswer dt f => Sys2Proof.Machine.execJoinAnswer dt f s
  | .heartbeat dt f => Sys2Proof.Machine.execHeartbeat dt f s
  | .hbAnswer dt f => Sys2Proof.Machine.execHbAnswer dt f s
  | .foldPeriodicSend dt => Sys2Proof.Machine.execFoldPeriodicSend dt s
  | .memberAbsent dt fold m => Sys2Proof.Machine.execMemberAbsent dt fold m s
  | .foldLost dt => Sys2Proof.Machine.execFoldLost dt s
  | .routed dt f => Sys2Proof.Machine.execRouted dt f s
  | .stop dt f => Sys2Proof.Machine.execStop dt f s
  | .stopAck dt f => Sys2Proof.Machine.execStopAck dt f s
  | .stopSet dt f => Sys2Proof.Machine.execStopSet dt f s
  | .releaseReq dt dev body => Sys2Proof.Machine.execReleaseReq dt dev body s
  | .foldRelease dt dev body => Sys2Proof.Machine.execFoldRelease dt dev body s
  | .releaseAck dt dev body => Sys2Proof.Machine.execReleaseAck dt dev body s
  | .prepare dt dev body => Sys2Proof.Machine.execPrepare dt dev body s
  | .vote dt dev body => Sys2Proof.Machine.execVote dt dev body s
  | .decide dt dev body => Sys2Proof.Machine.execDecide dt dev body s
  | .resumeNote dt dev body => Sys2Proof.Machine.execResumeNote dt dev body s
  | .noteAck dt dev body => Sys2Proof.Machine.execNoteAck dt dev body s
  | .taskReport dt dev body => Sys2Proof.Machine.execTaskReport dt dev body s
  | .reportAck dt dev body => Sys2Proof.Machine.execReportAck dt dev body s
  | .borderDigest dt dev body => Sys2Proof.Machine.execBorderDigest dt dev body s
  | .relay dt f => Sys2Proof.Machine.execRelay dt f s
  | .foldPartTimeout dt => Sys2Proof.Machine.execFoldPartTimeout dt s
  | .paiStateRead dt p => Sys2Proof.Machine.execPaiStateRead dt p s
  | .paiResync dt p => Sys2Proof.Machine.execPaiResync dt p s
  | .paiRoleSet dt p => Sys2Proof.Machine.execPaiRoleSet dt p s
  | .paiYield dt p => Sys2Proof.Machine.execPaiYield dt p s
  | .pairTick dt count => Sys2Proof.Machine.execPairTick dt count s
  | .pairStop dt kind index ramp set => Sys2Proof.Machine.execPairStop dt kind index ramp set s
  | .yield dt reason => Sys2Proof.Machine.execYield dt reason s
  | .item dt inp => Sys2Proof.Machine.execItem dt inp s
  | .merge dt m => Sys2Proof.Machine.execMerge dt m s
  | .journalConf dt sess acc => Sys2Proof.Machine.execJournalConf dt sess acc s
  | .digest dt inD outD written test => Sys2Proof.Machine.execDigest dt inD outD written test s
  | .mismatchTestDone dt passed => Sys2Proof.Machine.execMismatchTestDone dt passed s
  | .syncReq dt eui role images keys => Sys2Proof.Machine.execSyncReq dt eui role images keys s
  | .syncAnswer dt result => Sys2Proof.Machine.execSyncAnswer dt result s
  | .pairStateFrame dt part => Sys2Proof.Machine.execPairStateFrame dt part s
  | .pairLinkTrained dt lane0 lane1 => Sys2Proof.Machine.execPairLinkTrained dt lane0 lane1 s
  | .pairLaneDown dt lane => Sys2Proof.Machine.execPairLaneDown dt lane s
  | .pairLinkLost dt => Sys2Proof.Machine.execPairLinkLost dt s
  | .partnerSilent dt => Sys2Proof.Machine.execPartnerSilent dt s
  | .partnerAbsent dt => Sys2Proof.Machine.execPartnerAbsent dt s
  | .resyncTimeout dt => Sys2Proof.Machine.execResyncTimeout dt s
  | .itemDiscard dt => Sys2Proof.Machine.execItemDiscard dt s
  | .vitKeyLoad dt p => Sys2Proof.Machine.execVitKeyLoad dt p s
  | .vitKeyErase dt p => Sys2Proof.Machine.execVitKeyErase dt p s
  | .vitSlotRead dt p => Sys2Proof.Machine.execVitSlotRead dt p s
  | .vitAttest dt p => Sys2Proof.Machine.execVitAttest dt p s
  | .vitCertRead dt p => Sys2Proof.Machine.execVitCertRead dt p s
  | .vitStateRead dt p => Sys2Proof.Machine.execVitStateRead dt p s
  | .vitTamperClear dt p => Sys2Proof.Machine.execVitTamperClear dt p s
  | .tamperAlarm dt source active => Sys2Proof.Machine.execTamperAlarm dt source active s
  | .keyRemask dt => Sys2Proof.Machine.execKeyRemask dt s
  | .rngFault dt => Sys2Proof.Machine.execRngFault dt s
  | .updOpen dt p => Sys2Proof.Machine.execUpdOpen dt p s
  | .updBegin dt p => Sys2Proof.Machine.execUpdBegin dt p s
  | .bankEraseDone dt part => Sys2Proof.Machine.execBankEraseDone dt part s
  | .updWrite dt p => Sys2Proof.Machine.execUpdWrite dt p s
  | .updVerify dt p => Sys2Proof.Machine.execUpdVerify dt p s
  | .updActivate dt p => Sys2Proof.Machine.execUpdActivate dt p s
  | .handoverPause dt part c us => Sys2Proof.Machine.execHandoverPause dt part c us s
  | .handoverFail dt part c again => Sys2Proof.Machine.execHandoverFail dt part c again s
  | .updConfirm dt p => Sys2Proof.Machine.execUpdConfirm dt p s
  | .updClose dt p => Sys2Proof.Machine.execUpdClose dt p s
  | .updStateRead dt p => Sys2Proof.Machine.execUpdStateRead dt p s
  | .updIdleTimeout dt => Sys2Proof.Machine.execUpdIdleTimeout dt s
  | .trialUnconfirmed dt => Sys2Proof.Machine.execTrialUnconfirmed dt s
  | .arcRead dt p => Sys2Proof.Machine.execArcRead dt p s
  | .arcStateRead dt p => Sys2Proof.Machine.execArcStateRead dt p s
  | .archiveIntervalEnd dt => Sys2Proof.Machine.execArchiveIntervalEnd dt s
  | .cxBadFrame dt => Sys2Proof.Machine.execCxBadFrame dt s
  | .ping dt spi data => Sys2Proof.Machine.execPing dt spi data s
  | .getVersion dt spi data => Sys2Proof.Machine.execGetVersion dt spi data s
  | .reset dt spi data => Sys2Proof.Machine.execReset dt spi data s
  | .getStatus dt spi data => Sys2Proof.Machine.execGetStatus dt spi data s
  | .getTime dt spi data => Sys2Proof.Machine.execGetTime dt spi data s
  | .setBasePos dt spi data => Sys2Proof.Machine.execSetBasePos dt spi data s
  | .getBasePos dt spi data => Sys2Proof.Machine.execGetBasePos dt spi data s
  | .startSurvey dt spi data => Sys2Proof.Machine.execStartSurvey dt spi data s
  | .getSurvey dt spi data => Sys2Proof.Machine.execGetSurvey dt spi data s
  | .setElevMask dt spi data => Sys2Proof.Machine.execSetElevMask dt spi data s
  | .getSatInfo dt spi data => Sys2Proof.Machine.execGetSatInfo dt spi data s
  | .setRtcm dt spi data => Sys2Proof.Machine.execSetRtcm dt spi data s
  | .readRtcm dt spi data => Sys2Proof.Machine.execReadRtcm dt spi data s
  | .setRadio dt spi data => Sys2Proof.Machine.execSetRadio dt spi data s
  | .getRadio dt spi data => Sys2Proof.Machine.execGetRadio dt spi data s
  | .addRobot dt spi data => Sys2Proof.Machine.execAddRobot dt spi data s
  | .removeRobot dt spi data => Sys2Proof.Machine.execRemoveRobot dt spi data s
  | .listRobots dt spi data => Sys2Proof.Machine.execListRobots dt spi data s
  | .getRobot dt spi data => Sys2Proof.Machine.execGetRobot dt spi data s
  | .sendTask dt spi data => Sys2Proof.Machine.execSendTask dt spi data s
  | .cancelTask dt spi data => Sys2Proof.Machine.execCancelTask dt spi data s
  | .getTask dt spi data => Sys2Proof.Machine.execGetTask dt spi data s
  | .sendMsg dt spi data => Sys2Proof.Machine.execSendMsg dt spi data s
  | .readMsg dt spi data => Sys2Proof.Machine.execReadMsg dt spi data s
  | .stopAll dt spi data => Sys2Proof.Machine.execStopAll dt spi data s
  | .releaseStop dt spi data => Sys2Proof.Machine.execReleaseStop dt spi data s
  | .stopRobot dt spi data => Sys2Proof.Machine.execStopRobot dt spi data s
  | .getStop dt spi data => Sys2Proof.Machine.execGetStop dt spi data s
  | .setCan dt spi data => Sys2Proof.Machine.execSetCan dt spi data s
  | .canSend dt spi data => Sys2Proof.Machine.execCanSend dt spi data s
  | .canRead dt spi data => Sys2Proof.Machine.execCanRead dt spi data s
  | .setNetkey dt spi data => Sys2Proof.Machine.execSetNetkey dt spi data s
  | .setAnt dt spi data => Sys2Proof.Machine.execSetAnt dt spi data s
  | .getEvent dt spi data => Sys2Proof.Machine.execGetEvent dt spi data s
  | .saveConfig dt spi data => Sys2Proof.Machine.execSaveConfig dt spi data s
  | .loadDefaults dt spi data => Sys2Proof.Machine.execLoadDefaults dt spi data s
  | .getCounters dt spi data => Sys2Proof.Machine.execGetCounters dt spi data s
  | .k9Info dt spi data => Sys2Proof.Machine.execK9Info dt spi data s
  | .cxTick dt => Sys2Proof.Machine.execCxTick dt s
  | .cxJoinRequest dt f => Sys2Proof.Machine.execCxJoinRequest dt f s
  | .cxPositionReport dt f => Sys2Proof.Machine.execCxPositionReport dt f s
  | .cxMessageFrame dt f => Sys2Proof.Machine.execCxMessageFrame dt f s
  | .cxStatusFrame dt f => Sys2Proof.Machine.execCxStatusFrame dt f s
  | .cxRobotLost dt a => Sys2Proof.Machine.execCxRobotLost dt a s
  | .cxStopLine dt isOpen => Sys2Proof.Machine.execCxStopLine dt isOpen s
  | .legacyCorrDropped dt r => Sys2Proof.Machine.execLegacyCorrDropped dt r s
  | .badOpcode dt opcode version p => Sys2Proof.Machine.execBadOpcode dt opcode version p s
  | .cxUnknownOpcode dt spi op chkOk => Sys2Proof.Machine.execCxUnknownOpcode dt spi op chkOk s
  | .ethFrameSent dt port => Sys2Proof.Machine.execEthFrameSent dt port s
  | .consoleLineSent dt => Sys2Proof.Machine.execConsoleLineSent dt s
  | .eventOutputFall dt => Sys2Proof.Machine.execEventOutputFall dt s
  | .followUpTimeout dt => Sys2Proof.Machine.execFollowUpTimeout dt s

end Sys2Proof.Machine
end

