-- ==== Sys2Proof/WellFormed.lean ====
section
/-! DEFINITION. Well-formed commands: every unit a command names exists (R3, R604), and every field fits the width that the
wire gives it. -/

namespace Sys2Proof

/-- A transport whose address and port fit their fields. -/
def Via.ok : Via → Bool
  | .udp ip port => decide (ip < 2 ^ 32 ∧ port < 2 ^ 16)
  | .spi => true
  | .fold k m => decide (k < 2 ^ 16 ∧ m < 2 ^ 16)

/-- A packet whose header fields fit (R74). -/
def Pkt.ok (p : Pkt) : Bool :=
  p.via.ok && decide (p.flags < 2 ^ 8 ∧ p.plen < 2 ^ 16 ∧ p.acc < 2 ^ 32 ∧ p.sess < 2 ^ 16 ∧ p.pcrc < 2 ^ 32)

/-- A boot whose straps have eight samples each, and whose failed parts exist (R59, R61). -/
def BootObs.ok (o : BootObs) : Bool :=
  o.cxMode.length == 8 && o.recoverN.length == 8 &&
  o.bad.all (fun (x : Nat × Nat) => match x.1 with
    | 0 => decide (x.2 < 48) | 1 | 2 => decide (x.2 < 4) | 3 | 4 | 5 => x.2 == 0 | 6 => decide (x.2 < 8) | _ => false)

/-- An air frame on one of the four chains (R193, R212). -/
def AirRx.ok (f : AirRx) : Bool := decide (f.chain < 4 ∧ f.shr < 1250 ∧ f.mcs < 16 ∧ f.len < 2 ^ 11 ∧ f.sec < 256 ∧ f.ctr < 2 ^ 32)

/-- A fold message on one of the five links, with header fields that fit (R451). -/
def FoldRx.ok (f : FoldRx) : Bool :=
  decide (f.link < 5 ∧ f.mac < 2 ^ 48 ∧ f.ver < 2 ^ 8 ∧ f.fold < 2 ^ 16 ∧ f.src < 2 ^ 16 ∧ f.dst < 2 ^ 16 ∧ f.seq < 2 ^ 32 ∧ f.crc < 2 ^ 32)

/-- A CAN frame whose fields fit (R402). -/
def CanFrame.ok (f : CanFrame) : Bool := decide (f.dlc < 16 ∧ f.id < 2 ^ 29) && decide (f.data.length ≤ 64)

/-- A CX robot frame with its nine payload bytes (R571). -/
def CxRx.ok (f : CxRx) : Bool := decide (f.src < 2 ^ 16) && f.payload.length == 9

/-- A command that names units the K9 has, with fields that fit. -/
def wellFormed (i : Instr) : Bool :=
  match i with
  | .powerOn _ o => o.ok
  | .externalReset _ o => o.ok
  | .vinFall _ => true
  | .vbatLoss _ => true
  | .resetExecute _ o => o.ok
  | .standbyEntry _ => true
  | .wakePattern _ port _ _ o => decide (port < 3) && o.ok
  | .standbySnapshot _ _ => true
  | .tickBoundary _ _ => true
  | .windowOverrun _ line => [1, 3, 4, 5, 6, 7, 8, 9, 10].contains line
  | .superframeBoundary _ => true
  | .slotStart _ _ => true
  | .tickLengthChange _ => true
  | .tickRealign _ => true
  | .domainTakesEffect _ dom => decide (dom < 19)
  | .watchdog _ core => decide (core < 8)
  | .watchdogHwReset _ o => o.ok
  | .sessionExpiry _ _ => true
  | .fragmentTimeout _ => true
  | .badPacket _ via check => decide (1 ≤ check ∧ check ≤ 3) && via.ok
  | .fragment _ opcode p => decide (opcode < 65536) && p.ok
  | .spiRead _ _ => true
  | .sessionOpen _ p => p.ok
  | .sessionResume _ p => p.ok
  | .sessionClose _ p => p.ok
  | .barrier _ p => p.ok
  | .completionAck _ p => p.ok
  | .completionRead _ p => p.ok
  | .ordersWrite _ p => p.ok
  | .ordersRead _ p => p.ok
  | .faultAck _ p => p.ok
  | .resmapRead _ p => p.ok
  | .eventRead _ p => p.ok
  | .sysCaptureRead _ p => p.ok
  | .budgetRead _ p => p.ok
  | .budgetProbe _ p => p.ok
  | .sysReset _ p => p.ok
  | .powerStandby _ p => p.ok
  | .prmGet _ p => p.ok
  | .prmSet _ p => p.ok
  | .commit _ p => p.ok
  | .discard _ p => p.ok
  | .echo _ p => p.ok
  | .countersRead _ p => p.ok
  | .countersClear _ p => p.ok
  | .coreCaptureRead _ p => p.ok
  | .diaEthCapture _ p => p.ok
  | .ethCaptureEnd _ => true
  | .diaCaptureRead _ p => p.ok
  | .diaRfTest _ p => p.ok
  | .rfTestEnd _ _ _ _ _ _ => true
  | .captureEdge _ ch _ => decide (ch < 4)
  | .compareEdge _ ch _ => decide (ch < 4)
  | .gnsStatusRead _ p => p.ok
  | .gnsMeasRead _ p => p.ok
  | .gnsExclude _ p => p.ok
  | .gnsReadmit _ p => p.ok
  | .gnsSnapStart _ p => p.ok
  | .snapshotCapture _ _ => true
  | .gnsSnapRead _ p => p.ok
  | .gnsSnapSolve _ p => p.ok
  | .snapshotSolveDone _ _ _ _ _ _ _ => true
  | .gnsSurveyStart _ p => p.ok
  | .surveyEnd _ _ _ => true
  | .gnsBaselineMeasure _ p => p.ok
  | .baselineMeasureDone _ _ _ _ _ _ _ => true
  | .channelAllocation _ _ => true
  | .antOpen _ ant => decide (ant < 2)
  | .antShort _ ant => decide (ant < 2)
  | .fixRead _ p => p.ok
  | .fixModeSet _ p => p.ok
  | .modeChangeInstant _ => true
  | .fixStateRead _ p => p.ok
  | .fixFilterReset _ p => p.ok
  | .clkTimeRead _ p => p.ok
  | .clkTimeSet _ p => p.ok
  | .holdoverExpiry _ => true
  | .timeFreerun _ => true
  | .timeOffset _ => true
  | .timeStep _ => true
  | .slewComplete _ => true
  | .leapSecond _ => true
  | .refinLost _ => true
  | .refinRetaken _ => true
  | .ppsPulse _ => true
  | .ppsOkMidpoint _ => true
  | .calendarTrim _ => true
  | .airChainRead _ p => p.ok
  | .airMapRead _ p => p.ok
  | .chainFault _ c level => decide (c < 4) && decide (level < 256)
  | .airRobotAdd _ p => p.ok
  | .airRobotRemove _ p => p.ok
  | .robotReleased _ r => decide (r < 256)
  | .airLinkRead _ p => p.ok
  | .joinRequest _ f => f.ok
  | .uplinkFrame _ f => f.ok
  | .corFrame _ f => f.ok
  | .corMissed _ r => decide (r < 256)
  | .spr _ r _ => decide (r < 256)
  | .resume _ r _ => decide (r < 256)
  | .sleepReq _ r _ => decide (r < 256)
  | .leave _ r _ => decide (r < 256)
  | .segReq _ r _ => decide (r < 256)
  | .release _ r _ => decide (r < 256)
  | .taskDone _ r _ => decide (r < 256)
  | .taskState _ r _ => decide (r < 256)
  | .stopState _ r _ => decide (r < 256)
  | .parcelRetx _ r => decide (r < 256)
  | .robotLost _ r => decide (r < 256)
  | .wakeMissed _ r => decide (r < 256)
  | .counterExhausted _ key => decide (key.getD 0 < 256)
  | .pasNodesWrite _ p => p.ok
  | .pasLanesWrite _ p => p.ok
  | .pasPaddockWrite _ p => p.ok
  | .pasHurdlePlace _ p => p.ok
  | .pasHurdleRemove _ p => p.ok
  | .pasMove _ p => p.ok
  | .pasResvRead _ p => p.ok
  | .pasStateRead _ p => p.ok
  | .pasResvClear _ p => p.ok
  | .overstay _ => true
  | .borderVoteTimeout _ => true
  | .preparedEntryExpiry _ => true
  | .noEvidence _ r => decide (r < 256)
  | .prfStateRead _ p => p.ok
  | .prfPfSet _ p => p.ok
  | .prfTrackRead _ p => p.ok
  | .tskSubmit _ p => p.ok
  | .tskCancel _ p => p.ok
  | .tskResultRead _ p => p.ok
  | .tskResultAck _ p => p.ok
  | .tskStateRead _ p => p.ok
  | .tskRead _ p => p.ok
  | .droverJobEnd _ core => decide (2 ≤ core ∧ core < 8)
  | .crkStop _ p => p.ok
  | .crkRelease _ p => p.ok
  | .crkStateRead _ p => p.ok
  | .crkRobotRead _ p => p.ok
  | .loopOpen _ p => decide (p.ch < 2)
  | .loopClose _ _ _ => true
  | .loopDiscrepancy _ => true
  | .stopFrameSend _ c _ => decide (c < 4)
  | .stopUnconfirmed _ r => decide (r < 256)
  | .axsMove _ p => p.ok
  | .axsHalt _ p => p.ok
  | .axsHome _ p => p.ok
  | .axsSetPos _ p => p.ok
  | .axsStateRead _ p => p.ok
  | .axisPwmPeriod _ n _ _ => decide (n < 4)
  | .axisMoveDone _ n => decide (n < 4)
  | .axisStopRamp _ => true
  | .axisStall _ n _ => decide (n < 4)
  | .axisRefEdge _ n _ _ => decide (n < 4)
  | .encIndexEdge _ n => decide (n < 4)
  | .encError _ n level => decide (n < 4) && decide (level < 256)
  | .ethPortRead _ p => p.ok
  | .ethProbe _ p => p.ok
  | .ethFrameReceived _ port _ _ => decide (port < 3)
  | .arpRequest _ mac ip target => decide (mac < 2 ^ 48) && decide (ip < 2 ^ 32) && decide (target < 2 ^ 32)
  | .icmpEcho _ mac ip _ => decide (mac < 2 ^ 48) && decide (ip < 2 ^ 32)
  | .ipReassemblyTimeout _ => true
  | .phyPoll _ _ => true
  | .linkChanged _ port _ => decide (port < 3)
  | .excessCollisions _ port => decide (port < 3)
  | .plcaLost _ port _ => decide (port < 3)
  | .ptpSync _ port _ _ _ => decide (port < 3)
  | .ptpAnnounceTimeout _ _ => true
  | .ptpMasterSync _ port => decide (port < 3)
  | .ptpDelayReq _ port mac _ => decide (port < 3) && decide (mac < 2 ^ 48)
  | .canTx _ p => p.ok
  | .canTxAbort _ p => p.ok
  | .canMbRead _ p => p.ok
  | .canStateRead _ p => p.ok
  | .canRecover _ p => p.ok
  | .canSerialTx _ p => p.ok
  | .serialTxDone _ => true
  | .serialPacketEnd _ _ _ _ => true
  | .canFrameReceived _ port f _ _ => decide (port < 2) && f.ok
  | .canAttemptEnd _ port _ _ => decide (port < 2)
  | .canBusOff _ port => decide (port < 2)
  | .canBusOn _ port _ => decide (port < 2)
  | .canLockTimeout _ => true
  | .queRead _ p => p.ok
  | .queRelease _ p => p.ok
  | .queStateRead _ p => p.ok
  | .memStateRead _ p => p.ok
  | .memUncorrectable _ b _ _ => decide (b < 48)
  | .bankCopyDone _ => true
  | .scrubPassEnd _ _ _ => true
  | .mramScrub _ _ _ => true
  | .fldStateRead _ p => p.ok
  | .fldMemberAdd _ p => p.ok
  | .fldMemberRemove _ p => p.ok
  | .fldMembersRead _ p => p.ok
  | .join _ f => f.ok
  | .joinAnswer _ f => f.ok
  | .heartbeat _ f => f.ok
  | .hbAnswer _ f => f.ok
  | .foldPeriodicSend _ => true
  | .memberAbsent _ _ _ => true
  | .foldLost _ => true
  | .routed _ f => f.ok
  | .stop _ f => f.ok
  | .stopAck _ f => f.ok
  | .stopSet _ f => f.ok
  | .releaseReq _ dev _ => decide (dev < 64)
  | .foldRelease _ dev _ => decide (dev < 64)
  | .releaseAck _ dev _ => decide (dev < 64)
  | .prepare _ dev _ => decide (dev < 64)
  | .vote _ dev _ => decide (dev < 64)
  | .decide _ dev _ => decide (dev < 64)
  | .resumeNote _ dev _ => decide (dev < 64)
  | .noteAck _ dev _ => decide (dev < 64)
  | .taskReport _ dev _ => decide (dev < 64)
  | .reportAck _ dev _ => decide (dev < 64)
  | .borderDigest _ dev _ => decide (dev < 64)
  | .relay _ f => f.ok
  | .foldPartTimeout _ => true
  | .paiStateRead _ p => p.ok
  | .paiResync _ p => p.ok
  | .paiRoleSet _ p => p.ok
  | .paiYield _ p => p.ok
  | .pairTick _ _ => true
  | .pairStop _ _ _ _ _ => true
  | .yield _ _ => true
  | .item _ _ => true
  | .merge _ _ => true
  | .journalConf _ _ _ => true
  | .digest _ _ _ _ _ => true
  | .mismatchTestDone _ _ => true
  | .syncReq _ _ _ _ _ => true
  | .syncAnswer _ _ => true
  | .pairStateFrame _ _ => true
  | .pairLinkTrained _ _ _ => true
  | .pairLaneDown _ lane => decide (lane < 2)
  | .pairLinkLost _ => true
  | .partnerSilent _ => true
  | .partnerAbsent _ => true
  | .resyncTimeout _ => true
  | .itemDiscard _ => true
  | .vitKeyLoad _ p => p.ok
  | .vitKeyErase _ p => p.ok
  | .vitSlotRead _ p => p.ok
  | .vitAttest _ p => p.ok
  | .vitCertRead _ p => p.ok
  | .vitStateRead _ p => p.ok
  | .vitTamperClear _ p => p.ok
  | .tamperAlarm _ source _ => decide (source < 7)
  | .keyRemask _ => true
  | .rngFault _ => true
  | .updOpen _ p => p.ok
  | .updBegin _ p => p.ok
  | .bankEraseDone _ part => decide (1 ≤ part ∧ part ≤ 4)
  | .updWrite _ p => p.ok
  | .updVerify _ p => p.ok
  | .updActivate _ p => p.ok
  | .handoverPause _ part c _ => decide (1 ≤ part ∧ part ≤ 4 ∧ c < 4)
  | .handoverFail _ part c _ => decide (1 ≤ part ∧ part ≤ 4 ∧ c < 4)
  | .updConfirm _ p => p.ok
  | .updClose _ p => p.ok
  | .updStateRead _ p => p.ok
  | .updIdleTimeout _ => true
  | .trialUnconfirmed _ => true
  | .arcRead _ p => p.ok
  | .arcStateRead _ p => p.ok
  | .archiveIntervalEnd _ => true
  | .cxBadFrame _ => true
  | .ping _ _ _ => true
  | .getVersion _ _ _ => true
  | .reset _ _ _ => true
  | .getStatus _ _ _ => true
  | .getTime _ _ _ => true
  | .setBasePos _ _ _ => true
  | .getBasePos _ _ _ => true
  | .startSurvey _ _ _ => true
  | .getSurvey _ _ _ => true
  | .setElevMask _ _ _ => true
  | .getSatInfo _ _ _ => true
  | .setRtcm _ _ _ => true
  | .readRtcm _ _ _ => true
  | .setRadio _ _ _ => true
  | .getRadio _ _ _ => true
  | .addRobot _ _ _ => true
  | .removeRobot _ _ _ => true
  | .listRobots _ _ _ => true
  | .getRobot _ _ _ => true
  | .sendTask _ _ _ => true
  | .cancelTask _ _ _ => true
  | .getTask _ _ _ => true
  | .sendMsg _ _ _ => true
  | .readMsg _ _ _ => true
  | .stopAll _ _ _ => true
  | .releaseStop _ _ _ => true
  | .stopRobot _ _ _ => true
  | .getStop _ _ _ => true
  | .setCan _ _ _ => true
  | .canSend _ _ _ => true
  | .canRead _ _ _ => true
  | .setNetkey _ _ _ => true
  | .setAnt _ _ _ => true
  | .getEvent _ _ _ => true
  | .saveConfig _ _ _ => true
  | .loadDefaults _ _ _ => true
  | .getCounters _ _ _ => true
  | .k9Info _ _ _ => true
  | .cxTick _ => true
  | .cxJoinRequest _ f => f.ok
  | .cxPositionReport _ f => f.ok
  | .cxMessageFrame _ f => f.ok
  | .cxStatusFrame _ f => f.ok
  | .cxRobotLost _ a => decide (a < 256)
  | .cxStopLine _ _ => true
  | .legacyCorrDropped _ r => decide (r < 256)
  | .badOpcode _ opcode version p => decide (opcode < 65536) && decide (version < 256) && p.ok
  | .cxUnknownOpcode _ _ op _ => decide (op < 256)
  | .ethFrameSent _ port => decide (port < 3)
  | .consoleLineSent _ => true
  | .eventOutputFall _ => true
  | .followUpTimeout _ => true

/-- The property of being well formed. -/
abbrev WellFormed (i : Instr) : Prop := wellFormed i = true

end Sys2Proof
end

