-- ==== Sys2Proof/Safety.lean ====
section
/-! DEFINITION. What counts as a safe run, in the terms that statements use: the invariant of the power states, runs of
well-formed commands, and states in which a command leaves nothing to settle. -/

namespace Sys2Proof.Safety

open Sys2Proof.Machine

/-- What every step keeps (R65, R66): with the controller die unpowered no firmware runs, and no event waits to be matched, no
packet, CX reply or console line to be read. -/
def Inv (s : State) : Prop :=
  s.sys.power ≠ .run → s.sys.fw = .none ∧ s.sys.toMatch = [] ∧ s.sys.console = [] ∧ s.ses.spiOut = [] ∧ s.cx.reply = none

/-- Every command that waits is well formed. -/
def QueueOk (s : State) : Prop := ∀ i ∈ s.pending, WellFormed i

/-- A state from which every step of the queue goes on: no command faults or is refused. -/
def Live (s : State) : Prop := ∃ t, step s = .next t

/-- Native mode in Run with firmware running: where the rows of the native blocks act. -/
structure NativeRun (s : State) : Prop where
  power : s.sys.power = .run
  native : s.sys.cx = false
  running : s.sys.fw = .running

/-- Native mode in Run, whatever the firmware does: where the rows of hardware act. -/
structure NativeHw (s : State) : Prop where
  power : s.sys.power = .run
  native : s.sys.cx = false

/-- In Run with firmware running, in either mode. -/
structure FwRun (s : State) : Prop where
  power : s.sys.power = .run
  running : s.sys.fw = .running

/-- CX mode in Run with firmware running. -/
structure CxRun (s : State) : Prop where
  power : s.sys.power = .run
  cx : s.sys.cx = true
  running : s.sys.fw = .running

/-- A state in native mode whose commands leave nothing to settle but what they themselves ask for: no standing order, no event to
match, no packet to judge, no message of the fold, no pair, no tick length to come. -/
structure Calm (s : State) : Prop where
  run : NativeRun s
  cores : s.coresDown = false
  orders : s.sys.orders = []
  matched : s.sys.toMatch = []
  packets : ∀ e ∈ s.ses.sessions, e.2.waiting = []
  fold : s.crk.forward = false ∧ s.pas.outbox = []
  pair : s.pai.role = 0
  ticks : s.cfg.pend.any (fun p => p.tickAt.isSome) = false ∧ s.air.tickMap = none

/-! ### A host packet that is taken -/

/-- The packet's command, as its opcode's meaning sees it (R79). -/
def cmdOf (spec : OpSpec) (p : Pkt) (x : Session) : Cmd := {
  sess := p.sess, acc := p.acc, opcode := spec.code, params := p.body, pre := p.pathLen, via := p.via, agreed := x.agreed, replay := false }

/-- The session has been heard from by a packet of opcode `op` (R89, R93). -/
def heard (op : Nat) (p : Pkt) (s : State) : State := s.mapSession p.sess (State.hear op p s.now)

/-- The session has been heard from by a numbered packet, which ends a partial reassembly (R93). -/
def heardNumbered (op : Nat) (p : Pkt) (s : State) : State :=
  (heard op p s).mapSession p.sess (fun x => { x with part := none })

/-- A packet of session `x` passes checks 1 to 11 of R78 on a unit that merges no inputs with a partner; one that withholds its outputs
takes only the opcodes of R490. -/
structure HostReady (s : State) (spec : OpSpec) (p : Pkt) (x : Session) : Prop where
  hears : s.hearsHost p.via = true
  running : s.sys.fw = .running
  alone : s.merging = false ∧ s.mirror = false ∧ (s.pairShut = true → State.pairAnswers spec.code = true)
  room : p.via = .spi → s.spiFull = false
  head : State.headCheck p = none
  flags : p.flags / 32 = 0
  direct : p.routed = false
  whole : p.fragment = false
  urgent : p.urgent = true → spec.urgent = true
  session : p.sess ≠ 0 ∧ s.session p.sess = some x
  agreed : missingBit x.agreed (p.flagBits ++ spec.bits) = none

/-- A packet of opcode `op` that carries the number its session expects, with no earlier packet or effect to wait for (R82, R84). -/
structure Expected (s : State) (op : Nat) (p : Pkt) (x : Session) : Prop where
  plain : p.urgent = false
  number : p.acc = x.next ∧ p.acc ≠ 0
  first : x.waiting = []
  free : State.blocked holdsOp op p.body s p.sess = false

/-- There is credit, and the journal can be written (R85, R91). -/
def Credit (s : State) (spec : OpSpec) (p : Pkt) : Prop :=
  s.ses.journalFault = false ∧ (heardNumbered spec.code p s).creditCheck p.sess p.body.length spec.maxBody = none

/-- A packet judged outside the sequence: its opcode is a control command, or it is urgent; its number is 0 (R81). -/
def Outside (spec : OpSpec) (p : Pkt) : Prop := (p.urgent = true ∨ spec.kind = .control) ∧ p.acc = 0

/-- A query's answer: the session expects the next number (R81, R82). -/
def answerQuery (spec : OpSpec) (p : Pkt) (a : Ans) (t : State) : State :=
  (t.mapSession p.sess (fun x => { x with next := succAcc p.acc })).reply spec.code p a

/-- A work command's answer: journaled; `none` is ACCEPTED, with a completion to come (R86, R90). -/
def answerWork (spec : OpSpec) (p : Pkt) (x : Session) (a : Option Ans) (t : State) : State :=
  (t.acceptWork false spec p (cmdOf spec p x) a).pumpBarriers

/-- A control command's answer (R81). -/
def answerControl (spec : OpSpec) (p : Pkt) (a : Ans) (t : State) : State := t.reply spec.code p a

/-- Where a query is taken and `ok` holds of its command, it completes: it leaves the state and gives the answer of `res`. -/
def QueryCompletes (row : Nat → Pkt → Instr) (spec : OpSpec) (ok : Cmd → State → Prop) (res : Cmd → State → State × Ans) : Prop :=
  ∀ s dt p x, HostReady (s.before dt) spec p x → Expected (s.before dt) spec.code p x →
    ok (cmdOf spec p x) (heardNumbered spec.code p (s.before dt)) →
    exec (row dt p) s = .next (s.act dt (fun u =>
      answerQuery spec p (res (cmdOf spec p x) (heardNumbered spec.code p u)).2 (res (cmdOf spec p x) (heardNumbered spec.code p u)).1))

/-- Where a work command is taken and `ok` holds, it completes: it leaves the state of `res`, and answers at once with the answer of
`res`, or with ACCEPTED where that is none and a completion follows. -/
def WorkCompletes (row : Nat → Pkt → Instr) (spec : OpSpec) (ok : Cmd → State → Prop) (res : Cmd → State → State × Option Ans) : Prop :=
  ∀ s dt p x, HostReady (s.before dt) spec p x → Expected (s.before dt) spec.code p x → Credit (s.before dt) spec p →
    ok (cmdOf spec p x) (heardNumbered spec.code p (s.before dt)) →
    exec (row dt p) s = .next (s.act dt (fun u =>
      answerWork spec p x (res (cmdOf spec p x) (heardNumbered spec.code p u)).2 (res (cmdOf spec p x) (heardNumbered spec.code p u)).1))

/-- Where a control command, or an urgent one, is taken and `ok` holds, it completes: it leaves the state and gives the answer of
`res`. -/
def ControlCompletes (row : Nat → Pkt → Instr) (spec : OpSpec) (ok : Cmd → State → Prop) (res : Cmd → State → State × Ans) : Prop :=
  ∀ s dt p x, HostReady (s.before dt) spec p x → Outside spec p →
    ok (cmdOf spec p x) (heard spec.code p (s.before dt)) →
    exec (row dt p) s = .next (s.act dt (fun u =>
      answerControl spec p (res (cmdOf spec p x) (heard spec.code p u)).2 (res (cmdOf spec p x) (heard spec.code p u)).1))

/-- Where `ok` holds of the state that time has brought, a row of events acts: its whole effect is `eff`. -/
def EventActs (row : Nat → Instr) (ok : State → Prop) (eff : State → State) : Prop :=
  ∀ s dt, ok (s.before dt) → exec (row dt) s = .next (s.act dt eff)

end Sys2Proof.Safety
end

