-- ==== Sys2Proof/Certificates/Slice0/Obligations.lean ====
section
/-! DEFINITION. The statements for the provers. -/

open Sys2Proof Sys2Proof.Machine Sys2Proof.Safety

/-- The records of PRM_GET: each parameter's id, size and value in use, or as the session has staged it (R95). -/
def prmRecords (c : Cmd) (s : State) : Bytes :=
  (List.range (u16 c.params 0)).flatMap (fun i =>
    let id := u16 c.params (4 + 2 * i)
    match paramDef? id with
    | none => []
    | some d =>
      let v := if u8 c.params 2 = 1 then (Tab.find? id (s.shadowOf c.sess).params).getD (s.prmInUse id) else s.prmInUse id
      le 2 id ++ le 2 d.size ++ padMul 4 (le d.size v))

/-- What AIR_ROBOT_ADD asks of its parameters and of the flock, apart from its price and its slots (R219, R243). -/
def robotAddOk (c : Cmd) (s : State) : Prop :=
  let b := c.params
  b.length = 16 ∧ u8 b 8 < 16 ∧ u8 b 9 < 4 ∧ u32 b 12 = 0 ∧ s.lnk.robots.length < 256 ∧
  (∀ e ∈ s.lnk.robots, e.2.eui ≠ u64 b 0) ∧
  (if bit (u8 b 9) 0 then missingBit c.agreed [98, 99] = none ∧ (s.lnk.robots.filter (fun (e : Nat × Robot) => e.2.legacy)).length < 48 ∧
      s.prm 0x050F ≠ 0xFF ∧ s.legacyKey (s.prm 0x1300) = true
    else missingBit c.agreed [228] = none ∧ u16 b 10 < 512 ∧ s.joinKeyAt (u16 b 10) = true)

/-- Records staged from FIRST on (R252). -/
def stagedRecords (size : Nat) (b : Bytes) (t : Tab Bytes) : Tab Bytes :=
  ((State.recordsOf size (u16 b 4) b).zipIdx).foldl (fun t (x, i) => Tab.put (u32 b 0 + i) x t) t

/-- The header of a table write is sound (R252). -/
def tableHeadOk (size limit : Nat) (b : Bytes) : Prop :=
  u32 b 0 + u16 b 4 ≤ limit ∧ u16 b 4 ≠ 0 ∧ u16 b 6 = 0 ∧ b.length = 8 + size * u16 b 4

/-- What an entry whose window has ended at `now` becomes in OVERSTAY and PREPARED_ENTRY_EXPIRY: nothing, for a prepared one (R277, R283). -/
def afterEnd (now : Nat) (e : Entry) : Option Entry :=
  match e.tOut with
  | none => some e
  | some t =>
    if now < t then some e
    else if e.kind = 3 then none
    else if e.kind = 0 then some { e with kind := 2, tIn := now, tOut := none }
    else if e.kind = 1 then some { e with tOut := none }
    else some e

/-- The records of a TSK_SUBMIT, with their indices. -/
def submittedRecords (b : Bytes) : List (Bytes × Nat) := ((List.range (u16 b 0)).map (fun i => slice b (4 + 64 * i) 64)).zipIdx

/-- What CRK_STOP asks of its parameters: a scope in range that exists, agreed bits, and room in the stop table once the changes under way
have taken effect (R346, R362, R365). -/
def stopOk (c : Cmd) (s : State) : Prop :=
  let k := u8 c.params 0
  let i := u16 c.params 2
  c.params.length = 4 ∧ u8 c.params 1 ≤ 1 ∧
  (k = 0 ∧ i = 0 ∨ k = 1 ∧ i < 256 ∧ (s.robot? i).isSome ∨ k = 2 ∧ i < 16 ∨ k = 3 ∧ i < 1024 ∧ ∃ p ∈ s.paddocks, p.1 = i) ∧
  missingBit c.agreed ((if u8 c.params 1 = 1 then [135] else []) ++ (if k = 0 then [] else [163])) = none ∧
  s.stopsAhead.stopsFull k i = false

/-- The stop that a CRK_STOP forms, once the changes under way have taken effect (R362). -/
def stopFormed (c : Cmd) (s : State) : State := s.stopsAhead.putStop 2 (u8 c.params 0) (u16 c.params 2) (u8 c.params 1)

/-- The reply of CRK_STOP: the token that the stop forms. -/
def stopAnswer (c : Cmd) (t : State) : Ans := Ans.ok (le 2 (t.stopToken (u8 c.params 0) (u16 c.params 2)) ++ le 2 0)

/-- What AXS_MOVE and AXS_HOME ask of the axis: enabled, at rest, not held by the all-stop (R377, R380, R381). -/
def axisReady (s : State) (n : Nat) : Prop := n < 4 ∧ s.axisOn n = true ∧ s.axisMoving n = false ∧ s.axisStopped n = false

/-- Position and speed of an axis now, in microsteps and microsteps/s (R372). -/
def axisNow (s : State) (n : Nat) : Int × Int :=
  match (s.axis n).motion with
  | some m => (m.posAt (s.now - m.start), m.velAt (s.now - m.start))
  | none => ((s.axis n).p, 0)

/-- The port is up, and no capture runs. -/
def portUp (n : Nat) (u : State) : Prop := NativeHw u ∧ u.ethUp n = true ∧ u.sys.ethCap = none

/-- The frame's length and FCS are those of an accepted frame, and the port admits its destination and EtherType (R389, R391). -/
def ethOk (n : Nat) (b : Bytes) (u : State) : Prop :=
  64 ≤ b.length ∧ b.length ≤ u.ethM n + 18 ∧ u.ethDstOk n (rdBe b 0 6) = true ∧ State.ethTypeOk n (rdBe b 12 2) = true

/-- An IPv4 packet for ETH_IP_ADDR without options, whole, with a sound header, that carries a UDP datagram for SYS_UDP_PORT whose checksum
is 0 or right (R390). -/
def udpOk (ip : Bytes) (u : State) : Prop :=
  let d := slice ip 20 (rdBe ip 2 2 - 20)
  u.prm 0x0B06 ≠ 0 ∧ u8 ip 0 = 0x45 ∧ 20 ≤ ip.length ∧ 20 ≤ rdBe ip 2 2 ∧ rdBe ip 2 2 ≤ ip.length ∧
  rdBe ip 2 2 ≤ 4124 ∧ sum16 (ip.take 20) = 0xFFFF ∧ rdBe ip 16 4 = u.prm 0x0B06 ∧ rdBe ip 6 2 = 0 ∧
  u8 ip 9 = 17 ∧ 8 ≤ d.length ∧ rdBe d 4 2 = d.length ∧ rdBe d 2 2 = u.prm 0x0019 ∧ rdBe d 6 2 = 0

/-- PORT and MB are in range and the port runs for site devices (R402, R416). -/
def canAt (c : Cmd) (s : State) : Prop := u8 c.params 0 ≤ 1 ∧ u8 c.params 1 ≤ 63 ∧ s.canOn (u8 c.params 0) = true

/-- What CAN_TX asks of its parameters and buffer (R403, R410, R416). -/
def canTxOk (c : Cmd) (s : State) : Prop :=
  let fl := u8 c.params 2
  let len := u8 c.params 3
  canAt c s ∧ c.params.length = 8 + (len + 3) / 4 * 4 ∧ fl < 16 ∧ len ∈ canLens ∧ (bit fl 1 = false → len ≤ 8) ∧ (bit fl 3 = true → len = 0) ∧
  (bit fl 2 = true → bit fl 1 = true) ∧ (bit fl 3 = true → bit fl 1 = false) ∧ u32 c.params 4 < 2 ^ 29 ∧
  u8 (s.mbRec (u8 c.params 0) (u8 c.params 1)) 0 = 2 ∧ u8 (s.canCfg (u8 c.params 0)) 0 = 0 ∧
  (s.canMb (u8 c.params 0) (u8 c.params 1)).tx = none

/-- The frame of a CAN_TX. -/
def canTxFrame (c : Cmd) : CanFrame := {
  ide := bit (u8 c.params 2) 0, fdf := bit (u8 c.params 2) 1, rtr := bit (u8 c.params 2) 3, brs := bit (u8 c.params 2) 2, esi := false
  dlc := ((findIdx (fun l => l == u8 c.params 3) canLens).map Prod.fst).getD 0, id := u32 c.params 4, data := slice c.params 8 (u8 c.params 3) }

/-- What CAN_TX_ABORT asks: a transmit buffer of a port that runs (R411, R416). -/
def canAbortOk (c : Cmd) (s : State) : Prop :=
  c.params.length = 4 ∧ u16 c.params 2 = 0 ∧ canAt c s ∧ u8 (s.mbRec (u8 c.params 0) (u8 c.params 1)) 0 = 2

/-- A CAN controller of the site devices takes a valid frame: it is error active. -/
def canTakes (n : Nat) (u : State) : Prop :=
  NativeRun u ∧ u.foldCan n = false ∧ u.canOn n = true ∧ (u.canPort n).state = .active

/-- What LEN, its padding and the queue of CAN_SERIAL_TX must satisfy (R415). -/
def serialTxOk (c : Cmd) (s : State) : Prop :=
  1 ≤ u16 c.params 0 ∧ u16 c.params 0 ≤ 1024 ∧ u16 c.params 2 = 0 ∧ c.params.length = 4 + (u16 c.params 0 + 3) / 4 * 4 ∧ u32 s.serRec 0 ≠ 0 ∧
  (s.can.serTx.map (fun (e : Nat × Nat × Bytes) => e.2.2.length)).sum + u16 c.params 0 ≤ 4096

/-- The record of a bank in MEM_STATE_READ (R443). -/
def bankRecord (s : State) (i : Nat) : Bytes :=
  le 1 i ++ le 1 (State.bankCode (s.bank i).state) ++ le 1 (if i = 47 then (match s.mem.spareFor with | some b => b | none => 0xFF) else 0xFF) ++
    le 1 0 ++ le 4 (s.bank i).correctable ++ le 4 (s.bank i).uncorrectable

/-- A word of a bank is lost: it is counted, poisoned and reported (R425). -/
def wordLost (b addr : Nat) (s : State) : State :=
  (s.mapBank b (fun k => { k with
    uncorrectable := inc32 k.uncorrectable
    poisoned := if k.poisoned.contains addr then k.poisoned else addr :: k.poisoned })).raiseD 0x0D01 .fault 1 7 b addr

/-- A message of type `typ` that this device's tier `k` takes (R451): its version, CRC, receiver and sender are right, and its sender is a
member of a fold whose bellwether this device is, or asks to be one. No pair merges inputs. -/
structure FoldHeard (typ k : Nat) (f : FoldRx) (u : State) : Prop where
  run : NativeRun u
  merge : u.merging = false
  queue : u.fixedDown 2 = false
  tier : u.tierOf f.fold = some k
  version : f.ver = 1
  crc : f.crc = crc32c (foldHeader f.ver typ f.fold f.src f.dst f.seq f.body.length ++ f.body)
  receiver : f.dst = (u.tier k).member ∨ f.dst = 0xFFFF
  sender : f.src ≠ (u.tier k).member ∧ f.src < 4096
  member : (u.tier k).member = 0 → typ = 1 ∨ Tab.has (f.fold * 4096 + f.src) u.fld.members = true

/-- The sender's MAC address is kept (R450). -/
def foldFrom (f : FoldRx) (u : State) : State := u.mapFld (fun x => { x with macs := Tab.put (f.fold * 4096 + f.src) f.mac x.macs })

/-- The roster of a fold of which this device is bellwether can change for this index (R472). -/
def rosterOk (s : State) (fold m : Nat) : Prop :=
  1 ≤ m ∧ m < 4096 ∧ fold ≠ 0xFFFF ∧ ∃ k < 15, (s.tier k).fold = fold ∧ (s.tier k).member = 0

/-- A whole packet as ROUTED carries it, its header sound (R74, R76). -/
def wholeHeader (b : Bytes) : Prop := 16 ≤ b.length ∧ u8 b 0 = 0xA7 ∧ u8 b 1 = 0x4B ∧ crc16 (b.take 14) = u16 b 14

/-- The packet that ROUTED carries. -/
def routedPkt (f : FoldRx) : Pkt := {
  via := .fold f.fold f.src, flags := u8 f.body 3, plen := u16 f.body 6, delivered := f.body.length, acc := u32 f.body 8
  sess := u16 f.body 12, payload := slice f.body 16 (u16 f.body 6), pcrc := u32 f.body (16 + u16 f.body 6) }

/-- A relayed message's row puts it in the intake of the next tick boundary (R447, R455). -/
def RelayTaken (row : Nat → Nat → Bytes → Instr) (typ : Nat) : Prop :=
  ∀ dev b, State.relayLenOk typ b = true → EventActs (fun dt => row dt dev b) (fun u => NativeRun u ∧ u.tiers ≠ 0)
    (fun u => u.mapFld (fun x => { x with inbox := x.inbox ++ [(dev, typ, b)] }))

/-- CX firmware runs, and no RESET is under way (R566). -/
structure CxReady (s : State) : Prop where
  run : CxRun s
  ready : s.cx.resetAt = none

/-- Where CX mode takes a command whose data `ok` admits, it completes: an unread reply is discarded first on SPI (R564), the state of
`res` follows, and the reply carries the opcode, status OK and the data of `res` (R565, R566). -/
def CxDoes (row : Nat → Bool → Bytes → Instr) (op : Nat) (ok : Bytes → State → Prop) (res : Bytes → State → State × Bytes) : Prop :=
  ∀ s dt spi data, CxReady (s.before dt) → data.length ≤ 254 → ok data ((s.before dt).cxUnread spi) →
    exec (row dt spi data) s = .next (s.act dt (fun u =>
      (res data (u.cxUnread spi)).1.cxAnswer spi op (le 1 0 ++ (res data (u.cxUnread spi)).2)))

/-- A CX command without data that reads: its reply is computed from the state. -/
def CxReads (row : Nat → Bool → Bytes → Instr) (op : Nat) (body : State → Bytes) : Prop :=
  CxDoes row op (fun b _ => b = []) (fun _ s => (s, body s))

/-- A robot's frame of nine bytes comes in the slot of its poll, with the radio on (R570, R572). -/
structure CxUplink (u : State) (f : CxRx) (j : Nat) (r : CxRobot) : Prop where
  run : CxRun u
  radio : u.cxRadioOn = true
  slot : f.slot = 6 + 4 * j
  polled : u.cx.polled[j]? = some f.src
  whole : f.payload.length = 9
  robot : Tab.find? f.src u.cx.robots = some r

/-- The CX tick that begins: the one whose instant is nearest to the pasture time (R570). -/
def cxTickNo (u : State) : Nat := (u.clk.count + 25000000) / 50000000

/-- CX tick `k` with a beacon, and one poll to address `a` (R570, R571). -/
def cxPollTick (k pan a : Nat) (r : CxRobot) (u : State) : State :=
  let ch := (7 * k + pan) % 25
  ((((u.mapCx (fun x => { x with k := k, polled := [], joining := [] })).cxSend ch 0 0xFFFF
    (cxPayload 0x10 u.cxAllStop (le 2 k ++ zeros 6))).mapCx (fun x => { x with
      robots := Tab.put a { r with due := (cxItem r).1, polls := r.polls + 1 } x.robots })).cxSend ch 4 a
    (cxPayload 0x12 (u.cxAllStop || r.stop) (le 1 (cxItem r).1 ++ (cxItem r).2))).mapCx (fun x => { x with polled := [a], lastPoll := a })

/-- One more frame has been received, and its robot's record is `r` (R571, R573). -/
def cxReceived (a : Nat) (r : CxRobot) (u : State) : State :=
  u.mapCx (fun x => { x with rcvd := inc32 x.rcvd, robots := Tab.put a r x.robots })

/-- A tick's beginning: the beacons' stop token, Close work and inputs held, its number and plan, steps of an update, and the pair's boundary. -/
def tickOpened (o : TickObs) (u : State) : State :=
  (u.chooseToken.closeDone.takeHeld.openTick.updBoundary o.copied).pairBoundary o.ready o.beacon

/-- The event of a line's overrun that has no chain (R54). -/
def overrunCode (line : Nat) : Nat :=
  if line = 1 then 0x0084 else if line = 3 then 0x0085 else if line = 5 then 0x0087 else 0x0089

/-- An overrun of a line is counted, for the first time in its tick (R54). -/
def overrunCounted (line : Nat) (u : State) : State :=
  u.mapSys (fun y => { y with
    overruns := inc32 y.overruns, runs := Tab.put (16 + line) 1 (Tab.put line (min 255 (Tab.getD line 0 u.sys.runs + 1)) y.runs) })

/-- A core is halted by its watchdog, and WATCHDOG is raised with the number of cores halted (R63). -/
def coreHalted (core : Nat) (arm : Bool) (u : State) : State :=
  (u.mapSys (fun y => { y with halted := y.halted ++ [core], wdtWait := if arm then some 0 else y.wdtWait })).raise0 0x0090 .fault
    (u.sys.halted.length + 1) 0

/-- A packet for session 0000h passes checks 1 to 12 of R78 (R69, R88). -/
structure OpenReady (u : State) (p : Pkt) : Prop where
  hears : u.hearsHost p.via = true
  running : u.sys.fw = .running
  alone : u.merging = false ∧ u.pairShut = false
  room : p.via = .spi → u.spiFull = false
  head : State.headCheck p = none
  flags : p.flags / 32 = 0
  direct : p.routed = false
  whole : p.fragment = false
  plain : p.urgent = false
  outside : p.sess = 0 ∧ p.acc = 0

/-- A fragment of a numbered command in session `x` passes checks 1 to 11 of R78. -/
structure FragReady (u : State) (spec : OpSpec) (p : Pkt) (x : Session) : Prop where
  hears : u.hearsHost p.via = true
  running : u.sys.fw = .running
  alone : u.merging = false ∧ u.pairShut = false
  room : p.via = .spi → u.spiFull = false
  head : State.headCheck p = none
  flags : p.flags / 32 = 0
  direct : p.routed = false
  part : p.fragment = true
  plain : p.urgent = false
  session : p.sess ≠ 0 ∧ u.session p.sess = some x
  agreed : missingBit x.agreed (p.flagBits ++ spec.bits) = none
  opcode : opSpec? spec.code = some spec ∧ spec.code ≠ 1 ∧ spec.code ≠ 2 ∧ spec.kind ≠ .control
  count : 2 ≤ p.fragCount ∧ p.fragCount ≤ 16 ∧ p.fragIndex + 1 < p.fragCount

/-- A session without the reassembly that has had no fragment for 1 s (R93). -/
def partLeft (now : Nat) (x : Session) : Session :=
  match x.part with
  | some q => if 1000000000 ≤ now - q.last then { x with part := none } else x
  | none => x

/-- The session holds these parts, and the fragment is answered (R93). -/
def fragmentHeld (spec : OpSpec) (p : Pkt) (parts : List Bytes) (u : State) : State :=
  (((heard spec.code p u).mapSession p.sess (fun x => { x with via := p.via })).mapSession p.sess (fun x => { x with
    part := some ⟨p.acc, spec.code, p.fragCount, parts, u.now⟩ })).reply spec.code p (Ans.bare 0x00C2 p.fragIndex)

/-! The pair, Vitrine, updates and the Archive. -/

/-- An urgent packet in session `x` that both units of a lockstep pair take, outside the sequence: it passes checks 1 to 11 of R78. -/
structure PairUrgent (u : State) (spec : OpSpec) (p : Pkt) (x : Session) : Prop where
  hears : u.hearsHost p.via = true
  running : u.sys.fw = .running
  paired : u.pai.mode = .lockstep ∧ (u.pai.role = 1 ∨ u.pai.role = 2)
  room : p.via = .spi → u.spiFull = false
  head : State.headCheck p = none
  flags : p.flags / 32 = 0
  direct : p.routed = false
  urgent : p.urgent = true ∧ spec.urgent = true
  outside : p.acc = 0
  session : p.sess ≠ 0 ∧ u.session p.sess = some x
  agreed : missingBit x.agreed (p.flagBits ++ spec.bits) = none

/-- An unnumbered packet goes to the partner in an ITEM; the active also enters it for its next MERGE (R482). -/
def itemSent (op : Nat) (p : Pkt) (u : State) : State :=
  let v := (u.mapPai (fun y => { y with order := y.order + 1 })).emit (.pairItem (.cmd op p u.pai.order))
  if u.pai.role = 1 then v.mapPai (fun y => { y with taken := y.taken ++ [.unnumbered true u.pai.order] }) else v

/-- A unit in lockstep yields: YIELD goes out, it withholds, and no CAN attempt goes on (R490). -/
def yielded (reason : Nat) (u : State) : State :=
  ((((u.emit (.pairYield reason)).pairApart .yielded).mapPai (fun y => { y with
    linkYield := reason == 4, yieldSeen := y.yieldSeen || reason != 4, silent := 0, silentDone := false, solo := false })).mapCan (fun c => { c with
      ports := c.ports.map (fun k => { k with onBus := none }) })).raise0 0x0F02 .fault reason 0

/-- A unit takes up the outputs of the unit in control: CAN and the serial link, and replies wait for the partner no more (R491). -/
def controlTaken (u : State) : State :=
  ((((u.pairApart .alone).mapPai (fun y => { y with
    solo := true, items := u.pai.items, heldTick := u.pai.heldTick })).canOffer 0).canOffer 1).serSend.releaseConfs

/-- A resynchronisation ends without lockstep, and the PAI_RESYNCs that waited end with PAIR_SYNC_FAILED (R493, R499). -/
def syncFailed (level : Nat) (u : State) : State :=
  (u.pai.syncCmds.foldl (fun s c => s.complete c.1 c.2 (Ans.bare 0x0F42 level))
    (((u.pairApart (if u.pai.role = 2 then .withheld else .alone)).mapPai (fun y => { y with syncCmds := [] })).raise0
      0x0F08 .warning level 0)).releaseConfs

/-- The standby asks for resynchronisation (R493). -/
def syncAsked (u : State) : State :=
  (u.emit .pairSyncReq).mapPai (fun y => { y with mode := .resync, syncFrom := some u.now, syncAt := none, parts := 0 })

/-- The pair merges its inputs, and this unit is the active (1) or the standby (2). -/
def Merges (role : Nat) (u : State) : Prop := NativeRun u ∧ u.merging = true ∧ u.pai.role = role

/-- The link has trained, and this unit has the role. -/
def Linked (role : Nat) (u : State) : Prop := NativeRun u ∧ u.pai.trained = true ∧ u.pai.role = role

/-- The working keys and the root can be used, and no pair is at work (R505, R508, R518). -/
def keysReady (s : State) : Prop :=
  s.vit.locked = false ∧ s.vit.rootBad = false ∧ s.pai.mode ≠ .lockstep ∧ s.pai.mode ≠ .resync

/-- What VIT_KEY_LOAD asks of its parameters and its slot, before it unwraps the key (R508, R510). -/
def keyLoadOk (b : Bytes) (s : State) : Prop :=
  b.length = 96 ∧ u16 b 0 < 512 ∧ 1 ≤ u8 b 2 ∧ u8 b 2 ≤ 3 ∧ u8 b 3 = 0 ∧ (u8 b 2 = 2 ↔ u16 b 0 = 0) ∧ keysReady s ∧
  s.contentGen (u16 b 0) ≠ 0xFFFFFFFE

/-- A key operation waits for the next tick boundary. -/
def keyOpWaits (sess acc slot typ key kcv : Nat) (s : State) : State :=
  s.mapVit (fun v => { v with ops := v.ops ++ [⟨sess, acc, slot, typ, key, kcv, false⟩] })

/-- A source alarms while firmware may run: the level latches, and TAMPER is raised (R513, R514). -/
def alarmed (src : Nat) (u : State) : State :=
  (u.mapVit (fun v => { v with
    active := v.active ++ [src], tamper := max v.tamper (u.tamperLevel src), alarms := inc32 v.alarms })).raise0
      0x1001 .fault (u.tamperLevel src) src

/-- This session holds the update lock, with no activation (R525). -/
def holdsLock (c : Cmd) (s : State) : Prop := (∃ l, s.upd.lock = some l ∧ l.sess = c.sess) ∧ s.upd.act = none

/-- The lock ends, and banks that were being written are empty (R525). -/
def lockEnded (level : Nat) (u : State) : State :=
  let clean (b : ImgBank) : ImgBank := if b.state = .writing then ImgBank.none else b
  (u.mapU (fun y => { y with lock := none, banks := y.banks.map (fun x => (clean x.1, clean x.2)) })).raise0 0x1101 .notice level 0

/-- The first part of the mask that fails verification for an activation at reset, with its reason (R529, R530). -/
def activationFault (mask : Nat) (s : State) : Option Nat :=
  (([1, 2, 3, 4].filter (fun p => bit mask (p - 1))).filterMap (fun p =>
    let r := s.verifyPart p (s.majorOk 1 mask) true
    if r = 0 then none else some (p * 256 + r))).head?

/-- A confirmed trial: what was trial is confirmed, and what was confirmed is the previous image (R537). -/
def bankConfirmed (b : ImgBank) : ImgBank :=
  { b with state := if b.state = .trial then .confirmed else if b.state = .confirmed then .previous else b.state }

/-- Where a work command is taken and `ok` holds, it is refused with one answer, and leaves no other effect than the packet itself. -/
def WorkRefuses (row : Nat → Pkt → Instr) (spec : OpSpec) (ok : Cmd → State → Prop) (a : Ans) : Prop :=
  ∀ s dt p x, HostReady (s.before dt) spec p x → Expected (s.before dt) spec.code p x → Credit (s.before dt) spec p →
    ok (cmdOf spec p x) (heardNumbered spec.code p (s.before dt)) →
    exec (row dt p) s = .next (s.act dt (fun u => (heardNumbered spec.code p u).refusePkt spec.code p a))

/-- The commands that reach a part which R65 keeps powered outside Run. -/
def reachesUnpowered (i : Instr) : Bool :=
  match i with
  | .powerOn _ _ | .externalReset _ _ | .vinFall _ | .vbatLoss _ | .wakePattern _ _ _ _ _ | .standbySnapshot _ _ | .tamperAlarm _ _ _
  | .keyRemask _ => true
  | _ => false

/-- Sessions, completions, events, counters, reset and Standby requests: each completes with the effect and answer given here (R58, R67, R87, R89, R91, R92, R97 to R99;
assumption 151). -/
def Obligations.SessionCommandsComplete : Prop :=
  WorkCompletes .sessionClose opSessionClose (fun c s => c.params = [] ∧ s.entriesOf c.sess = [])
    (fun c s => ((s.mapSes (fun z => { z with sessions := Tab.del c.sess z.sessions })).lockSessionEnds c.sess, some (Ans.ok []))) ∧
  WorkCompletes .barrier opBarrier (fun c _ => c.params.length = 4 ∧ u8 c.params 0 ≤ 1 ∧ rd c.params 1 3 = 0) (fun _ s => (s, none)) ∧
  ControlCompletes .completionAck opCompletionAck
    (fun c s => c.params.length = 4 ∧ ∃ x, s.session c.sess = some x ∧ State.notAccepted x (u32 c.params 0) = false ∧
      ∀ e, s.entry? c.sess (u32 c.params 0) = some e → e.result.isSome ∧ e.awaitConf = none)
    (fun c s => ((s.ackCompletions c.sess (u32 c.params 0)).pumpSession c.sess, Ans.ok [])) ∧
  (∀ s dt p x e, HostReady (s.before dt) opCompletionRead p x → Outside opCompletionRead p → p.body.length = 4 →
    (heard 0x0006 p (s.before dt)).entry? p.sess (u32 p.body 0) = some e → e.awaitConf = none →
    exec (.completionRead dt p) s = .next (s.act dt (fun u => (heard 0x0006 p u).sendPacket p.via
      (match e.result with | some a => State.completionOf e a | none => State.acceptedOf e)))) ∧
  ControlCompletes .faultAck opFaultAck (fun c s => c.params.length = 4 ∧ u32 c.params 0 < s.sys.nextSeq)
    (fun c s => (s.mapSys (fun y => { y with
      unacked := y.unacked.filter (fun k => decide (u32 c.params 0 < k))
      events := y.events.map (fun e => if e.cls = .fault ∧ e.seq ≤ u32 c.params 0 then { e with acked := true } else e) }), Ans.ok [])) ∧
  ControlCompletes .eventRead opEventRead
    (fun c _ => c.params.length = 8 ∧ 1 ≤ u16 c.params 4 ∧ u16 c.params 4 ≤ 64 ∧ u16 c.params 6 = 0)
    (fun c s =>
      let es := (s.sys.events.filter (fun e => decide (u32 c.params 0 ≤ e.seq))).take (u16 c.params 4)
      let lost := match s.sys.events.head? with | some e => decide (u32 c.params 0 < e.seq ∧ 1 < e.seq) | none => false
      (s, ⟨stOk, b2n lost, le 2 es.length ++ le 2 0 ++ es.flatMap eventBytes⟩)) ∧
  ControlCompletes .echo opEcho (fun c _ => c.params.length ≤ 4072) (fun c s => (s, Ans.ok c.params)) ∧
  QueryCompletes .countersRead opCountersRead (fun c _ => c.params = [])
    (fun _ s => (s, Ans.ok (s.ses.counts.flatMap (fun r => r.flatMap (le 4))))) ∧
  WorkCompletes .countersClear opCountersClear (fun c _ => c.params = [])
    (fun _ s => (s.mapSes (fun z => { z with counts := List.replicate 3 (List.replicate 8 0) }), some (Ans.ok []))) ∧
  WorkCompletes .sysReset opSysReset (fun c _ => c.params.length = 2 ∧ u16 c.params 0 ≤ 1)
    (fun c s => (s.mapSys (fun y => { y with pendReset := some ⟨u16 c.params 0 == 1, 4, false, false, some (c.sess, c.acc)⟩ }), some (Ans.ok []))) ∧
  WorkCompletes .powerStandby opPowerStandby
    (fun c s => c.params.length = 1 ∧ u8 c.params 0 ≤ 7 ∧ missingBit c.agreed (if u8 c.params 0 = 0 then [] else [196]) = none ∧
      (s.beaconsOn = true → ∀ k < 4, s.chainOn k = false) ∧ (∀ n < 4, s.axisMoving n = false) ∧ s.upd.lock = none)
    (fun c s => (s.mapSys (fun y => { y with pendStandby := some ⟨u8 c.params 0, c.sess, c.acc⟩ }), some (Ans.ok [])))

/-- Parameters, standing orders, commits and budgets: each command completes with the effect and answer given here (R25, R52, R53, R94 to R97, R102). -/
def Obligations.ParameterCommandsComplete : Prop :=
  QueryCompletes .prmGet opPrmGet
    (fun c s =>
      let b := c.params
      let ids := (List.range (u16 b 0)).map (fun i => u16 b (4 + 2 * i))
      1 ≤ u16 b 0 ∧ u16 b 0 ≤ 256 ∧ u8 b 2 ≤ 1 ∧ u8 b 3 = 0 ∧ b.length = 4 + 2 * u16 b 0 ∧ (∀ id ∈ ids, (paramDef? id).isSome) ∧
        24 + c.pre + (prmRecords c s).length ≤ 4096)
    (fun c s => (s, Ans.ok (prmRecords c s))) ∧
  (∀ items, WorkCompletes .prmSet opPrmSet
    (fun c _ => 4 ≤ c.params.length ∧ 1 ≤ u16 c.params 0 ∧ u16 c.params 0 ≤ 256 ∧ u16 c.params 2 = 0 ∧
      prmItems c.agreed (u16 c.params 0) 0 (c.params.drop 4) [] = .inr items)
    (fun c s => (s.mapShadow c.sess (fun h => { h with params := Tab.union h.params items }), some (Ans.ok [])))) ∧
  WorkCompletes .discard opDiscard (fun c _ => c.params = [])
    (fun c s => (s.mapShadow c.sess (fun _ => Shadow.empty), some (Ans.ok []))) ∧
  WorkCompletes .commit opCommit
    (fun c s => c.params.length = 4 ∧ (u32 c.params 0 = 0 ∨ u32 c.params 0 = s.newestNum) ∧ (s.shadowOf c.sess).isEmpty = true)
    (fun _ s => (s, some (Ans.bare stOk 1))) ∧
  (∀ overlap inPlace, WorkCompletes .commit opCommit
    (fun c s => c.params.length = 4 ∧ (u32 c.params 0 = 0 ∨ u32 c.params 0 = s.newestNum) ∧ (s.shadowOf c.sess).isEmpty = false ∧
      s.cfg.lost = false ∧
      s.commitCheck c.agreed s.newest (s.newest.takeAll (s.shadowOf c.sess)) (s.shadowOf c.sess) = .inr (overlap, inPlace))
    (fun c s =>
      let h := s.shadowOf c.sess
      let new := s.newest.takeAll h
      let p := s.pendOf c s.newest h overlap inPlace
      let t := ((s.mapCfg (fun k => { k with pend := k.pend ++ [p] })).mapShadow c.sess (fun _ => Shadow.empty)).announceAir s.newest new
      (match placeMap (t.siteAt new t.sys.slots) with
        | .ok m => if m = t.newestMap then t else t.acceptMap m
        | .error _ => t, none))) ∧
  WorkCompletes .ordersWrite opOrdersWrite
    (fun c _ => c.params.length = 12 ∧ u16 c.params 0 < 256 ∧ u16 c.params 2 = 0 ∧ soOk (u64 c.params 4) = true ∧
      missingBit c.agreed (soNeed (u64 c.params 4)) = none)
    (fun c s => (s.mapShadow c.sess (fun h => { h with orders := Tab.put (u16 c.params 0) (u64 c.params 4) h.orders }), some (Ans.ok []))) ∧
  QueryCompletes .ordersRead opOrdersRead
    (fun c _ => c.params.length = 8 ∧ 1 ≤ u16 c.params 2 ∧ u16 c.params 0 + u16 c.params 2 ≤ 256 ∧ u8 c.params 4 ≤ 1 ∧ rd c.params 5 3 = 0)
    (fun c s => (s, Ans.ok ((List.range (u16 c.params 2)).flatMap (fun i =>
      let v := Tab.getD (u16 c.params 0 + i) 0 s.cfg.eff.orders
      le 8 (if u8 c.params 4 = 1 then Tab.getD (u16 c.params 0 + i) v (s.shadowOf c.sess).orders else v))))) ∧
  QueryCompletes .resmapRead opResmapRead
    (fun c _ => c.params.length = 4 ∧ 1 ≤ u8 c.params 0 ∧ u8 c.params 0 ≤ 7 ∧ rd c.params 1 3 = 0)
    (fun c s =>
      let own := s.cfg.claims.filter (fun k => k.1 / 0x1000000 == u8 c.params 0)
      let next := (claimsOf s.newest).filter (fun (k : Claim) => k.1 / 0x1000000 == u8 c.params 0 &&
        !(s.cfg.claims.any (fun o => o.1 == k.1 && o.2.1 == (k.2.1, k.2.2))))
      (s, Ans.ok (le 2 (own.length + next.length) ++ le 2 0 ++
        own.flatMap (fun k => le 4 k.1 ++ le 1 k.2.1.1 ++ le 1 (k.2.1.2 % 256) ++ le 2 0 ++ le 4 k.2.2) ++
        next.flatMap (fun k => le 4 k.1 ++ le 1 k.2.1 ++ le 1 (k.2.2 % 256) ++ le 2 1 ++ le 4 (s.claimGen k))))) ∧
  QueryCompletes .budgetRead opBudgetRead (fun c _ => c.params = []) (fun _ s => (s, Ans.ok (s.budgetBlock false s.siteEffect))) ∧
  QueryCompletes .budgetProbe opBudgetProbe
    (fun c s => u16 c.params 0 ≤ 64 ∧ u16 c.params 2 = 0 ∧ c.params.length = 4 + 8 * u16 c.params 0 ∧
      ∀ i < u16 c.params 0, State.probeEntryOk (slice c.params (4 + 8 * i) 8) ((s.newest.takeAll (s.shadowOf c.sess)).prm 0x050F) = true)
    (fun c s =>
      let es := (List.range (u16 c.params 0)).map (fun i => slice c.params (4 + 8 * i) 8)
      let z := es.foldl State.probeAdd (s.siteFor (s.newest.takeAll (s.shadowOf c.sess)))
      (s, ⟨stOk, match z.lines.find? (fun l => Site.overLine l) with | some l => l.code | none => 0, s.budgetBlock true z⟩)) ∧
  (∀ k, WorkCompletes .sysCaptureRead opSysCaptureRead
    (fun c s => c.params.length = 4 ∧ u8 c.params 0 < 4 ∧ 1 ≤ u8 c.params 1 ∧ u8 c.params 1 ≤ 64 ∧ u16 c.params 2 = 0 ∧
      1 ≤ u8 (s.ccRec (u8 c.params 0)) 1 ∧ u8 (s.ccRec (u8 c.params 0)) 1 ≤ 3 ∧ s.sys.cc[u8 c.params 0]? = some k)
    (fun c s => (s.mapSys (fun y => { y with
        cc := modAt (u8 c.params 0) (fun k => { k with stamps := k.stamps.drop (u8 c.params 1), lost := 0 }) y.cc }),
      some (Ans.ok (le 2 (k.stamps.take (u8 c.params 1)).length ++ le 2 k.lost ++
        (k.stamps.take (u8 c.params 1)).flatMap (fun (x : Nat × Bool × Bool) =>
          le 8 x.1 ++ le 1 (b2n x.2.1) ++ le 1 (b2n x.2.2) ++ zeros 6))))))

/-- The GNSS block's opcodes: each completes with the effect and answer given here (R128, R130 to R137). -/
def Obligations.GnssCommandsComplete : Prop :=
  QueryCompletes .gnsStatusRead opGnsStatusRead (fun c _ => c.params = []) (fun _ s => (s, Ans.ok s.gnsStatus)) ∧
  (∀ m, QueryCompletes .gnsMeasRead opGnsMeasRead
    (fun c s => c.params.length = 12 ∧ u16 c.params 8 ≤ 191 ∧ 1 ≤ u16 c.params 10 ∧ u16 c.params 10 ≤ 126 ∧
      (if u64 c.params 0 = 0 then s.gns.sets.head? else (s.gns.sets.take 2).find? (fun m => m.epoch == u64 c.params 0)) = some m)
    (fun c s => (s, Ans.ok (setHeader m ++ ((m.recs.drop (u16 c.params 8)).take (u16 c.params 10)).flatMap recBytesOf)))) ∧
  WorkCompletes .gnsExclude opGnsExclude
    (fun c _ => c.params.length = 4 ∧ sigOk (u8 c.params 0) (u8 c.params 1) (u8 c.params 2) = true ∧ u8 c.params 3 = 0)
    (fun c s => (State.raiseExcluded ((State.namedKeys c.params).filter (fun k => !State.suspectSig s.gns.integ k))
      (s.mapGns (fun g => { g with integ := (State.namedKeys c.params).foldl (fun t k => State.flagSig 64 k t) g.integ })),
      some (Ans.ok []))) ∧
  WorkCompletes .gnsReadmit opGnsReadmit
    (fun c _ => c.params.length = 4 ∧ sigOk (u8 c.params 0) (u8 c.params 1) (u8 c.params 2) = true ∧ u8 c.params 3 = 0)
    (fun c s => ((State.namedKeys c.params).foldl (fun s k => s.readmit 1 k) s, some (Ans.ok []))) ∧
  WorkCompletes .gnsSnapStart opGnsSnapStart
    (fun c s => c.params.length = 12 ∧ s.prm 0x0220 = 1 ∧ 1 ≤ u8 c.params 0 ∧ u8 c.params 0 ≤ 15 ∧ u16 c.params 2 = 0 ∧
      1 ≤ u8 c.params 1 ∧ u8 c.params 1 ≤ 32 ∧ s.gns.cap = none ∧ s.snapshotLost = false ∧
      (u64 c.params 4 = 0 ∨ s.timeValid = true ∧ s.clk.count + 20000000 ≤ u64 c.params 4 ∧ u64 c.params 4 ≤ s.clk.count + 60000000000))
    (fun c s => (s.mapGns (fun g => { g with cap := some ⟨u8 c.params 0, u8 c.params 1,
      if u64 c.params 4 = 0 then none else some (s.now + (u64 c.params 4 - s.clk.count)), c.sess, c.acc⟩ }), none)) ∧
  WorkCompletes .gnsSnapStart opGnsSnapStart
    (fun c s => c.params.length = 12 ∧ s.prm 0x0220 = 1 ∧ 1 ≤ u8 c.params 0 ∧ u8 c.params 0 ≤ 15 ∧ u16 c.params 2 = 0 ∧
      1 ≤ u8 c.params 1 ∧ u8 c.params 1 ≤ 32 ∧ s.gns.cap = none ∧ s.snapshotLost = true)
    (fun _ s => (s, some (Ans.bare stFault 0))) ∧
  (∀ d, QueryCompletes .gnsSnapRead opGnsSnapRead
    (fun c s => c.params.length = 6 ∧ u32 c.params 0 % 16 = 0 ∧ u16 c.params 4 % 16 = 0 ∧ 16 ≤ u16 c.params 4 ∧ u16 c.params 4 ≤ 4064 ∧
      (∀ k t, s.gns.cap = some k → k.start = some t → s.now < t) ∧ s.gns.capEnd = some d ∧
      u32 c.params 0 + u16 c.params 4 ≤ snapBytes d.streams d.ms)
    (fun c s => (s, if s.poisonedIn (u32 c.params 0) (u32 c.params 0 + u16 c.params 4) then Ans.bare stFault 0
      else Ans.ok (Memory.bytes s.gns.buf (u32 c.params 0) (u16 c.params 4))))) ∧
  WorkCompletes .gnsSnapSolve opGnsSnapSolve
    (fun c s => c.params = [] ∧ s.gns.cap = none ∧ s.gns.solve = none ∧ s.snapshotLost = false ∧ s.gns.capEnd ≠ none)
    (fun c s => (s.mapGns (fun g => { g with solve := some (c.sess, c.acc) }), none)) ∧
  WorkCompletes .gnsSurveyStart opGnsSurveyStart
    (fun c s => c.params = [] ∧ s.prm 0x0218 ≠ 0 ∧ ∀ t who, s.gns.survey = some (t, who) → who = none)
    (fun c s => (s.mapGns (fun g => { g with survey := some (s.now, some (c.sess, c.acc)), acc := ⟨0, (0, 0, 0), 0⟩ }), none)) ∧
  WorkCompletes .gnsBaselineMeasure opGnsBaselineMeasure
    (fun c s => c.params.length = 4 ∧ 30 ≤ u32 c.params 0 ∧ u32 c.params 0 ≤ 3600 ∧ s.basePos ≠ none ∧ s.gns.alarm = [] ∧
      s.gns.baseline = none)
    (fun c s => (s.mapGns (fun g => { g with baseline := some (s.now + u32 c.params 0 * 1000000000, c.sess, c.acc, false) }), none))

/-- The GNSS block's events: what each does where it acts (R110, R111, R131, R133, R135, R136; assumption 141). -/
def Obligations.GnssEventsAct : Prop :=
  (∀ c t wave, EventActs (fun dt => .snapshotCapture dt wave)
    (fun u => NativeRun u ∧ u.gns.cap = some c ∧ c.start = some t ∧ t + c.ms * 1000000 ≤ u.now)
    (fun u =>
      let len := snapBytes c.streams c.ms
      let start := u.clk.count - (u.now - t)
      ((u.mapGns (fun g => { g with
        cap := none, capEnd := some ⟨start, u.timeValid, c.streams, c.ms⟩
        buf := Memory.writeAll (wave.filter (fun (e : Nat × Byte) => decide (e.1 < len))) [] })).mapMem (fun m => { m with
          banks := State.cleanse 0 len m.banks })).completeOk c.sess c.acc
          (le 8 start ++ le 4 len ++ le 1 c.streams ++ le 1 c.ms ++ le 2 (b2n u.timeValid)))) ∧
  (∀ n a r sats time xyz tSig pSig, EventActs (fun dt => .snapshotSolveDone dt r sats time xyz tSig pSig)
    (fun u => NativeRun u ∧ u.jobStuck 6 0 = false ∧ u.gns.solve = some (n, a) ∧ r ≤ 3 ∧ u.gns.eph ≠ [] ∧
      ∀ d, u.gns.capEnd = some d → bit d.streams 0 = true ∨ bit d.streams 2 = true)
    (fun u => (u.mapGns (fun g => { g with solve := none })).completeOk n a (le 1 r ++ le 1 sats ++ le 2 0 ++ le 8 time ++
      leS 8 xyz.1 ++ leS 8 xyz.2.1 ++ leS 8 xyz.2.2 ++ le 4 tSig ++ le 4 pSig ++ le 4 0))) ∧
  (∀ n a d r sats time xyz tSig pSig, EventActs (fun dt => .snapshotSolveDone dt r sats time xyz tSig pSig)
    (fun u => NativeRun u ∧ u.jobStuck 6 0 = false ∧ u.gns.solve = some (n, a) ∧ u.gns.capEnd = some d ∧ bit d.streams 0 = false ∧ bit d.streams 2 = false)
    (fun u => (u.mapGns (fun g => { g with solve := none })).completeOk n a (le 1 4 ++ le 1 sats ++ le 2 0 ++ le 8 time ++
      leS 8 xyz.1 ++ leS 8 xyz.2.1 ++ leS 8 xyz.2.2 ++ le 4 tSig ++ le 4 pSig ++ le 4 0))) ∧
  (∀ t who xyz sigma, EventActs (fun dt => .surveyEnd dt xyz sigma)
    (fun u => NativeRun u ∧ u.gns.survey = some (t, who) ∧ u.prm 0x021C * 1000000000 ≤ u.now - t ∧ u.gns.acc.within (u.prm 0x021D) = true)
    (fun u =>
      let x := u.gns.acc.mean xyz
      let d := u.gns.acc.sigma sigma
      let v := (u.mapGns (fun g => { g with survey := none, surveyed := some (x.1, x.2.1, x.2.2, d) })).raise0 0x020A .notice 0 0
      match who with
      | none => v
      | some (n, a) => v.completeOk n a (le 1 0 ++ zeros 3 ++ leS 8 x.1 ++ leS 8 x.2.1 ++ leS 8 x.2.2 ++ le 4 d))) ∧
  (∀ t who xyz sigma, EventActs (fun dt => .surveyEnd dt xyz sigma)
    (fun u => NativeRun u ∧ u.gns.survey = some (t, who) ∧ 4 * (u.prm 0x021C * 1000000000) ≤ u.now - t ∧
      u.gns.acc.within (u.prm 0x021D) = false)
    (fun u =>
      let x := u.gns.acc.mean xyz
      let d := u.gns.acc.sigma sigma
      let v := (u.mapGns (fun g => { g with survey := none })).raise0 0x020A .notice 1 0
      match who with
      | none => v
      | some (n, a) => v.completeOk n a (le 1 1 ++ zeros 3 ++ leS 8 x.1 ++ leS 8 x.2.1 ++ leS 8 x.2.2 ++ le 4 d))) ∧
  (∀ t n a alarmed e no up sigma b1 b5, EventActs (fun dt => .baselineMeasureDone dt e no up sigma b1 b5)
    (fun u => NativeRun u ∧ u.gns.baseline = some (t, n, a, alarmed) ∧ t ≤ u.now ∧ u.jobStuck 6 0 = false)
    (fun u =>
      let v := u.mapGns (fun g => { g with baseline := none })
      if alarmed then v.complete n a (Ans.bare stFault 0)
      else v.completeOk n a (leS 4 e ++ leS 4 no ++ leS 4 up ++ le 4 sigma ++ leS 2 b1 ++ leS 2 b5))) ∧
  (∀ cands, EventActs (fun dt => .channelAllocation dt cands) FwRun
    (fun u =>
      let v := u.channelAllocation cands
      if v.gns.short ≠ 0 ∧ v.gns.short ≠ u.gns.short then v.raise0 0x0203 .warning v.gns.short 0 else v)) ∧
  (∀ ant < 2, EventActs (fun dt => .antOpen dt ant)
    (fun u => FwRun u ∧ u.biasOn ant = true ∧ u.antCut ant = false ∧ u.antOpen ant = false)
    (fun u => (u.mapGns (fun g => { g with antOpen := if ant = 0 then (true, g.antOpen.2) else (g.antOpen.1, true) })).raise0
      0x0201 .warning ant ant)) ∧
  (∀ ant < 2, EventActs (fun dt => .antShort dt ant) (fun u => FwRun u ∧ u.biasOn ant = true ∧ u.antCut ant = false)
    (fun u => (u.mapGns (fun g => { g with antCut := if ant = 0 then (true, g.antCut.2) else (g.antCut.1, true) })).raise0
      0x0202 .fault ant ant))

/-- The time unit's commands and events: what each does where it acts (R36, R173, R177 to R187; assumptions 8, 138). -/
def Obligations.TimeRowsAct : Prop :=
  QueryCompletes .clkTimeRead opClkTimeRead (fun c _ => c.params = [])
    (fun _ s =>
      let (y, mo, d, h, mi, se) := s.utcFields
      (s, Ans.ok (le 8 s.clk.count ++ le 1 s.timeQ ++ leS 1 s.clk.leap ++ le 1 (b2n s.clk.leapBoot + 2 * b2n s.clk.leapAnn.isSome) ++
        le 1 0 ++ le 2 y ++ le 1 mo ++ le 1 d ++ le 1 h ++ le 1 mi ++ le 1 se ++ le 1 0 ++ le 4 (s.clk.count % 1000000000) ++
        le 4 (match s.timeErr with | some e => min e 0xFFFFFFFF | none => 0xFFFFFFFF) ++
        leS 4 (if s.clk.slewOn then clampS 32 s.clk.slew else 0)))) ∧
  WorkCompletes .clkTimeSet opClkTimeSet
    (fun c s => c.params.length = 16 ∧ 0 ≤ i8 c.params 12 ∧ rd c.params 13 3 = 0 ∧ s.timeValid = false)
    (fun c s => (s.mapClk (fun k => { k with
      count := u64 c.params 0, leap := i8 c.params 12, state := .calendar, e0 := some (u32 c.params 8), since := s.now,
      d := if k.refin then s.prm 0x0402 else 50, quad := !k.refin
      calCopy := some (u32 c.params 8), cal := u64 c.params 0 * 32768 / 1000000000, calAt := s.now,
      slew := 0, slewOn := false, slewFrac := 0, consec := 0, offset := none, step := none }), some (Ans.ok []))) ∧
  EventActs (fun dt => .holdoverExpiry dt)
    (fun u => FwRun u ∧ u.clk.state = .holdover ∧ u.prm 0x0403 * 1000000000 ≤ u.now - u.clk.holdAt)
    (fun u => (u.mapClk (fun c => { c with state := .expired })).raise0 0x0402 .fault 1 0) ∧
  (∀ e, EventActs (fun dt => .timeFreerun dt)
    (fun u => FwRun u ∧ u.timeValid = true ∧ u.clk.state ≠ .locked ∧ u.timeErrFine = some e ∧
      1000000 * 200000000000000000000 < e)
    (fun u => (u.mapClk (fun c => { c with state := .freerun })).raise0 0x0403 .fault 1 0)) ∧
  (∀ d, EventActs (fun dt => .timeOffset dt) (fun u => FwRun u ∧ u.clk.offset = some d ∧ d ≠ 0 ∧ d.natAbs ≤ u.prm 0x0406)
    (fun u => u.mapClk (fun c => { c with
      offset := none, slew := d, slewOn := true, slewFrac := 0, align := c.align || (!u.timeValid && decide (d.natAbs ≤ 1000000))
      state := if d.natAbs ≤ 1000000 then .slewing else .freerun }))) ∧
  (∀ d, EventActs (fun dt => .timeOffset dt) (fun u => FwRun u ∧ u.clk.offset = some d ∧ u.prm 0x0406 < d.natAbs)
    (fun u => (u.mapClk (fun c => { c with
      offset := none, slew := d, slewOn := true, slewFrac := 0, align := c.align || (!u.timeValid && decide (d.natAbs ≤ 1000000))
      state := if d.natAbs ≤ 1000000 then .slewing else .freerun })).raise0 0x0404 .warning (State.errCodeOf (some d.natAbs)) (ofSigned 64 d))) ∧
  (∀ d, EventActs (fun dt => .timeStep dt) (fun u => FwRun u ∧ u.follows = false ∧ u.clk.step = some d)
    (fun u => ((u.mapClk (fun c => { c with count := ((c.count : Int) - d).toNat, step := none, offset := none })).raise0
      0x0405 .notice (State.errCodeOf (some d.natAbs)) (ofSigned 64 d)).enterLocked.checkAlign)) ∧
  EventActs (fun dt => .slewComplete dt) (fun u => FwRun u ∧ u.clk.slewOn = true ∧ u.clk.slew = 0 ∧ u.clk.state = .slewing)
    State.enterLocked ∧
  (∀ n t0, EventActs (fun dt => .leapSecond dt)
    (fun u => FwRun u ∧ u.clk.leapAnn = some (n, t0) ∧
      (if u.clk.leap < n then t0 + 1000000000 else t0) ≤ u.clk.count)
    (fun u => (u.mapClk (fun c => { c with leap := n, leapAnn := none })).raise0 0x0409 .notice (ofSigned 8 n) 0)) ∧
  EventActs (fun dt => .refinLost dt) (fun u => FwRun u ∧ u.clk.refin = true)
    (fun u => (u.mapClk (fun c => { c with refin := false })).rebaseErr.raise0 0x0407 .warning 1 0) ∧
  EventActs (fun dt => .refinRetaken dt) (fun u => FwRun u ∧ u.prm 0x0401 = 1 ∧ u.clk.refin = false)
    (fun u => (u.mapClk (fun c => { c with refin := true })).rebaseErr) ∧
  EventActs (fun dt => .refinRetaken dt) (fun u => FwRun u ∧ (u.prm 0x0401 ≠ 1 ∨ u.clk.refin = true)) (fun u => u) ∧
  EventActs (fun dt => .ppsPulse dt)
    (fun u => FwRun u ∧ u.prm 0x0407 = 1 ∧ u.clk.wasValid = true ∧ u.ppsPhase 0 = true ∧
      ∀ t, u.clk.ppsLast = some t → 500000000 ≤ u.now - t)
    (fun u => (u.mapClk (fun c => { c with ppsOn := true, ppsLast := some u.now })).emit
      (.pps (u.prm 0x0408) (if u.prm 0x040B ≤ 47 then some (u.prm 0x040B) else none))) ∧
  EventActs (fun dt => .ppsOkMidpoint dt) (fun u => FwRun u ∧ u.ppsPhase 500000000 = true)
    (fun u => u.mapClk (fun c => { c with ppsOk := c.state == .locked || c.state == .holdover })) ∧
  EventActs (fun dt => .calendarTrim dt) (fun u => FwRun u ∧ u.clk.state = .locked ∧ ∀ t, u.clk.trimAt = some t → 60000000000 ≤ u.now - t)
    (fun u => (u.draw 16).2.mapClk (fun c => { c with
      calCopy := some 30518, cal := u.clk.count * 32768 / 1000000000, calAt := u.now
      calTrim := some (toSigned 16 (u.draw 16).1), trimAt := some u.now })) ∧
  (∀ off, EventActs (fun dt => .tickRealign dt) (fun u => FwRun u ∧ u.sys.misalign = some off ∧ off.natAbs ≤ 10000)
    (fun u => ((u.mapSys (fun y => { y with misalign := none })).mapAir (fun a => { a with jump := true })).raise0 0x008C .notice 1 0)) ∧
  (∀ off, EventActs (fun dt => .tickRealign dt) (fun u => FwRun u ∧ u.sys.misalign = some off ∧ 10000 < off)
    (fun u => u.mapSys (fun y => { y with misalign := some (off - 10000) }))) ∧
  (∀ off, EventActs (fun dt => .tickRealign dt) (fun u => FwRun u ∧ u.sys.misalign = some off ∧ off < -10000)
    (fun u => u.mapSys (fun y => { y with misalign := some (off + 10000) })))

/-- The fixes block: its four opcodes, an observation record that arrives or does not, a self-solved report, and the instant of a mode change (R143, R150, R156, R161, R165, R168). -/
def Obligations.FixRowsAct : Prop :=
  QueryCompletes .fixRead opFixRead
    (fun c _ => c.params.length = 4 ∧ 1 ≤ u8 c.params 1 ∧ u8 c.params 1 ≤ 46 ∧ u8 c.params 0 + u8 c.params 1 ≤ 256 ∧ u16 c.params 2 = 0)
    (fun c s => (s, Ans.ok ((List.range (u8 c.params 1)).flatMap (fun i =>
      if (s.robot? (u8 c.params 0 + i)).isNone then fixBytes false (noFix (u8 c.params 0 + i) 5)
      else match (s.fr (u8 c.params 0 + i)).newest with
      | some f => fixBytes (bit c.agreed 69) f
      | none => fixBytes false (noFix (u8 c.params 0 + i) 0))))) ∧
  WorkCompletes .fixModeSet opFixModeSet
    (fun c s => c.params.length = 4 ∧ u8 c.params 1 = b2n (s.fr (u8 c.params 0)).base ∧ u8 c.params 2 = (s.fr (u8 c.params 0)).rate ∧
      u8 c.params 3 = 0 ∧ (if u8 c.params 1 = 1 then [1, 2, 5, 10, 20].contains (u8 c.params 2) = true else u8 c.params 2 = 0) ∧
      missingBit c.agreed ((if u8 c.params 1 = 1 then [67] else []) ++ (if u8 c.params 2 = 20 then [68] else [])) = none ∧
      (s.robot? (u8 c.params 0)).isSome ∧ (s.fr (u8 c.params 0)).pend = none)
    (fun _ s => (s, some (Ans.ok (le 8 0)))) ∧
  (∀ x m, WorkCompletes .fixModeSet opFixModeSet
    (fun c s => c.params.length = 4 ∧ u8 c.params 1 ≤ 1 ∧ u8 c.params 3 = 0 ∧
      (if u8 c.params 1 = 1 then [1, 2, 5, 10, 20].contains (u8 c.params 2) = true ∧ s.rateMismatch (u8 c.params 2) = false ∧ x.legacy = false
        else u8 c.params 2 = 0) ∧
      missingBit c.agreed ((if u8 c.params 1 = 1 then [67] else []) ++ (if u8 c.params 2 = 20 then [68] else [])) = none ∧
      s.robot? (u8 c.params 0) = some x ∧ (s.fr (u8 c.params 0)).pend = none ∧
      ((s.fr (u8 c.params 0)).base ≠ (u8 c.params 1 == 1) ∨ (s.fr (u8 c.params 0)).base = true ∧ (s.fr (u8 c.params 0)).rate ≠ u8 c.params 2) ∧
      ((u8 c.params 1 = 1 ∧ ((s.fr (u8 c.params 0)).base = false ∨ (s.fr (u8 c.params 0)).rate < u8 c.params 2)) →
        s.overBudget (s.withModeChange c).siteAdmit = none) ∧ s.placeLengths (s.withModeChange c).siteMap = .ok m)
    (fun c s => ((s.withModeChange c).acceptMap m, none))) ∧
  QueryCompletes .fixStateRead opFixStateRead
    (fun c _ => c.params.length = 4 ∧ 1 ≤ u8 c.params 1 ∧ u8 c.params 1 ≤ 128 ∧ u8 c.params 0 + u8 c.params 1 ≤ 256 ∧ u16 c.params 2 = 0)
    (fun c s => (s, Ans.ok ((List.range (u8 c.params 1)).flatMap (fun i =>
      let r := u8 c.params 0 + i
      let x := s.fr r
      if (s.robot? r).isNone then le 1 r ++ [0xFF] ++ zeros 14
      else
        let n : FixRec := x.newest.getD (noFix r 0)
        le 1 r ++ le 1 (b2n x.base) ++ le 1 x.rate ++ le 1 n.typ ++ le 1 n.fixedAmb ++ le 1 (b2n x.pend.isSome) ++ le 2 0 ++
          le 4 x.corsIn ++ le 4 x.corsMissed)))) ∧
  WorkCompletes .fixFilterReset opFixFilterReset
    (fun c s => c.params.length = 4 ∧ rd c.params 1 3 = 0 ∧ (s.robot? (u8 c.params 0)).isSome ∧ (s.fr (u8 c.params 0)).base = true)
    (fun c s => (s.mapFr (u8 c.params 0) (fun x => { x with
      restarts := x.restarts ++ [State.epochAt x.rate (s.epochNo x.rate + 1)] }), some (Ans.ok []))) ∧
  (∀ (f : AirRx) t i r x, f.chain < 4 → EventActs (fun dt => .corFrame dt f)
    (fun u => NativeRun u ∧ u.fixedDown (4 + f.chain) = false ∧ u.merging = false ∧ u.airFront .cor 21 (u.psduMax f.mcs) f = .pass t i ∧ i.robot = some r ∧
      t.robot? r = some x ∧ State.counterCheck x.rxCtr x.rxLast f.payload f.ctr f.micOk = none)
    (fun _ => ((t.frameVerified r f).parcelsMissed r).corFrame r f.payload)) ∧
  (∀ r k, r < 256 → EventActs (fun dt => .corMissed dt r)
    (fun u => NativeRun u ∧ (u.fr r).base = true ∧ (u.fr r).rate ≠ 0 ∧
      u.air.map.items.find? (fun i => i.typ == .cor && i.robot == some r && i.period == ratePeriod u.sys.slots (u.fr r).rate) = some k ∧
      u.tickNo ≠ 0 ∧ (u.tickNo - 1) % max 1 (ratePeriod u.sys.slots (u.fr r).rate) = k.offset ∧
      (u.fr r).lastEpoch ≠ some ((u.tickNo - 1) * u.tickNs * (u.fr r).rate / 1000000000))
    (fun u =>
      let n := (u.tickNo - 1) * u.tickNs * (u.fr r).rate / 1000000000
      let run := (u.fr r).missRun + 1
      let s := u.mapFr r (fun x => { x with corsMissed := inc32 x.corsMissed, missRun := run, lastEpoch := some n })
      let s := if s.withheld then s else s.noneFix r n (State.epochAt (u.fr r).rate n) 1 false 0
      if s.prm 0x030A ≤ run then s.raise 0x0302 .warning (min 255 run) 1 r else s)) ∧
  (∀ r v, r < 256 → EventActs (fun dt => .spr dt r v) (fun u => NativeRun u ∧ (u.robot? r).isSome)
    (fun u => u.mapFix (fun f => { f with sprIn := f.sprIn ++ [(r, v)] }))) ∧
  EventActs (fun dt => .modeChangeInstant dt) NativeRun State.modeChangeInstant ∧
  (∀ (u : State) r x m, Tab.wf u.fix.robots = true → Tab.find? r u.fix.robots = some x → x.pend = some m → m.instant ≤ u.clk.count →
    Tab.find? r u.modeChangeInstant.fix.robots = some (State.modeFrom m u.now x)) ∧
  (∀ (u : State) r x, Tab.wf u.fix.robots = true → Tab.find? r u.fix.robots = some x →
    (x.pend = none ∨ ∃ m, x.pend = some m ∧ u.clk.count < m.instant) → Tab.find? r u.modeChangeInstant.fix.robots = some x)

/-- The air block: its two queries, a slot's start, a superframe's start and a chain that fails (R197, R198, R205, R213, R214). -/
def Obligations.AirRowsAct : Prop :=
  QueryCompletes .airChainRead opAirChainRead (fun c _ => c.params = [])
    (fun _ s => (s, Ans.ok ((List.range 4).flatMap (fun n =>
      let k := s.chain n
      let pend := s.cfg.pend.any (fun p => match Tab.find? 0x0501 p.shadow.params with | some v => bit v n | none => false)
      let on := s.lnk.robots.filter (fun (e : Nat × Robot) => e.2.chain == n)
      le 1 n ++ le 1 (if k.bad then 2 else if bit (s.prm 0x0501) n then 1 else if pend then 3 else 0) ++
        le 1 (on.filter (fun (e : Nat × Robot) => !e.2.legacy)).length ++ le 1 (on.filter (fun (e : Nat × Robot) => e.2.legacy)).length ++
        ([k.sent, k.rcvd, k.runts, k.oversize, k.discards, k.deferrals].flatMap (le 4)) ++ le 2 (s.dutyUsed n) ++ le 2 k.format)))) ∧
  QueryCompletes .airMapRead opAirMapRead
    (fun c _ => c.params.length = 4 ∧ 1 ≤ u8 c.params 1 ∧ u8 c.params 0 + u8 c.params 1 ≤ 256 ∧ u16 c.params 2 = 0)
    (fun c s => (s, Ans.ok ((List.range (u8 c.params 1)).flatMap (fun i =>
      let r := u8 c.params 0 + i
      match s.robot? r with
      | none => le 1 r ++ List.replicate 8 0xFF ++ zeros 3
      | some x => match Tab.find? r s.air.map.pos with
        | some p => le 1 r ++ State.Pos.bytes p ++ zeros 3
        | none => le 1 r ++ le 1 x.chain ++ List.replicate 7 0xFF ++ zeros 3)))) ∧
  (∀ c level, c < 4 → EventActs (fun dt => .chainFault dt c level)
    (fun u => NativeRun u ∧ (u.chain c).bad = false ∧ (u.prm 0x7F13 ≠ c ∨ u.sys.rfTest = none))
    (fun u => ((u.mapChain c (fun k => { k with bad := true })).raise 0x0502 .fault level 4 c).budgetShort (6 + c) 4 c)) ∧
  (∀ c level, c < 4 → EventActs (fun dt => .chainFault dt c level) (fun u => NativeRun u ∧ (u.chain c).bad = true) (fun u => u)) ∧
  (∀ sense, EventActs (fun dt => .slotStart dt sense) (fun u => NativeRun u ∧ u.air.slot = 0)
    (fun u => ((u.mapAir (fun a => { a with asn := a.asn % 2 ^ 40, slot := 1, slotAt := u.now })).sendBeacons sense).legacySlot)) ∧
  (∀ sense k, EventActs (fun dt => .slotStart dt sense) (fun u => NativeRun u ∧ u.air.slot = k + 1)
    (fun u =>
      let v := u.mapAir (fun a => { a with asn := (a.asn + 1) % 2 ^ 40, slot := k + 2, slotAt := u.now })
      ((u.air.plan.filter (fun f => f.slot == k + 1 && !u.stopTakes f.chain)).foldl (fun s f => s.sendPlanned sense f)
        (v.mapAir (fun a => { a with due := a.due ++ v.framesDue (k + 1) }))).legacySlot)) ∧
  (∀ jump, EventActs (fun dt => .superframeBoundary dt)
    (fun u => NativeRun u ∧ u.tickNoNow % 10 = 0 ∧ u.air.tick ≠ u.tickNoNow ∧ u.sys.sfTick ≠ 10 ∧
      jump = (u.air.jump && u.sys.misalign.isNone && u.timeValid))
    (fun u =>
      let s := if jump then u.asnJump ((u.tickNoNow * u.sys.slots) % 2 ^ 40) else u.mapAir (fun a => { a with asn := u.nextAsn, slot := 0 })
      let s := s.mapSys (fun y => { y with sfTick := 10, sfCount := y.sfCount + 1 })
      let v := (((s.mapsTake).superframeLink u.sfNumber).foldSuperframe).retune
      (v.takeDomains [.AIR] v.nextTick).planJoined s.starting u.tickNoNow))

/-- The radio link: registration, what a robot sends, and how contact is lost (R219, R220, R224 to R237, R605). -/
def Obligations.LinkRowsAct : Prop :=
  (∀ r m, WorkCompletes .airRobotAdd opAirRobotAdd
    (fun c s => robotAddOk c s ∧ (List.range 256).find? (fun i => (s.robot? i).isNone) = some r ∧
      s.overBudget (s.robotAdded c.params r).siteAdmit = none ∧ s.placeLengths (s.robotAdded c.params r).siteMap = .ok m)
    (fun c s => ((s.robotAdded c.params r).acceptMap m, some (Ans.ok (le 1 r ++ le 1 (s.newChain (bit (u8 c.params 9) 0)) ++ le 2 0))))) ∧
  (∀ x, WorkCompletes .airRobotRemove opAirRobotRemove
    (fun c s => c.params.length = 4 ∧ rd c.params 1 3 = 0 ∧ s.robot? (u8 c.params 0) = some x ∧ x.legacy = false ∧
      (x.link = .joined ∨ x.link = .asleep))
    (fun c s => ((s.mapRobot (u8 c.params 0) (fun x => { x with link := .leaving, removing := some (c.sess, c.acc, 0) })).sendElem
      (u8 c.params 0) 0x09 [0], none))) ∧
  (∀ x, WorkCompletes .airRobotRemove opAirRobotRemove
    (fun c s => c.params.length = 4 ∧ rd c.params 1 3 = 0 ∧ s.robot? (u8 c.params 0) = some x ∧ x.link ≠ .leaving ∧
      (x.link = .registered ∨ x.link = .lost ∨ x.legacy = true))
    (fun c s => (s.releaseRobot (u8 c.params 0), some (Ans.ok [])))) ∧
  QueryCompletes .airLinkRead opAirLinkRead
    (fun c _ => c.params.length = 4 ∧ 1 ≤ u8 c.params 1 ∧ u8 c.params 1 ≤ 128 ∧ u8 c.params 0 + u8 c.params 1 ≤ 256 ∧ u16 c.params 2 = 0)
    (fun c s => (s, Ans.ok ((List.range (u8 c.params 1)).flatMap (fun i =>
      let r := u8 c.params 0 + i
      match s.robot? r with
      | none => le 1 r ++ [0xFF] ++ zeros 22
      | some x =>
        le 1 r ++ le 1 x.link.code ++ le 1 x.chain ++ le 1 (b2n x.legacy + 2 * b2n x.sleepOk) ++ le 1 x.dlMcs ++ le 1 x.ulMcs ++
          leS 1 (clampS 8 (x.ulSnr.getD (-128))) ++ leS 1 (clampS 8 (x.dlSnr.getD (-128))) ++ le 4 x.gen ++
          le 2 (min 0xFFFF x.unacked.length) ++ le 2 x.wake.2.2 ++ le 4 x.frames ++ le 4 x.secDisc)))) ∧
  (∀ (f : AirRx) t i r x, f.chain < 4 → EventActs (fun dt => .uplinkFrame dt f)
    (fun u => NativeRun u ∧ u.fixedDown (4 + f.chain) = false ∧ u.merging = false ∧ u.airFront .uplink 17 (u.psduMax f.mcs) f = .pass t i ∧ i.robot = some r ∧
      t.robot? r = some x ∧ State.counterCheck x.rxCtr x.rxLast f.payload f.ctr f.micOk = none ∧ i8 f.payload 3 = -128)
    (fun _ => (elements true f.payload.length (f.payload.drop 4)).foldl (fun s (e : Nat × Bytes) =>
      if e.1 = 0xFF then s.takeParcel r (u16 e.2 0) (e.2.drop 2) else s.deliverElem false r e.1 e.2)
      ((t.frameVerified r f).takeAcks r (u16 f.payload 0) (u8 f.payload 2)))) ∧
  (∀ (f : AirRx) t i r x y, f.chain < 4 → EventActs (fun dt => .uplinkFrame dt f)
    (fun u => NativeRun u ∧ u.fixedDown (4 + f.chain) = false ∧ u.merging = false ∧ u.airFront .uplink 17 (u.psduMax f.mcs) f = .pass t i ∧ i.robot = some r ∧
      t.robot? r = some x ∧ State.counterCheck x.rxCtr x.rxLast f.payload f.ctr f.micOk = none ∧ i8 f.payload 3 ≠ -128 ∧
      y = (t.frameVerified r f).mcsInput x.dlMcs x.dlHist x.dlUp (i8 f.payload 3))
    (fun _ => (elements true f.payload.length (f.payload.drop 4)).foldl (fun s (e : Nat × Bytes) =>
      if e.1 = 0xFF then s.takeParcel r (u16 e.2 0) (e.2.drop 2) else s.deliverElem false r e.1 e.2)
      (((t.frameVerified r f).mapRobot r (fun x => { x with
        dlSnr := some (i8 f.payload 3), dlMcs := y.1, dlHist := y.2.1, dlUp := y.2.2 })).takeAcks r (u16 f.payload 0) (u8 f.payload 2)))) ∧
  (∀ (f : AirRx) t i r x, f.chain < 4 → EventActs (fun dt => .joinRequest dt f)
    (fun u => NativeRun u ∧ u.fixedDown (4 + f.chain) = false ∧ u.merging = false ∧ u.airFront .rejoin 25 25 f = .pass t i ∧ t.sfNumber % 2 = 0 ∧ f.payload.length = 12 ∧
      List.find? (fun (e : Nat × Robot) => e.2.eui == u64 f.payload 4 && !e.2.legacy) t.lnk.robots = some (r, x) ∧
      (t.readSlot x.keySlot).rootKeys = true ∧ (t.readSlot x.keySlot).joinKeyAt x.keySlot = true ∧
      State.counterCheck x.joinRx x.joinLast f.payload f.ctr f.micOk = none ∧ u8 f.payload 0 = 1 ∧ u8 f.payload 1 ≤ 1 ∧
      u16 f.payload 2 = 0 ∧ x.answer = none ∧ x.roam = none)
    (fun _ =>
      let s := ((t.readSlot x.keySlot).useKey (256 + x.keySlot)).mapRobot r (fun x => { x with
        joinRx := some f.ctr, joinLast := f.payload, secRun := false })
      s.prepareAnswer r ⟨f.ctr, f.chain, s.sys.sfCount, bit (u8 f.payload 1) 0, s.air.asn, s.slotKey x.keySlot, s.sys.sfCount⟩
        (s.sys.sfCount + 1) false false)) ∧
  (∀ r x m, r < 256 → EventActs (fun dt => .robotReleased dt r)
    (fun u => NativeRun u ∧ u.robot? r = some x ∧ x.removing = some m ∧ u.prm 0x0512 ≤ m.2.2) (fun u => u.releaseRobot r)) ∧
  (∀ r v, r < 256 → EventActs (fun dt => .resume dt r v) (fun u => NativeRun u ∧ (u.robot? r).isSome ∧ v.length = 8)
    (fun u => u.toIntake r 0x83 v)) ∧
  (∀ r v, r < 256 → EventActs (fun dt => .sleepReq dt r v) (fun u => NativeRun u ∧ (u.robot? r).isSome ∧ v.length = 4)
    (fun u => u.grantWake r (u16 v 0) (i16 v 2))) ∧
  (∀ r x, r < 256 → EventActs (fun dt => .leave dt r [1])
    (fun u => NativeRun u ∧ u.robot? r = some x ∧ (x.link = .joined ∨ x.link = .asleep))
    (fun u => u.mapRobot r (fun x => { x with bye := true }))) ∧
  (∀ r x, r < 256 → EventActs (fun dt => .leave dt r [1]) (fun u => NativeRun u ∧ u.robot? r = some x ∧ x.link = .leaving)
    (fun u => u.releaseRobot r)) ∧
  (∀ r v, r < 256 → EventActs (fun dt => .segReq dt r v) (fun u => NativeRun u ∧ (u.robot? r).isSome ∧ v.length = 16)
    (fun u => u.toIntake r 0xA0 v)) ∧
  (∀ r v, r < 256 → EventActs (fun dt => .release dt r v) (fun u => NativeRun u ∧ (u.robot? r).isSome ∧ v.length = 4)
    (fun u => u.toIntake r 0xA1 v)) ∧
  (∀ r v, r < 256 → EventActs (fun dt => .taskDone dt r v) (fun u => NativeRun u ∧ (u.robot? r).isSome) (fun u => u.toIntake r 0xA8 v)) ∧
  (∀ r v, r < 256 → EventActs (fun dt => .taskState dt r v) (fun u => NativeRun u ∧ (u.robot? r).isSome) (fun u => u.toIntake r 0xA9 v)) ∧
  (∀ r v, r < 256 → EventActs (fun dt => .stopState dt r v) (fun u => NativeRun u ∧ (u.robot? r).isSome) (fun u => u.stopState r v)) ∧
  (∀ r x, r < 256 → EventActs (fun dt => .parcelRetx dt r) (fun u => NativeRun u ∧ u.robot? r = some x)
    (fun u => u.mapRobot r (fun y => { y with unacked := y.unacked.map (fun (p : Parcel) => match p.sentAt with
      | some t =>
        if x.lastFrame ≤ t ∧ u.prm 0x0517 * 10 * u.sys.slots * max 1 x.wake.1 ≤ (u.now - t + 625000) / 1250000 then { p with missed := true } else p
      | none => p) }))) ∧
  (∀ r x, r < 256 → EventActs (fun dt => .robotLost dt r)
    (fun u => NativeRun u ∧ u.robot? r = some x ∧ x.link = .joined ∧ u.prm 0x0512 ≤ x.missSf)
    (fun u => ((u.mapRobot r (fun x => { x with link := .lost, missDue := false })).raise 0x0505 .warning 1 1 r).convertNow r false)) ∧
  (∀ r x, r < 256 → EventActs (fun dt => .robotLost dt r)
    (fun u => NativeRun u ∧ u.robot? r = some x ∧ x.link = .asleep ∧ 3 ≤ x.wakeMiss)
    (fun u => ((u.mapRobot r (fun x => { x with link := .lost, missDue := false })).raise 0x0505 .warning 2 1 r).convertNow r false)) ∧
  (∀ r x, r < 256 → EventActs (fun dt => .wakeMissed dt r) (fun u => NativeRun u ∧ u.robot? r = some x ∧ x.link = .asleep ∧ x.missDue = true)
    (fun u => (u.mapRobot r (fun y => { y with wakeMiss := x.wakeMiss + 1, missDue := false, doubleRate := true })).raise
      0x050A .notice (x.wakeMiss + 1) 1 r)) ∧
  (∀ r x, r < 256 → EventActs (fun dt => .counterExhausted dt (some r))
    (fun u => NativeRun u ∧ u.robot? r = some x ∧ 0xFFFFFFFF ≤ x.txCtr ∧ x.link ≠ .lost ∧ x.link ≠ .registered)
    (fun u => (u.raise 0x0508 .fault 1 1 r).loseRobot r 3)) ∧
  EventActs (fun dt => .counterExhausted dt none) (fun u => NativeRun u ∧ 0xFFFFFFFF ≤ u.lnk.flockCtr ∧ u.vit.rngFault = false)
    (fun u => ((u.draw 128).2.mapLnk (fun l => { l with
      flockGen := l.flockGen + 1, flockCtr := 0, flockKey := (u.draw 128).1, flockNext := none })).raise0 0x0508 .fault 1 0)

/-- The pasture: what its opcodes stage, place, free and read, and what becomes of entries whose time has ended (R252, R255, R257, R276,
R277, R283, R284). -/
def Obligations.PastureRowsAct : Prop :=
  WorkCompletes .pasNodesWrite opPasNodesWrite
    (fun c _ => tableHeadOk 16 65536 c.params ∧ ∀ x ∈ State.recordsOf 16 (u16 c.params 4) c.params, u8 x 12 < 2 ∧ rd x 13 3 = 0)
    (fun c s => (s.mapShadow c.sess (fun h => { h with nodes := stagedRecords 16 c.params h.nodes }), some (Ans.ok []))) ∧
  WorkCompletes .pasLanesWrite opPasLanesWrite
    (fun c _ => tableHeadOk 12 131072 c.params ∧ ∀ x ∈ State.recordsOf 12 (u16 c.params 4) c.params,
      u8 x 9 = 0 ∧ (u8 x 8 = 0 ∧ u16 x 10 = 0xFFFF ∨ u8 x 8 = 1 ∧ u16 x 10 ≤ 4095 ∧ bit c.agreed 132 = true))
    (fun c s => (s.mapShadow c.sess (fun h => { h with lanes := stagedRecords 12 c.params h.lanes }), some (Ans.ok []))) ∧
  WorkCompletes .pasPaddockWrite opPasPaddockWrite
    (fun c _ => c.params.length = 12 + 8 * u8 c.params 2 ∧ u16 c.params 0 < 1024 ∧ 3 ≤ u8 c.params 2 ∧ u8 c.params 2 ≤ 32 ∧
      u8 c.params 3 < 2 ∧ rd c.params 9 3 = 0)
    (fun c s => (s.mapShadow c.sess (fun h => { h with
      pads := Tab.put (u16 c.params 0) (if u8 c.params 3 = 1 then c.params else []) h.pads }), some (Ans.ok []))) ∧
  WorkCompletes .pasHurdlePlace opPasHurdlePlace
    (fun c s => c.params.length = 32 ∧ u16 c.params 0 < 1024 ∧ u16 c.params 2 = 0 ∧ 1 ≤ u32 c.params 20 ∧ u32 c.params 20 ≤ 100000 ∧
      s.hurdlePriced c.params = none)
    (fun c s => (s.mapPas (fun p => { p with hurdleNext := p.hurdleNext ++ [(u16 c.params 0, some (s.hurdleOf c.params), c.sess, c.acc)] }), none)) ∧
  WorkCompletes .pasHurdleRemove opPasHurdleRemove
    (fun c _ => c.params.length = 4 ∧ u16 c.params 0 < 1024 ∧ u16 c.params 2 = 0)
    (fun c s => (s.mapPas (fun p => { p with hurdleNext := p.hurdleNext ++ [(u16 c.params 0, none, c.sess, c.acc)] }), none)) ∧
  WorkCompletes .pasMove opPasMove
    (fun c s => c.params.length = 8 ∧ rd c.params 1 3 = 0 ∧ s.holdNode (u32 c.params 4) = true ∧ (s.robot? (u8 c.params 0)).isSome ∧
      s.robotPriority (u8 c.params 0) = none ∧ (s.pr (u8 c.params 0)).move = none)
    (fun c s => ((s.mapPr (u8 c.params 0) (fun x => { x with move := some (u32 c.params 4, c.sess, c.acc) })).askPlan
      (u8 c.params 0) ⟨[u32 c.params 4], true, false⟩, none)) ∧
  (∀ d n a, WorkCompletes .pasMove opPasMove
    (fun c s => c.params.length = 8 ∧ rd c.params 1 3 = 0 ∧ s.holdNode (u32 c.params 4) = true ∧ (s.robot? (u8 c.params 0)).isSome ∧
      s.robotPriority (u8 c.params 0) = none ∧ (s.pr (u8 c.params 0)).move = some (d, n, a))
    (fun c s => (((s.complete n a (Ans.bare stDenied 5)).mapPr (u8 c.params 0) (fun x => { x with
      move := some (u32 c.params 4, c.sess, c.acc) })).askPlan (u8 c.params 0) ⟨[u32 c.params 4], true, false⟩, none))) ∧
  QueryCompletes .pasResvRead opPasResvRead
    (fun c _ => c.params.length = 8 ∧ u8 c.params 1 = 0 ∧ u16 c.params 6 = 0 ∧ u16 c.params 2 ≤ 16383 ∧ 1 ≤ u16 c.params 4 ∧
      u16 c.params 4 ≤ 127)
    (fun c s =>
      let out := ((s.pas.entries.filter (fun e => u8 c.params 0 == 0xFF || e.robot == u8 c.params 0)).drop (u16 c.params 2)).take (u16 c.params 4)
      (s, Ans.ok (le 2 out.length ++ le 2 0 ++ out.flatMap entryRecord))) ∧
  QueryCompletes .pasStateRead opPasStateRead (fun c _ => c.params = [])
    (fun _ s =>
      let rq := s.pas.robots.filterMap (fun e => e.2.req)
      (s, Ans.ok (le 4 s.pas.entries.length ++ le 4 s.pas.peak ++ le 2 s.pas.hurdles.length ++ le 2 s.paddocks.length ++
        le 2 (rq.filter (fun q => !q.pending)).length ++ le 2 (rq.filter (fun q => q.pending)).length ++
        le 4 s.pas.grants ++ le 4 s.pas.refusals ++ le 4 s.pas.deadlocks ++ le 4 0))) ∧
  WorkCompletes .pasResvClear opPasResvClear
    (fun c s => c.params.length = 4 ∧ rd c.params 1 3 = 0 ∧ ∃ e ∈ s.pas.entries, e.robot = u8 c.params 0 ∧ e.kind ≠ 3)
    (fun c s => (s.mapPas (fun p => { p with
      entries := p.entries.filter (fun e => !(e.robot == u8 c.params 0 && e.kind != 3)) }), some (Ans.ok []))) ∧
  WorkCompletes .pasResvClear opPasResvClear
    (fun c s => c.params.length = 4 ∧ rd c.params 1 3 = 0 ∧ ∀ e ∈ s.pas.entries, e.robot = u8 c.params 0 → e.kind = 3)
    (fun _ s => (s, some (Ans.bare stOk 1))) ∧
  EventActs (fun dt => .overstay dt) NativeRun State.overstayDue ∧
  EventActs (fun dt => .preparedEntryExpiry dt) NativeRun State.overstayDue ∧
  (∀ u : State, u.overstayDue.pas.entries = u.pas.entries.filterMap (afterEnd u.rtNow)) ∧
  (∀ (u : State) e, e ∈ u.overstayDue.pas.entries → e.kind = 3 → ∀ t, e.tOut = some t → u.rtNow < t) ∧
  (∀ b, EventActs (fun dt => .borderVoteTimeout dt)
    (fun u => NativeRun u ∧ u.pas.borders = [b] ∧ b.since + u.prm 0x060D ≤ u.sys.tick)
    (fun u => ((b.waiting ++ b.voted).foldl (fun s d => s.decide1 b.xid d true) (u.mapPas (fun p => { p with
      borders := p.borders.filter (fun k => k.xid != b.xid) }))).raise 0x060A .notice 2 1 b.robot))

/-- The profile unit: what its opcodes read and set (R306), and the evidence gap of a moving robot (R303). -/
def Obligations.ProfileRowsAct : Prop :=
  QueryCompletes .prfStateRead opPrfStateRead
    (fun c _ => c.params.length = 4 ∧ 1 ≤ u8 c.params 1 ∧ u8 c.params 1 ≤ 200 ∧ u8 c.params 0 + u8 c.params 1 ≤ 256 ∧ u16 c.params 2 = 0)
    (fun c s => (s, Ans.ok ((List.range (u8 c.params 1)).flatMap (fun i =>
      let r := u8 c.params 0 + i
      match s.robot? r with
      | none => le 1 r ++ le 1 0xFF ++ zeros 14
      | some _ =>
        let p := s.pr r
        le 1 r ++ le 1 (if p.devRaised then 2 else b2n (p.devRun != 0)) ++ le 2 (p.pNext.getD p.p) ++ leS 4 p.ea ++
          leS 4 p.ec ++ le 4 p.breaches)))) ∧
  (∀ x, WorkCompletes .prfPfSet opPrfPfSet
    (fun c s => c.params.length = 4 ∧ u8 c.params 1 = 0 ∧ s.robot? (u8 c.params 0) = some x ∧
      u16 (s.prfClass x.cls) 26 ≤ u16 c.params 2 ∧ u16 c.params 2 ≤ u16 (s.prfClass x.cls) 28)
    (fun c s => (s.mapPr (u8 c.params 0) (fun p => { p with p := u16 c.params 2, pNext := none }), some (Ans.ok [])))) ∧
  (∀ k, QueryCompletes .prfTrackRead opPrfTrackRead
    (fun c s => c.params.length = 4 ∧ rd c.params 1 3 = 0 ∧ (s.robot? (u8 c.params 0)).isSome ∧
      (s.liveTracks (u8 c.params 0)).getLast? = some k)
    (fun _ s => (s, Ans.ok (le 2 k.id ++ le 1 k.segs.length ++ le 1 0 ++ k.segs.flatMap (fun g =>
      le 4 g.lane ++ le 4 g.s0 ++ le 4 (g.tStart % 4294967296) ++ le 4 (g.tEnd % 4294967296) ++ g.rcd.bytes))))) ∧
  QueryCompletes .prfTrackRead opPrfTrackRead
    (fun c s => c.params.length = 4 ∧ rd c.params 1 3 = 0 ∧ (s.robot? (u8 c.params 0)).isSome ∧ s.liveTracks (u8 c.params 0) = [])
    (fun _ s => (s, Ans.ok (zeros 4))) ∧
  (∀ r, r < 256 → EventActs (fun dt => .noEvidence dt r)
    (fun u => NativeRun u ∧ u.moving r = true ∧ (u.pr r).gapDone = false ∧ u.prm 0x0713 * 1000000 ≤ u.now - (u.pr r).lastEvid)
    (fun u => (u.mapPr r (fun x => { x with gapDone := true })).raise 0x0703 .warning 1 1 r)) ∧
  (∀ r, r < 256 → EventActs (fun dt => .noEvidence dt r) (fun u => NativeRun u ∧ (u.pr r).gapDone = true) (fun u => u))

/-- The tasks block: what its opcodes take in, cancel, read and free, and what a core's end of job does (R309, R313, R314, R329, R332, R334,
R337). -/
def Obligations.TaskRowsAct : Prop :=
  WorkCompletes .tskSubmit opTskSubmit
    (fun c s => 1 ≤ u16 c.params 0 ∧ u16 c.params 0 ≤ 63 ∧ u16 c.params 2 = 0 ∧ c.params.length = 4 + 64 * u16 c.params 0 ∧
      s.tsk.tasks.length + u16 c.params 0 ≤ 4096 ∧
      (s.tsk.tasks.filter (fun e => e.2.sess == c.sess)).length + u16 c.params 0 ≤ s.prm 0x0801 ∧
      ∀ x ∈ submittedRecords c.params, s.taskRecOk x.1 = true)
    (fun c s =>
      let r := s.submitRecords c.sess (submittedRecords c.params)
      (r.1.mapTsk (fun k => { k with submits := k.submits + 1, fullRun := false }), some (Ans.ok (r.2.flatMap (fun i => le 4 i))))) ∧
  (∀ (s : State) sess x i l, (s.submitRecords sess ((x, i) :: l)).2 =
    (s.deviceNo * 1048576 + s.nextSerial 4097 s.tsk.serial) :: ((s.mapTsk (fun k => { k with
      tasks := Tab.put (s.deviceNo * 1048576 + s.nextSerial 4097 s.tsk.serial) (State.submittedTask s sess i x) k.tasks
      serial := s.nextSerial 4097 s.tsk.serial })).submitRecords sess l).2) ∧
  (∀ t, WorkCompletes .tskCancel opTskCancel
    (fun c s => c.params.length = 4 ∧ s.task? (u32 c.params 0) = some t ∧ (t.state = 6 → t.sess = c.sess) ∧ t.state ≠ 5 ∧ t.cancel = none ∧
      ∀ x ∈ s.tsk.cancels, x.1 ≠ u32 c.params 0)
    (fun c s => (s.mapTsk (fun k => { k with cancels := k.cancels ++ [(u32 c.params 0, c.sess, c.acc)] }), none))) ∧
  QueryCompletes .tskResultRead opTskResultRead
    (fun c s => c.params.length = 8 ∧ 1 ≤ u16 c.params 4 ∧ u16 c.params 4 ≤ 126 ∧ u16 c.params 6 = 0 ∧
      seqPast s.tsk.resultSeq s.heldSeqs (u32 c.params 0) = true)
    (fun c s =>
      let held := s.tsk.tasks.filter (fun e => e.2.state == 5 &&
        decide (seqAge s.tsk.resultSeq e.2.resultSeq ≤ seqAge s.tsk.resultSeq (u32 c.params 0)))
      let out := (sortBy (fun x y => decide (seqAge s.tsk.resultSeq y.2.resultSeq ≤ seqAge s.tsk.resultSeq x.2.resultSeq)) held).take
        (u16 c.params 4)
      (s, Ans.ok (le 2 out.length ++ le 2 0 ++ out.flatMap (fun e => resultRecord e.1 e.2)))) ∧
  WorkCompletes .tskResultAck opTskResultAck
    (fun c s => c.params.length = 4 ∧ seqPast s.tsk.resultSeq s.heldSeqs (u32 c.params 0) = true)
    (fun c s => (s.mapTsk (fun k => { k with tasks := k.tasks.filter (fun e => !(e.2.state == 5 &&
      decide (seqAge s.tsk.resultSeq (u32 c.params 0) ≤ seqAge s.tsk.resultSeq e.2.resultSeq))) }), some (Ans.ok []))) ∧
  QueryCompletes .tskStateRead opTskStateRead (fun c _ => c.params = [])
    (fun _ s => (s, Ans.ok ((List.range 6).flatMap (fun i => le 2 (s.tsk.tasks.filter (fun e => e.2.state == i)).length) ++
      le 2 (4096 - s.tsk.tasks.length) ++ le 2 s.wAge ++
      le 4 (((s.tsk.tasks.filter (fun e => e.2.state == 1)).map (fun e => s.taskAge e.2)).foldl max 0) ++
      le 2 s.tsk.last.1 ++ le 2 s.tsk.last.2.1 ++ le 2 s.tsk.last.2.2.1 ++ le 2 s.tsk.last.2.2.2 ++
      le 4 s.tsk.rounds ++ le 4 s.tsk.allotments ++ le 4 s.tsk.declines ++ le 4 s.tsk.resultSeq ++ le 4 0))) ∧
  (∀ t, QueryCompletes .tskRead opTskRead
    (fun c s => c.params.length = 4 ∧ s.task? (u32 c.params 0) = some t ∧ t.state ≠ 6)
    (fun _ s => (s, Ans.ok (le 1 t.state ++ le 1 (t.robot.getD 0xFF) ++ le 2 0 ++ le 4 t.resultSeq ++
      le 8 (if t.state = 0 then 0 else t.release) ++ t.record ++ le 8 (if t.state = 4 then t.eta else 0))))) ∧
  (∀ core a b, 2 ≤ core → core < 8 → EventActs (fun dt => .droverJobEnd dt core)
    (fun u => NativeRun u ∧ u.sys.halted.contains core = false ∧ u.tsk.cores[core - 2]? = some (some a, b))
    (fun u => (u.mapTsk (fun k => { k with cores := modAt (core - 2) (fun _ => (b, none)) k.cores })).fillCores)) ∧
  (∀ core, 2 ≤ core → core < 8 → EventActs (fun dt => .droverJobEnd dt core) (fun u => NativeRun u ∧ u.sys.halted.contains core = true)
    (fun u => u))

/-- Crook: its opcodes, the loop, the preemptive stop frame and the confirmation that does not come (R342 to R344, R346, R352, R358, R359,
R365). -/
def Obligations.CrookRowsAct : Prop :=
  WorkCompletes .crkStop opCrkStop stopOk
    (fun c s => (s.setStop 2 (u8 c.params 0) (u16 c.params 2) (u8 c.params 1), some (stopAnswer c (stopFormed c s)))) ∧
  ControlCompletes .crkStop opCrkStop stopOk
    (fun c s => (s.setStop 2 (u8 c.params 0) (u16 c.params 2) (u8 c.params 1), stopAnswer c (stopFormed c s))) ∧
  (∀ old, WorkCompletes .crkStop opCrkStop
    (fun c s => stopOk c s ∧ Tab.find? 2 (s.stopsAhead.holdersOf (u8 c.params 0) (u16 c.params 2)) = some old ∧ u8 c.params 1 ≤ old)
    (fun c s => (s, some (stopAnswer c s.stopsAhead)))) ∧
  (∀ (u : State) kind index ramp, u.stopsAhead.alreadyHeld 2 kind index ramp = false → u.pai.role ≠ 0 → u.pai.trained = true →
    u.setStop 2 kind index ramp = (u.emit (.pairStop kind index ramp true)).mapCrk (fun k => { k with
      due := k.due ++ [(u.now + 20000, ⟨2, kind, index, ramp, true⟩)] })) ∧
  (∀ (u : State) kind index ramp, u.stopsAhead.alreadyHeld 2 kind index ramp = false → u.pai.role = 0 →
    u.setStop 2 kind index ramp = u.putStop 2 kind index ramp) ∧
  (∀ (u : State) t x, u.crk.due = [(t, x)] → t ≤ u.now →
    u.stopsDue = { State.applyStop x { u.mapCrk (fun k => { k with due := [] }) with now := t } with now := u.now }) ∧
  WorkCompletes .crkRelease opCrkRelease
    (fun c s => c.params.length = 4 ∧ (u8 c.params 0 = 0 ∧ u8 c.params 1 = 0 ∧ u16 c.params 2 = 0 ∨
      u8 c.params 0 = 1 ∧ u8 c.params 1 = 0 ∧ u16 c.params 2 = 0 ∧ s.loopClosed = true ∨
      u8 c.params 0 = 2 ∧ 1 ≤ u8 c.params 1 ∧ u8 c.params 1 ≤ 3))
    (fun c s => (s.mapCrk (fun k => { k with
      releases := k.releases ++ [(u8 c.params 0, u8 c.params 1, u16 c.params 2, c.sess, c.acc)] }), none)) ∧
  QueryCompletes .crkStateRead opCrkStateRead (fun c _ => c.params = [])
    (fun _ s =>
      let k := s.crk
      let cov := (s.lnk.robots.map Prod.fst).filter (fun r => s.covered r)
      let ent (e : StopEntry) : Bytes :=
        le 1 e.kind ++ le 1 (rampCode e.holders - 1) ++ le 2 e.index ++ le 1 (srcBits e.holders) ++ le 1 0 ++
        le 2 (s.scopeRobots e.kind e.index).length
      (s, Ans.ok (padTo 80 0 (le 1 (srcBits k.all) ++ le 1 (rampCode k.all) ++
        le 1 (b2n (!k.openA) + 2 * b2n (!k.openB) + 4 * b2n k.latched + 8 * b2n k.disc) ++ le 1 k.table.length ++ le 2 k.token ++
        le 2 cov.length ++ le 2 (cov.filter s.stopConfirmed).length ++ zeros 6 ++
        k.table.flatMap ent)))) ∧
  QueryCompletes .crkRobotRead opCrkRobotRead
    (fun c _ => c.params.length = 4 ∧ 1 ≤ u8 c.params 1 ∧ u8 c.params 0 + u8 c.params 1 ≤ 256 ∧ u16 c.params 2 = 0)
    (fun c s => (s, Ans.ok ((List.range (u8 c.params 1)).flatMap (fun i =>
      let r := u8 c.params 0 + i
      if (s.robot? r).isNone then le 1 r ++ le 1 0xFF ++ zeros 6
      else
        let k := Tab.getD r ⟨false, 0, 0⟩ s.crk.conf
        let late := s.crk.watch.any (fun w => s.scopeCovers w.kind w.index r && w.late.contains r)
        let st := if s.covered r = false then 0 else if s.stopConfirmed r then 2 else if late then 3 else 1
        le 1 r ++ le 1 st ++ le 1 (if st = 0 then 0 else s.coverRamp r) ++ le 1 0 ++ le 4 (if st = 2 then k.still else 0))))) ∧
  (∀ us, EventActs (fun dt => .loopOpen dt ⟨0, us⟩) (fun u => NativeHw u ∧ u.loopPrm 0 ≠ 0 ∧ u.loopPrm 1 ≤ us)
    (fun u => (u.mapCrk (fun k => { k with
      openA := true, bothOpen := k.bothOpen || k.openB, togetherAt := none
      discFrom := if k.openB then none else match k.discFrom with | some t => some t | none => some u.now
      discDone := k.discDone && !k.openB
      latched := k.latched || u.loopPrm 4 == 1 })).setStop 1 0 0 (u.loopPrm 3))) ∧
  (∀ us, EventActs (fun dt => .loopOpen dt ⟨1, us⟩) (fun u => NativeHw u ∧ u.loopPrm 0 ≠ 0 ∧ u.loopPrm 1 ≤ us)
    (fun u => (u.mapCrk (fun k => { k with
      openB := true, bothOpen := k.bothOpen || k.openA, togetherAt := none
      discFrom := if k.openA then none else match k.discFrom with | some t => some t | none => some u.now
      discDone := k.discDone && !k.openA
      latched := k.latched || u.loopPrm 4 == 1 })).setStop 1 0 0 (u.loopPrm 3))) ∧
  (∀ ch us, ch < 2 → EventActs (fun dt => .loopOpen dt ⟨ch, us⟩) (fun u => NativeHw u ∧ us < u.loopPrm 1) (fun u => u)) ∧
  EventActs (fun dt => .loopClose dt true true)
    (fun u => NativeHw u ∧ u.loopPrm 0 ≠ 0 ∧ u.crk.disc = false ∧ (u.crk.openA || u.crk.openB) = true ∧ u.loopPrm 4 = 1)
    (fun u => u.mapCrk (fun k => { k with
      openA := false, openB := false, discFrom := none, discDone := false, disc := false, bothOpen := false
      togetherAt := some (k.togetherAt.getD u.now), latched := true })) ∧
  (∀ t, EventActs (fun dt => .loopClose dt true true)
    (fun u => NativeHw u ∧ u.loopPrm 0 ≠ 0 ∧ u.crk.disc = false ∧ (u.crk.openA || u.crk.openB) = true ∧ u.loopPrm 4 ≠ 1 ∧
      (u.mapCrk (fun k => { k with
        openA := false, openB := false, discFrom := none, discDone := false, disc := false, bothOpen := false
        togetherAt := some (k.togetherAt.getD u.now), latched := false })).releaseStop 1 0 0 = some t)
    (fun _ => t)) ∧
  (∀ t, EventActs (fun dt => .loopDiscrepancy dt)
    (fun u => NativeHw u ∧ u.loopPrm 0 ≠ 0 ∧ u.crk.discDone = false ∧ u.crk.discFrom = some t ∧ u.loopPrm 2 * 1000000 < u.now - t)
    (fun u => (u.mapCrk (fun k => { k with disc := true, discDone := true, bothOpen := false })).raise0 0x0903 .fault
      (if u.crk.openA then 1 else 2) 0)) ∧
  (∀ c f sense, c < 4 → EventActs (fun dt => .stopFrameSend dt c sense)
    (fun u => NativeHw u ∧ u.crk.frames.find? (fun (f : Nat × Nat) => f.1 == c && decide (f.2 ≤ u.now)) = some f ∧ u.beaconsOn = true ∧
      u.chainOn c = true ∧ 2 ≤ u.air.slot ∧ (u.prm 0x0500 = 3 → sense ≤ u.prmS 8 0x0510))
    (fun u =>
      let s := (((u.mapCrk (fun k => { k with frames := k.frames.erase f })).useKey 0).flockCount).2.mapChain c (fun k => { k with
        stopAsn := some u.air.asn })
      s.transmit c (u.prm 0x0506) 21 (fun khz => .stopFrame c khz
        (u.flockPsdu u.lnk.flockCtr (le 4 (u.air.asn % 2 ^ 32) ++ le 2 (u.tokenWith u.crk.table.getLast?) ++ [0, 0]))))) ∧
  (∀ c f sense, c < 4 → EventActs (fun dt => .stopFrameSend dt c sense)
    (fun u => NativeHw u ∧ u.crk.frames.find? (fun (f : Nat × Nat) => f.1 == c && decide (f.2 ≤ u.now)) = some f ∧ u.beaconsOn = true ∧
      u.chainOn c = true ∧ 2 ≤ u.air.slot ∧ u.prm 0x0500 = 3 ∧ u.prmS 8 0x0510 < sense)
    (fun u => (u.mapCrk (fun k => { k with frames := k.frames.erase f, framesLost := k.framesLost + 1 })).mapChain c (fun k => { k with
      deferrals := inc32 k.deferrals }))) ∧
  (∀ r w, r < 256 → EventActs (fun dt => .stopUnconfirmed dt r)
    (fun u => NativeRun u ∧ (u.robot? r).isSome ∧ u.crk.watch = [w] ∧ w.conf.contains r = false ∧
      u.scopeCovers w.kind w.index r = true ∧ w.late.contains r = false ∧
      (u.tE r + u.prm 0x0906) * 1000000 ≤ u.now - w.since)
    (fun u => (u.mapCrk (fun k => { k with watch := [{ w with late := r :: w.late }] })).raise 0x0904 .warning 1 1 r))

/-- The site axes: their opcodes and what the hardware does at the PWM rate (R371 to R377, R380 to R382). -/
def Obligations.AxisRowsAct : Prop :=
  (∀ tgt, WorkCompletes .axsMove opAxsMove
    (fun c s => c.params.length = 12 ∧ axisReady s (u8 c.params 0) ∧ u8 c.params 1 ≤ 2 ∧ u16 c.params 2 = 0 ∧ 1 ≤ u32 c.params 8 ∧
      u32 c.params 8 ≤ u32 (s.axisRec (u8 c.params 0)) 0 ∧
      tgt = State.axisTarget (u8 c.params 1) (s.axis (u8 c.params 0)).p (i32 c.params 4) ∧
      -2147483648 ≤ tgt ∧ tgt ≤ 2147483647 ∧ (u8 c.params 1 = 2 ∨ tgt ≠ (s.axis (u8 c.params 0)).p))
    (fun c s => (s.mapAxis (u8 c.params 0) (fun a => { a with
      wait := some ⟨u8 c.params 1, tgt, u32 c.params 8⟩, cmd := some (c.sess, c.acc) }), none))) ∧
  WorkCompletes .axsMove opAxsMove
    (fun c s => c.params.length = 12 ∧ axisReady s (u8 c.params 0) ∧ u16 c.params 2 = 0 ∧ 1 ≤ u32 c.params 8 ∧
      u32 c.params 8 ≤ u32 (s.axisRec (u8 c.params 0)) 0 ∧ -2147483648 ≤ (s.axis (u8 c.params 0)).p ∧ (s.axis (u8 c.params 0)).p ≤ 2147483647 ∧
      (u8 c.params 1 = 0 ∧ i32 c.params 4 = (s.axis (u8 c.params 0)).p ∨ u8 c.params 1 = 1 ∧ i32 c.params 4 = 0))
    (fun c s => (s, some (Ans.ok (State.moveBody 0 (s.axis (u8 c.params 0)).p)))) ∧
  WorkCompletes .axsHalt opAxsHalt
    (fun c s => c.params.length = 4 ∧ u8 c.params 0 < 4 ∧ s.axisOn (u8 c.params 0) = true ∧ u8 c.params 1 ≤ 1 ∧ u16 c.params 2 = 0 ∧
      s.axisMoving (u8 c.params 0) = true)
    (fun c s => (s.mapAxis (u8 c.params 0) (fun a => { a with haltNext := a.haltNext ++ [(u8 c.params 1, c.sess, c.acc)] }), none)) ∧
  ControlCompletes .axsHalt opAxsHalt
    (fun c s => c.params.length = 4 ∧ u8 c.params 0 < 4 ∧ s.axisOn (u8 c.params 0) = true ∧ u8 c.params 1 ≤ 1 ∧ u16 c.params 2 = 0 ∧
      s.axisMoving (u8 c.params 0) = true)
    (fun c s => (s.mapAxis (u8 c.params 0) (fun a => { a with haltNext := a.haltNext ++ [(u8 c.params 1, c.sess, c.acc)] }), Ans.bare stOk 0)) ∧
  WorkCompletes .axsHalt opAxsHalt
    (fun c s => c.params.length = 4 ∧ u8 c.params 0 < 4 ∧ s.axisOn (u8 c.params 0) = true ∧ u8 c.params 1 ≤ 1 ∧ u16 c.params 2 = 0 ∧
      s.axisMoving (u8 c.params 0) = false)
    (fun _ s => (s, some (Ans.bare stOk 1))) ∧
  WorkCompletes .axsHome opAxsHome
    (fun c s => c.params.length = 12 ∧ axisReady s (u8 c.params 0) ∧ u8 c.params 1 ≤ 1 ∧ u16 c.params 2 = 0 ∧ 1 ≤ u32 c.params 4 ∧
      u32 c.params 4 ≤ u32 (s.axisRec (u8 c.params 0)) 0 ∧ (s.axis (u8 c.params 0)).refActive = false)
    (fun c s => (s.mapAxis (u8 c.params 0) (fun a => { a with
      wait := some ⟨3, if u8 c.params 1 = 1 then -2147483648 else 2147483647, u32 c.params 4⟩
      cmd := some (c.sess, c.acc), offset := i32 c.params 8 }), none)) ∧
  WorkCompletes .axsSetPos opAxsSetPos
    (fun c s => c.params.length = 8 ∧ u8 c.params 0 < 4 ∧ s.axisOn (u8 c.params 0) = true ∧ rd c.params 1 3 = 0 ∧
      s.axisMoving (u8 c.params 0) = false)
    (fun c s => (s.mapAxis (u8 c.params 0) (fun a => { a with p := i32 c.params 4, suspended := false }), some (Ans.ok []))) ∧
  QueryCompletes .axsStateRead opAxsStateRead (fun c _ => c.params = [])
    (fun _ s => (s, Ans.ok ((List.range 4).flatMap (fun n =>
      let x := s.axis n
      let z := axisNow s n
      let st := if s.axisOn n = false then 0 else match x.motion with
        | some m => if m.ramp then 3 else if m.homing then 4 else 2
        | none => 1
      le 1 n ++ le 1 st ++ le 1 (b2n (decide (u8 (s.axisRec n) 44 ≤ x.stallRun)) + 2 * b2n x.devRun.isSome + 4 * b2n x.suspended +
        8 * b2n (decide (8 ≤ x.fullRun))) ++ [0] ++ leS 4 z.1 ++ leS 4 z.2 ++ leS 4 x.count ++ leS 4 x.d ++ le 4 x.delta ++
        leS 4 x.refP ++ leS 4 x.refCount ++ leS 4 x.auxP ++ leS 4 x.zCount)))) ∧
  (∀ n vbus edges, n < 4 → EventActs (fun dt => .axisPwmPeriod dt n vbus edges) (fun u => NativeHw u ∧ u.axisOn n = true)
    (State.axisPwm n vbus edges)) ∧
  (∀ (u : State) n vbus edges, n < u.axs.length → u.axisOn n = true →
    let x := u.axis n
    let b := u.axisRec n
    let z := axisNow u n
    let y := (u.axisPwm n vbus edges).axis n
    let v := match x.motion with | some m => m.speedAt (u.now - m.start) | none => 0
    let w := if v = 0 then u16 b 20 else u16 b 22 + u16 b 24 * v / 2000000000000000
    let k := toSigned 32 (ofSigned 32 (x.count + (if bit (u8 b 45) 1 then -edges else edges)))
    y.p = z.1 ∧ y.count = k ∧ y.uMv = w ∧ y.duty = (if vbus = 0 then 1000000 else min 1000000 (w * 1000000 / vbus)) ∧
    y.d = (if u16 b 30 ≠ 0 ∧ x.suspended = false ∧ u.agrees 166 = true then z.1 - (k * 256).tdiv (u16 b 30) else 0)) ∧
  (∀ n m, n < 4 → EventActs (fun dt => .axisMoveDone dt n)
    (fun u => NativeHw u ∧ (u.axis n).motion = some m ∧ m.total ≤ u.now - m.start) (fun u => u.axisEnd n)) ∧
  EventActs (fun dt => .axisStopRamp dt) (fun u => NativeHw u ∧ ∀ n, n < 4 → (u.axis n).stopDue = none) (fun u => u) ∧
  (∀ r, EventActs (fun dt => .axisStopRamp dt)
    (fun u => NativeHw u ∧ (u.axis 0).stopDue = some r ∧ ∀ k, 1 ≤ k → k < 4 → (u.axis k).stopDue = none)
    (fun u =>
      let t := u.mapAxis 0 (fun a => { a with stopDue := none })
      if u8 (u.axisRec 0) 46 = 0 then t else if u8 (u.axisRec 0) 46 = 1 then t.axisRamp 0 (r == 1) 2 else t.axisRamp 0 true 2)) ∧
  (∀ n delta, n < 4 → EventActs (fun dt => .axisStall dt n delta)
    (fun u => NativeHw u ∧ u.axisOn n = true ∧ u.estimates = true ∧ u32 (u.axisRec n) 40 ≤ u.axisSpeed n ∧ u.axisSpeed n ≠ 0 ∧
      u32 (u.axisRec n) 36 < delta ∧ (u.axis n).stallRun + 1 = u8 (u.axisRec n) 44)
    (fun u => (u.mapAxis n (fun a => { a with delta := delta, stallRun := (u.axis n).stallRun + 1 })).raise
      0x0A01 .warning (min 255 (delta / 10000)) 5 n)) ∧
  (∀ n delta, n < 4 → EventActs (fun dt => .axisStall dt n delta)
    (fun u => NativeHw u ∧ u.axisOn n = true ∧ u.estimates = true ∧ u32 (u.axisRec n) 40 ≤ u.axisSpeed n ∧ u.axisSpeed n ≠ 0 ∧
      delta ≤ u32 (u.axisRec n) 36 ∧ u8 (u.axisRec n) 44 ≠ 0)
    (fun u => u.mapAxis n (fun a => { a with delta := delta, stallRun := 0 }))) ∧
  (∀ n, n < 4 → EventActs (fun dt => .axisRefEdge dt n false true)
    (fun u => NativeHw u ∧ ∀ m, (u.axis n).motion = some m → m.homing = false)
    (fun u => u.mapAxis n (fun a => { a with refActive := true, refP := (axisNow u n).1, refCount := a.count }))) ∧
  (∀ n m, n < 4 → EventActs (fun dt => .axisRefEdge dt n false true)
    (fun u => NativeHw u ∧ (u.axis n).motion = some m ∧ m.homing = true ∧ m.ramp = false)
    (fun u => ((u.mapAxis n (fun a => { a with refActive := true, refP := (axisNow u n).1, refCount := a.count })).mapAxis n
      (fun a => { a with suspended := false, offset := a.offset - (axisNow u n).1 })).axisRamp n false 0)) ∧
  (∀ n, n < 4 → EventActs (fun dt => .axisRefEdge dt n true true) (fun u => NativeHw u ∧ u.axisOn n = true ∧ u8 (u.axisRec n) 48 ≠ 0xFF)
    (fun u => u.mapAxis n (fun a => { a with auxP := (axisNow u n).1, auxCount := a.count }))) ∧
  (∀ n, n < 4 → EventActs (fun dt => .encIndexEdge dt n) NativeHw (fun u => u.mapAxis n (fun a => { a with zCount := a.count }))) ∧
  (∀ n level, n < 4 → EventActs (fun dt => .encError dt n level) (fun u => NativeHw u ∧ u.axisOn n = true)
    (fun u => (u.mapAxis n (fun a => { a with suspended := true })).raise 0x0A03 .warning level 5 n))

/-- The Ethernet ports: reception with its counters, sending, links, probes and PTP (R387 to R398). -/
def Obligations.EthernetRowsAct : Prop :=
  QueryCompletes .ethPortRead opEthPortRead (fun c _ => c.params = [])
    (fun _ s => (s, Ans.ok ((List.range 3).flatMap (fun n =>
      le 1 n ++ le 1 (if s.ethOn n then (s.port n).link else 0) ++ le 1 (s.port n).plca ++ [0] ++ be 6 (s.fac.mac + n) ++ [0, 0] ++
        (s.port n).counts.flatMap (le 4))))) ∧
  WorkCompletes .ethProbe opEthProbe
    (fun c s => c.params.length = 12 ∧ u8 c.params 0 ≤ 2 ∧ (u8 c.params 0 = 0 ∨ bit c.agreed 192 = true) ∧ 1 ≤ u8 c.params 1 ∧
      u8 c.params 1 ≤ 64 ∧ 64 ≤ u16 c.params 2 ∧ u16 c.params 2 ≤ s.ethM (u8 c.params 0) + 18 ∧ u16 c.params 10 = 0 ∧
      s.ethUp (u8 c.params 0) = true)
    (fun c s => (s.mapEth (fun e => { e with probes := e.probes ++ [{
      port := u8 c.params 0, count := u8 c.params 1, len := u16 c.params 2, dst := rdBe c.params 4 6, sess := c.sess, acc := c.acc
      started := false, res := [] }] }), none)) ∧
  (∀ n b fcs, n < 3 → b.length < 64 → EventActs (fun dt => .ethFrameReceived dt n b fcs) (portUp n) (State.ethCount n 2)) ∧
  (∀ n b fcs, n < 3 → 64 ≤ b.length → EventActs (fun dt => .ethFrameReceived dt n b fcs)
    (fun u => portUp n u ∧ u.ethM n + 18 < b.length) (State.ethCount n 3)) ∧
  (∀ n b, n < 3 → 64 ≤ b.length → EventActs (fun dt => .ethFrameReceived dt n b false)
    (fun u => portUp n u ∧ b.length ≤ u.ethM n + 18) (State.ethCount n 4)) ∧
  (∀ n b, n < 3 → 64 ≤ b.length → EventActs (fun dt => .ethFrameReceived dt n b true)
    (fun u => portUp n u ∧ b.length ≤ u.ethM n + 18 ∧
      (u.ethDstOk n (rdBe b 0 6) = false ∨ State.ethTypeOk n (rdBe b 12 2) = false)) (State.ethCount n 5)) ∧
  (∀ n b, n < 3 → rdBe b 12 2 = 0x88B5 → EventActs (fun dt => .ethFrameReceived dt n b true)
    (fun u => portUp n u ∧ ethOk n b u) (State.ethCount n 1)) ∧
  (∀ n b, n < 3 → rdBe b 12 2 = 0x88F7 → EventActs (fun dt => .ethFrameReceived dt n b true)
    (fun u => portUp n u ∧ ethOk n b u ∧ u.ptpOn n = true)
    (fun u => (u.ethCount n 1).ptpIn n (slice b 14 (b.length - 18)))) ∧
  (∀ b, rdBe b 12 2 = 0x0800 → EventActs (fun dt => .ethFrameReceived dt 0 b true)
    (fun u => portUp 0 u ∧ ethOk 0 b u ∧ udpOk (slice b 14 (b.length - 18)) u)
    (fun u =>
      let ip := slice b 14 (b.length - 18)
      (u.ethCount 0 1).takeDatagram (rdBe b 6 6) (rdBe ip 12 4) (rdBe ip 20 2) (slice ip 28 (rdBe ip 2 2 - 28)))) ∧
  (∀ mac ip target, EventActs (fun dt => .arpRequest dt mac ip target)
    (fun u => NativeHw u ∧ u.ethUp 0 = true ∧ u.wiredOut = true ∧ u.prm 0x0B06 ≠ 0 ∧ target = u.prm 0x0B06)
    (fun u => u.ethSend 0 {
      cls := clsUrgent, dst := mac, len := 64, kind := .arp,
      data := be 2 1 ++ be 2 0x0800 ++ [6, 4] ++ be 2 2 ++ be 6 u.fac.mac ++ be 4 target ++ be 6 mac ++ be 4 ip })) ∧
  (∀ mac ip d, u8 d 0 = 8 → sum16 d = 0xFFFF → EventActs (fun dt => .icmpEcho dt mac ip d)
    (fun u => NativeHw u ∧ u.ethUp 0 = true ∧ u.wiredOut = true ∧ u.prm 0x0B06 ≠ 0)
    (fun u => u.ethSend 0 {
      cls := clsUrgent, dst := mac, len := max 64 (38 + d.length), kind := .icmp,
      data := be 4 ip ++ [0, 0] ++ be 2 (0xFFFF - sum16 ([0, 0, 0, 0] ++ d.drop 4)) ++ d.drop 4 })) ∧
  EventActs (fun dt => .ipReassemblyTimeout dt) NativeHw (fun u => u.mapEth (fun e => { e with
    parts := e.parts.filter (fun (x : IpPart) => decide (u.now - x.since < 1000000000)) })) ∧
  (∀ mode, mode < 3 → EventActs (fun dt => .phyPoll dt mode)
    (fun u => NativeHw u ∧ u.prm 0x0B01 = 1 ∧ u.ethOn 0 = true ∧ (u.port 0).seen ≠ mode ∧ u.sys.ethCap = none)
    (fun u => ((u.mapPort 0 (fun p => { p with seen := mode, link := mode })).raise0 0x0B01 .notice mode 0).ethKick 0)) ∧
  (∀ n mode, n < 3 → EventActs (fun dt => .linkChanged dt n mode)
    (fun u => NativeHw u ∧ u.ethOn n = true ∧ (u.port n).seen ≠ mode ∧ u.sys.ethCap = none)
    (fun u => ((u.mapPort n (fun p => { p with seen := mode, link := if mode = 3 then 0 else if mode = 4 then 3 else mode })).raise0
      0x0B01 .notice mode n).ethKick n)) ∧
  (∀ n f a b, 1 ≤ n → n < 3 → f.kind = .reply a b → EventActs (fun dt => .excessCollisions dt n)
    (fun u => NativeHw u ∧ (u.port n).busy = some f ∧ (u.port n).collRun = false)
    (fun u => ((((u.mapPort n (fun p => { p with
      busy := none, collRun := true, stamps := p.stamps.filter (fun x => x.1 != f.kind || f.kind.stamped == false) })).ethCount n 6).raise0
      0x0B03 .warning 1 n).ethRefill n).ethKick n)) ∧
  (∀ n, n < 3 → EventActs (fun dt => .plcaLost dt n false) (fun u => NativeHw u ∧ (u.port n).plca = 1)
    (fun u => (u.mapPort n (fun p => { p with plca := 2 })).raise0 0x0B04 .warning 1 n)) ∧
  (∀ n, n < 3 → EventActs (fun dt => .plcaLost dt n true) (fun u => NativeHw u ∧ (u.port n).plca = 2)
    (fun u => (u.mapPort n (fun p => { p with plca := 1 })).raise0 0x0B04 .warning 0 n)) ∧
  (∀ n ident delta err t i, n < 3 → EventActs (fun dt => .ptpSync dt n ident delta err)
    (fun u => NativeRun u ∧ u.eth.master = some (ident, t, i) ∧ u.prm 0x0400 = n + 1 ∧ u.ethUp n = true ∧ u.eth.delayLost = false ∧
      u.eth.sync = none)
    (fun u => (u.mapClk (fun c => { c with ptpLost := false })).discInput delta err)) ∧
  (∀ m t next, m ≠ next → EventActs (fun dt => .ptpAnnounceTimeout dt (some next))
    (fun u => NativeRun u ∧ u.prm 0x0400 ≠ 0 ∧ u.eth.master = some (m, t, 0) ∧ 3000000000 ≤ u.now - t)
    (fun u => (u.mapEth (fun e => { e with master := some (next, u.now, 0), masterGone := false, sync := none, syncSeq := none })).raise0
      0x0B05 .notice 1 (u.prm 0x0400 - 1 + 256 * (next / 65536 % 2 ^ 56)))) ∧
  (∀ m t, EventActs (fun dt => .ptpAnnounceTimeout dt none)
    (fun u => NativeRun u ∧ u.prm 0x0400 ≠ 0 ∧ u.eth.master = some (m, t, 0) ∧ 3000000000 ≤ u.now - t)
    (fun u => ((u.mapEth (fun e => { e with master := none, masterGone := true, sync := none })).mapClk (fun c => { c with
      ptpLost := true })).discMissing 5)) ∧
  (∀ n t, n < 3 → EventActs (fun dt => .ptpMasterSync dt n)
    (fun u => NativeRun u ∧ u.clk.state = .locked ∧ bit (u.prm 0x0B0B) n = true ∧ u.ethOn n = true ∧ (u.port n).syncAt = none ∧
      (u.port n).annAt = some t ∧ u.now - t < 1000000000)
    (fun u => (u.mapPort n (fun p => { p with syncAt := some u.now, ptpSeq := (p.ptpSeq + 1) % 65536 })).ptpSend
      n 0 (u.port n).ptpSeq State.ptpGroup [] (zeros 10))) ∧
  (∀ n mac req, n < 3 → EventActs (fun dt => .ptpDelayReq dt n mac req)
    (fun u => NativeRun u ∧ bit (u.prm 0x0B0B) n = true ∧ u.ethUp n = true ∧ 34 ≤ req.length ∧ u8 req 4 = u.prm 0x0B0A)
    (fun u => u.ptpSend n 9 (rdBe req 30 2) mac (slice req 8 8) (State.ptpStamp (u.rxStamp n) ++ slice req 20 10))) ∧
  (∀ n f, n < 3 → EventActs (fun dt => .ethFrameSent dt n) (fun u => NativeHw u ∧ (u.port n).busy = some f)
    (fun u => (((u.mapPort n (fun p => { p with busy := none, collRun := false })).ethCount n 0).ethRefill n).ethKick n)) ∧
  (∀ q t, EventActs (fun dt => .followUpTimeout dt)
    (fun u => NativeRun u ∧ u.eth.sync = some (q, t) ∧ 1000000000 ≤ u.now - t)
    (fun u => (u.mapEth (fun e => { e with sync := none })).mapClk (fun c => { c with consec := 0 })))

/-- The CAN controllers and the serial link: sending, aborting, reading buffers, reception, bus-off and its end (R407 to R416). -/
def Obligations.CanRowsAct : Prop :=
  WorkCompletes .canTx opCanTx canTxOk
    (fun c s => (s.putMb (u8 c.params 0) (u8 c.params 1) { s.canMb (u8 c.params 0) (u8 c.params 1) with tx := some {
      frame := canTxFrame c, sess := c.sess, acc := c.acc, loaded := false, attempts := 0, noAck := 0, aborts := [] } }, none)) ∧
  WorkCompletes .canTxAbort opCanTxAbort
    (fun c s => canAbortOk c s ∧ (s.canMb (u8 c.params 0) (u8 c.params 1)).tx = none) (fun _ s => (s, some (Ans.bare stOk 1))) ∧
  (∀ t, WorkCompletes .canTxAbort opCanTxAbort
    (fun c s => canAbortOk c s ∧ (s.canMb (u8 c.params 0) (u8 c.params 1)).tx = some t ∧
      (s.canPort (u8 c.params 0)).onBus ≠ some (u8 c.params 1))
    (fun c s => (s.canTxEnd (u8 c.params 0) (u8 c.params 1) 1 0, some (Ans.ok [])))) ∧
  (∀ t, WorkCompletes .canTxAbort opCanTxAbort
    (fun c s => canAbortOk c s ∧ c.acc ≠ 0 ∧ (s.canMb (u8 c.params 0) (u8 c.params 1)).tx = some t ∧
      (s.canPort (u8 c.params 0)).onBus = some (u8 c.params 1))
    (fun c s => (s.putMb (u8 c.params 0) (u8 c.params 1) { s.canMb (u8 c.params 0) (u8 c.params 1) with tx := some { t with
      aborts := t.aborts ++ [some (c.sess, c.acc)] } }, none))) ∧
  (∀ f time, WorkCompletes .canMbRead opCanMbRead
    (fun c s => c.params.length = 4 ∧ canAt c s ∧ u8 c.params 2 ≤ 19 ∧ 1 ≤ u8 c.params 3 ∧ u8 c.params 2 + u8 c.params 3 ≤ 20 ∧
      u8 (s.mbRec (u8 c.params 0) (u8 c.params 1)) 0 = 1 ∧ (s.canMb (u8 c.params 0) (u8 c.params 1)).frame = some (f, time))
    (fun c s =>
      let x := s.canMb (u8 c.params 0) (u8 c.params 1)
      let lock := if u8 c.params 2 = 0 then some (x.lock.getD s.now) else x.lock
      let last := 3 + ceilDiv f.data.length 4
      (s.putMb (u8 c.params 0) (u8 c.params 1)
        (if u8 c.params 2 ≤ last ∧ last < u8 c.params 2 + u8 c.params 3 then { x with lock := none, isNew := false, overrun := false }
          else { x with lock := lock }),
       some (Ans.ok (slice (le 8 (canHead x.isNew lock.isSome x.overrun f) ++ le 8 time ++ padTo 64 0 f.data)
         (4 * u8 c.params 2) (4 * u8 c.params 3)))))) ∧
  QueryCompletes .canStateRead opCanStateRead (fun c _ => c.params = [])
    (fun _ s => (s, Ans.ok ((List.range 2).flatMap (fun n =>
      let p := s.canPort n
      le 1 n ++ le 1 p.state.code ++ le 1 (min 255 p.rcv) ++ [0] ++ le 2 (min 65535 p.tec) ++ le 2 p.seqs ++
        p.counts.flatMap (le 4) ++ zeros 4)))) ∧
  WorkCompletes .canRecover opCanRecover
    (fun c s => c.params.length = 4 ∧ u8 c.params 0 ≤ 1 ∧ rd c.params 1 3 = 0 ∧ s.canOn (u8 c.params 0) = true ∧
      (s.canPort (u8 c.params 0)).state = .busOff)
    (fun c s => (s.mapCanPort (u8 c.params 0) (fun p => { p with counting := true }), some (Ans.ok []))) ∧
  WorkCompletes .canRecover opCanRecover
    (fun c s => c.params.length = 4 ∧ u8 c.params 0 ≤ 1 ∧ rd c.params 1 3 = 0 ∧ s.canOn (u8 c.params 0) = true ∧
      (s.canPort (u8 c.params 0)).state ≠ .busOff)
    (fun _ s => (s, some (Ans.bare stOk 1))) ∧
  WorkCompletes .canSerialTx opCanSerialTx (fun c s => serialTxOk c s ∧ s.can.serTx ≠ [])
    (fun c s => (s.mapCan (fun k => { k with serTx := k.serTx ++ [(c.sess, c.acc, slice c.params 4 (u16 c.params 0))] }), none)) ∧
  WorkCompletes .canSerialTx opCanSerialTx (fun c s => serialTxOk c s ∧ s.can.serTx = [] ∧ s.inControl = true)
    (fun c s => ((s.mapCan (fun k => { k with serTx := [(c.sess, c.acc, slice c.params 4 (u16 c.params 0))] })).emit
      (.serial s.uartTx (slice c.params 4 (u16 c.params 0))), none)) ∧
  (∀ ss a d, EventActs (fun dt => .serialTxDone dt) (fun u => NativeRun u ∧ u.can.serTx = [(ss, a, d)])
    (fun u => ((u.mapCan (fun c => { c with serTx := [] })).completeOk ss a (le 8 u.clk.count)).serSend)) ∧
  (∀ pad d age err, d ≠ [] → EventActs (fun dt => .serialPacketEnd dt ⟨pad, d⟩ age err)
    (fun u => NativeRun u ∧ u.uartRx = pad ∧ u32 u.serRec 0 ≠ 0 ∧ u.serDrive = false ∧ u8 u.serRec 6 ≠ 0)
    (fun u => u.publish (u8 u.serRec 6) (le 8 ((u.clk.count - age) % 2 ^ 63 + b2n err * 2 ^ 63) ++ d) id)) ∧
  (∀ pad d age err, d ≠ [] → EventActs (fun dt => .serialPacketEnd dt ⟨pad, d⟩ age err)
    (fun u => NativeRun u ∧ u.uartRx = pad ∧ u32 u.serRec 0 ≠ 0 ∧ u.serDrive = false ∧ u8 u.serRec 6 = 0)
    (fun u => u.mapCan (fun c => { c with serDropped := c.serDropped + d.length }))) ∧
  (∀ n f age, n < 2 → f.fdf = false → EventActs (fun dt => .canFrameReceived dt n f age 0)
    (fun u => canTakes n u ∧ ∀ m < 64, mbMatches (u.mbRec n m) f = false)
    (fun u => ((((((u.canDrive n (.canAck n)).mapCanPort n (fun p => { p with rcv := if 128 ≤ p.rcv then 127 else p.rcv - 1 })).canCount n 1).mapCanPort n (fun p => { p with
      filtered := inc32 p.filtered })).canJudge n).canOffer n))) ∧
  (∀ n f age m, n < 2 → f.fdf = false → m < 64 → EventActs (fun dt => .canFrameReceived dt n f age 0)
    (fun u => canTakes n u ∧ mbMatches (u.mbRec n m) f = true ∧ (u.canMb n m).isNew = false ∧ (u.canMb n m).lock = none ∧
      u8 (u.canCfg n) 14 = 0 ∧
      ∀ k < m, mbMatches (u.mbRec n k) f = false ∨ (u.canMb n k).isNew = true ∨ (u.canMb n k).lock.isSome = true)
    (fun u =>
      let s := ((u.canDrive n (.canAck n)).mapCanPort n (fun p => { p with rcv := if 128 ≤ p.rcv then 127 else p.rcv - 1 })).canCount n 1
      (((s.putMb n m { s.canMb n m with isNew := true, overrun := false, frame := some (f, u.clk.count - age) }).mapCanPort n (fun p => { p with
        overRun := false })).canJudge n).canOffer n)) ∧
  (∀ n m t age, n < 2 → EventActs (fun dt => .canAttemptEnd dt n 0 age)
    (fun u => NativeRun u ∧ (u.canPort n).onBus = some m ∧ (u.canMb n m).tx = some t)
    (fun u => ((((((u.mapCanPort n (fun p => { p with onBus := none })).mapCanPort n (fun p => { p with tec := p.tec - 1 })).canCount n 0).canTxEnd
      n m 0 (u.clk.count - age)).canJudge n).canOffer n))) ∧
  (∀ n, n < 2 → EventActs (fun dt => .canBusOff dt n)
    (fun u => NativeRun u ∧ (u.canPort n).state = .active ∧ (u.canPort n).onBus = none)
    (fun u => (u.mapCanPort n (fun p => { p with tec := 256 })).canJudge n)) ∧
  (∀ n k, n < 2 → EventActs (fun dt => .canBusOn dt n k)
    (fun u => NativeRun u ∧ (u.canPort n).state = .busOff ∧ (u.canPort n).counting = true ∧ 128 ≤ (u.canPort n).seqs + k)
    (fun u => ((u.mapCanPort n (fun p => { p with state := .active, tec := 0, rcv := 0, seqs := 0, counting := false })).raise0
      0x0C03 .notice 1 n).canOffer n)) ∧
  (∀ m b t, EventActs (fun dt => .canLockTimeout dt)
    (fun u => NativeRun u ∧ (u.canPort 0).mbs = [(m, b)] ∧ (u.canPort 1).mbs = [] ∧ b.lock = some t ∧ 1000000000 ≤ u.now - t)
    (fun u => (u.putMb 0 m { b with lock := none }).mapCanPort 0 (fun p => { p with lockDrops := inc32 p.lockDrops })))

/-- Hardware queues and on-chip memory: reading and releasing packets, errors, the spare bank and the scrubbers (R424 to R429, R434 to R438, R441, R443;
assumptions 29, 77). -/
def Obligations.MemoryRowsAct : Prop :=
  (∀ q n d t, QueryCompletes .queRead opQueRead
    (fun c s => c.params.length = 12 ∧ u8 c.params 1 = 0 ∧ 4 ≤ u16 c.params 2 ∧ u16 c.params 2 ≤ 4056 ∧ u16 c.params 2 % 4 = 0 ∧
      u32 c.params 8 = 0 ∧ 16 ≤ u8 c.params 0 ∧ u8 c.params 0 ≤ 63 ∧ Tab.find? (u8 c.params 0) s.mem.queues = some q ∧ q.disabled = false ∧
      q.packets = (n, d) :: t ∧ (u32 c.params 4 = 0 ∨ u32 c.params 4 = n))
    (fun c s =>
      let r := State.takePackets (u16 c.params 2) 0 q.packets q.nextSeq
      (s, if s.ringPoisoned q q.rp (min r.1.length 4) ∨ s.ringPoisoned q (q.rp + 4) (r.1.length - 4) then Ans.bare stFault 0
        else Ans.ok (le 4 n ++ le 2 r.2.1 ++ le 2 (b2n r.2.2.2.2) ++ le 4 r.2.2.1 ++ le 4 r.2.2.2.1 ++ r.1)))) ∧
  (∀ (s : State) q n d full, Tab.find? n s.mem.queues = some q → q.disabled = false → State.slotBytes d.length ≤ q.size - State.queueFill q →
    d.length ≤ 65532 → s.publish n d full = s.mapMem (fun m => { m with
      banks := State.ringCleanse q q.wp (State.slotBytes d.length) m.banks
      queues := Tab.put n { q with
        wp := (q.wp + State.slotBytes d.length) % (2 * q.size), packets := q.packets ++ [(q.nextSeq, d)]
        nextSeq := if q.nextSeq = 0xFFFFFFFF then 1 else q.nextSeq + 1, dropRun := false } m.queues })) ∧
  (∀ (u : State) version op p, u.fixedDown (State.intakeQueue p.via) = true → u.hostPacket version op p = u.dropFixed (State.intakeQueue p.via)) ∧
  (∀ (u : State) r, u.wiredOut = true → u.fixedDown 3 = true → u.sendPacket .spi r = u.dropFixed 3) ∧
  (∀ (f : AirRx), f.chain < 4 → EventActs (fun dt => .uplinkFrame dt f) (fun u => NativeRun u ∧ u.fixedDown (4 + f.chain) = true)
    (State.dropFixed (4 + f.chain))) ∧
  (∀ off, EventActs (fun dt => .mramScrub dt [] [(2, off, false)]) (fun u => FwRun u ∧ u.mem.mramCe ≤ 0xFFFFFFFF)
    (fun u => ((u.mapMem (fun m => { m with mramUe := inc32 m.mramUe })).raiseD 0x0D06 .fault 2 0 0 (2 + 256 * off)).raise0 0x0D05 .notice 2 0)) ∧
  (∀ q, WorkCompletes .queRelease opQueRelease
    (fun c s => c.params.length = 8 ∧ u8 c.params 1 ≤ 1 ∧ u16 c.params 2 = 0 ∧ 16 ≤ u8 c.params 0 ∧ u8 c.params 0 ≤ 63 ∧
      Tab.find? (u8 c.params 0) s.mem.queues = some q ∧ u32 c.params 4 ≠ 0 ∧ accPrecedes (u32 c.params 4) q.nextSeq = true)
    (fun c s =>
      let gone := q.packets.filter (fun e => accLe e.1 (u32 c.params 4))
      let q' := { q with
        rp := (q.rp + (gone.map (fun e => State.slotBytes e.2.length)).sum) % (2 * q.size)
        packets := q.packets.filter (fun e => !accLe e.1 (u32 c.params 4))
        winOff := q.winOff - (gone.map (fun e => State.slotBytes e.2.length)).sum
        underrun := if u8 c.params 1 = 1 then false else q.underrun
        dropped := if u8 c.params 1 = 1 then false else q.dropped }
      (s.mapMem (fun m => { m with queues := Tab.put (u8 c.params 0) q' m.queues }),
        some ⟨stOk, if gone.isEmpty then 1 else 0, []⟩))) ∧
  QueryCompletes .queStateRead opQueStateRead (fun c _ => c.params = []) (fun _ s => (s, Ans.ok ((List.range 64).flatMap s.queueRecord))) ∧
  QueryCompletes .memStateRead opMemStateRead (fun c _ => c.params = []) (fun _ s => (s, Ans.ok ((List.range 48).flatMap (bankRecord s) ++
    le 4 s.mem.mramCe ++ le 4 s.mem.mramUe ++ le 4 s.mem.scrubPasses ++ le 4 s.mem.scrubLastMs))) ∧
  (∀ (s : State) q x, 15 < q → Tab.find? q s.mem.queues = some x → (s.queueBytes q).length ≤ x.winOff →
    let y := { x with underrun := true, underruns := inc32 x.underruns }
    s.windowRead q = (x.winLast, (s.mapMem (fun m => { m with queues := Tab.put q y m.queues })).raise0 0x0D04 .warning 1 q)) ∧
  (∀ (s : State) q x, 15 < q → Tab.find? q s.mem.queues = some x → x.winOff < (s.queueBytes q).length →
    let y := { x with winOff := x.winOff + 4, winLast := u32 (s.queueBytes q) x.winOff }
    s.windowRead q = (u32 (s.queueBytes q) x.winOff, s.mapMem (fun m => { m with queues := Tab.put q y m.queues }))) ∧
  (∀ b addr w, b < 48 → rsRead w = .corrected → EventActs (fun dt => .memUncorrectable dt b addr w)
    (fun u => FwRun u ∧ u.prm 0x0D81 = 0)
    (fun u => u.mapBank b (fun k => { k with
      correctable := inc32 k.correctable, ceWords := if k.ceWords.contains addr then k.ceWords else addr :: k.ceWords
      words := Tab.put addr (rsFix w) k.words }))) ∧
  (∀ b addr w x, b < 48 → rsRead w = .corrected → EventActs (fun dt => .scrubPassEnd dt false [(b, addr, w, some x)])
    (fun u => FwRun u ∧ u.prm 0x0D81 = 0 ∧ u.now - u.mem.scrubStart < u.prm 0x0D80 * 1000000000)
    (fun u => u.mapBank b (fun k => { k with
      correctable := inc32 k.correctable, ceWords := if k.ceWords.contains addr then k.ceWords else addr :: k.ceWords
      words := Tab.put addr x k.words }))) ∧
  (∀ b addr w, b < 47 → rsRead w = .uncorrectable → EventActs (fun dt => .memUncorrectable dt b addr w)
    (fun u => FwRun u ∧ (u.bank b).poisoned.contains addr = false ∧ ((wordLost b addr u).bank b).state = .inService ∧
      (wordLost b addr u).mem.spareFor = none ∧ (wordLost b addr u).mem.copying = none ∧ ((wordLost b addr u).bank 47).state = .inService)
    (fun u => ((wordLost b addr u).mapMem (fun m => { m with copying := some b })).raise 0x0D02 .fault 1 7 b)) ∧
  (∀ b addr w x, b < 24 + 8 → 8 ≤ b → rsRead w = .uncorrectable → EventActs (fun dt => .memUncorrectable dt b addr w)
    (fun u => FwRun u ∧ (u.bank b).poisoned.contains addr = false ∧ ((wordLost b addr u).bank b).state = .inService ∧
      (wordLost b addr u).mem.spareFor = some x ∧ (wordLost b addr u).mem.copying = none)
    (fun u => (((wordLost b addr u).mapBank b (fun k => { k with state := .outOfService })).raise 0x0D02 .fault 2 7 b).raise 0x008A .warning 5 7 b)) ∧
  (∀ b addr w, b < 48 → rsRead w = .uncorrectable → EventActs (fun dt => .memUncorrectable dt b addr w)
    (fun u => FwRun u ∧ (u.bank b).poisoned.contains addr = true) (wordLost b addr)) ∧
  (∀ b, EventActs (fun dt => .bankCopyDone dt) (fun u => FwRun u ∧ u.mem.copying = some b ∧ (u.bank 47).state = .inService)
    (fun u => ((u.mapMem (fun m => { m with copying := none, spareFor := some b })).mapBank 47 (fun k => { k with
      state := .spareInUse, poisoned := (u.bank b).poisoned, words := (u.bank b).words })).mapBank b (fun k => { k with state := .onSpare }))) ∧
  EventActs (fun dt => .scrubPassEnd dt true [])
    (fun u => FwRun u ∧ u.now - u.mem.scrubStart ≤ u.prm 0x0D80 * 1000000000)
    (fun u => u.mapMem (fun m => { m with
      scrubPasses := inc32 m.scrubPasses, scrubLastMs := (u.now - u.mem.scrubStart) / 1000000, scrubStart := u.now, scrubLate := false
      banks := m.banks.map (fun k => { k with ceWords := [] }) })) ∧
  EventActs (fun dt => .scrubPassEnd dt false [])
    (fun u => FwRun u ∧ u.prm 0x0D80 * 1000000000 ≤ u.now - u.mem.scrubStart ∧ u.mem.scrubLate = false)
    (fun u => (u.mapMem (fun m => { m with scrubLate := true })).raise0 0x0D03 .notice 1 0) ∧
  (∀ a, EventActs (fun dt => .mramScrub dt [a] []) FwRun
    (fun u => (u.mapMem (fun m => { m with mramCe := min 0xFFFFFFFF (m.mramCe + 1) })).raise0 0x0D05 .notice a 0)) ∧
  (∀ off both, EventActs (fun dt => .mramScrub dt [] [(1, off, both)]) (fun u => FwRun u ∧ u.mem.mramCe ≤ 0xFFFFFFFF)
    (fun u => (((u.mapMem (fun m => { m with mramUe := inc32 m.mramUe })).raiseD 0x0D06 .fault 1 0 0 (1 + 256 * off)).mapSes (fun z => { z with
      journalFault := true })).raise0 0x0096 .fault 1 0))

/-- The folds: opcodes, membership, heartbeats, stops, routing and relayed messages (R451, R453, R455 to R458, R462, R465, R467, R468, R472). -/
def Obligations.FoldRowsAct : Prop :=
  QueryCompletes .fldStateRead opFldStateRead (fun c _ => c.params = [])
    (fun _ s =>
      let ms := s.membersBelow s.tiers
      (s, Ans.ok (le 1 s.tiers ++ le 1 (match s.bellTiers.getLast? with | some k => s.levelOf k | none => 0) ++ le 2 0 ++
        le 4 s.hierDevices ++ le 32 s.hierCat ++ le 2 s.stopSet.length ++ le 2 (ms.filter (fun e => e.2.absent)).length ++
        le 2 (ms.filter (fun e => e.2.reason != 0)).length ++ le 2 0 ++ le 4 s.fld.stopResends ++ le 4 s.fld.discarded ++
        le 4 s.fld.relayFwd ++ le 4 s.fld.relayDisc))) ∧
  WorkCompletes .fldMemberAdd opFldMemberAdd (fun c s => c.params.length = 12 ∧ rosterOk s (u16 c.params 0) (u16 c.params 2))
    (fun c s => (s.mapShadow c.sess (fun h => { h with
      roster := Tab.put (u16 c.params 0 * 4096 + u16 c.params 2) (u64 c.params 4 + 1) h.roster }), some (Ans.ok []))) ∧
  WorkCompletes .fldMemberRemove opFldMemberRemove (fun c s => c.params.length = 4 ∧ rosterOk s (u16 c.params 0) (u16 c.params 2))
    (fun c s => (s.mapShadow c.sess (fun h => { h with
      roster := Tab.put (u16 c.params 0 * 4096 + u16 c.params 2) 0 h.roster }), some (Ans.ok []))) ∧
  (∀ k, QueryCompletes .fldMembersRead opFldMembersRead
    (fun c s => c.params.length = 8 ∧ 1 ≤ u16 c.params 4 ∧ u16 c.params 4 ≤ 254 ∧ u16 c.params 2 + u16 c.params 4 ≤ 4096 ∧
      u16 c.params 6 = 0 ∧ s.bellTierOf (u16 c.params 0) = some k)
    (fun c s => (s, Ans.ok ((List.range (u16 c.params 4)).flatMap (fun i =>
      let m := u16 c.params 2 + i
      if m = 0 then
        le 2 0 ++ le 1 (b2n (s.fld.ownReason != 0)) ++ le 1 s.fld.ownReason ++ le 8 s.fac.eui ++ le 4 (s.subDevices k)
      else match s.rosterEui k m, Tab.find? (s.memberKey k m) s.fld.members with
      | none, _ => le 2 m ++ le 1 3 ++ zeros 13
      | some e, none => le 2 m ++ le 1 2 ++ le 1 0 ++ le 8 e ++ le 4 0
      | some e, some x =>
        le 2 m ++ le 1 (if x.absent then 2 else b2n (x.reason != 0)) ++ le 1 x.reason ++ le 8 e ++ le 4 x.devices))))) ∧
  (∀ f k, EventActs (fun dt => .join dt f)
    (fun u => FoldHeard 1 k f u ∧ (u.tier k).member = 0 ∧ f.body.length = 568 ∧
      (u.rosterEui k f.src ≠ some (u64 f.body 0) ∨ u16 f.body 8 ≠ f.src))
    (fun u => (foldFrom f u).foldSend k msgJoinAnswer (some f.src) (le 1 1 ++ le 1 (u.levelOf k) ++ le 2 0 ++ le 4 (u.prm 0x0E10)))) ∧
  (∀ f k, EventActs (fun dt => .join dt f)
    (fun u => FoldHeard 1 k f u ∧ (u.tier k).member = 0 ∧ f.body.length = 568 ∧ (foldFrom f u).joinResult k f.src f.body = 0)
    (fun u =>
      let s := (foldFrom f u).admitMember k f.src f.body
      s.foldSend k msgJoinAnswer (some f.src) (le 1 0 ++ le 1 (s.levelOf k) ++ le 2 0 ++ le 4 (s.prm 0x0E10)))) ∧
  (∀ f k, EventActs (fun dt => .joinAnswer dt f)
    (fun u => FoldHeard 2 k f u ∧ f.body.length = 8 ∧ f.src = 0 ∧ u.upTier = some k ∧ u.fld.admitted = false ∧ u8 f.body 0 = 0)
    (fun u => (foldFrom f u).mapFld (fun x => { x with
      admitted := true, upLevel := u8 f.body 1, upState := 0, upReason := 0, seen := true, missSf := 0 }))) ∧
  (∀ f k, EventActs (fun dt => .joinAnswer dt f)
    (fun u => FoldHeard 2 k f u ∧ f.body.length = 8 ∧ f.src = 0 ∧ u.upTier = some k ∧ u.fld.admitted = false ∧ u8 f.body 0 ≠ 0)
    (fun u => (foldFrom f u).raise0 0x0E05 .notice (u8 f.body 0) ((u.tier k).fold + 65536 * (u.tier k).member))) ∧
  (∀ f k m, EventActs (fun dt => .heartbeat dt f)
    (fun u => FoldHeard 3 k f u ∧ (u.tier k).member = 0 ∧ f.body.length = 584 ∧ Tab.find? (u.memberKey k f.src) u.fld.members = some m ∧
      u.upTier.isSome = true ∧ m.stopDiff = 0 ∧ m.reason = 0 ∧
      (let s := (foldFrom f u).mapFld (fun x => { x with members := Tab.put (u.memberKey k f.src) ((foldFrom f u).hbMember f.stamp f.body m) x.members })
       s.hbFails (u.memberKey k f.src) f.body ((foldFrom f u).hbMember f.stamp f.body m) = []))
    (fun u =>
      let x := (foldFrom f u).hbMember f.stamp f.body m
      let s := (foldFrom f u).mapFld (fun z => { z with
        members := Tab.put (u.memberKey k f.src) { x with reason := 0, passes := m.passes + 1 } (Tab.put (u.memberKey k f.src) x z.members) })
      s.foldSend k msgHbAnswer (some f.src) (s.hbAnswerBody k 0))) ∧
  (∀ f k, EventActs (fun dt => .hbAnswer dt f)
    (fun u => FoldHeard 4 k f u ∧ f.body.length = 48 ∧ f.src = 0 ∧ u.upTier = some k ∧ u.fld.admitted = true)
    (fun u => (foldFrom f u).mapFld (fun x => { x with
      upState := u8 f.body 0, upReason := u8 f.body 1, upLevel := u8 f.body 2, hierDevices := u32 f.body 4, hierCat := rd f.body 8 32
      seen := true, missSf := 0 }))) ∧
  (∀ k, EventActs (fun dt => .foldPeriodicSend dt)
    (fun u => NativeRun u ∧ u.tiers ≠ 0 ∧ u.bellTiers = [] ∧ u.upTier = some k ∧ u.fld.admitted = true ∧ u.fld.relays = [] ∧ u.lnk.robots = [] ∧
      u.fld.ownReason = 0 ∧ u.fld.ownPasses = 0)
    (fun u => u.foldSend k msgHeartbeat (some 0) (u.heartbeatBody k))) ∧
  (∀ k, EventActs (fun dt => .foldPeriodicSend dt)
    (fun u => NativeRun u ∧ u.tiers ≠ 0 ∧ u.bellTiers = [] ∧ u.upTier = some k ∧ u.fld.admitted = false ∧ u.fld.relays = [] ∧ u.lnk.robots = [] ∧
      u.fld.ownReason = 0 ∧ u.fld.ownPasses = 0)
    (fun u => u.foldSend k msgJoin none (u.joinBody k))) ∧
  (∀ fold m x, EventActs (fun dt => .memberAbsent dt fold m)
    (fun u => NativeRun u ∧ Tab.find? (fold * 4096 + m) u.fld.members = some x ∧ x.absent = false ∧ u.prm 0x0E12 ≤ x.missSf)
    (fun u => (u.mapFld (fun f => { f with members := Tab.put (fold * 4096 + m) { x with absent := true } f.members })).raise0
      0x0E02 .warning 1 (fold + 65536 * m))) ∧
  (∀ k, EventActs (fun dt => .foldLost dt)
    (fun u => NativeRun u ∧ u.upTier = some k ∧ u.fld.admitted = true ∧ u.prm 0x0E12 ≤ u.fld.missSf)
    (fun u => (u.mapFld (fun f => { f with admitted := false, upState := 0, upReason := 0 })).raise0
      0x0E06 .warning 1 ((u.tier k).fold + 65536 * (u.tier k).member))) ∧
  (∀ f, EventActs (fun dt => .routed dt f)
    (fun u => FoldHeard 5 0 f u ∧ wholeHeader f.body ∧ bit (u8 f.body 3) 0 = false ∧ bit (u8 f.body 3) 4 = false ∧
      State.headCheck (routedPkt f) = none ∧ u8 (routedPkt f).payload 1 = (routedPkt f).depth)
    (fun u => (foldFrom f u).mapFld (fun x => { x with
      routedIn := x.routedIn ++ [(u8 f.body 2, u16 f.body 4, withHop (routedPkt f).depth (routedPkt f))] }))) ∧
  (∀ f k v, EventActs (fun dt => .routed dt f)
    (fun u => FoldHeard 5 k f u ∧ wholeHeader f.body ∧ bit (u8 f.body 3) 0 = true ∧
      u.fld.paths.find? (fun e => e.1 == (le 1 (u8 (replyOf f.body).pre 0) ++ slice (replyOf f.body).pre 2 (2 * u8 (replyOf f.body).pre 0),
        (replyOf f.body).sess)) = some v)
    (fun u => (foldFrom f u).sendPacket v.2 (replyOf f.body))) ∧
  (∀ f k, EventActs (fun dt => .stop dt f)
    (fun u => FoldHeard 6 k f u ∧ f.body.length = 16 ∧ u64 f.body 0 ≠ u.fac.eui ∧ u8 f.body 8 ≤ 2 ∧
      Tab.find? (u64 f.body 0) u.fld.stops = none ∧ u.fld.stopIn = [])
    (fun u => (((((List.range u.tiers).filter (fun j => j != k)).foldl (fun s j => s.sendStop j (u64 f.body 0) (u8 f.body 8) (u32 f.body 12))
      (foldFrom f u)).mapFld (fun x => { x with stopIn := x.stopIn ++ [(u64 f.body 0, u8 f.body 8, u32 f.body 12)] })).foldSend
      k msgStopAck (some f.src) (le 8 (u64 f.body 0) ++ le 4 (u32 f.body 12))))) ∧
  (∀ f k e, EventActs (fun dt => .stop dt f)
    (fun u => FoldHeard 6 k f u ∧ f.body.length = 16 ∧ Tab.find? (u64 f.body 0) u.fld.stops = some e ∧ u32 f.body 12 ≤ e.2)
    (fun u => (foldFrom f u).foldSend k msgStopAck (some f.src) (le 8 (u64 f.body 0) ++ le 4 (u32 f.body 12)))) ∧
  (∀ f k st, EventActs (fun dt => .stopAck dt f)
    (fun u => FoldHeard 7 k f u ∧ f.body.length = 12 ∧ u.fld.stopSends = [⟨k, u64 f.body 0, st, u32 f.body 8, [f.src]⟩])
    (fun u => (foldFrom f u).mapFld (fun x => { x with stopSends := [] }))) ∧
  (∀ f k, EventActs (fun dt => .stopSet dt f)
    (fun u => FoldHeard 8 k f u ∧ f.src = 0 ∧ u.upTier = some k ∧ u16 f.body 0 ≤ 448 ∧ f.body.length = 4 + 9 * u16 f.body 0 ∧
      bit (u8 f.body 2) 0 = true)
    (fun u => (foldFrom f u).mapFld (fun x => { x with
      setParts := []
      setIn := some ((List.range (u16 f.body 0)).foldl (fun (t : Tab Nat) i =>
        Tab.put (u64 f.body (4 + 9 * i)) (u8 f.body (12 + 9 * i)) t) x.setParts) }))) ∧
  (∀ f k, EventActs (fun dt => .relay dt f)
    (fun u =>
      let inner := f.body.drop 8
      FoldHeard 0x14 k f u ∧ u16 f.body 0 = u.deviceNo ∧ 28 ≤ f.body.length ∧ inner.length = 20 + u16 inner 12 ∧ u8 inner 0 = 1 ∧
        crc32c (inner.take (16 + u16 inner 12)) = u32 inner (16 + u16 inner 12) ∧ 9 ≤ u8 inner 1 ∧ u8 inner 1 ≤ 0x13 ∧
        State.relayLenOk (u8 inner 1) (slice inner 16 (u16 inner 12)) = true)
    (fun u => (foldFrom f u).mapFld (fun x => { x with
      inbox := x.inbox ++ [(u16 f.body 2, u8 (f.body.drop 8) 1, slice (f.body.drop 8) 16 (u16 (f.body.drop 8) 12))] }))) ∧
  (∀ f k j, EventActs (fun dt => .relay dt f)
    (fun u => FoldHeard 0x14 k f u ∧ u16 f.body 0 ≠ u.deviceNo ∧ u16 f.body 0 ≠ toAll ∧ u8 f.body 4 < 30 ∧
      u.bellTiers = [] ∧ u.upTier = some j)
    (fun u => ((foldFrom f u).mapFld (fun x => { x with relayFwd := inc32 x.relayFwd })).foldSend j msgRelay (some 0)
      (le 2 (u16 f.body 0) ++ le 2 (u16 f.body 2) ++ le 1 (u8 f.body 4 + 1) ++ zeros 3 ++ f.body.drop 8))) ∧
  EventActs (fun dt => .foldPartTimeout dt) NativeRun
    (fun u => u.mapFld (fun x => { x with
      canMsgs := x.canMsgs.filter (fun m => decide (u.now - m.since < 100000000))
      discarded := min 0xFFFFFFFF (x.discarded + (u.fld.canMsgs.filter (fun m => decide (100000000 ≤ u.now - m.since))).length) })) ∧
  RelayTaken .releaseReq 0x09 ∧ RelayTaken .foldRelease 0x0A ∧ RelayTaken .releaseAck 0x0B ∧ RelayTaken .prepare 0x0C ∧
  RelayTaken .vote 0x0D ∧ RelayTaken .decide 0x0E ∧ RelayTaken .resumeNote 0x0F ∧ RelayTaken .noteAck 0x10 ∧
  RelayTaken .taskReport 0x11 ∧ RelayTaken .reportAck 0x12 ∧ RelayTaken .borderDigest 0x13

/-- The redundant pair: its opcodes, what comes over the pair link, and what its time limits do (R362, R480, R482, R483, R486 to R488,
R490 to R493, R495, R496; assumptions 17, 134, 142). -/
def Obligations.PairRowsAct : Prop :=
  QueryCompletes .paiStateRead opPaiStateRead (fun c _ => c.params = [])
    (fun _ s => (s, Ans.ok (le 1 s.pai.role ++ le 1 s.pai.mode.code ++ le 1 (b2n s.inControl) ++
      le 1 (b2n s.pai.lane0 + 2 * b2n s.pai.lane1) ++ le 8 s.pai.partner ++ le 4 s.pai.lockTicks ++ le 4 s.pai.mismatches ++
      le 4 s.pai.resent ++ le 4 s.pai.discarded ++ zeros 4))) ∧
  WorkCompletes .paiResync opPaiResync
    (fun c s => c.params.length = 4 ∧ u32 c.params 0 = 0 ∧ s.pai.role = 2 ∧ s.pai.trained = true ∧
      (s.pai.mode = .withheld ∨ s.pai.mode = .yielded))
    (fun c s => (syncAsked (s.mapPai (fun y => { y with syncCmds := y.syncCmds ++ [(c.sess, c.acc)] })), none)) ∧
  WorkCompletes .paiResync opPaiResync
    (fun c s => c.params.length = 4 ∧ u32 c.params 0 = 0 ∧ s.pai.role = 2 ∧ s.pai.trained = true ∧ s.pai.mode = .resync)
    (fun c s => (s.mapPai (fun y => { y with syncCmds := y.syncCmds ++ [(c.sess, c.acc)] }), none)) ∧
  ControlCompletes .paiRoleSet opPaiRoleSet
    (fun c s => c.params.length = 4 ∧ u8 c.params 0 ≤ 2 ∧ rd c.params 1 3 = 0 ∧ s.pai.mode ≠ .lockstep ∧ s.pai.mode ≠ .resync ∧
      s.pai.role = u8 c.params 0)
    (fun _ s => (s, Ans.ok [])) ∧
  ControlCompletes .paiRoleSet opPaiRoleSet
    (fun c s => c.params.length = 4 ∧ (u8 c.params 0 = 1 ∨ u8 c.params 0 = 2) ∧ rd c.params 1 3 = 0 ∧ s.pai.mode ≠ .lockstep ∧
      s.pai.mode ≠ .resync ∧ s.pai.role ≠ 0 ∧ s.pai.role ≠ u8 c.params 0)
    (fun c s => (s.mapPai (fun y => { y with
      role := u8 c.params 0, mode := if u8 c.params 0 = 2 then .withheld else if y.mode = .yielded then .yielded else .alone }),
      Ans.ok [])) ∧
  (∀ m, ControlCompletes .paiRoleSet opPaiRoleSet
    (fun c s => c.params.length = 4 ∧ u8 c.params 0 = 2 ∧ rd c.params 1 3 = 0 ∧ s.pai.mode ≠ .lockstep ∧ s.pai.mode ≠ .resync ∧
      s.pai.role = 0 ∧ placeMap ((s.mapPai (fun y => { y with role := 2, mode := .withheld })).siteMap) = .ok m)
    (fun _ s => ((s.mapPai (fun y => { y with role := 2, mode := .withheld })).acceptMap m, Ans.ok []))) ∧
  (∀ p x, EventActs (fun dt => .paiYield dt p)
    (fun u => PairUrgent u opPaiYield p x ∧ p.body.length = 4 ∧ rd p.body 1 3 = 0 ∧ u8 p.body 0 = u.pai.role)
    (fun u => (yielded 5 (heard 0x0F03 p (itemSent 0x0F03 p u))).reply 0x0F03 p (Ans.ok []))) ∧
  (∀ p x, EventActs (fun dt => .paiYield dt p)
    (fun u => PairUrgent u opPaiYield p x ∧ p.body.length = 4 ∧ rd p.body 1 3 = 0 ∧ u8 p.body 0 + u.pai.role = 3)
    (fun u => (heard 0x0F03 p (itemSent 0x0F03 p u)).reply 0x0F03 p (Ans.ok []))) ∧
  (∀ count, EventActs (fun dt => .pairTick dt count)
    (fun u => Linked 2 u ∧ (u.pai.mode = .lockstep ∨ u.pai.mode = .resync))
    (fun u => (u.mapClk (fun c => { c with count := count })).mapSys (fun y => { y with misalign := none }))) ∧
  (∀ kind index ramp, EventActs (fun dt => .pairStop dt kind index ramp true)
    (fun u => NativeHw u ∧ u.pai.role ≠ 0 ∧ u.pai.trained = true ∧ u.stopsAhead.stopsFull kind index = false)
    (State.setStop 4 kind index ramp)) ∧
  (∀ kind index ramp, EventActs (fun dt => .pairStop dt kind index ramp false)
    (fun u => NativeHw u ∧ u.pai.role ≠ 0 ∧ u.pai.trained = true) (fun u => (u.releaseStop 4 kind index).getD u)) ∧
  (∀ role reason, role ≠ 0 → EventActs (fun dt => .yield dt reason) (fun u => Linked role u ∧ u.pai.mode = .lockstep)
    (fun u => controlTaken ((u.mapPai (fun y => { y with yieldSeen := true })).raise0 0x0F03 .warning reason 0))) ∧
  (∀ role reason, role ≠ 0 → EventActs (fun dt => .yield dt reason) (fun u => Linked role u ∧ u.pai.mode = .resync)
    (fun u => syncFailed 5 ((u.mapPai (fun y => { y with yieldSeen := true })).raise0 0x0F03 .warning reason 0))) ∧
  (∀ role reason, role ≠ 0 → EventActs (fun dt => .yield dt reason)
    (fun u => Linked role u ∧ u.pai.mode ≠ .lockstep ∧ u.pai.mode ≠ .resync)
    (fun u => (u.mapPai (fun y => { y with yieldSeen := true })).raise0 0x0F03 .warning reason 0)) ∧
  (∀ i, EventActs (fun dt => .item dt i) (fun u => Merges 2 u ∧ u.pai.mergeDue = none ∧ ∀ op p k, i = .cmd op p k → p.acc ≠ 0)
    (fun u => u.mapPai (fun y => { y with
      items := y.items.filter (fun (e : PairItem) => pairIdOf true false e.inp != pairIdOf false false i) ++ [⟨i, u.sys.tick⟩]
      owed := y.owed.filter (fun e => e.1 != pairIdOf false false i) }))) ∧
  (∀ typ f m, m.ids = [.fold f.fold f.src f.seq] → EventActs (fun dt => .item dt (.fold typ f))
    (fun u => Merges 2 u ∧ u.pai.mergeDue = some m ∧ (∀ e ∈ u.pai.owed, e.1 = .fold f.fold f.src f.seq) ∧ u.pai.items = [] ∧
      ((u.mapPai (fun y => { y with owed := [] })).foldTake typ f).pai.heldTick = none)
    (fun u => ((u.mapPai (fun y => { y with owed := [] })).foldTake typ f).mapPai (fun y => { y with
      merged := true, heldTick := none, sealed := [.fold f.fold f.src f.seq], owed := [], mergeDue := none }))) ∧
  (∀ op p k, p.acc = 0 → EventActs (fun dt => .item dt (.cmd op p k)) (Merges 2) (State.deliverOp 2 op p)) ∧
  (∀ i, EventActs (fun dt => .item dt i) (fun u => Merges 1 u ∧ u.pai.taken.contains (pairIdOf false true i) = true) (fun u => u)) ∧
  (∀ typ f, EventActs (fun dt => .item dt (.fold typ f))
    (fun u => Merges 1 u ∧ u.pai.taken.contains (.fold f.fold f.src f.seq) = false)
    (fun u => (u.mapPai (fun y => { y with taken := y.taken ++ [.fold f.fold f.src f.seq] })).foldTake typ f)) ∧
  (∀ op p k x, p.acc ≠ 0 → EventActs (fun dt => .item dt (.cmd op p k))
    (fun u => Merges 1 u ∧ u.pai.taken.contains (.numbered p.sess p.acc p.pcrc) = false ∧ u.session p.sess = some x ∧
      accPrecedes p.acc x.next = false)
    (fun u => (u.mapPai (fun y => { y with taken := y.taken ++ [.numbered p.sess p.acc p.pcrc] })).deliverOp 2 op p)) ∧
  (∀ m, m.ids = [] → EventActs (fun dt => .merge dt m) (fun u => Merges 2 u ∧ u.pai.heldTick = none)
    (fun u => u.mapPai (fun y => { y with merged := true, heldTick := none, sealed := [], owed := [], mergeDue := none }))) ∧
  (∀ m o, m.ids = [] → EventActs (fun dt => .merge dt m) (fun u => Merges 2 u ∧ u.pai.heldTick = some o)
    (fun u => (u.mapPai (fun y => { y with
      merged := true, heldTick := none, sealed := [], owed := [], mergeDue := none })).phases { o with epoch := m.mset })) ∧
  (∀ m f src q, m.ids = [.fold f src q] → EventActs (fun dt => .merge dt m) (fun u => Merges 2 u ∧ u.pai.items = [])
    (fun u => u.mapPai (fun y => { y with owed := [(.fold f src q, u.now)], mergeDue := some m }))) ∧
  (∀ m typ f t, m.ids = [.fold f.fold f.src f.seq] → EventActs (fun dt => .merge dt m)
    (fun u => Merges 2 u ∧ u.pai.items = [⟨.fold typ f, t⟩] ∧ ((u.mapPai (fun y => { y with items := [] })).foldTake typ f).pai.heldTick = none)
    (fun u => ((u.mapPai (fun y => { y with items := [] })).foldTake typ f).mapPai (fun y => { y with
      merged := true, heldTick := none, sealed := [.fold f.fold f.src f.seq], owed := [], mergeDue := none }))) ∧
  (∀ n acc role, EventActs (fun dt => .journalConf dt n acc) (fun u => Merges role u ∧ ∀ e ∈ u.ses.journal, e.awaitConf = none)
    (fun u => u.mapPai (fun y => { y with confs := y.confs ++ [(n, acc)] }))) ∧
  (∀ n acc role e a x, EventActs (fun dt => .journalConf dt n acc)
    (fun u => Merges role u ∧ u.pai.mode = .lockstep ∧ u.ses.journal = [e] ∧ e.sess = n ∧ e.acc = acc ∧ e.awaitConf = some a ∧
      e.close = none ∧ u.session n = some x)
    (fun u => ((((u.mapPai (fun y => { y with confs := y.confs ++ [(n, acc)] })).mapSes (fun z => { z with
      journal := [{ e with awaitConf := none }] })).sendPacket x.via { State.acceptedOf e with ans := a }).pumpSession n).mapPai
        (fun y => { y with confs := y.confs.filter (fun c => c != (n, acc)) }))) ∧
  (∀ inD outD written test role, EventActs (fun dt => .digest dt inD outD written test) (fun u => Merges role u ∧ u.pai.own = none)
    (fun u => u.mapPai (fun y => { y with their := some (inD, outD, written, test) }))) ∧
  (∀ inD outD written test role, EventActs (fun dt => .digest dt inD outD written test)
    (fun u => Merges role u ∧ u.pai.own = some (inD, outD) ∧ u.pai.mode = .lockstep ∧ u.pai.test = none)
    (fun u => (u.mapPai (fun y => { y with digested := true, matchNext := written })).closeDone)) ∧
  (∀ inD outD written test role a b, EventActs (fun dt => .digest dt inD outD written test)
    (fun u => Merges role u ∧ u.pai.own = some (a, b) ∧ (a ≠ inD ∨ b ≠ outD) ∧ u.pai.mode = .lockstep ∧ u.pai.test = none)
    (fun u => ((u.mapPai (fun y => { y with
      digested := true, matchNext := false, mismatches := inc32 y.mismatches, mute := y.mute || role == 2, test := some ⟨0, 0, u.now⟩ })).raise0
        0x0F01 .fault (if a = inD then 2 else 1) 0).closeDone)) ∧
  (∀ inD outD test role n acc, EventActs (fun dt => .digest dt inD outD true test)
    (fun u => Merges role u ∧ u.pai.own = some (inD, outD) ∧ u.pai.mode = .resync ∧ u.pai.test = none ∧ u.pai.syncCmds = [(n, acc)])
    (fun u => (((u.mapPai (fun y => { y with
      digested := true, matchNext := true, mode := .lockstep, syncCmds := [], syncFrom := none, syncAt := none
      echoFrom := some (u.sys.sfCount + 3), lockTicks := 0, solo := false })).raise0 0x0F07 .notice 1 0).completeOk n acc []).closeDone)) ∧
  (∀ passed t, EventActs (fun dt => .mismatchTestDone dt passed) (fun u => NativeRun u ∧ u.pai.test = some ⟨0, 0, t⟩)
    (fun u => u.mapPai (fun y => { y with test := some ⟨if passed then 1 else 2, 0, t⟩ }))) ∧
  (∀ q t, q ≠ 0 → EventActs (fun dt => .mismatchTestDone dt false)
    (fun u => NativeRun u ∧ u.pai.mode = .lockstep ∧ u.pai.test = some ⟨0, q, t⟩)
    (fun u => yielded 2 (u.mapPai (fun y => { y with test := none })))) ∧
  (∀ t, EventActs (fun dt => .mismatchTestDone dt true)
    (fun u => NativeRun u ∧ u.pai.mode = .lockstep ∧ u.pai.role = 2 ∧ u.pai.test = some ⟨0, 1, t⟩)
    (fun u => yielded 3 (u.mapPai (fun y => { y with test := none })))) ∧
  (∀ q t, q = 1 ∨ q = 2 → EventActs (fun dt => .mismatchTestDone dt true)
    (fun u => NativeRun u ∧ u.pai.role = 1 ∧ u.pai.test = some ⟨0, q, t⟩) (fun u => u.mapPai (fun y => { y with test := none }))) ∧
  (∀ eui, EventActs (fun dt => .syncReq dt eui 2 true true)
    (fun u => Linked 1 u ∧ (u.pai.mode = .alone ∨ u.pai.mode = .resync))
    (fun u => (u.emit (.pairSyncAnswer 0)).mapPai (fun y => { y with partner := eui, mode := .resync, syncFrom := some u.now, syncAt := none }))) ∧
  (∀ eui images keys, images = false ∨ keys = false → EventActs (fun dt => .syncReq dt eui 2 images keys)
    (fun u => Linked 1 u ∧ (u.pai.mode = .alone ∨ u.pai.mode = .resync))
    (fun u => ((u.emit (.pairSyncAnswer (if images then 3 else 2))).mapPai (fun y => { y with partner := eui })).raise0
      0x0F08 .warning (if images then 3 else 2) 0)) ∧
  (∀ eui images keys, EventActs (fun dt => .syncReq dt eui 1 images keys) (Linked 1)
    (fun u => ((u.emit (.pairSyncAnswer 1)).mapPai (fun y => { y with partner := eui })).raise0 0x0F08 .warning 1 0)) ∧
  EventActs (fun dt => .syncAnswer dt 0) (fun u => NativeRun u ∧ u.pai.role = 2 ∧ u.pai.mode = .resync) (fun u => u) ∧
  (∀ r, r ≠ 0 → EventActs (fun dt => .syncAnswer dt r) (fun u => NativeRun u ∧ u.pai.role = 2 ∧ u.pai.mode = .resync) (syncFailed r)) ∧
  (∀ n, EventActs (fun dt => .pairStateFrame dt (.boundary n)) (fun u => NativeRun u ∧ u.pai.role = 2 ∧ u.pai.mode = .resync)
    (fun u => u.mapPai (fun y => { y with parts := y.parts + 1, syncAt := some (u.sys.tick + n) }))) ∧
  (∀ c, EventActs (fun dt => .pairStateFrame dt (.config c)) (fun u => NativeRun u ∧ u.pai.role = 2 ∧ u.pai.mode = .resync)
    (fun u => (u.mapPai (fun y => { y with parts := y.parts + 1 })).mapCfg (fun k => { c with lost := k.lost }))) ∧
  (∀ t last j, EventActs (fun dt => .pairStateFrame dt (.sessions t last j))
    (fun u => NativeRun u ∧ u.pai.role = 2 ∧ u.pai.mode = .resync ∧ u.ses.sessions = [] ∧ u.ses.journal = [])
    (fun u => (u.mapPai (fun y => { y with parts := y.parts + 1 })).mapSes (fun z => { z with
      sessions := t.foldl (fun a e => Tab.put e.1 e.2 a) [], lastSession := last, journal := j }))) ∧
  (∀ t, EventActs (fun dt => .pairStateFrame dt (.tasks t)) (fun u => NativeRun u ∧ u.pai.role = 2 ∧ u.pai.mode = .resync)
    (fun u => { (u.mapPai (fun y => { y with parts := y.parts + 1 })) with tsk := t })) ∧
  (∀ p, EventActs (fun dt => .pairStateFrame dt (.pasture p)) (fun u => NativeRun u ∧ u.pai.role = 2 ∧ u.pai.mode = .resync)
    (fun u => { (u.mapPai (fun y => { y with parts := y.parts + 1 })) with pas := p })) ∧
  (∀ l, EventActs (fun dt => .pairStateFrame dt (.flock l)) (fun u => NativeRun u ∧ u.pai.role = 2 ∧ u.pai.mode = .resync)
    (fun u => { (u.mapPai (fun y => { y with parts := y.parts + 1 })) with lnk := l })) ∧
  (∀ e a v, EventActs (fun dt => .pairStateFrame dt (.gnss e a v)) (fun u => NativeRun u ∧ u.pai.role = 2 ∧ u.pai.mode = .resync)
    (fun u => (u.mapPai (fun y => { y with parts := y.parts + 1 })).mapGns (fun g => { g with eph := e, alm := a, surveyed := v }))) ∧
  (∀ l n k, EventActs (fun dt => .pairStateFrame dt (.leap l n k)) (fun u => NativeRun u ∧ u.pai.role = 2 ∧ u.pai.mode = .resync)
    (fun u => (u.mapPai (fun y => { y with parts := y.parts + 1 })).mapClk (fun x => { x with leap := l, leapAnn := n, calTrim := k }))) ∧
  (∀ a t, EventActs (fun dt => .pairStateFrame dt (.stops a t)) (fun u => NativeRun u ∧ u.pai.role = 2 ∧ u.pai.mode = .resync)
    (fun u => (u.mapPai (fun y => { y with parts := y.parts + 1 })).mapCrk (fun k => { k with all := a, table := t }))) ∧
  (∀ f, EventActs (fun dt => .pairStateFrame dt (.fixes f)) (fun u => NativeRun u ∧ u.pai.role = 2 ∧ u.pai.mode = .resync)
    (fun u => (u.mapPai (fun y => { y with parts := y.parts + 1 })).mapFix (fun x => { f with enginesBad := x.enginesBad }))) ∧
  (∀ m n k b, EventActs (fun dt => .pairStateFrame dt (.slots m n k b))
    (fun u => NativeRun u ∧ u.pai.role = 2 ∧ u.pai.mode = .resync)
    (fun u => ((u.mapPai (fun y => { y with parts := y.parts + 1 })).mapAir (fun a => { a with map := m, next := n, tickMap := k })).mapSys
      (fun y => { y with beacons := b }))) ∧
  (∀ f, EventActs (fun dt => .pairStateFrame dt (.fold f)) (fun u => NativeRun u ∧ u.pai.role = 2 ∧ u.pai.mode = .resync)
    (fun u => { (u.mapPai (fun y => { y with parts := y.parts + 1 })) with fld := f })) ∧
  (∀ l0 l1, l0 = true ∨ l1 = true → EventActs (fun dt => .pairLinkTrained dt l0 l1)
    (fun u => NativeHw u ∧ u.pai.trained = false ∧ (u.pai.role ≠ 2 ∨ u.prm 0x0F00 ≠ 1))
    (fun u => u.mapPai (fun y => { y with trained := true, linkDown := false, lane0 := l0, lane1 := l1, yieldSeen := false }))) ∧
  (∀ l0 l1, l0 = true ∨ l1 = true → EventActs (fun dt => .pairLinkTrained dt l0 l1)
    (fun u => NativeRun u ∧ u.pai.trained = false ∧ u.pai.role = 2 ∧ u.prm 0x0F00 = 1 ∧ (u.pai.mode = .withheld ∨ u.pai.mode = .yielded))
    (fun u => syncAsked (u.mapPai (fun y => { y with trained := true, linkDown := false, lane0 := l0, lane1 := l1, yieldSeen := false })))) ∧
  EventActs (fun dt => .pairLaneDown dt 0) (fun u => NativeHw u ∧ u.pai.lane0 = true ∧ u.pai.lane1 = true)
    (fun u => (u.mapPai (fun y => { y with lane0 := false })).raise0 0x0F05 .warning 1 0) ∧
  EventActs (fun dt => .pairLaneDown dt 1) (fun u => NativeHw u ∧ u.pai.lane0 = true ∧ u.pai.lane1 = true)
    (fun u => (u.mapPai (fun y => { y with lane1 := false })).raise0 0x0F05 .warning 2 0) ∧
  EventActs (fun dt => .pairLinkLost dt) (fun u => Linked 1 u ∧ u.pai.mode = .lockstep)
    (fun u => (controlTaken (u.mapPai (fun y => { y with trained := false, linkDown := true, lane0 := false, lane1 := false }))).raise0
      0x0F04 .fault 1 0) ∧
  EventActs (fun dt => .pairLinkLost dt) (fun u => Linked 2 u ∧ u.pai.mode = .lockstep)
    (fun u => (yielded 4 (u.mapPai (fun y => { y with trained := false, linkDown := true, lane0 := false, lane1 := false }))).raise0
      0x0F04 .fault 2 0) ∧
  (∀ role, role = 1 ∨ role = 2 → EventActs (fun dt => .pairLinkLost dt) (fun u => Linked role u ∧ u.pai.mode = .resync)
    (fun u => syncFailed 5 ((u.mapPai (fun y => { y with trained := false, linkDown := true, lane0 := false, lane1 := false })).raise0
      0x0F04 .fault role 0))) ∧
  (∀ role, role = 1 ∨ role = 2 → EventActs (fun dt => .pairLinkLost dt)
    (fun u => Linked role u ∧ u.pai.mode ≠ .lockstep ∧ u.pai.mode ≠ .resync)
    (fun u =>
      let v := u.mapPai (fun y => { y with trained := false, linkDown := true, lane0 := false, lane1 := false })
      if u.pai.yieldSeen then v else v.raise0 0x0F04 .fault role 0)) ∧
  EventActs (fun dt => .partnerSilent dt)
    (fun u => NativeRun u ∧ u.pai.role = 2 ∧ u.pai.mode = .yielded ∧ u.pai.linkYield = true ∧ u.pai.silentDone = false ∧
      u.prm 0x0F02 ≤ u.pai.silent)
    (fun u => (u.mapPai (fun y => { y with silentDone := true })).raise0 0x0F06 .fault 1 0) ∧
  EventActs (fun dt => .partnerAbsent dt)
    (fun u => NativeRun u ∧ u.pai.role = 2 ∧ (u.pai.mode = .withheld ∨ u.pai.mode = .resync) ∧ u.pai.absentDone = false ∧
      u.prm 0x0F01 * 1000000000 ≤ u.now - u.pai.loadAt)
    (fun u => (u.mapPai (fun y => { y with absentDone := true })).raise0 0x0F09 .fault 1 0) ∧
  (∀ t, EventActs (fun dt => .resyncTimeout dt)
    (fun u => NativeRun u ∧ u.pai.mode = .resync ∧ u.pai.syncFrom = some t ∧ 60000000000 ≤ u.now - t) (syncFailed 4)) ∧
  EventActs (fun dt => .itemDiscard dt) NativeRun
    (fun u => u.mapPai (fun y => { y with
      items := y.items.filter (fun (x : PairItem) => decide (u.sys.tick < x.tick + 10))
      discarded := satAdd 0xFFFFFFFF y.discarded (y.items.filter (fun (x : PairItem) => decide (x.tick + 10 ≤ u.sys.tick))).length }))

/-- Vitrine: its opcodes, tamper alarms, the key mask and the noise source (R500, R502, R504, R506 to R509, R511 to R515, R518, R519;
assumptions 24 and 81). -/
def Obligations.VitrineRowsAct : Prop :=
  (∀ s dt p x, HostReady (s.before dt) opVitKeyLoad p x → Expected (s.before dt) opVitKeyLoad.code p x → Credit (s.before dt) opVitKeyLoad p →
    keyLoadOk p.body (heardNumbered 0x1000 p (s.before dt)) →
    exec (.vitKeyLoad dt p) s = .next (s.act dt (fun u =>
      let t := heardNumbered 0x1000 p u
      match Config.unwrapLoad (slice p.body 4 64) (slice p.body 68 24) with
      | none => t.refusePkt 0x1000 p (Ans.bare 0x1040 0)
      | some k =>
        if Config.kcv k % 2 ^ 32 = u32 p.body 92 then
          answerWork opVitKeyLoad p x none (keyOpWaits p.sess p.acc (u16 p.body 0) (u8 p.body 2) k (u32 p.body 92) (t.useKey 2))
        else t.refusePkt 0x1000 p (Ans.bare 0x1041 0)))) ∧
  WorkCompletes .vitKeyErase opVitKeyErase
    (fun c s => c.params.length = 4 ∧ u16 c.params 0 < 512 ∧ u16 c.params 2 = 0 ∧ keysReady s ∧
      (∀ e ∈ s.lnk.robots, e.2.keySlot ≠ u16 c.params 0 ∨ e.2.legacy = true) ∧ (u16 c.params 0 = 0 → s.pai.role = 0))
    (fun c s => (keyOpWaits c.sess c.acc (u16 c.params 0) 0 0 0 s, none)) ∧
  QueryCompletes .vitSlotRead opVitSlotRead
    (fun c s => c.params.length = 4 ∧ 1 ≤ u16 c.params 2 ∧ u16 c.params 2 < 256 ∧ u16 c.params 0 + u16 c.params 2 ≤ 512 ∧
      s.vit.locked = false ∧ s.vit.rootBad = false)
    (fun c s =>
      let t := (List.range (u16 c.params 2)).foldl (fun s i => s.readSlot (u16 c.params 0 + i)) s
      (t, Ans.ok ((List.range (u16 c.params 2)).flatMap (fun i => t.slotRecord (u16 c.params 0 + i))))) ∧
  QueryCompletes .vitAttest opVitAttest
    (fun c s => c.params.length = 4 + u16 c.params 0 ∧ 16 ≤ u16 c.params 0 ∧ u16 c.params 0 ≤ 64 ∧ u16 c.params 2 = 0 ∧
      s.vit.locked = false ∧ s.vit.rootBad = false)
    (fun c s =>
      let t := (s.useKey 1).statement (c.params.drop 4)
      (s.useKey 1, Ans.ok (t ++ (padTo 64 0 (Config.attestSig t)).take 64))) ∧
  QueryCompletes .vitCertRead opVitCertRead (fun c _ => c.params = [])
    (fun _ s => (s, Ans.ok (le 2 s.fac.cert.length ++ le 2 0 ++ s.fac.cert))) ∧
  QueryCompletes .vitStateRead opVitStateRead (fun c _ => c.params = [])
    (fun _ s => (s, Ans.ok (le 1 s.vit.tamper ++ le 1 (bitsOf s.vit.active) ++ le 1 (b2n s.vit.locked) ++ le 1 (b2n s.vit.rngFault) ++
      le 2 s.vit.keys.length ++ le 2 (s.vit.slots.filter (fun (e : Nat × (SlotCopy × SlotCopy)) => (s.slotContent e.1).isSome)).length ++
      le 4 s.vit.alarms ++ le 4 0))) ∧
  WorkCompletes .vitTamperClear opVitTamperClear
    (fun c s => c.params.length = 4 ∧ u32 c.params 0 = 0 ∧ s.vit.active = [])
    (fun _ s => (s.mapVit (fun v => { v with tamper := 0 }), some (Ans.ok []))) ∧
  (∀ src, src < 7 → EventActs (fun dt => .tamperAlarm dt src true)
    (fun u => FwRun u ∧ u.tamperOn src = true ∧ u.vit.active.contains src = false ∧ u.vit.orders = []) (alarmed src)) ∧
  (∀ src i o, src < 7 → field o 8 8 = 6 → EventActs (fun dt => .tamperAlarm dt src true)
    (fun u => FwRun u ∧ u.tamperOn src = true ∧ u.vit.active.contains src = false ∧ u.vit.orders = [(i, o)] ∧
      field o 16 8 ≤ u.tamperLevel src ∧ u.vit.locked = false ∧ u.vit.ops = [])
    (fun u => State.remedyApplied i (State.unmatched State.zeroizeWorking (alarmed src u)))) ∧
  (∀ src, src < 7 → EventActs (fun dt => .tamperAlarm dt src false) (fun u => u.sys.power ≠ .off ∧ u.tamperOn src = true)
    (fun u => u.mapVit (fun v => { v with active := v.active.filter (fun k => k != src) }))) ∧
  (∀ src, src < 7 → EventActs (fun dt => .tamperAlarm dt src true)
    (fun u => u.sys.power = .backup ∧ u.tamperOn src = true ∧ u.vit.active.contains src = false ∧ u.vit.orders = [])
    (fun u => u.mapVit (fun v => { v with
      active := v.active ++ [src], tamper := max v.tamper (u.tamperLevel src), alarms := inc32 v.alarms
      late := v.late ++ [⟨src, u.tamperLevel src, 2, []⟩] }))) ∧
  EventActs (fun dt => .keyRemask dt) (fun u => u.vit.rngFault = false ∧ u.sys.power ≠ .off)
    (fun u => u.mapVit (fun v => { v with masks := inc32 v.masks })) ∧
  EventActs (fun dt => .keyRemask dt) (fun u => u.vit.rngFault = true) (fun u => u) ∧
  EventActs (fun dt => .rngFault dt) (fun u => u.sys.power = .run ∧ u.vit.rngFault = false)
    (fun u => (u.mapVit (fun v => { v with rngFault := true })).raise0 0x1003 .fault 1 0)

/-- Updates: the lock, download, verification, activation, handover, trial and its confirmation (R525 to R531, R534, R537, R538, R547). -/
def Obligations.UpdateRowsAct : Prop :=
  (∀ x, WorkCompletes .updOpen opUpdOpen
    (fun c s => c.params.length = 4 ∧ u32 c.params 0 = 0 ∧ s.upd.lock = none ∧ s.session c.sess = some x)
    (fun c s => (s.mapU (fun y => { y with lock := some ⟨c.sess, c.via, x.tag, s.now⟩ }), some (Ans.ok [])))) ∧
  (∀ l, WorkCompletes .updOpen opUpdOpen
    (fun c s => c.params.length = 4 ∧ u32 c.params 0 = 0 ∧ s.upd.lock = some l ∧ l.sess = c.sess)
    (fun _ s => (s.mapU (fun y => { y with lock := some { l with last := s.now } }), some (Ans.bare stOk 1)))) ∧
  WorkCompletes .updClose opUpdClose (fun c s => c.params.length = 4 ∧ u32 c.params 0 = 0 ∧ holdsLock c s)
    (fun _ s => (lockEnded 1 s, some (Ans.ok []))) ∧
  WorkCompletes .updBegin opUpdBegin
    (fun c s => c.params.length = 8 ∧ 1 ≤ u8 c.params 0 ∧ u8 c.params 0 ≤ 4 ∧ rd c.params 1 3 = 0 ∧ holdsLock c s ∧
      (s.upd.trial = none ∨ (s.imgBank (u8 c.params 0) (s.otherBank (u8 c.params 0))).state ≠ .confirmed) ∧
      128 < u32 c.params 4 ∧ u32 c.params 4 ≤ bankSize (u8 c.params 0) ∧ s.sys.fw = .running)
    (fun c s => (((s.lockUsed c).putBank (u8 c.params 0) (s.otherBank (u8 c.params 0)) ⟨.writing, u32 c.params 4, [], false⟩).mapU
      (fun y => { y with erasing := y.erasing ++ [(u8 c.params 0, c.sess, c.acc)] }), none)) ∧
  (∀ p n acc, 1 ≤ p → p ≤ 4 → EventActs (fun dt => .bankEraseDone dt p) (fun u => NativeHw u ∧ u.upd.erasing = [(p, n, acc)])
    (fun u => ((u.mapU (fun y => { y with erasing := [] })).putBank p (u.otherBank p) { u.imgBank p (u.otherBank p) with
      erased := true }).completeOk n acc (le 1 (u.otherBank p) ++ zeros 3))) ∧
  WorkCompletes .updWrite opUpdWrite
    (fun c s =>
      let w := s.imgBank (u8 c.params 0) (s.otherBank (u8 c.params 0))
      c.params.length = 8 + u16 c.params 2 ∧ 1 ≤ u8 c.params 0 ∧ u8 c.params 0 ≤ 4 ∧ u8 c.params 1 = 0 ∧ 1 ≤ u16 c.params 2 ∧
      u16 c.params 2 ≤ 4064 ∧ holdsLock c s ∧ u32 c.params 4 = w.data.length ∧ w.data.length + u16 c.params 2 ≤ w.len)
    (fun c s =>
      let w := s.imgBank (u8 c.params 0) (s.otherBank (u8 c.params 0))
      ((s.lockUsed c).putBank (u8 c.params 0) (s.otherBank (u8 c.params 0)) { w with
        data := w.data ++ c.params.drop 8
        state := if (w.data ++ c.params.drop 8).length = w.len then .written else w.state }, some (Ans.ok []))) ∧
  QueryCompletes .updVerify opUpdVerify
    (fun c s => c.params.length = 4 ∧ 1 ≤ u8 c.params 0 ∧ u8 c.params 0 ≤ 4 ∧ rd c.params 1 3 = 0 ∧ s.upd.lock = none)
    (fun c s =>
      let k := s.otherBank (u8 c.params 0)
      let d := (s.imgBank (u8 c.params 0) k).data
      (s, Ans.ok (le 1 (s.verifyPart (u8 c.params 0) (imgMajor d == imgMajor (s.imgBank 1 (s.runBank 1)).data || s.majorOk 1 15) true) ++
        le 1 k ++ le 2 (imgEpoch d) ++ le 4 (imgVersion d)))) ∧
  (∀ s dt p x, HostReady (s.before dt) opUpdActivate p x → Expected (s.before dt) opUpdActivate.code p x → Credit (s.before dt) opUpdActivate p →
    p.body.length = 4 → 1 ≤ u8 p.body 0 → u8 p.body 0 < 16 → u8 p.body 1 = 1 → u16 p.body 2 = 0 →
    holdsLock (cmdOf opUpdActivate p x) (heardNumbered 0x1104 p (s.before dt)) → s.upd.trial = none →
    exec (.updActivate dt p) s = .next (s.act dt (fun u =>
      let t := (heardNumbered 0x1104 p u).lockUsed (cmdOf opUpdActivate p x)
      match activationFault (u8 p.body 0) t with
      | some d => t.refusePkt 0x1104 p (Ans.bare 0x1140 d)
      | none => answerWork opUpdActivate p x none (t.mapU (fun y => { y with
          act := some ⟨p.sess, p.acc, handOrder (u8 p.body 0), 0, 0, none, u.now, true, []⟩ }))))) ∧
  (∀ us c a, c < 4 → a.stage = some .gnss → EventActs (fun dt => .handoverPause dt 4 c us) (fun u => NativeRun u ∧ u.upd.act = some a)
    (fun u => ((((u.mapGns (fun g => { g with cmc := [], beta := (none, none), rxPrev := none })).flipPart 4 true).raise0
      0x1103 .notice 4 (min us 0xFFFFFFFF + c * 4294967296)).updBoundary false))) ∧
  (∀ us c a, c < 4 → a.stage = some (.chainLoad c) → EventActs (fun dt => .handoverPause dt 3 c us)
    (fun u => NativeRun u ∧ u.upd.act = some a)
    (fun u => (((u.chainMove (a.moved.map (fun r => (r, c)))).mapAct (fun y => { y with
      stage := some (.chainBack c), since := u.now })).raise0
        0x1103 .notice 3 (min us 0xFFFFFFFF + c * 4294967296)))) ∧
  (∀ c a again, c < 4 → a.stage = some .pauseFw → EventActs (fun dt => .handoverFail dt 1 c again)
    (fun u => NativeHw u ∧ (u.sys.fw = .running ∨ u.sys.fw = .paused) ∧ u.upd.act = some a ∧ 3 * u.tickNs ≤ u.now - a.since)
    (fun u => ((u.mapSys (fun y => { y with fw := .running })).endActivation ⟨0x1146, 1, []⟩))) ∧
  (∀ c a, c < 4 → a.stage = some (.chainLoad c) → EventActs (fun dt => .handoverFail dt 3 c true)
    (fun u => NativeRun u ∧ u.upd.act = some a)
    (fun u => ((u.mapAct (fun y => { y with stage := none })).chainFault c 3).endActivation ⟨0x1146, 3, []⟩)) ∧
  (∀ (u : State) p runs, 1 ≤ p → p ≤ u.upd.banks.length → p ≤ u.upd.running.length → u.runBank p < 2 →
    ((u.flipPart p runs).imgBank p (u.otherBank p)).state = .trial ∧
    (u.flipPart p runs).runBank p = if runs then u.otherBank p else u.runBank p) ∧
  WorkCompletes .updConfirm opUpdConfirm
    (fun c s => c.params.length = 4 ∧ u32 c.params 0 = 0 ∧ s.upd.lock = none ∧ s.upd.trial = none) (fun _ s => (s, some (Ans.bare stOk 1))) ∧
  (∀ t, WorkCompletes .updConfirm opUpdConfirm
    (fun c s => c.params.length = 4 ∧ u32 c.params 0 = 0 ∧ s.upd.lock = none ∧ s.upd.trial = some t)
    (fun _ s => (s.mapU (fun y => { y with
      trial := none
      banks := y.banks.zipIdx.map (fun (b, i) => if bit t.parts i then (bankConfirmed b.1, bankConfirmed b.2) else b)
      floors := y.floors.zipIdx.map (fun (f, i) =>
        if bit t.parts i then
          let b := (y.banks[i]?).getD (ImgBank.none, ImgBank.none)
          max f (imgEpoch (if b.1.state = .trial then b.1 else b.2).data)
        else f) }), some (Ans.ok [])))) ∧
  QueryCompletes .updStateRead opUpdStateRead (fun c s => c.params = [] ∧ s.sys.fw = .running)
    (fun c s =>
      let s := s.lockUsed c
      let ver (b : ImgBank) : Nat := if b.state = .empty ∨ b.state = .writing then 0 else imgVersion b.data
      (s, Ans.ok (le 1 (b2n s.upd.lock.isSome) ++ le 1 ((s.upd.trial.map Trial.parts).getD 0) ++ le 1 (b2n s.upd.trialBoot) ++ [0] ++
        le 2 s.fac.rom ++ le 2 0 ++ (s.upd.lock.map State.holderBytes).getD (zeros 16) ++
        [1, 2, 3, 4].flatMap (fun p =>
          le 1 p ++ le 1 (s.runBank p) ++ le 1 (s.imgBank p 0).state.code ++ le 1 (s.imgBank p 1).state.code ++
            le 4 (ver (s.imgBank p 0)) ++ le 4 (ver (s.imgBank p 1)) ++ le 2 ((s.upd.floors[p - 1]?).getD 0) ++ le 2 0)))) ∧
  (∀ l, EventActs (fun dt => .updIdleTimeout dt)
    (fun u => NativeHw u ∧ u.upd.lock = some l ∧ u.prm 0x1100 * 1000000000 ≤ u.now - l.last) (lockEnded 2)) ∧
  (∀ l, EventActs (fun dt => .updIdleTimeout dt)
    (fun u => NativeHw u ∧ u.upd.lock = some l ∧ u.now - l.last < u.prm 0x1100 * 1000000000) (fun u => u)) ∧
  (∀ t, t.reported = false → EventActs (fun dt => .trialUnconfirmed dt)
    (fun u => NativeRun u ∧ u.upd.trial = some t ∧ u.prm 0x1101 ≠ 0 ∧ u.prm 0x1101 * 1000000000 ≤ u.now - t.began)
    (fun u => (u.mapU (fun y => { y with trial := some { t with reported := true } })).raise0 0x1104 .warning t.parts 0))

/-- The Archive: reading records and its state, and the end of an interval (R551, R553, R557, R560). -/
def Obligations.ArchiveRowsAct : Prop :=
  (∀ n r, QueryCompletes .arcRead opArcRead
    (fun c s => c.params.length = 16 ∧ u64 c.params 0 = n ∧ n ≠ 0 ∧ u16 c.params 8 = 1 ∧ rd c.params 10 6 = 0 ∧
      n < s.arc.next ∧ archiveHolds s.arc.next n = true ∧ (s.arc.recs.filter (fun e => decide (n ≤ e.1))).head? = some (n, r) ∧ r.good = true)
    (fun _ s => (s, Ans.ok (le 8 n ++ le 2 1 ++ le 2 0 ++ le 4 0 ++ arcRecordBytes n r)))) ∧
  QueryCompletes .arcRead opArcRead
    (fun c s => c.params.length = 16 ∧ u64 c.params 0 = s.arc.next ∧ s.arc.next ≠ 0 ∧ 1 ≤ u16 c.params 8 ∧ u16 c.params 8 ≤ 15 ∧
      rd c.params 10 6 = 0 ∧ ∀ e ∈ s.arc.recs, e.1 < s.arc.next)
    (fun _ s => (s, Ans.ok (le 8 s.arc.next ++ le 2 0 ++ le 2 0 ++ le 4 0))) ∧
  QueryCompletes .arcStateRead opArcStateRead (fun c _ => c.params = [])
    (fun _ s => (s, Ans.ok (le 8 s.arc.next ++ le 8 (if s.arc.next ≤ 4097 then s.arc.next else max 4097 (s.arc.next - 65536)) ++
      le 4 (min s.arc.boots 0xFFFFFFFF) ++ le 4 s.arc.suppressed ++ le 4 s.arc.unreadable ++ le 4 0))) ∧
  EventActs (fun dt => .archiveIntervalEnd dt)
    (fun u => FwRun u ∧ u.timeValid = false ∧ u.prm 0x1200 * 1000000000 ≤ u.now - u.arc.startNow ∧ u.arc.metrics = [] ∧ u.arc.codes = [])
    (fun u => u.mapArc (fun a => { a with start := u.clk.count, startNow := u.now })) ∧
  (∀ m k, EventActs (fun dt => .archiveIntervalEnd dt)
    (fun u => FwRun u ∧ u.timeValid = true ∧ u.arc.start / (u.prm 0x1200 * 1000000000) < u.clk.count / (u.prm 0x1200 * 1000000000) ∧
      u.arc.metrics = [(m, k)] ∧ u.arc.codes = [])
    (fun u => (u.arcWrite (.interval m ((u.now - u.arc.startNow) / 1000000000) u.arc.start k)).mapArc (fun a => { a with
      metrics := [], start := u.clk.count, startNow := u.now }))) ∧
  EventActs (fun dt => .archiveIntervalEnd dt)
    (fun u => FwRun u ∧ u.timeValid = false ∧ u.now - u.arc.startNow < u.prm 0x1200 * 1000000000) (fun u => u) ∧
  (∀ (s : State) b, s.fixedDown 13 = true → s.arcWrite b = s.dropFixed 13) ∧
  (∀ (s : State) b, s.arc.next ≤ 69632 → s.fixedDown 13 = false →
    (s.arcWrite b).arc.next = s.arc.next + 1 ∧
    (s.arcWrite b).arc.recs = Tab.put s.arc.next
      ⟨s.arc.boots % 65536, if s.sys.fw = .running then s.sys.tick else 0, b, true⟩ s.arc.recs)

/-- The reading opcodes of CX mode (R567, R576, R577). -/
def Obligations.CxReadsComplete : Prop :=
  CxReads .ping 0x01 (fun _ => []) ∧
  CxReads .getVersion 0x02 (fun s => le 2 0x0240 ++ le 2 0x0312 ++ le 4 s.fac.eui) ∧
  CxReads .getStatus 0x04 (fun s =>
    le 1 (b2n s.timeValid + (2 * b2n s.basePos.isSome + (4 * b2n s.cx.survey.isSome + (8 * b2n (s.cxAllStop ||
      s.cx.robots.any (fun (e : Nat × CxRobot) => e.2.stop)) + (16 * b2n s.cx.conf.radio.isSome +
      (32 * b2n ((s.canPort 0).state == .busOff) + (64 * b2n (s.vit.tamper != 0) + 128 * b2n s.faultCondition))))))) ++
    le 1 (s.cxSats.filter (fun r => r.2.1.lock)).length ++ le 1 s.cx.robots.length ++
    le 1 (s.cx.robots.filter (fun (e : Nat × CxRobot) => e.2.joined && !e.2.lost)).length) ∧
  CxReads .getTime 0x05 (fun s => le 2 (s.clk.count / 604800000000000) ++ le 4 (s.clk.count % 604800000000000 / 1000000) ++ leS 1 s.clk.leap) ∧
  (∀ x y z k, CxDoes .getBasePos 0x07 (fun b s => b = [] ∧ s.cx.conf.base = some (x, y, z, k))
    (fun _ s => (s, leS 4 x ++ leS 4 y ++ leS 4 z ++ le 1 k))) ∧
  CxDoes .getBasePos 0x07 (fun b s => b = [] ∧ s.cx.conf.base = none) (fun _ s => (s, zeros 13)) ∧
  (∀ t n, CxDoes .getSurvey 0x09 (fun b s => b = [] ∧ s.cx.survey = some (t, n))
    (fun _ s => (s, [1] ++ le 2 (min 0xFFFF ((s.now - t) / 1000000000)) ++ le 4 0))) ∧
  CxDoes .getSurvey 0x09 (fun b s => b = [] ∧ s.cx.survey = none)
    (fun _ s => (s, le 1 s.cx.surveyed.1 ++ le 2 s.cx.surveyed.2.1 ++ le 4 s.cx.surveyed.2.2)) ∧
  CxReads .getSatInfo 0x0B (fun s => le 1 s.cxSats.length ++ s.cxSats.flatMap (fun r =>
    le 1 r.2.1.svid ++ le 1 (min 255 (r.2.1.cn0 / 4)) ++ leS 1 (clampS 8 (r.2.1.elev / 17453)) ++
      le 2 (Trig.azimuth r.2.1.u.1 r.2.1.u.2.1 % 360) ++ le 1 (b2n (s.usableSig r.2.1) + 2 * b2n (s.excludedSig (obsKey r.2.1))))) ∧
  CxReads .getRadio 0x0F (fun s => le 1 (b2n s.cx.conf.radio.isSome) ++ leS 1 (s.cx.conf.radio.getD (0, 0)).1 ++
    le 2 (s.cx.conf.radio.getD (0, 0)).2 ++ le 4 s.cx.sent ++ le 4 s.cx.rcvd) ∧
  CxDoes .listRobots 0x12 (fun b _ => b.length = 1 ∧ 1 ≤ u8 b 0 ∧ u8 b 0 ≤ 48)
    (fun b s =>
      let l := (s.cx.robots.filter (fun (e : Nat × CxRobot) => decide (u8 b 0 ≤ e.1))).take 27
      (s, le 1 l.length ++ l.flatMap (fun (e : Nat × CxRobot) => le 1 e.1 ++ le 8 e.2.eui))) ∧
  (∀ r e n u t, CxDoes .getRobot 0x13 (fun b s => b.length = 1 ∧ Tab.find? (u8 b 0) s.cx.robots = some r ∧ r.report = some (e, n, u, t))
    (fun _ s => (s, le 1 (if r.lost then 2 else if r.joined then 1 else 0) ++ leS 4 e ++ leS 4 n ++ leS 2 u ++ le 1 r.fix ++
      le 1 (min 255 ((s.now - t) / 50000000)) ++ le 1 r.battery ++ leS 1 (clampS 8 r.rssi)))) ∧
  (∀ r, CxDoes .getRobot 0x13 (fun b s => b.length = 1 ∧ Tab.find? (u8 b 0) s.cx.robots = some r ∧ r.report = none)
    (fun _ s => (s, le 1 (if r.lost then 2 else if r.joined then 1 else 0) ++ leS 4 0 ++ leS 4 0 ++ leS 2 0 ++ le 1 r.fix ++
      le 1 255 ++ le 1 r.battery ++ leS 1 (clampS 8 r.rssi)))) ∧
  (∀ r, CxDoes .getTask 0x16 (fun b s => b.length = 1 ∧ Tab.find? (u8 b 0) s.cx.robots = some r)
    (fun _ s => (s, le 2 r.task.1 ++ le 1 r.tState ++ le 1 r.tResult))) ∧
  CxReads .getStop 0x1C (fun s => le 1 (b2n s.cx.lineOpen + 2 * b2n s.cx.stopAll) ++
    le 6 ((s.cx.robots.filter (fun (e : Nat × CxRobot) => e.2.stop)).map (fun (e : Nat × CxRobot) => 2 ^ (e.1 - 1))).sum) ∧
  CxDoes .readRtcm 0x0D (fun b _ => b.length = 1 ∧ 1 ≤ u8 b 0 ∧ u8 b 0 ≤ 240)
    (fun b s => (s.mapCx (fun x => { x with host := x.host.drop (u8 b 0) }),
      le 1 (s.cx.host.take (u8 b 0)).length ++ s.cx.host.take (u8 b 0))) ∧
  CxDoes .readMsg 0x18 (fun b s => b = [] ∧ s.cx.inbox = []) (fun _ s => (s, [0, 0])) ∧
  (∀ a m t, CxDoes .readMsg 0x18 (fun b s => b = [] ∧ s.cx.inbox = (a, m) :: t)
    (fun _ s => (s.mapCx (fun x => { x with inbox := t }), le 1 a ++ le 1 m.length ++ m))) ∧
  CxDoes .canRead 0x1F (fun b s => b = [] ∧ s.cx.canIn = []) (fun _ s => (s, zeros 18)) ∧
  (∀ f t l, CxDoes .canRead 0x1F (fun b s => b = [] ∧ s.cx.canIn = (f, t) :: l)
    (fun _ s => (s.mapCx (fun x => { x with canIn := l }), [1] ++ le 4 (if f.ide then 2 ^ 31 + f.id else f.id / 2 ^ 18) ++ le 1 f.dlc ++
      padTo 8 0 f.data ++ le 4 t))) ∧
  CxDoes .getEvent 0x22 (fun b s => b = [] ∧ s.cx.events = []) (fun _ s => (s, zeros 5)) ∧
  (∀ c t l, CxDoes .getEvent 0x22 (fun b s => b = [] ∧ s.cx.events = (c, t) :: l)
    (fun _ s => (s.mapCx (fun x => { x with events := l }), le 1 c ++ le 4 t))) ∧
  CxReads .getCounters 0x25 (fun s =>
    le 2 (s.cx.counts.getD 0 0) ++ le 2 (s.cx.counts.getD 1 0) ++ le 2 (s.cx.counts.getD 2 0) ++ le 2 (s.cx.counts.getD 3 0) ++
      le 2 (s.cx.counts.getD 4 0) ++ le 2 (min 0xFFFF ((s.canPort 0).counts.getD 3 0)) ++ le 2 (s.cx.counts.getD 5 0) ++
      le 2 (s.cx.counts.getD 6 0))

/-- The setting and sending opcodes of CX mode (R567, R569, R575, R576). -/
def Obligations.CxCommandsComplete : Prop :=
  CxDoes .reset 0x03 (fun b _ => b = []) (fun _ s => (s.mapCx (fun x => { x with resetAt := some (s.now + 20000000) }), [])) ∧
  CxDoes .setBasePos 0x06
    (fun b s => b.length = 12 ∧ s.cx.survey = none ∧
      634000000 ^ 2 ≤ i32 b 0 * i32 b 0 + i32 b 4 * i32 b 4 + i32 b 8 * i32 b 8 ∧
      i32 b 0 * i32 b 0 + i32 b 4 * i32 b 4 + i32 b 8 * i32 b 8 ≤ 640000000 ^ 2)
    (fun b s => ((s.mapCxConf (fun c => { c with base := some (i32 b 0, i32 b 4, i32 b 8, 1) })).cxSync, [])) ∧
  CxDoes .startSurvey 0x08 (fun b s => b.length = 2 ∧ 60 ≤ u16 b 0 ∧ s.cx.survey = none)
    (fun b s => ((s.mapCx (fun x => { x with survey := some (s.now, u16 b 0) })).mapGns (fun g => { g with acc := ⟨0, (0, 0, 0), 0⟩ }), [])) ∧
  CxDoes .setElevMask 0x0A (fun b _ => b.length = 1 ∧ u8 b 0 ≤ 45) (fun b s => ((s.mapCxConf (fun c => { c with mask := u8 b 0 })).cxSync, [])) ∧
  CxDoes .setRtcm 0x0C (fun b _ => b.length = 2 ∧ u8 b 0 ≤ 60 ∧ u8 b 1 < 4)
    (fun b s => (s.mapCxConf (fun c => { c with rtcm := (u8 b 0, u8 b 1) }), [])) ∧
  CxDoes .setRadio 0x0E (fun b _ => b.length = 4 ∧ u8 b 0 = 1 ∧ -10 ≤ i8 b 1 ∧ i8 b 1 ≤ 20 ∧ u16 b 2 ≠ 0xFFFF)
    (fun b s => (s.mapCxConf (fun c => { c with radio := some (i8 b 1, u16 b 2) }), [])) ∧
  (∀ a, 1 ≤ a → a ≤ 48 → CxDoes .addRobot 0x10
    (fun b s => b.length = 8 ∧ Tab.has a s.cx.robots = false ∧ ∀ k, 1 ≤ k → k < a → Tab.has k s.cx.robots = true)
    (fun b s => ((s.mapCxConf (fun c => { c with robots := Tab.put a (u64 b 0) c.robots })).mapCx (fun x => { x with
      robots := Tab.put a (CxRobot.fresh (u64 b 0) a) x.robots }), le 1 a))) ∧
  CxDoes .removeRobot 0x11 (fun b s => b.length = 1 ∧ (Tab.find? (u8 b 0) s.cx.robots).isSome = true)
    (fun b s => ((s.mapCxConf (fun c => { c with robots := Tab.del (u8 b 0) c.robots })).mapCx (fun x => { x with
      robots := Tab.del (u8 b 0) x.robots, joinReq := x.joinReq.filter (fun a => a != u8 b 0)
      joining := x.joining.filter (fun a => a != u8 b 0) }), [])) ∧
  (∀ r, CxDoes .sendTask 0x14
    (fun b s => b.length = 12 ∧ Tab.find? (u8 b 0) s.cx.robots = some r ∧ -8388608 ≤ i32 b 3 ∧ i32 b 3 ≤ 8388607 ∧
      -8388608 ≤ i32 b 7 ∧ i32 b 7 ≤ 8388607)
    (fun b s => (s.mapCx (fun x => { x with robots := Tab.put (u8 b 0) { r with
      task := (u16 b 1, i32 b 3, i32 b 7, u8 b 11), tState := 1, tResult := 0, part := 1, cancel := false
      due := if r.due = 4 ∨ r.due = 5 then r.due else 0 } x.robots }), []))) ∧
  (∀ r, CxDoes .cancelTask 0x15 (fun b s => b.length = 1 ∧ Tab.find? (u8 b 0) s.cx.robots = some r)
    (fun b s => (s.mapCx (fun x => { x with robots := Tab.put (u8 b 0) { r with
      cancel := true, part := 0, due := if r.due = 4 ∨ r.due = 5 then r.due else 0 } x.robots }), []))) ∧
  (∀ r, CxDoes .sendMsg 0x17
    (fun b s => 2 ≤ b.length ∧ b.length ≤ 7 ∧ Tab.find? (u8 b 0) s.cx.robots = some r ∧ r.msgs.length < 4)
    (fun b s => (s.mapCx (fun x => { x with robots := Tab.put (u8 b 0) { r with msgs := r.msgs ++ [b.drop 1] } x.robots }), []))) ∧
  CxDoes .stopAll 0x19 (fun b _ => b = []) (fun _ s => ((s.mapCx (fun x => { x with stopAll := true })).setStop 2 0 0 0, [])) ∧
  CxDoes .releaseStop 0x1A (fun b _ => b = [])
    (fun _ s => (((s.mapCx (fun x => { x with stopAll := false })).releaseStop 2 0 0).getD (s.mapCx (fun x => { x with stopAll := false })), [])) ∧
  (∀ r, CxDoes .stopRobot 0x1B (fun b s => b.length = 2 ∧ Tab.find? (u8 b 0) s.cx.robots = some r ∧ u8 b 1 ≤ 1)
    (fun b s => (s.mapCx (fun x => { x with robots := Tab.put (u8 b 0) { r with stop := u8 b 1 == 1 } x.robots }), []))) ∧
  CxDoes .setCan 0x1D (fun b _ => b.length = 9 ∧ u8 b 0 ≤ 1)
    (fun b s => ((s.mapCxConf (fun c => { c with can := if u8 b 0 = 1 then some (u32 b 1, u32 b 5) else none })).cxSync, [])) ∧
  CxDoes .canSend 0x1E
    (fun b s => u8 b 4 ≤ 8 ∧ b.length = 5 + u8 b 4 ∧ (if bit (u32 b 0) 31 then u32 b 0 % 2 ^ 31 < 2 ^ 29 else u32 b 0 < 2 ^ 11) ∧
      s.cx.canOut.length + b2n (s.canMb 0 0).tx.isSome < 8)
    (fun b s => ((s.mapCx (fun x => { x with canOut := x.canOut ++ [{
      ide := bit (u32 b 0) 31, fdf := false, rtr := false, brs := false, esi := false, dlc := u8 b 4
      id := if bit (u32 b 0) 31 then u32 b 0 % 2 ^ 29 else u32 b 0 * 2 ^ 18, data := b.drop 5 }] })).cxCanNext, [])) ∧
  CxDoes .setNetkey 0x20 (fun b _ => b.length = 16) (fun b s => (s.mapCxConf (fun c => { c with key := some (ofLe b) }), [])) ∧
  CxDoes .setAnt 0x21 (fun b _ => b.length = 1 ∧ u8 b 0 ≤ 1)
    (fun b s => ((s.mapCxConf (fun c => { c with ant := u8 b 0 == 1 })).cxSync.biasCommitted 0, [])) ∧
  CxDoes .saveConfig 0x23 (fun b _ => b = []) (fun _ s => (s.mapCx (fun x => { x with saved := some x.conf }), [])) ∧
  CxDoes .loadDefaults 0x24 (fun b _ => b = [])
    (fun _ s => ((s.mapCx (fun x => { x with conf := CxConf.fresh, robots := [], joinReq := [], joining := [] })).cxSync, []))

/-- K9_INFO (R568): identity, catalogue, and the answer to any other SUB. -/
def Obligations.K9InfoIdentifies : Prop :=
  CxDoes .k9Info 0xF0 (fun b _ => b.length = 1 ∧ u8 b 0 = 0)
    (fun _ s => (s, [0x4B, 0x39] ++ le 2 0x0E10 ++ le 4 s.fwVersion ++ le 8 s.fac.eui)) ∧
  CxDoes .k9Info 0xF0 (fun b _ => b.length = 1 ∧ u8 b 0 = 1) (fun _ s => (s, le 32 s.deviceCat)) ∧
  (∀ s dt spi data, CxReady (s.before dt) → data.length = 1 → 2 ≤ u8 data 0 →
    exec (.k9Info dt spi data) s = .next (s.act dt (fun u => (u.cxUnread spi).cxAnswer spi 0xF0 [3])))

/-- CX mode's frames and events (R564 to R566, R570 to R575, R580, R581). -/
def Obligations.CxEventsAct : Prop :=
  EventActs (fun dt => .cxBadFrame dt) CxRun (fun u => u.cxCount 2) ∧
  (∀ spi op, EventActs (fun dt => .cxUnknownOpcode dt spi op false) CxRun (fun u => ((u.cxUnread spi).cxCount 0).cxAnswer spi op [1])) ∧
  (∀ spi op, op = 0 ∨ 0x25 < op ∧ op ≠ 0xF0 → EventActs (fun dt => .cxUnknownOpcode dt spi op true) CxRun
    (fun u => ((u.cxUnread spi).cxCount 1).cxAnswer spi op [2])) ∧
  (∀ p pan a r, EventActs (fun dt => .cxTick dt)
    (fun u => CxRun u ∧ u.cx.conf.radio = some (p, pan) ∧ u.cxRadioOn = true ∧ u.cx.joining = [] ∧ u.cx.joinReq = [] ∧ u.cx.onAir = [] ∧
      u.cxNext = [a] ∧ Tab.find? a u.cx.robots = some r)
    (fun u => cxPollTick (cxTickNo u) pan a r u)) ∧
  (∀ f a r, EventActs (fun dt => .cxJoinRequest dt f)
    (fun u => CxRun u ∧ u.cxRadioOn = true ∧ f.slot = 38 ∧ u.cx.k % 2 = 0 ∧ f.payload.length = 9 ∧ f.micOk = true ∧
      u8 f.payload 0 % 128 = 0x21 ∧ List.find? (fun (e : Nat × CxRobot) => e.2.eui == u64 f.payload 1) u.cx.robots = some (a, r) ∧
      a ∉ u.cx.joinReq)
    (fun u => u.mapCx (fun x => { x with rcvd := inc32 x.rcvd, joinReq := x.joinReq ++ [a] }))) ∧
  (∀ f r, EventActs (fun dt => .cxJoinRequest dt f)
    (fun u => FwRun u ∧ u.sys.cx = false ∧ u.legacyOpen = some r ∧ u.rootKeys = true ∧ u.legacyKey (u.prm 0x1300) = true ∧
      f.payload.length = 9 ∧ u64 f.payload 1 = (u.legacyOf r).eui ∧ u8 f.payload 0 % 128 = 0x21 ∧ f.micOk = true)
    (fun u => (u.legacyHeard r).mapLegacy r (fun x => { x with answer := true }))) ∧
  (∀ f j r, EventActs (fun dt => .cxPositionReport dt f)
    (fun u => CxUplink u f j r ∧ f.micOk = true ∧ u8 f.payload 0 % 128 = 0x20)
    (fun u => cxReceived f.src { r with
      polls := 0, lost := false, rssi := f.rssi, report := some (i24 f.payload 1, i24 f.payload 4, i16 f.payload 7, u.now) } u)) ∧
  (∀ f j r, EventActs (fun dt => .cxPositionReport dt f) (fun u => CxUplink u f j r ∧ f.micOk = false) (fun u => u.cxCount 4)) ∧
  (∀ f j r, EventActs (fun dt => .cxMessageFrame dt f)
    (fun u => CxUplink u f j r ∧ f.micOk = true ∧ u8 f.payload 0 % 128 = 0x22)
    (fun u => (cxReceived f.src { r with polls := 0, lost := false, rssi := f.rssi, ack := true } u).mapCx (fun x => { x with
      inbox := x.inbox ++ [(f.src, slice f.payload 2 (min 6 (u8 f.payload 1)))] }))) ∧
  (∀ f j r, EventActs (fun dt => .cxStatusFrame dt f)
    (fun u => CxUplink u f j r ∧ f.micOk = true ∧ u8 f.payload 0 % 128 = 0x23)
    (fun u => cxReceived f.src (cxStatus f.payload { r with polls := 0, lost := false, rssi := f.rssi }) u)) ∧
  (∀ a r, a < 256 → EventActs (fun dt => .cxRobotLost dt a)
    (fun u => CxRun u ∧ Tab.find? a u.cx.robots = some r ∧ r.joined = true ∧ r.lost = false ∧ 20 ≤ r.polls)
    (fun u => ((u.mapCx (fun x => { x with robots := Tab.put a { r with lost := true } x.robots })).cxCount 6).raise 0x0505 .warning 1 1 a)) ∧
  EventActs (fun dt => .cxStopLine dt true) (fun u => u.sys.power = .run ∧ u.sys.cx = true ∧ u.cx.lineOpen = false)
    (fun u => (u.mapCx (fun x => { x with lineOpen := true })).setStop 1 0 0 0) ∧
  (∀ t, EventActs (fun dt => .cxStopLine dt false)
    (fun u => u.sys.power = .run ∧ u.sys.cx = true ∧ u.cx.lineOpen = true ∧ (u.mapCx (fun x => { x with lineOpen := false })).releaseStop 1 0 0 = some (t u))
    t) ∧
  (∀ r x, r < 256 → EventActs (fun dt => .legacyCorrDropped dt r)
    (fun u => NativeRun u ∧ Tab.find? r u.cx.legacy = some x ∧ x.dropDue = true ∧ x.dropRun = false)
    (fun u => (u.mapCx (fun c => { c with legacy := Tab.put r { x with dropDue := false, dropRun := true } c.legacy })).raise 0x1301 .warning 1 1 r)) ∧
  (∀ r x, r < 256 → EventActs (fun dt => .legacyCorrDropped dt r)
    (fun u => NativeRun u ∧ Tab.find? r u.cx.legacy = some x ∧ x.dropDue = true ∧ x.dropRun = true)
    (fun u => u.mapCx (fun c => { c with legacy := Tab.put r { x with dropDue := false, dropRun := true } c.legacy })))

/-- Power states, reset sources and their cause codes (R56, R60, R64 to R68; assumption 14). -/
def Obligations.PowerAndResetRowsAct : Prop :=
  (∀ o, EventActs (fun dt => .powerOn dt o) (fun u => u.sys.power = .off) (State.boot 1 true false [] o)) ∧
  (∀ o, EventActs (fun dt => .powerOn dt o) (fun u => u.sys.power = .backup) (State.boot 2 false false [] o)) ∧
  (∀ o, EventActs (fun dt => .externalReset dt o) (fun u => u.sys.power = .run) (fun u => u.pairStops.boot 3 false false [] o)) ∧
  (∀ o, EventActs (fun dt => .externalReset dt o) (fun u => u.sys.power = .standby) (State.boot 3 false false [] o)) ∧
  EventActs (fun dt => .vinFall dt) (fun u => u.sys.power = .run)
    (fun u => u.pairStops.mapSys (fun y => { y with power := .backup, fw := .none })) ∧
  EventActs (fun dt => .vinFall dt) (fun u => u.sys.power = .standby) (fun u => u.mapSys (fun y => { y with power := .backup })) ∧
  EventActs (fun dt => .vbatLoss dt) (fun u => u.sys.power = .backup) (fun u => u.mapSys (fun y => { y with power := .off })) ∧
  (∀ o p, EventActs (fun dt => .resetExecute dt o) (fun u => u.sys.power = .run ∧ u.sys.cx = false ∧ u.sys.pendReset = some p ∧ u.replyWaits p.reply = false)
    (fun u => u.arcFlush.arcEndInterval.pairStops.boot p.cause false p.recovery [] o)) ∧
  (∀ o t, EventActs (fun dt => .resetExecute dt o) (fun u => u.sys.power = .run ∧ u.sys.cx = true ∧ u.cx.resetAt = some t ∧ t ≤ u.now)
    (fun u => u.arcFlush.arcEndInterval.pairStops.boot 4 false false [] o)) ∧
  (∀ o n, EventActs (fun dt => .watchdogHwReset dt o)
    (fun u => u.sys.power = .run ∧ u.sys.wdtWait = some n ∧ u.prm 0x0015 ≤ n)
    (fun u => u.pairStops.boot 6 false false (u.arc.block.filter (fun x => x.1.code == 0x0090)) o)) ∧
  (∀ p, EventActs (fun dt => .standbyEntry dt)
    (fun u => FwRun u ∧ u.sys.pendStandby = some p ∧ u.replyWaits (some p.reply) = false)
    (fun u =>
      let v := (u.raise0 0x0094 .notice 1 0).arcEndInterval.arcFlush
      v.mapSys (fun y => { y with
        power := .standby, fw := .none, pendStandby := none, wakeMask := p.mask, snapFails := 0, snapLast := v.now }))) ∧
  (∀ port frame fcs o, port < 3 → EventActs (fun dt => .wakePattern dt port frame fcs o)
    (fun u => u.sys.power = .standby ∧ bit u.sys.wakeMask port = true ∧ u.wakeMatch port frame fcs = true) (State.boot 7 false false [] o)) ∧
  (∀ t sg, EventActs (fun dt => .standbySnapshot dt (some (t, sg)))
    (fun u => u.sys.power = .standby ∧ u.prm 0x0016 ≠ 0 ∧ u.prm 0x0016 * 1000000000 ≤ u.now - u.sys.snapLast)
    (fun u => (u.mapSys (fun y => { y with snapLast := u.now })).mapClk (fun c => { c with
      calCopy := some sg, cal := t * 32768 / 1000000000, calAt := u.now }))) ∧
  EventActs (fun dt => .standbySnapshot dt none)
    (fun u => u.sys.power = .standby ∧ u.prm 0x0016 ≠ 0 ∧ u.prm 0x0016 * 1000000000 ≤ u.now - u.sys.snapLast)
    (fun u => u.mapSys (fun y => { y with snapLast := u.now, snapFails := y.snapFails + 1 }))

/-- Tick boundaries and their phases, overruns, commit domains, the change of the tick length and the watchdogs (R13, R35, R37, R39, R54, R63, R64, R542; assumption 16). -/
def Obligations.TickRowsAct : Prop :=
  (∀ o, EventActs (fun dt => .tickBoundary dt o)
    (fun u => NativeRun u ∧ (tickOpened o u).sys.fw = .running ∧ (tickOpened o u).boundaryDomains.merging = false)
    (fun u => (tickOpened o u).boundaryDomains.phases o)) ∧
  (∀ o m, EventActs (fun dt => .tickBoundary dt o)
    (fun u => CxRun u ∧ u.openTick.epochDue = true ∧ (u.openTick.epochMeasure o).newSet = some m)
    (fun u => (((u.openTick.epochMeasure o).cxRtcmPhase m)).arcClose o.dieTemp o.vinMv 0 0)) ∧
  (∀ o, EventActs (fun dt => .tickBoundary dt o) (fun u => u.sys.power = .run ∧ u.sys.fw = .recovery) (fun u => u.romTick)) ∧
  (∀ line, line = 1 ∨ line = 3 ∨ line = 5 ∨ line = 10 → EventActs (fun dt => .windowOverrun dt line)
    (fun u => NativeRun u ∧ Tab.has (16 + line) u.sys.runs = false)
    (fun u => (overrunCounted line u).raise (overrunCode line) .fault (min 255 (Tab.getD line 0 u.sys.runs + 1)) 0 0)) ∧
  EventActs (fun dt => .windowOverrun dt 4) (fun u => NativeRun u ∧ Tab.has 20 u.sys.runs = false)
    (fun u => (overrunCounted 4 u).discardRound.raise 0x0086 .fault (min 255 (Tab.getD 4 0 u.sys.runs + 1)) 0 0) ∧
  (∀ c, c < 4 → EventActs (fun dt => .windowOverrun dt (6 + c)) (fun u => NativeRun u ∧ Tab.has (22 + c) u.sys.runs = false)
    (fun u => ((overrunCounted (6 + c) u).mapChain c (fun k => { k with planLate := true })).raise 0x0088 .fault
      (min 255 (Tab.getD (6 + c) 0 u.sys.runs + 1)) 4 c)) ∧
  (∀ n d p, n < 19 → EventActs (fun dt => .domainTakesEffect dt n)
    (fun u => NativeRun u ∧ domainList[n]? = some d ∧ u.cfg.pend = [p] ∧ u.domainDue d p = true)
    (fun u => (u.takeDomain d p).completeCommits (u.sys.tick + 1))) ∧
  (∀ p n t m, EventActs (fun dt => .tickLengthChange dt)
    (fun u => NativeRun u ∧ u.cfg.pend = [p] ∧ p.tickAt = some (n, t) ∧ u.sys.sfTick = 10 ∧ t ≤ u.clk.count ∧
      placeMap (((u.mapCfg (fun c => { c with
        eff := { c.eff with params := putParam 0x0010 n c.eff.params }, pend := [{ p with tickAt := none }] })).mapSys (fun y => { y with
          slots := n })).siteMap) = .ok m)
    (fun u =>
      let v := State.raise0 0x008D .notice n 0 (State.replan { (u.mapCfg (fun c => { c with
        eff := { c.eff with params := putParam 0x0010 n c.eff.params }, pend := [{ p with tickAt := none }] })).mapSys (fun y => { y with
          slots := n }) with air := { u.air with map := m, next := [], tickMap := none } })
      (v.refreshClaims p.gen).completeCommits (v.sys.tick + 1))) ∧
  (∀ core, core < 8 → 2 ≤ core → EventActs (fun dt => .watchdog dt core)
    (fun u => FwRun u ∧ core ∉ u.sys.halted ∧ u.sys.wdtOrders = [])
    (fun u => ((coreHalted core false u).returnStaged core).budgetShort 5 0 0)) ∧
  (∀ core, core < 2 → EventActs (fun dt => .watchdog dt core)
    (fun u => FwRun u ∧ core ∉ u.sys.halted ∧ u.sys.wdtOrders = []) (fun u => (coreHalted core false u).budgetShort 5 0 0)) ∧
  (∀ core i e, core < 2 → EventActs (fun dt => .watchdog dt core)
    (fun u => FwRun u ∧ core ∉ u.sys.halted ∧ u.sys.wdtOrders = [(i, e)] ∧ soKind e = 0 ∧ soLevel e ≤ u.sys.halted.length + 1 ∧ u.sys.wdtWait = none)
    (fun u => (coreHalted core true u).budgetShort 5 0 0))

/-- Sessions and fragments (R69, R70, R77, R78, R82, R88, R93; assumption 96). -/
def Obligations.SessionPacketsComplete : Prop :=
  (∀ p, EventActs (fun dt => .sessionOpen dt p)
    (fun u => OpenReady u p ∧ p.body.length = 40 ∧ u32 p.body 36 = 0 ∧ bit (rd p.body 0 32) 0 = true ∧ u.ses.sessions.length < 8)
    (fun u =>
      let agreed := rd p.body 0 32 &&& u.openCat
      (u.mapSes (fun z => { z with
        sessions := Tab.put u.nextSession {
          tag := u32 p.body 32, agreed := agreed, via := p.via, next := 1, shadow := Shadow.empty, heard := u.now, part := none
          waiting := [] } z.sessions
        lastSession := u.nextSession })).reply 1 p
        (Ans.ok (le 2 u.nextSession ++ le 2 u.sys.resetCause ++ catBytes agreed ++ catBytes u.deviceCat ++ zeros 4)))) ∧
  (∀ p x, EventActs (fun dt => .sessionResume dt p)
    (fun u => OpenReady u p ∧ p.body.length = 16 ∧ u16 p.body 2 = 0 ∧ u32 p.body 12 = 0 ∧ u.session (u16 p.body 0) = some x ∧
      x.tag = u32 p.body 4 ∧ u32 p.body 8 = 0)
    (fun u =>
      let v := u.mapSession (u16 p.body 0) (fun x => { x with via := p.via, heard := u.now })
      (v.reply 2 p (Ans.ok (le 2 (u16 p.body 0) ++ le 2 v.sys.resetCause ++ le 4 x.next ++
        le 4 ((v.entriesOf (u16 p.body 0)).filter (fun e => e.result.isSome && e.awaitConf.isNone)).length ++ le 4 0 ++ catBytes x.agreed))).afterResume (u16 p.body 0))) ∧
  (∀ p x, EventActs (fun dt => .sessionResume dt p)
    (fun u => OpenReady u p ∧ p.body.length = 16 ∧ u16 p.body 2 = 0 ∧ u32 p.body 12 = 0 ∧ u.session (u16 p.body 0) = some x ∧
      x.tag = u32 p.body 4 ∧ u32 p.body 8 ≠ 0 ∧ State.notAccepted x (u32 p.body 8) = false)
    (fun u =>
      let a := u.ackCompletions (u16 p.body 0) (u32 p.body 8)
      let v := a.mapSession (u16 p.body 0) (fun x => { x with via := p.via, heard := a.now })
      (v.reply 2 p (Ans.ok (le 2 (u16 p.body 0) ++ le 2 v.sys.resetCause ++ le 4 x.next ++
        le 4 ((v.entriesOf (u16 p.body 0)).filter (fun e => e.result.isSome && e.awaitConf.isNone)).length ++ le 4 0 ++ catBytes x.agreed))).afterResume (u16 p.body 0))) ∧
  (∀ spec p x, EventActs (fun dt => .fragment dt spec.code p) (fun u => FragReady u spec p x ∧ x.part = none ∧ p.fragIndex = 0)
    (fragmentHeld spec p [p.body])) ∧
  (∀ spec p x parts t, EventActs (fun dt => .fragment dt spec.code p)
    (fun u => FragReady u spec p x ∧ x.part = some ⟨p.acc, spec.code, p.fragCount, parts, t⟩ ∧ p.fragIndex = parts.length)
    (fragmentHeld spec p (parts ++ [p.body]))) ∧
  (∀ op ver p, ver ≠ 2 → EventActs (fun dt => .badOpcode dt op ver p)
    (fun u => u.hearsHost p.via = true ∧ u.sys.fw = .running ∧ u.pairShut = false ∧ (p.via = .spi → u.spiFull = false) ∧ p.far = false ∧
      State.headCheck p = none)
    (fun u => u.refuseVer ver op p (Ans.bare 0x0011 0xFFFE))) ∧
  (∀ op ver p, ver ≠ 2 → EventActs (fun dt => .badOpcode dt op ver p)
    (fun u => u.hearsHost p.via = true ∧ u.sys.fw = .running ∧ u.pairShut = false ∧ (p.via = .spi → u.spiFull = false) ∧ p.far = true ∧
      State.headCheck p = none ∧ u.bellTiers = [])
    (fun u => u.noRoute ver op p 0 [])) ∧
  (∀ op p x, opSpec? op = none → EventActs (fun dt => .badOpcode dt op 2 p)
    (fun u => u.hearsHost p.via = true ∧ u.sys.fw = .running ∧ u.pairShut = false ∧ u.merging = false ∧ (p.via = .spi → u.spiFull = false) ∧
      p.far = false ∧ State.headCheck p = none ∧ p.flags / 32 = 0 ∧ p.sess ≠ 0 ∧ u.session p.sess = some x)
    (fun u => (heard op p u).refusePkt op p (Ans.bare 0x0011 0)))

/-- What comes over pins and with time at the host interface (R78, R89, R93, R100, R101, R103, R107; assumption 97). -/
def Obligations.HostPinRowsAct : Prop :=
  (∀ n x, EventActs (fun dt => .sessionExpiry dt n)
    (fun u => NativeRun u ∧ u.session n = some x ∧ u.prm 0x0018 * 1000000000 ≤ u.now - x.heard)
    (fun u => ((u.mapSes (fun z => { z with
      sessions := Tab.del n z.sessions, journal := z.journal.filter (fun e => !(e.sess == n && e.result.isSome)) })).lockSessionEnds n).raise0
      0x0095 .warning 0 (n + 65536 * (u.entriesOf n).length))) ∧
  EventActs (fun dt => .fragmentTimeout dt) NativeHw
    (fun u => u.mapSes (fun z => { z with sessions := Tab.mapVals (fun _ x => partLeft u.now x) z.sessions })) ∧
  (∀ via k, k < 3 → EventActs (fun dt => .badPacket dt via (k + 1)) (fun u => u.hearsHost via = true)
    (fun u => u.mapSes (fun z => { z with counts := modAt (State.viaIdx via) (modAt k inc32) z.counts }))) ∧
  EventActs (fun dt => .spiRead dt true) NativeRun
    (fun u => ((u.emit (.spiRead u.ses.spiOut.head?)).mapSes (fun z => { z with spiOut := z.spiOut.drop 1 })).releaseSlot
      (u.ses.spiOut.head?.map State.replyLen)) ∧
  EventActs (fun dt => .spiRead dt false) NativeRun (fun u => u.emit (.spiRead u.ses.spiOut.head?)) ∧
  (∀ f, EventActs (fun dt => .spiRead dt true) (fun u => CxRun u ∧ u.cx.reply = some f)
    (fun u => (u.mapCx (fun x => { x with reply := none })).emit (.cxReply true f))) ∧
  (∀ l t, EventActs (fun dt => .consoleLineSent dt) (fun u => NativeHw u ∧ u.sys.console = l :: t ∧ u.sys.consoleDropped = 0)
    (fun u => (u.emit (.serial u.uartTx l)).mapSys (fun y => { y with console := t }))) ∧
  (∀ l t, EventActs (fun dt => .consoleLineSent dt)
    (fun u => NativeHw u ∧ u.sys.console = l :: t ∧ 0 < u.sys.consoleDropped ∧ (t.map List.length).sum + 11 ≤ 4096)
    (fun u => (u.emit (.serial u.uartTx l)).mapSys (fun y => { y with
      console := t ++ [[0x44] ++ hexStr 8 u.sys.consoleDropped ++ [0x0D, 0x0A]], consoleDropped := 0 }))) ∧
  (∀ t, EventActs (fun dt => .eventOutputFall dt) (fun u => NativeHw u ∧ u.sys.evHigh = some t ∧ t ≤ u.now)
    (fun u => u.mapSys (fun y => { y with evHigh := none }))) ∧
  (∀ ch fall k, ch < 4 → EventActs (fun dt => .captureEdge dt ch fall)
    (fun u => NativeRun u ∧ u.sys.cc[ch]? = some k ∧ k.stamps.length < 64 ∧
      (u8 (u.ccRec ch) 1 = 3 ∨ u8 (u.ccRec ch) 1 = 1 ∧ fall = false ∨ u8 (u.ccRec ch) 1 = 2 ∧ fall = true))
    (fun u => u.mapSys (fun y => { y with cc := modAt ch (fun k => { k with
      stamps := k.stamps ++ [(u.clk.count, fall, u.timeValid)], run := false }) y.cc }))) ∧
  (∀ ch fall k, ch < 4 → EventActs (fun dt => .captureEdge dt ch fall)
    (fun u => NativeRun u ∧ u.sys.cc[ch]? = some k ∧ 64 ≤ k.stamps.length ∧ u8 (u.ccRec ch) 1 = 3 ∧ k.run = false)
    (fun u => (u.mapSys (fun y => { y with cc := modAt ch (fun k => { k with lost := inc16 k.lost, run := true }) y.cc })).raise0
      0x0097 .warning ch 0)) ∧
  (∀ ch fall k, ch < 4 → EventActs (fun dt => .captureEdge dt ch fall)
    (fun u => NativeRun u ∧ u.sys.cc[ch]? = some k ∧ 64 ≤ k.stamps.length ∧ u8 (u.ccRec ch) 1 = 3 ∧ k.run = true)
    (fun u => u.mapSys (fun y => { y with cc := modAt ch (fun k => { k with lost := inc16 k.lost, run := true }) y.cc }))) ∧
  (∀ ch k, ch < 4 → EventActs (fun dt => .compareEdge dt ch true)
    (fun u => NativeRun u ∧ u8 (u.ccRec ch) 1 = 4 ∧ u.sys.cc[ch]? = some k ∧ u.timeValid = true ∧ u.clk.count % (u32 (u.ccRec ch) 4 * 1000) = 0 ∧
      ∀ t, k.lastRise = some t → u32 (u.ccRec ch) 4 * 500 ≤ u.now - t)
    (fun u => u.mapSys (fun y => { y with cc := modAt ch (fun k => { k with level := true, lastRise := some u.now }) y.cc }))) ∧
  (∀ ch k t, ch < 4 → EventActs (fun dt => .compareEdge dt ch false)
    (fun u => NativeRun u ∧ u8 (u.ccRec ch) 1 = 4 ∧ u.sys.cc[ch]? = some k ∧ k.lastRise = some t ∧ u32 (u.ccRec ch) 8 * 1000 ≤ u.now - t)
    (fun u => u.mapSys (fun y => { y with cc := modAt ch (fun k => { k with level := false }) y.cc })))

/-- Diagnostics: core captures, frame captures and RF tests (R63, R104, R105; assumption 5). -/
def Obligations.DiagnosticsComplete : Prop :=
  QueryCompletes .coreCaptureRead opCoreCaptureRead
    (fun c s => c.params.length = 4 ∧ u8 c.params 0 < 8 ∧ u8 c.params 1 = 0 ∧ u16 c.params 2 < 64 ∧ s.sys.halted.contains (u8 c.params 0) = true)
    (fun c s => (s, Ans.ok (State.coreBytes (u8 c.params 0) (u16 c.params 2)))) ∧
  WorkCompletes .diaEthCapture opDiaEthCapture
    (fun c s => c.params.length = 8 ∧ u8 c.params 0 ≤ 2 ∧ u8 c.params 1 ≤ 2 ∧ u16 c.params 2 = 0 ∧ 1 ≤ u32 c.params 4 ∧ u32 c.params 4 ≤ 60000 ∧
      s.prm 0x7F12 = 1 ∧ s.sys.ethCap = none ∧ s.ethUp (u8 c.params 0) = true)
    (fun c s => (s.mapSys (fun y => { y with
      capBuf := [], capFrames := 0, capDone := false
      ethCap := some ⟨u8 c.params 0, u8 c.params 1, false, u32 c.params 4 * 1000000, s.now, c.sess, c.acc⟩ }), none)) ∧
  QueryCompletes .diaCaptureRead opDiaCaptureRead
    (fun c s => c.params.length = 6 ∧ u32 c.params 0 % 16 = 0 ∧ u16 c.params 4 % 16 = 0 ∧ 16 ≤ u16 c.params 4 ∧ u16 c.params 4 ≤ 4064 ∧
      s.sys.ethCap = none ∧ s.sys.capDone = true ∧ u32 c.params 0 + u16 c.params 4 ≤ s.sys.capBuf.length)
    (fun c s => (s, if s.poisonedIn (u32 c.params 0) (u32 c.params 0 + u16 c.params 4) then Ans.bare stFault 0
      else Ans.ok (slice s.sys.capBuf (u32 c.params 0) (u16 c.params 4)))) ∧
  WorkCompletes .diaRfTest opDiaRfTest
    (fun c s => c.params.length = 8 ∧ 1 ≤ u8 c.params 0 ∧ u8 c.params 0 ≤ 3 ∧ u8 c.params 1 < (channelPlan (s.prm 0x0500) (s.prm 0x0502)).2.2 ∧
      -10 ≤ i8 c.params 2 ∧ i8 c.params 2 ≤ domainPower (s.prm 0x0500) ∧ u8 c.params 3 < phyCount (s.prm 0x0502) ∧ 1 ≤ u32 c.params 4 ∧
      u32 c.params 4 ≤ 60000 ∧ s.prm 0x7F13 < 4 ∧ s.sys.rfTest = none ∧ (s.chain (s.prm 0x7F13)).bad = false)
    (fun c s => (s.mapSys (fun y => { y with rfTest := some {
      mode := u8 c.params 0, channel := u8 c.params 1, power := i8 c.params 2, mcs := u8 c.params 3, started := s.now
      durNs := u32 c.params 4 * 1000000, sess := c.sess, acc := c.acc, stopped := false } }), none)) ∧
  WorkCompletes .diaRfTest opDiaRfTest (fun c s => c.params.length = 8 ∧ u8 c.params 0 = 0 ∧ State.rfOk (s.prm 0x0500) (s.prm 0x0502) c.params = true ∧ s.sys.rfTest = none)
    (fun _ s => (s, some (Ans.bare 0 1))) ∧
  (∀ t, WorkCompletes .diaRfTest opDiaRfTest (fun c s => c.params.length = 8 ∧ u8 c.params 0 = 0 ∧
      State.rfOk (s.prm 0x0500) (s.prm 0x0502) c.params = true ∧ s.sys.rfTest = some t)
    (fun _ s => (s.mapSys (fun y => { y with rfTest := some { t with stopped := true } }), some (Ans.ok [])))) ∧
  (∀ c, EventActs (fun dt => .ethCaptureEnd dt)
    (fun u => NativeRun u ∧ u.sys.ethCap = some c ∧ c.started = true ∧ c.maxNs ≤ u.now - c.since)
    (fun u => (u.mapSys (fun y => { y with ethCap := none, capDone := true })).completeOk c.sess c.acc
      (le 4 u.sys.capBuf.length ++ le 4 u.sys.capFrames ++ le 1 0 ++ zeros 3))) ∧
  (∀ t mean peak good bad, EventActs (fun dt => .rfTestEnd dt false mean peak good bad)
    (fun u => NativeRun u ∧ u.sys.rfTest = some t ∧ t.mode = 3 ∧ t.stopped = false ∧ t.durNs ≤ u.now - t.started)
    (fun u => (u.mapSys (fun y => { y with rfTest := none })).completeOk t.sess t.acc
      (le 1 0 ++ leS 1 (clampS 8 mean) ++ leS 1 (clampS 8 peak) ++ le 1 0 ++ le 4 good ++ le 4 bad))) ∧
  (∀ t mean peak good bad, EventActs (fun dt => .rfTestEnd dt true mean peak good bad)
    (fun u => NativeRun u ∧ u.sys.rfTest = some t ∧ (t.mode = 1 ∨ t.mode = 2) ∧ t.stopped = false ∧ u.prm 0x0500 = 3)
    (fun u => ((u.mapSys (fun y => { y with rfTest := none })).meterAdd (u.prm 0x7F13) t.channel (min (u.now - t.started) (u.rfSpan t))).completeOk
      t.sess t.acc (le 1 1 ++ leS 1 (-128) ++ leS 1 (-128) ++ le 1 0 ++ le 4 0 ++ le 4 0)))

/-- The queue of commands that wait, first in, first out, and the idle step (assumption 1: the model's choice). -/
def Obligations.StepRunsExec : Prop :=
  (∀ (c : Instr) (s : State), step { s with pending := c :: s.pending } = exec c s) ∧
  (∀ s : State, s.pending = [] → step s = .next s)

/-- Reset meets the invariant that every step keeps (R65, R66). -/
def Obligations.ResetHoldsInv : Prop :=
  Safety.Inv State.reset

/-- What each power state leaves powered is kept by every command (R65, R66, R599). -/
def Obligations.StepKeepsInv : Prop :=
  ∀ s t, Safety.Inv s → step s = .next t → Safety.Inv t

/-- Every row of the opcode table has a next state for every well-formed command, and nothing is refused as not modelled. -/
def Obligations.WellFormedCompletes : Prop :=
  (∀ s, QueueOk s → ∃ t, step s = .next t) ∧
  (∀ s r, step s ≠ .refused r) ∧
  (∀ s f, step s = .fault f → ∃ i rest, s.pending = i :: rest ∧ ¬ WellFormed i)

/-- What no command changes: the queue's rest, the manufactured identity (R5), and the order of time. -/
def Obligations.StepFrame : Prop :=
  ∀ (s t : State) (c : Instr) (rest : List Instr), s.pending = c :: rest → step s = .next t →
    t.pending = rest ∧ t.fac = s.fac ∧ s.now ≤ t.now

/-- What acts in Standby, in Backup and with all power lost (R65, R66, R68, R500, R510). -/
def Obligations.UnpoweredIsInert : Prop :=
  ∀ (i : Instr) (s : State), WellFormed i → reachesUnpowered i = false → s.sys.power ≠ .run → ∃ dt, exec i s = .next (s.act dt id)

/-- The hopping rule keeps the chains apart (R196, R202). -/
def Obligations.HopChannelsDistinct : Prop :=
  ∀ (list : List Nat) (stride off a c1 c2 : Nat), hopOk list stride = true → list.Nodup → c1 < 4 → c2 < 4 → c1 ≠ c2 →
    hopChannel list off stride a c1 ≠ hopChannel list off stride a c2 ∧ hopChannel list off stride a c1 ∈ list

/-- A track is planned within R291 and ends as early as R291 allows; where R291 allows none, none is planned (R296). -/
def Obligations.TracksEndEarliest : Prop :=
  ∀ (s : State) r lanes s0 t0,
    match s.chooseSegs r lanes s0 t0 with
    | some segs =>
      trackOk (s.planLimits r) (t0 * 1000) 0 (s.runLanes r lanes s0) (segs.map (fun g => g.rcd)) = true ∧
      segs.map (fun g => g.lane) = lanes ∧
      ∀ recs, trackOk (s.planLimits r) (t0 * 1000) 0 (s.runLanes r lanes s0) recs = true → trackTotal (segs.map (fun g => g.rcd)) ≤ trackTotal recs
    | none => ∀ recs, trackOk (s.planLimits r) (t0 * 1000) 0 (s.runLanes r lanes s0) recs = false

/-- The time block's status code (R190). -/
def Obligations.TimeSetWhileValid : Prop :=
  WorkRefuses .clkTimeSet opClkTimeSet
    (fun c s => c.params.length = 16 ∧ 0 ≤ i8 c.params 12 ∧ rd c.params 13 3 = 0 ∧ s.timeValid = true) ⟨0x0440, 0, []⟩

/-- The Ethernet block's status code (R401). -/
def Obligations.EthProbeOfDownLink : Prop :=
  WorkRefuses .ethProbe opEthProbe
    (fun c s => c.params.length = 12 ∧ u8 c.params 0 ≤ 2 ∧ (u8 c.params 0 = 0 ∨ bit c.agreed 192 = true) ∧ 1 ≤ u8 c.params 1 ∧
      u8 c.params 1 ≤ 64 ∧ 64 ≤ u16 c.params 2 ∧ u16 c.params 2 ≤ s.ethM (u8 c.params 0) + 18 ∧ u16 c.params 10 = 0 ∧
      (s.ethOn (u8 c.params 0) = false ∨ (s.port (u8 c.params 0)).link = 0)) ⟨0x0B40, 0, []⟩
end

