-- ==== Sys2Proof/Laws/State.lean ====
section
/-! SUPPORT. Each field of the state after each update of one chapter's part, and after an output. -/

namespace Sys2Proof.Laws

open Sys2Proof.Machine

variable (s : State)

@[simp] theorem State.mapSys_pending (f : Sys → Sys) : (s.mapSys f).pending = s.pending := rfl
@[simp] theorem State.mapSys_now (f : Sys → Sys) : (s.mapSys f).now = s.now := rfl
@[simp] theorem State.mapSys_out (f : Sys → Sys) : (s.mapSys f).out = s.out := rfl
@[simp] theorem State.mapSys_free (f : Sys → Sys) : (s.mapSys f).free = s.free := rfl
@[simp] theorem State.mapSys_sys (f : Sys → Sys) : (s.mapSys f).sys = f s.sys := rfl
@[simp] theorem State.mapSys_ses (f : Sys → Sys) : (s.mapSys f).ses = s.ses := rfl
@[simp] theorem State.mapSys_cfg (f : Sys → Sys) : (s.mapSys f).cfg = s.cfg := rfl
@[simp] theorem State.mapSys_clk (f : Sys → Sys) : (s.mapSys f).clk = s.clk := rfl
@[simp] theorem State.mapSys_mem (f : Sys → Sys) : (s.mapSys f).mem = s.mem := rfl
@[simp] theorem State.mapSys_upd (f : Sys → Sys) : (s.mapSys f).upd = s.upd := rfl
@[simp] theorem State.mapSys_arc (f : Sys → Sys) : (s.mapSys f).arc = s.arc := rfl
@[simp] theorem State.mapSys_gns (f : Sys → Sys) : (s.mapSys f).gns = s.gns := rfl
@[simp] theorem State.mapSys_fix (f : Sys → Sys) : (s.mapSys f).fix = s.fix := rfl
@[simp] theorem State.mapSys_air (f : Sys → Sys) : (s.mapSys f).air = s.air := rfl
@[simp] theorem State.mapSys_lnk (f : Sys → Sys) : (s.mapSys f).lnk = s.lnk := rfl
@[simp] theorem State.mapSys_pas (f : Sys → Sys) : (s.mapSys f).pas = s.pas := rfl
@[simp] theorem State.mapSys_tsk (f : Sys → Sys) : (s.mapSys f).tsk = s.tsk := rfl
@[simp] theorem State.mapSys_crk (f : Sys → Sys) : (s.mapSys f).crk = s.crk := rfl
@[simp] theorem State.mapSys_axs (f : Sys → Sys) : (s.mapSys f).axs = s.axs := rfl
@[simp] theorem State.mapSys_eth (f : Sys → Sys) : (s.mapSys f).eth = s.eth := rfl
@[simp] theorem State.mapSys_can (f : Sys → Sys) : (s.mapSys f).can = s.can := rfl
@[simp] theorem State.mapSys_fld (f : Sys → Sys) : (s.mapSys f).fld = s.fld := rfl
@[simp] theorem State.mapSys_pai (f : Sys → Sys) : (s.mapSys f).pai = s.pai := rfl
@[simp] theorem State.mapSys_vit (f : Sys → Sys) : (s.mapSys f).vit = s.vit := rfl
@[simp] theorem State.mapSys_cx (f : Sys → Sys) : (s.mapSys f).cx = s.cx := rfl
@[simp] theorem State.mapSys_fac (f : Sys → Sys) : (s.mapSys f).fac = s.fac := rfl

@[simp] theorem State.mapSes_pending (f : Ses → Ses) : (s.mapSes f).pending = s.pending := rfl
@[simp] theorem State.mapSes_now (f : Ses → Ses) : (s.mapSes f).now = s.now := rfl
@[simp] theorem State.mapSes_out (f : Ses → Ses) : (s.mapSes f).out = s.out := rfl
@[simp] theorem State.mapSes_free (f : Ses → Ses) : (s.mapSes f).free = s.free := rfl
@[simp] theorem State.mapSes_sys (f : Ses → Ses) : (s.mapSes f).sys = s.sys := rfl
@[simp] theorem State.mapSes_ses (f : Ses → Ses) : (s.mapSes f).ses = f s.ses := rfl
@[simp] theorem State.mapSes_cfg (f : Ses → Ses) : (s.mapSes f).cfg = s.cfg := rfl
@[simp] theorem State.mapSes_clk (f : Ses → Ses) : (s.mapSes f).clk = s.clk := rfl
@[simp] theorem State.mapSes_mem (f : Ses → Ses) : (s.mapSes f).mem = s.mem := rfl
@[simp] theorem State.mapSes_upd (f : Ses → Ses) : (s.mapSes f).upd = s.upd := rfl
@[simp] theorem State.mapSes_arc (f : Ses → Ses) : (s.mapSes f).arc = s.arc := rfl
@[simp] theorem State.mapSes_gns (f : Ses → Ses) : (s.mapSes f).gns = s.gns := rfl
@[simp] theorem State.mapSes_fix (f : Ses → Ses) : (s.mapSes f).fix = s.fix := rfl
@[simp] theorem State.mapSes_air (f : Ses → Ses) : (s.mapSes f).air = s.air := rfl
@[simp] theorem State.mapSes_lnk (f : Ses → Ses) : (s.mapSes f).lnk = s.lnk := rfl
@[simp] theorem State.mapSes_pas (f : Ses → Ses) : (s.mapSes f).pas = s.pas := rfl
@[simp] theorem State.mapSes_tsk (f : Ses → Ses) : (s.mapSes f).tsk = s.tsk := rfl
@[simp] theorem State.mapSes_crk (f : Ses → Ses) : (s.mapSes f).crk = s.crk := rfl
@[simp] theorem State.mapSes_axs (f : Ses → Ses) : (s.mapSes f).axs = s.axs := rfl
@[simp] theorem State.mapSes_eth (f : Ses → Ses) : (s.mapSes f).eth = s.eth := rfl
@[simp] theorem State.mapSes_can (f : Ses → Ses) : (s.mapSes f).can = s.can := rfl
@[simp] theorem State.mapSes_fld (f : Ses → Ses) : (s.mapSes f).fld = s.fld := rfl
@[simp] theorem State.mapSes_pai (f : Ses → Ses) : (s.mapSes f).pai = s.pai := rfl
@[simp] theorem State.mapSes_vit (f : Ses → Ses) : (s.mapSes f).vit = s.vit := rfl
@[simp] theorem State.mapSes_cx (f : Ses → Ses) : (s.mapSes f).cx = s.cx := rfl
@[simp] theorem State.mapSes_fac (f : Ses → Ses) : (s.mapSes f).fac = s.fac := rfl

@[simp] theorem State.mapCfg_pending (f : Conf → Conf) : (s.mapCfg f).pending = s.pending := rfl
@[simp] theorem State.mapCfg_now (f : Conf → Conf) : (s.mapCfg f).now = s.now := rfl
@[simp] theorem State.mapCfg_out (f : Conf → Conf) : (s.mapCfg f).out = s.out := rfl
@[simp] theorem State.mapCfg_free (f : Conf → Conf) : (s.mapCfg f).free = s.free := rfl
@[simp] theorem State.mapCfg_sys (f : Conf → Conf) : (s.mapCfg f).sys = s.sys := rfl
@[simp] theorem State.mapCfg_ses (f : Conf → Conf) : (s.mapCfg f).ses = s.ses := rfl
@[simp] theorem State.mapCfg_cfg (f : Conf → Conf) : (s.mapCfg f).cfg = f s.cfg := rfl
@[simp] theorem State.mapCfg_clk (f : Conf → Conf) : (s.mapCfg f).clk = s.clk := rfl
@[simp] theorem State.mapCfg_mem (f : Conf → Conf) : (s.mapCfg f).mem = s.mem := rfl
@[simp] theorem State.mapCfg_upd (f : Conf → Conf) : (s.mapCfg f).upd = s.upd := rfl
@[simp] theorem State.mapCfg_arc (f : Conf → Conf) : (s.mapCfg f).arc = s.arc := rfl
@[simp] theorem State.mapCfg_gns (f : Conf → Conf) : (s.mapCfg f).gns = s.gns := rfl
@[simp] theorem State.mapCfg_fix (f : Conf → Conf) : (s.mapCfg f).fix = s.fix := rfl
@[simp] theorem State.mapCfg_air (f : Conf → Conf) : (s.mapCfg f).air = s.air := rfl
@[simp] theorem State.mapCfg_lnk (f : Conf → Conf) : (s.mapCfg f).lnk = s.lnk := rfl
@[simp] theorem State.mapCfg_pas (f : Conf → Conf) : (s.mapCfg f).pas = s.pas := rfl
@[simp] theorem State.mapCfg_tsk (f : Conf → Conf) : (s.mapCfg f).tsk = s.tsk := rfl
@[simp] theorem State.mapCfg_crk (f : Conf → Conf) : (s.mapCfg f).crk = s.crk := rfl
@[simp] theorem State.mapCfg_axs (f : Conf → Conf) : (s.mapCfg f).axs = s.axs := rfl
@[simp] theorem State.mapCfg_eth (f : Conf → Conf) : (s.mapCfg f).eth = s.eth := rfl
@[simp] theorem State.mapCfg_can (f : Conf → Conf) : (s.mapCfg f).can = s.can := rfl
@[simp] theorem State.mapCfg_fld (f : Conf → Conf) : (s.mapCfg f).fld = s.fld := rfl
@[simp] theorem State.mapCfg_pai (f : Conf → Conf) : (s.mapCfg f).pai = s.pai := rfl
@[simp] theorem State.mapCfg_vit (f : Conf → Conf) : (s.mapCfg f).vit = s.vit := rfl
@[simp] theorem State.mapCfg_cx (f : Conf → Conf) : (s.mapCfg f).cx = s.cx := rfl
@[simp] theorem State.mapCfg_fac (f : Conf → Conf) : (s.mapCfg f).fac = s.fac := rfl

@[simp] theorem State.mapClk_pending (f : Clk → Clk) : (s.mapClk f).pending = s.pending := rfl
@[simp] theorem State.mapClk_now (f : Clk → Clk) : (s.mapClk f).now = s.now := rfl
@[simp] theorem State.mapClk_out (f : Clk → Clk) : (s.mapClk f).out = s.out := rfl
@[simp] theorem State.mapClk_free (f : Clk → Clk) : (s.mapClk f).free = s.free := rfl
@[simp] theorem State.mapClk_sys (f : Clk → Clk) : (s.mapClk f).sys = s.sys := rfl
@[simp] theorem State.mapClk_ses (f : Clk → Clk) : (s.mapClk f).ses = s.ses := rfl
@[simp] theorem State.mapClk_cfg (f : Clk → Clk) : (s.mapClk f).cfg = s.cfg := rfl
@[simp] theorem State.mapClk_clk (f : Clk → Clk) : (s.mapClk f).clk = f s.clk := rfl
@[simp] theorem State.mapClk_mem (f : Clk → Clk) : (s.mapClk f).mem = s.mem := rfl
@[simp] theorem State.mapClk_upd (f : Clk → Clk) : (s.mapClk f).upd = s.upd := rfl
@[simp] theorem State.mapClk_arc (f : Clk → Clk) : (s.mapClk f).arc = s.arc := rfl
@[simp] theorem State.mapClk_gns (f : Clk → Clk) : (s.mapClk f).gns = s.gns := rfl
@[simp] theorem State.mapClk_fix (f : Clk → Clk) : (s.mapClk f).fix = s.fix := rfl
@[simp] theorem State.mapClk_air (f : Clk → Clk) : (s.mapClk f).air = s.air := rfl
@[simp] theorem State.mapClk_lnk (f : Clk → Clk) : (s.mapClk f).lnk = s.lnk := rfl
@[simp] theorem State.mapClk_pas (f : Clk → Clk) : (s.mapClk f).pas = s.pas := rfl
@[simp] theorem State.mapClk_tsk (f : Clk → Clk) : (s.mapClk f).tsk = s.tsk := rfl
@[simp] theorem State.mapClk_crk (f : Clk → Clk) : (s.mapClk f).crk = s.crk := rfl
@[simp] theorem State.mapClk_axs (f : Clk → Clk) : (s.mapClk f).axs = s.axs := rfl
@[simp] theorem State.mapClk_eth (f : Clk → Clk) : (s.mapClk f).eth = s.eth := rfl
@[simp] theorem State.mapClk_can (f : Clk → Clk) : (s.mapClk f).can = s.can := rfl
@[simp] theorem State.mapClk_fld (f : Clk → Clk) : (s.mapClk f).fld = s.fld := rfl
@[simp] theorem State.mapClk_pai (f : Clk → Clk) : (s.mapClk f).pai = s.pai := rfl
@[simp] theorem State.mapClk_vit (f : Clk → Clk) : (s.mapClk f).vit = s.vit := rfl
@[simp] theorem State.mapClk_cx (f : Clk → Clk) : (s.mapClk f).cx = s.cx := rfl
@[simp] theorem State.mapClk_fac (f : Clk → Clk) : (s.mapClk f).fac = s.fac := rfl

@[simp] theorem State.mapMem_pending (f : Mem → Mem) : (s.mapMem f).pending = s.pending := rfl
@[simp] theorem State.mapMem_now (f : Mem → Mem) : (s.mapMem f).now = s.now := rfl
@[simp] theorem State.mapMem_out (f : Mem → Mem) : (s.mapMem f).out = s.out := rfl
@[simp] theorem State.mapMem_free (f : Mem → Mem) : (s.mapMem f).free = s.free := rfl
@[simp] theorem State.mapMem_sys (f : Mem → Mem) : (s.mapMem f).sys = s.sys := rfl
@[simp] theorem State.mapMem_ses (f : Mem → Mem) : (s.mapMem f).ses = s.ses := rfl
@[simp] theorem State.mapMem_cfg (f : Mem → Mem) : (s.mapMem f).cfg = s.cfg := rfl
@[simp] theorem State.mapMem_clk (f : Mem → Mem) : (s.mapMem f).clk = s.clk := rfl
@[simp] theorem State.mapMem_mem (f : Mem → Mem) : (s.mapMem f).mem = f s.mem := rfl
@[simp] theorem State.mapMem_upd (f : Mem → Mem) : (s.mapMem f).upd = s.upd := rfl
@[simp] theorem State.mapMem_arc (f : Mem → Mem) : (s.mapMem f).arc = s.arc := rfl
@[simp] theorem State.mapMem_gns (f : Mem → Mem) : (s.mapMem f).gns = s.gns := rfl
@[simp] theorem State.mapMem_fix (f : Mem → Mem) : (s.mapMem f).fix = s.fix := rfl
@[simp] theorem State.mapMem_air (f : Mem → Mem) : (s.mapMem f).air = s.air := rfl
@[simp] theorem State.mapMem_lnk (f : Mem → Mem) : (s.mapMem f).lnk = s.lnk := rfl
@[simp] theorem State.mapMem_pas (f : Mem → Mem) : (s.mapMem f).pas = s.pas := rfl
@[simp] theorem State.mapMem_tsk (f : Mem → Mem) : (s.mapMem f).tsk = s.tsk := rfl
@[simp] theorem State.mapMem_crk (f : Mem → Mem) : (s.mapMem f).crk = s.crk := rfl
@[simp] theorem State.mapMem_axs (f : Mem → Mem) : (s.mapMem f).axs = s.axs := rfl
@[simp] theorem State.mapMem_eth (f : Mem → Mem) : (s.mapMem f).eth = s.eth := rfl
@[simp] theorem State.mapMem_can (f : Mem → Mem) : (s.mapMem f).can = s.can := rfl
@[simp] theorem State.mapMem_fld (f : Mem → Mem) : (s.mapMem f).fld = s.fld := rfl
@[simp] theorem State.mapMem_pai (f : Mem → Mem) : (s.mapMem f).pai = s.pai := rfl
@[simp] theorem State.mapMem_vit (f : Mem → Mem) : (s.mapMem f).vit = s.vit := rfl
@[simp] theorem State.mapMem_cx (f : Mem → Mem) : (s.mapMem f).cx = s.cx := rfl
@[simp] theorem State.mapMem_fac (f : Mem → Mem) : (s.mapMem f).fac = s.fac := rfl

@[simp] theorem State.mapUpd_pending (f : Upd → Upd) : (s.mapUpd f).pending = s.pending := rfl
@[simp] theorem State.mapUpd_now (f : Upd → Upd) : (s.mapUpd f).now = s.now := rfl
@[simp] theorem State.mapUpd_out (f : Upd → Upd) : (s.mapUpd f).out = s.out := rfl
@[simp] theorem State.mapUpd_free (f : Upd → Upd) : (s.mapUpd f).free = s.free := rfl
@[simp] theorem State.mapUpd_sys (f : Upd → Upd) : (s.mapUpd f).sys = s.sys := rfl
@[simp] theorem State.mapUpd_ses (f : Upd → Upd) : (s.mapUpd f).ses = s.ses := rfl
@[simp] theorem State.mapUpd_cfg (f : Upd → Upd) : (s.mapUpd f).cfg = s.cfg := rfl
@[simp] theorem State.mapUpd_clk (f : Upd → Upd) : (s.mapUpd f).clk = s.clk := rfl
@[simp] theorem State.mapUpd_mem (f : Upd → Upd) : (s.mapUpd f).mem = s.mem := rfl
@[simp] theorem State.mapUpd_upd (f : Upd → Upd) : (s.mapUpd f).upd = f s.upd := rfl
@[simp] theorem State.mapUpd_arc (f : Upd → Upd) : (s.mapUpd f).arc = s.arc := rfl
@[simp] theorem State.mapUpd_gns (f : Upd → Upd) : (s.mapUpd f).gns = s.gns := rfl
@[simp] theorem State.mapUpd_fix (f : Upd → Upd) : (s.mapUpd f).fix = s.fix := rfl
@[simp] theorem State.mapUpd_air (f : Upd → Upd) : (s.mapUpd f).air = s.air := rfl
@[simp] theorem State.mapUpd_lnk (f : Upd → Upd) : (s.mapUpd f).lnk = s.lnk := rfl
@[simp] theorem State.mapUpd_pas (f : Upd → Upd) : (s.mapUpd f).pas = s.pas := rfl
@[simp] theorem State.mapUpd_tsk (f : Upd → Upd) : (s.mapUpd f).tsk = s.tsk := rfl
@[simp] theorem State.mapUpd_crk (f : Upd → Upd) : (s.mapUpd f).crk = s.crk := rfl
@[simp] theorem State.mapUpd_axs (f : Upd → Upd) : (s.mapUpd f).axs = s.axs := rfl
@[simp] theorem State.mapUpd_eth (f : Upd → Upd) : (s.mapUpd f).eth = s.eth := rfl
@[simp] theorem State.mapUpd_can (f : Upd → Upd) : (s.mapUpd f).can = s.can := rfl
@[simp] theorem State.mapUpd_fld (f : Upd → Upd) : (s.mapUpd f).fld = s.fld := rfl
@[simp] theorem State.mapUpd_pai (f : Upd → Upd) : (s.mapUpd f).pai = s.pai := rfl
@[simp] theorem State.mapUpd_vit (f : Upd → Upd) : (s.mapUpd f).vit = s.vit := rfl
@[simp] theorem State.mapUpd_cx (f : Upd → Upd) : (s.mapUpd f).cx = s.cx := rfl
@[simp] theorem State.mapUpd_fac (f : Upd → Upd) : (s.mapUpd f).fac = s.fac := rfl

@[simp] theorem State.mapU_pending (f : Upd → Upd) : (s.mapU f).pending = s.pending := rfl
@[simp] theorem State.mapU_now (f : Upd → Upd) : (s.mapU f).now = s.now := rfl
@[simp] theorem State.mapU_out (f : Upd → Upd) : (s.mapU f).out = s.out := rfl
@[simp] theorem State.mapU_free (f : Upd → Upd) : (s.mapU f).free = s.free := rfl
@[simp] theorem State.mapU_sys (f : Upd → Upd) : (s.mapU f).sys = s.sys := rfl
@[simp] theorem State.mapU_ses (f : Upd → Upd) : (s.mapU f).ses = s.ses := rfl
@[simp] theorem State.mapU_cfg (f : Upd → Upd) : (s.mapU f).cfg = s.cfg := rfl
@[simp] theorem State.mapU_clk (f : Upd → Upd) : (s.mapU f).clk = s.clk := rfl
@[simp] theorem State.mapU_mem (f : Upd → Upd) : (s.mapU f).mem = s.mem := rfl
@[simp] theorem State.mapU_upd (f : Upd → Upd) : (s.mapU f).upd = f s.upd := rfl
@[simp] theorem State.mapU_arc (f : Upd → Upd) : (s.mapU f).arc = s.arc := rfl
@[simp] theorem State.mapU_gns (f : Upd → Upd) : (s.mapU f).gns = s.gns := rfl
@[simp] theorem State.mapU_fix (f : Upd → Upd) : (s.mapU f).fix = s.fix := rfl
@[simp] theorem State.mapU_air (f : Upd → Upd) : (s.mapU f).air = s.air := rfl
@[simp] theorem State.mapU_lnk (f : Upd → Upd) : (s.mapU f).lnk = s.lnk := rfl
@[simp] theorem State.mapU_pas (f : Upd → Upd) : (s.mapU f).pas = s.pas := rfl
@[simp] theorem State.mapU_tsk (f : Upd → Upd) : (s.mapU f).tsk = s.tsk := rfl
@[simp] theorem State.mapU_crk (f : Upd → Upd) : (s.mapU f).crk = s.crk := rfl
@[simp] theorem State.mapU_axs (f : Upd → Upd) : (s.mapU f).axs = s.axs := rfl
@[simp] theorem State.mapU_eth (f : Upd → Upd) : (s.mapU f).eth = s.eth := rfl
@[simp] theorem State.mapU_can (f : Upd → Upd) : (s.mapU f).can = s.can := rfl
@[simp] theorem State.mapU_fld (f : Upd → Upd) : (s.mapU f).fld = s.fld := rfl
@[simp] theorem State.mapU_pai (f : Upd → Upd) : (s.mapU f).pai = s.pai := rfl
@[simp] theorem State.mapU_vit (f : Upd → Upd) : (s.mapU f).vit = s.vit := rfl
@[simp] theorem State.mapU_cx (f : Upd → Upd) : (s.mapU f).cx = s.cx := rfl
@[simp] theorem State.mapU_fac (f : Upd → Upd) : (s.mapU f).fac = s.fac := rfl

@[simp] theorem State.mapArc_pending (f : Arc → Arc) : (s.mapArc f).pending = s.pending := rfl
@[simp] theorem State.mapArc_now (f : Arc → Arc) : (s.mapArc f).now = s.now := rfl
@[simp] theorem State.mapArc_out (f : Arc → Arc) : (s.mapArc f).out = s.out := rfl
@[simp] theorem State.mapArc_free (f : Arc → Arc) : (s.mapArc f).free = s.free := rfl
@[simp] theorem State.mapArc_sys (f : Arc → Arc) : (s.mapArc f).sys = s.sys := rfl
@[simp] theorem State.mapArc_ses (f : Arc → Arc) : (s.mapArc f).ses = s.ses := rfl
@[simp] theorem State.mapArc_cfg (f : Arc → Arc) : (s.mapArc f).cfg = s.cfg := rfl
@[simp] theorem State.mapArc_clk (f : Arc → Arc) : (s.mapArc f).clk = s.clk := rfl
@[simp] theorem State.mapArc_mem (f : Arc → Arc) : (s.mapArc f).mem = s.mem := rfl
@[simp] theorem State.mapArc_upd (f : Arc → Arc) : (s.mapArc f).upd = s.upd := rfl
@[simp] theorem State.mapArc_arc (f : Arc → Arc) : (s.mapArc f).arc = f s.arc := rfl
@[simp] theorem State.mapArc_gns (f : Arc → Arc) : (s.mapArc f).gns = s.gns := rfl
@[simp] theorem State.mapArc_fix (f : Arc → Arc) : (s.mapArc f).fix = s.fix := rfl
@[simp] theorem State.mapArc_air (f : Arc → Arc) : (s.mapArc f).air = s.air := rfl
@[simp] theorem State.mapArc_lnk (f : Arc → Arc) : (s.mapArc f).lnk = s.lnk := rfl
@[simp] theorem State.mapArc_pas (f : Arc → Arc) : (s.mapArc f).pas = s.pas := rfl
@[simp] theorem State.mapArc_tsk (f : Arc → Arc) : (s.mapArc f).tsk = s.tsk := rfl
@[simp] theorem State.mapArc_crk (f : Arc → Arc) : (s.mapArc f).crk = s.crk := rfl
@[simp] theorem State.mapArc_axs (f : Arc → Arc) : (s.mapArc f).axs = s.axs := rfl
@[simp] theorem State.mapArc_eth (f : Arc → Arc) : (s.mapArc f).eth = s.eth := rfl
@[simp] theorem State.mapArc_can (f : Arc → Arc) : (s.mapArc f).can = s.can := rfl
@[simp] theorem State.mapArc_fld (f : Arc → Arc) : (s.mapArc f).fld = s.fld := rfl
@[simp] theorem State.mapArc_pai (f : Arc → Arc) : (s.mapArc f).pai = s.pai := rfl
@[simp] theorem State.mapArc_vit (f : Arc → Arc) : (s.mapArc f).vit = s.vit := rfl
@[simp] theorem State.mapArc_cx (f : Arc → Arc) : (s.mapArc f).cx = s.cx := rfl
@[simp] theorem State.mapArc_fac (f : Arc → Arc) : (s.mapArc f).fac = s.fac := rfl

@[simp] theorem State.mapGns_pending (f : Gns → Gns) : (s.mapGns f).pending = s.pending := rfl
@[simp] theorem State.mapGns_now (f : Gns → Gns) : (s.mapGns f).now = s.now := rfl
@[simp] theorem State.mapGns_out (f : Gns → Gns) : (s.mapGns f).out = s.out := rfl
@[simp] theorem State.mapGns_free (f : Gns → Gns) : (s.mapGns f).free = s.free := rfl
@[simp] theorem State.mapGns_sys (f : Gns → Gns) : (s.mapGns f).sys = s.sys := rfl
@[simp] theorem State.mapGns_ses (f : Gns → Gns) : (s.mapGns f).ses = s.ses := rfl
@[simp] theorem State.mapGns_cfg (f : Gns → Gns) : (s.mapGns f).cfg = s.cfg := rfl
@[simp] theorem State.mapGns_clk (f : Gns → Gns) : (s.mapGns f).clk = s.clk := rfl
@[simp] theorem State.mapGns_mem (f : Gns → Gns) : (s.mapGns f).mem = s.mem := rfl
@[simp] theorem State.mapGns_upd (f : Gns → Gns) : (s.mapGns f).upd = s.upd := rfl
@[simp] theorem State.mapGns_arc (f : Gns → Gns) : (s.mapGns f).arc = s.arc := rfl
@[simp] theorem State.mapGns_gns (f : Gns → Gns) : (s.mapGns f).gns = f s.gns := rfl
@[simp] theorem State.mapGns_fix (f : Gns → Gns) : (s.mapGns f).fix = s.fix := rfl
@[simp] theorem State.mapGns_air (f : Gns → Gns) : (s.mapGns f).air = s.air := rfl
@[simp] theorem State.mapGns_lnk (f : Gns → Gns) : (s.mapGns f).lnk = s.lnk := rfl
@[simp] theorem State.mapGns_pas (f : Gns → Gns) : (s.mapGns f).pas = s.pas := rfl
@[simp] theorem State.mapGns_tsk (f : Gns → Gns) : (s.mapGns f).tsk = s.tsk := rfl
@[simp] theorem State.mapGns_crk (f : Gns → Gns) : (s.mapGns f).crk = s.crk := rfl
@[simp] theorem State.mapGns_axs (f : Gns → Gns) : (s.mapGns f).axs = s.axs := rfl
@[simp] theorem State.mapGns_eth (f : Gns → Gns) : (s.mapGns f).eth = s.eth := rfl
@[simp] theorem State.mapGns_can (f : Gns → Gns) : (s.mapGns f).can = s.can := rfl
@[simp] theorem State.mapGns_fld (f : Gns → Gns) : (s.mapGns f).fld = s.fld := rfl
@[simp] theorem State.mapGns_pai (f : Gns → Gns) : (s.mapGns f).pai = s.pai := rfl
@[simp] theorem State.mapGns_vit (f : Gns → Gns) : (s.mapGns f).vit = s.vit := rfl
@[simp] theorem State.mapGns_cx (f : Gns → Gns) : (s.mapGns f).cx = s.cx := rfl
@[simp] theorem State.mapGns_fac (f : Gns → Gns) : (s.mapGns f).fac = s.fac := rfl

@[simp] theorem State.mapFix_pending (f : Fix → Fix) : (s.mapFix f).pending = s.pending := rfl
@[simp] theorem State.mapFix_now (f : Fix → Fix) : (s.mapFix f).now = s.now := rfl
@[simp] theorem State.mapFix_out (f : Fix → Fix) : (s.mapFix f).out = s.out := rfl
@[simp] theorem State.mapFix_free (f : Fix → Fix) : (s.mapFix f).free = s.free := rfl
@[simp] theorem State.mapFix_sys (f : Fix → Fix) : (s.mapFix f).sys = s.sys := rfl
@[simp] theorem State.mapFix_ses (f : Fix → Fix) : (s.mapFix f).ses = s.ses := rfl
@[simp] theorem State.mapFix_cfg (f : Fix → Fix) : (s.mapFix f).cfg = s.cfg := rfl
@[simp] theorem State.mapFix_clk (f : Fix → Fix) : (s.mapFix f).clk = s.clk := rfl
@[simp] theorem State.mapFix_mem (f : Fix → Fix) : (s.mapFix f).mem = s.mem := rfl
@[simp] theorem State.mapFix_upd (f : Fix → Fix) : (s.mapFix f).upd = s.upd := rfl
@[simp] theorem State.mapFix_arc (f : Fix → Fix) : (s.mapFix f).arc = s.arc := rfl
@[simp] theorem State.mapFix_gns (f : Fix → Fix) : (s.mapFix f).gns = s.gns := rfl
@[simp] theorem State.mapFix_fix (f : Fix → Fix) : (s.mapFix f).fix = f s.fix := rfl
@[simp] theorem State.mapFix_air (f : Fix → Fix) : (s.mapFix f).air = s.air := rfl
@[simp] theorem State.mapFix_lnk (f : Fix → Fix) : (s.mapFix f).lnk = s.lnk := rfl
@[simp] theorem State.mapFix_pas (f : Fix → Fix) : (s.mapFix f).pas = s.pas := rfl
@[simp] theorem State.mapFix_tsk (f : Fix → Fix) : (s.mapFix f).tsk = s.tsk := rfl
@[simp] theorem State.mapFix_crk (f : Fix → Fix) : (s.mapFix f).crk = s.crk := rfl
@[simp] theorem State.mapFix_axs (f : Fix → Fix) : (s.mapFix f).axs = s.axs := rfl
@[simp] theorem State.mapFix_eth (f : Fix → Fix) : (s.mapFix f).eth = s.eth := rfl
@[simp] theorem State.mapFix_can (f : Fix → Fix) : (s.mapFix f).can = s.can := rfl
@[simp] theorem State.mapFix_fld (f : Fix → Fix) : (s.mapFix f).fld = s.fld := rfl
@[simp] theorem State.mapFix_pai (f : Fix → Fix) : (s.mapFix f).pai = s.pai := rfl
@[simp] theorem State.mapFix_vit (f : Fix → Fix) : (s.mapFix f).vit = s.vit := rfl
@[simp] theorem State.mapFix_cx (f : Fix → Fix) : (s.mapFix f).cx = s.cx := rfl
@[simp] theorem State.mapFix_fac (f : Fix → Fix) : (s.mapFix f).fac = s.fac := rfl

@[simp] theorem State.mapAir_pending (f : Air → Air) : (s.mapAir f).pending = s.pending := rfl
@[simp] theorem State.mapAir_now (f : Air → Air) : (s.mapAir f).now = s.now := rfl
@[simp] theorem State.mapAir_out (f : Air → Air) : (s.mapAir f).out = s.out := rfl
@[simp] theorem State.mapAir_free (f : Air → Air) : (s.mapAir f).free = s.free := rfl
@[simp] theorem State.mapAir_sys (f : Air → Air) : (s.mapAir f).sys = s.sys := rfl
@[simp] theorem State.mapAir_ses (f : Air → Air) : (s.mapAir f).ses = s.ses := rfl
@[simp] theorem State.mapAir_cfg (f : Air → Air) : (s.mapAir f).cfg = s.cfg := rfl
@[simp] theorem State.mapAir_clk (f : Air → Air) : (s.mapAir f).clk = s.clk := rfl
@[simp] theorem State.mapAir_mem (f : Air → Air) : (s.mapAir f).mem = s.mem := rfl
@[simp] theorem State.mapAir_upd (f : Air → Air) : (s.mapAir f).upd = s.upd := rfl
@[simp] theorem State.mapAir_arc (f : Air → Air) : (s.mapAir f).arc = s.arc := rfl
@[simp] theorem State.mapAir_gns (f : Air → Air) : (s.mapAir f).gns = s.gns := rfl
@[simp] theorem State.mapAir_fix (f : Air → Air) : (s.mapAir f).fix = s.fix := rfl
@[simp] theorem State.mapAir_air (f : Air → Air) : (s.mapAir f).air = f s.air := rfl
@[simp] theorem State.mapAir_lnk (f : Air → Air) : (s.mapAir f).lnk = s.lnk := rfl
@[simp] theorem State.mapAir_pas (f : Air → Air) : (s.mapAir f).pas = s.pas := rfl
@[simp] theorem State.mapAir_tsk (f : Air → Air) : (s.mapAir f).tsk = s.tsk := rfl
@[simp] theorem State.mapAir_crk (f : Air → Air) : (s.mapAir f).crk = s.crk := rfl
@[simp] theorem State.mapAir_axs (f : Air → Air) : (s.mapAir f).axs = s.axs := rfl
@[simp] theorem State.mapAir_eth (f : Air → Air) : (s.mapAir f).eth = s.eth := rfl
@[simp] theorem State.mapAir_can (f : Air → Air) : (s.mapAir f).can = s.can := rfl
@[simp] theorem State.mapAir_fld (f : Air → Air) : (s.mapAir f).fld = s.fld := rfl
@[simp] theorem State.mapAir_pai (f : Air → Air) : (s.mapAir f).pai = s.pai := rfl
@[simp] theorem State.mapAir_vit (f : Air → Air) : (s.mapAir f).vit = s.vit := rfl
@[simp] theorem State.mapAir_cx (f : Air → Air) : (s.mapAir f).cx = s.cx := rfl
@[simp] theorem State.mapAir_fac (f : Air → Air) : (s.mapAir f).fac = s.fac := rfl

@[simp] theorem State.mapLnk_pending (f : Lnk → Lnk) : (s.mapLnk f).pending = s.pending := rfl
@[simp] theorem State.mapLnk_now (f : Lnk → Lnk) : (s.mapLnk f).now = s.now := rfl
@[simp] theorem State.mapLnk_out (f : Lnk → Lnk) : (s.mapLnk f).out = s.out := rfl
@[simp] theorem State.mapLnk_free (f : Lnk → Lnk) : (s.mapLnk f).free = s.free := rfl
@[simp] theorem State.mapLnk_sys (f : Lnk → Lnk) : (s.mapLnk f).sys = s.sys := rfl
@[simp] theorem State.mapLnk_ses (f : Lnk → Lnk) : (s.mapLnk f).ses = s.ses := rfl
@[simp] theorem State.mapLnk_cfg (f : Lnk → Lnk) : (s.mapLnk f).cfg = s.cfg := rfl
@[simp] theorem State.mapLnk_clk (f : Lnk → Lnk) : (s.mapLnk f).clk = s.clk := rfl
@[simp] theorem State.mapLnk_mem (f : Lnk → Lnk) : (s.mapLnk f).mem = s.mem := rfl
@[simp] theorem State.mapLnk_upd (f : Lnk → Lnk) : (s.mapLnk f).upd = s.upd := rfl
@[simp] theorem State.mapLnk_arc (f : Lnk → Lnk) : (s.mapLnk f).arc = s.arc := rfl
@[simp] theorem State.mapLnk_gns (f : Lnk → Lnk) : (s.mapLnk f).gns = s.gns := rfl
@[simp] theorem State.mapLnk_fix (f : Lnk → Lnk) : (s.mapLnk f).fix = s.fix := rfl
@[simp] theorem State.mapLnk_air (f : Lnk → Lnk) : (s.mapLnk f).air = s.air := rfl
@[simp] theorem State.mapLnk_lnk (f : Lnk → Lnk) : (s.mapLnk f).lnk = f s.lnk := rfl
@[simp] theorem State.mapLnk_pas (f : Lnk → Lnk) : (s.mapLnk f).pas = s.pas := rfl
@[simp] theorem State.mapLnk_tsk (f : Lnk → Lnk) : (s.mapLnk f).tsk = s.tsk := rfl
@[simp] theorem State.mapLnk_crk (f : Lnk → Lnk) : (s.mapLnk f).crk = s.crk := rfl
@[simp] theorem State.mapLnk_axs (f : Lnk → Lnk) : (s.mapLnk f).axs = s.axs := rfl
@[simp] theorem State.mapLnk_eth (f : Lnk → Lnk) : (s.mapLnk f).eth = s.eth := rfl
@[simp] theorem State.mapLnk_can (f : Lnk → Lnk) : (s.mapLnk f).can = s.can := rfl
@[simp] theorem State.mapLnk_fld (f : Lnk → Lnk) : (s.mapLnk f).fld = s.fld := rfl
@[simp] theorem State.mapLnk_pai (f : Lnk → Lnk) : (s.mapLnk f).pai = s.pai := rfl
@[simp] theorem State.mapLnk_vit (f : Lnk → Lnk) : (s.mapLnk f).vit = s.vit := rfl
@[simp] theorem State.mapLnk_cx (f : Lnk → Lnk) : (s.mapLnk f).cx = s.cx := rfl
@[simp] theorem State.mapLnk_fac (f : Lnk → Lnk) : (s.mapLnk f).fac = s.fac := rfl

@[simp] theorem State.mapPas_pending (f : Pas → Pas) : (s.mapPas f).pending = s.pending := rfl
@[simp] theorem State.mapPas_now (f : Pas → Pas) : (s.mapPas f).now = s.now := rfl
@[simp] theorem State.mapPas_out (f : Pas → Pas) : (s.mapPas f).out = s.out := rfl
@[simp] theorem State.mapPas_free (f : Pas → Pas) : (s.mapPas f).free = s.free := rfl
@[simp] theorem State.mapPas_sys (f : Pas → Pas) : (s.mapPas f).sys = s.sys := rfl
@[simp] theorem State.mapPas_ses (f : Pas → Pas) : (s.mapPas f).ses = s.ses := rfl
@[simp] theorem State.mapPas_cfg (f : Pas → Pas) : (s.mapPas f).cfg = s.cfg := rfl
@[simp] theorem State.mapPas_clk (f : Pas → Pas) : (s.mapPas f).clk = s.clk := rfl
@[simp] theorem State.mapPas_mem (f : Pas → Pas) : (s.mapPas f).mem = s.mem := rfl
@[simp] theorem State.mapPas_upd (f : Pas → Pas) : (s.mapPas f).upd = s.upd := rfl
@[simp] theorem State.mapPas_arc (f : Pas → Pas) : (s.mapPas f).arc = s.arc := rfl
@[simp] theorem State.mapPas_gns (f : Pas → Pas) : (s.mapPas f).gns = s.gns := rfl
@[simp] theorem State.mapPas_fix (f : Pas → Pas) : (s.mapPas f).fix = s.fix := rfl
@[simp] theorem State.mapPas_air (f : Pas → Pas) : (s.mapPas f).air = s.air := rfl
@[simp] theorem State.mapPas_lnk (f : Pas → Pas) : (s.mapPas f).lnk = s.lnk := rfl
@[simp] theorem State.mapPas_pas (f : Pas → Pas) : (s.mapPas f).pas = f s.pas := rfl
@[simp] theorem State.mapPas_tsk (f : Pas → Pas) : (s.mapPas f).tsk = s.tsk := rfl
@[simp] theorem State.mapPas_crk (f : Pas → Pas) : (s.mapPas f).crk = s.crk := rfl
@[simp] theorem State.mapPas_axs (f : Pas → Pas) : (s.mapPas f).axs = s.axs := rfl
@[simp] theorem State.mapPas_eth (f : Pas → Pas) : (s.mapPas f).eth = s.eth := rfl
@[simp] theorem State.mapPas_can (f : Pas → Pas) : (s.mapPas f).can = s.can := rfl
@[simp] theorem State.mapPas_fld (f : Pas → Pas) : (s.mapPas f).fld = s.fld := rfl
@[simp] theorem State.mapPas_pai (f : Pas → Pas) : (s.mapPas f).pai = s.pai := rfl
@[simp] theorem State.mapPas_vit (f : Pas → Pas) : (s.mapPas f).vit = s.vit := rfl
@[simp] theorem State.mapPas_cx (f : Pas → Pas) : (s.mapPas f).cx = s.cx := rfl
@[simp] theorem State.mapPas_fac (f : Pas → Pas) : (s.mapPas f).fac = s.fac := rfl

@[simp] theorem State.mapTsk_pending (f : Tsk → Tsk) : (s.mapTsk f).pending = s.pending := rfl
@[simp] theorem State.mapTsk_now (f : Tsk → Tsk) : (s.mapTsk f).now = s.now := rfl
@[simp] theorem State.mapTsk_out (f : Tsk → Tsk) : (s.mapTsk f).out = s.out := rfl
@[simp] theorem State.mapTsk_free (f : Tsk → Tsk) : (s.mapTsk f).free = s.free := rfl
@[simp] theorem State.mapTsk_sys (f : Tsk → Tsk) : (s.mapTsk f).sys = s.sys := rfl
@[simp] theorem State.mapTsk_ses (f : Tsk → Tsk) : (s.mapTsk f).ses = s.ses := rfl
@[simp] theorem State.mapTsk_cfg (f : Tsk → Tsk) : (s.mapTsk f).cfg = s.cfg := rfl
@[simp] theorem State.mapTsk_clk (f : Tsk → Tsk) : (s.mapTsk f).clk = s.clk := rfl
@[simp] theorem State.mapTsk_mem (f : Tsk → Tsk) : (s.mapTsk f).mem = s.mem := rfl
@[simp] theorem State.mapTsk_upd (f : Tsk → Tsk) : (s.mapTsk f).upd = s.upd := rfl
@[simp] theorem State.mapTsk_arc (f : Tsk → Tsk) : (s.mapTsk f).arc = s.arc := rfl
@[simp] theorem State.mapTsk_gns (f : Tsk → Tsk) : (s.mapTsk f).gns = s.gns := rfl
@[simp] theorem State.mapTsk_fix (f : Tsk → Tsk) : (s.mapTsk f).fix = s.fix := rfl
@[simp] theorem State.mapTsk_air (f : Tsk → Tsk) : (s.mapTsk f).air = s.air := rfl
@[simp] theorem State.mapTsk_lnk (f : Tsk → Tsk) : (s.mapTsk f).lnk = s.lnk := rfl
@[simp] theorem State.mapTsk_pas (f : Tsk → Tsk) : (s.mapTsk f).pas = s.pas := rfl
@[simp] theorem State.mapTsk_tsk (f : Tsk → Tsk) : (s.mapTsk f).tsk = f s.tsk := rfl
@[simp] theorem State.mapTsk_crk (f : Tsk → Tsk) : (s.mapTsk f).crk = s.crk := rfl
@[simp] theorem State.mapTsk_axs (f : Tsk → Tsk) : (s.mapTsk f).axs = s.axs := rfl
@[simp] theorem State.mapTsk_eth (f : Tsk → Tsk) : (s.mapTsk f).eth = s.eth := rfl
@[simp] theorem State.mapTsk_can (f : Tsk → Tsk) : (s.mapTsk f).can = s.can := rfl
@[simp] theorem State.mapTsk_fld (f : Tsk → Tsk) : (s.mapTsk f).fld = s.fld := rfl
@[simp] theorem State.mapTsk_pai (f : Tsk → Tsk) : (s.mapTsk f).pai = s.pai := rfl
@[simp] theorem State.mapTsk_vit (f : Tsk → Tsk) : (s.mapTsk f).vit = s.vit := rfl
@[simp] theorem State.mapTsk_cx (f : Tsk → Tsk) : (s.mapTsk f).cx = s.cx := rfl
@[simp] theorem State.mapTsk_fac (f : Tsk → Tsk) : (s.mapTsk f).fac = s.fac := rfl

@[simp] theorem State.mapCrk_pending (f : Crk → Crk) : (s.mapCrk f).pending = s.pending := rfl
@[simp] theorem State.mapCrk_now (f : Crk → Crk) : (s.mapCrk f).now = s.now := rfl
@[simp] theorem State.mapCrk_out (f : Crk → Crk) : (s.mapCrk f).out = s.out := rfl
@[simp] theorem State.mapCrk_free (f : Crk → Crk) : (s.mapCrk f).free = s.free := rfl
@[simp] theorem State.mapCrk_sys (f : Crk → Crk) : (s.mapCrk f).sys = s.sys := rfl
@[simp] theorem State.mapCrk_ses (f : Crk → Crk) : (s.mapCrk f).ses = s.ses := rfl
@[simp] theorem State.mapCrk_cfg (f : Crk → Crk) : (s.mapCrk f).cfg = s.cfg := rfl
@[simp] theorem State.mapCrk_clk (f : Crk → Crk) : (s.mapCrk f).clk = s.clk := rfl
@[simp] theorem State.mapCrk_mem (f : Crk → Crk) : (s.mapCrk f).mem = s.mem := rfl
@[simp] theorem State.mapCrk_upd (f : Crk → Crk) : (s.mapCrk f).upd = s.upd := rfl
@[simp] theorem State.mapCrk_arc (f : Crk → Crk) : (s.mapCrk f).arc = s.arc := rfl
@[simp] theorem State.mapCrk_gns (f : Crk → Crk) : (s.mapCrk f).gns = s.gns := rfl
@[simp] theorem State.mapCrk_fix (f : Crk → Crk) : (s.mapCrk f).fix = s.fix := rfl
@[simp] theorem State.mapCrk_air (f : Crk → Crk) : (s.mapCrk f).air = s.air := rfl
@[simp] theorem State.mapCrk_lnk (f : Crk → Crk) : (s.mapCrk f).lnk = s.lnk := rfl
@[simp] theorem State.mapCrk_pas (f : Crk → Crk) : (s.mapCrk f).pas = s.pas := rfl
@[simp] theorem State.mapCrk_tsk (f : Crk → Crk) : (s.mapCrk f).tsk = s.tsk := rfl
@[simp] theorem State.mapCrk_crk (f : Crk → Crk) : (s.mapCrk f).crk = f s.crk := rfl
@[simp] theorem State.mapCrk_axs (f : Crk → Crk) : (s.mapCrk f).axs = s.axs := rfl
@[simp] theorem State.mapCrk_eth (f : Crk → Crk) : (s.mapCrk f).eth = s.eth := rfl
@[simp] theorem State.mapCrk_can (f : Crk → Crk) : (s.mapCrk f).can = s.can := rfl
@[simp] theorem State.mapCrk_fld (f : Crk → Crk) : (s.mapCrk f).fld = s.fld := rfl
@[simp] theorem State.mapCrk_pai (f : Crk → Crk) : (s.mapCrk f).pai = s.pai := rfl
@[simp] theorem State.mapCrk_vit (f : Crk → Crk) : (s.mapCrk f).vit = s.vit := rfl
@[simp] theorem State.mapCrk_cx (f : Crk → Crk) : (s.mapCrk f).cx = s.cx := rfl
@[simp] theorem State.mapCrk_fac (f : Crk → Crk) : (s.mapCrk f).fac = s.fac := rfl

@[simp] theorem State.mapEth_pending (f : Eth → Eth) : (s.mapEth f).pending = s.pending := rfl
@[simp] theorem State.mapEth_now (f : Eth → Eth) : (s.mapEth f).now = s.now := rfl
@[simp] theorem State.mapEth_out (f : Eth → Eth) : (s.mapEth f).out = s.out := rfl
@[simp] theorem State.mapEth_free (f : Eth → Eth) : (s.mapEth f).free = s.free := rfl
@[simp] theorem State.mapEth_sys (f : Eth → Eth) : (s.mapEth f).sys = s.sys := rfl
@[simp] theorem State.mapEth_ses (f : Eth → Eth) : (s.mapEth f).ses = s.ses := rfl
@[simp] theorem State.mapEth_cfg (f : Eth → Eth) : (s.mapEth f).cfg = s.cfg := rfl
@[simp] theorem State.mapEth_clk (f : Eth → Eth) : (s.mapEth f).clk = s.clk := rfl
@[simp] theorem State.mapEth_mem (f : Eth → Eth) : (s.mapEth f).mem = s.mem := rfl
@[simp] theorem State.mapEth_upd (f : Eth → Eth) : (s.mapEth f).upd = s.upd := rfl
@[simp] theorem State.mapEth_arc (f : Eth → Eth) : (s.mapEth f).arc = s.arc := rfl
@[simp] theorem State.mapEth_gns (f : Eth → Eth) : (s.mapEth f).gns = s.gns := rfl
@[simp] theorem State.mapEth_fix (f : Eth → Eth) : (s.mapEth f).fix = s.fix := rfl
@[simp] theorem State.mapEth_air (f : Eth → Eth) : (s.mapEth f).air = s.air := rfl
@[simp] theorem State.mapEth_lnk (f : Eth → Eth) : (s.mapEth f).lnk = s.lnk := rfl
@[simp] theorem State.mapEth_pas (f : Eth → Eth) : (s.mapEth f).pas = s.pas := rfl
@[simp] theorem State.mapEth_tsk (f : Eth → Eth) : (s.mapEth f).tsk = s.tsk := rfl
@[simp] theorem State.mapEth_crk (f : Eth → Eth) : (s.mapEth f).crk = s.crk := rfl
@[simp] theorem State.mapEth_axs (f : Eth → Eth) : (s.mapEth f).axs = s.axs := rfl
@[simp] theorem State.mapEth_eth (f : Eth → Eth) : (s.mapEth f).eth = f s.eth := rfl
@[simp] theorem State.mapEth_can (f : Eth → Eth) : (s.mapEth f).can = s.can := rfl
@[simp] theorem State.mapEth_fld (f : Eth → Eth) : (s.mapEth f).fld = s.fld := rfl
@[simp] theorem State.mapEth_pai (f : Eth → Eth) : (s.mapEth f).pai = s.pai := rfl
@[simp] theorem State.mapEth_vit (f : Eth → Eth) : (s.mapEth f).vit = s.vit := rfl
@[simp] theorem State.mapEth_cx (f : Eth → Eth) : (s.mapEth f).cx = s.cx := rfl
@[simp] theorem State.mapEth_fac (f : Eth → Eth) : (s.mapEth f).fac = s.fac := rfl

@[simp] theorem State.mapCan_pending (f : Can → Can) : (s.mapCan f).pending = s.pending := rfl
@[simp] theorem State.mapCan_now (f : Can → Can) : (s.mapCan f).now = s.now := rfl
@[simp] theorem State.mapCan_out (f : Can → Can) : (s.mapCan f).out = s.out := rfl
@[simp] theorem State.mapCan_free (f : Can → Can) : (s.mapCan f).free = s.free := rfl
@[simp] theorem State.mapCan_sys (f : Can → Can) : (s.mapCan f).sys = s.sys := rfl
@[simp] theorem State.mapCan_ses (f : Can → Can) : (s.mapCan f).ses = s.ses := rfl
@[simp] theorem State.mapCan_cfg (f : Can → Can) : (s.mapCan f).cfg = s.cfg := rfl
@[simp] theorem State.mapCan_clk (f : Can → Can) : (s.mapCan f).clk = s.clk := rfl
@[simp] theorem State.mapCan_mem (f : Can → Can) : (s.mapCan f).mem = s.mem := rfl
@[simp] theorem State.mapCan_upd (f : Can → Can) : (s.mapCan f).upd = s.upd := rfl
@[simp] theorem State.mapCan_arc (f : Can → Can) : (s.mapCan f).arc = s.arc := rfl
@[simp] theorem State.mapCan_gns (f : Can → Can) : (s.mapCan f).gns = s.gns := rfl
@[simp] theorem State.mapCan_fix (f : Can → Can) : (s.mapCan f).fix = s.fix := rfl
@[simp] theorem State.mapCan_air (f : Can → Can) : (s.mapCan f).air = s.air := rfl
@[simp] theorem State.mapCan_lnk (f : Can → Can) : (s.mapCan f).lnk = s.lnk := rfl
@[simp] theorem State.mapCan_pas (f : Can → Can) : (s.mapCan f).pas = s.pas := rfl
@[simp] theorem State.mapCan_tsk (f : Can → Can) : (s.mapCan f).tsk = s.tsk := rfl
@[simp] theorem State.mapCan_crk (f : Can → Can) : (s.mapCan f).crk = s.crk := rfl
@[simp] theorem State.mapCan_axs (f : Can → Can) : (s.mapCan f).axs = s.axs := rfl
@[simp] theorem State.mapCan_eth (f : Can → Can) : (s.mapCan f).eth = s.eth := rfl
@[simp] theorem State.mapCan_can (f : Can → Can) : (s.mapCan f).can = f s.can := rfl
@[simp] theorem State.mapCan_fld (f : Can → Can) : (s.mapCan f).fld = s.fld := rfl
@[simp] theorem State.mapCan_pai (f : Can → Can) : (s.mapCan f).pai = s.pai := rfl
@[simp] theorem State.mapCan_vit (f : Can → Can) : (s.mapCan f).vit = s.vit := rfl
@[simp] theorem State.mapCan_cx (f : Can → Can) : (s.mapCan f).cx = s.cx := rfl
@[simp] theorem State.mapCan_fac (f : Can → Can) : (s.mapCan f).fac = s.fac := rfl

@[simp] theorem State.mapFld_pending (f : Fld → Fld) : (s.mapFld f).pending = s.pending := rfl
@[simp] theorem State.mapFld_now (f : Fld → Fld) : (s.mapFld f).now = s.now := rfl
@[simp] theorem State.mapFld_out (f : Fld → Fld) : (s.mapFld f).out = s.out := rfl
@[simp] theorem State.mapFld_free (f : Fld → Fld) : (s.mapFld f).free = s.free := rfl
@[simp] theorem State.mapFld_sys (f : Fld → Fld) : (s.mapFld f).sys = s.sys := rfl
@[simp] theorem State.mapFld_ses (f : Fld → Fld) : (s.mapFld f).ses = s.ses := rfl
@[simp] theorem State.mapFld_cfg (f : Fld → Fld) : (s.mapFld f).cfg = s.cfg := rfl
@[simp] theorem State.mapFld_clk (f : Fld → Fld) : (s.mapFld f).clk = s.clk := rfl
@[simp] theorem State.mapFld_mem (f : Fld → Fld) : (s.mapFld f).mem = s.mem := rfl
@[simp] theorem State.mapFld_upd (f : Fld → Fld) : (s.mapFld f).upd = s.upd := rfl
@[simp] theorem State.mapFld_arc (f : Fld → Fld) : (s.mapFld f).arc = s.arc := rfl
@[simp] theorem State.mapFld_gns (f : Fld → Fld) : (s.mapFld f).gns = s.gns := rfl
@[simp] theorem State.mapFld_fix (f : Fld → Fld) : (s.mapFld f).fix = s.fix := rfl
@[simp] theorem State.mapFld_air (f : Fld → Fld) : (s.mapFld f).air = s.air := rfl
@[simp] theorem State.mapFld_lnk (f : Fld → Fld) : (s.mapFld f).lnk = s.lnk := rfl
@[simp] theorem State.mapFld_pas (f : Fld → Fld) : (s.mapFld f).pas = s.pas := rfl
@[simp] theorem State.mapFld_tsk (f : Fld → Fld) : (s.mapFld f).tsk = s.tsk := rfl
@[simp] theorem State.mapFld_crk (f : Fld → Fld) : (s.mapFld f).crk = s.crk := rfl
@[simp] theorem State.mapFld_axs (f : Fld → Fld) : (s.mapFld f).axs = s.axs := rfl
@[simp] theorem State.mapFld_eth (f : Fld → Fld) : (s.mapFld f).eth = s.eth := rfl
@[simp] theorem State.mapFld_can (f : Fld → Fld) : (s.mapFld f).can = s.can := rfl
@[simp] theorem State.mapFld_fld (f : Fld → Fld) : (s.mapFld f).fld = f s.fld := rfl
@[simp] theorem State.mapFld_pai (f : Fld → Fld) : (s.mapFld f).pai = s.pai := rfl
@[simp] theorem State.mapFld_vit (f : Fld → Fld) : (s.mapFld f).vit = s.vit := rfl
@[simp] theorem State.mapFld_cx (f : Fld → Fld) : (s.mapFld f).cx = s.cx := rfl
@[simp] theorem State.mapFld_fac (f : Fld → Fld) : (s.mapFld f).fac = s.fac := rfl

@[simp] theorem State.mapPai_pending (f : Pai → Pai) : (s.mapPai f).pending = s.pending := rfl
@[simp] theorem State.mapPai_now (f : Pai → Pai) : (s.mapPai f).now = s.now := rfl
@[simp] theorem State.mapPai_out (f : Pai → Pai) : (s.mapPai f).out = s.out := rfl
@[simp] theorem State.mapPai_free (f : Pai → Pai) : (s.mapPai f).free = s.free := rfl
@[simp] theorem State.mapPai_sys (f : Pai → Pai) : (s.mapPai f).sys = s.sys := rfl
@[simp] theorem State.mapPai_ses (f : Pai → Pai) : (s.mapPai f).ses = s.ses := rfl
@[simp] theorem State.mapPai_cfg (f : Pai → Pai) : (s.mapPai f).cfg = s.cfg := rfl
@[simp] theorem State.mapPai_clk (f : Pai → Pai) : (s.mapPai f).clk = s.clk := rfl
@[simp] theorem State.mapPai_mem (f : Pai → Pai) : (s.mapPai f).mem = s.mem := rfl
@[simp] theorem State.mapPai_upd (f : Pai → Pai) : (s.mapPai f).upd = s.upd := rfl
@[simp] theorem State.mapPai_arc (f : Pai → Pai) : (s.mapPai f).arc = s.arc := rfl
@[simp] theorem State.mapPai_gns (f : Pai → Pai) : (s.mapPai f).gns = s.gns := rfl
@[simp] theorem State.mapPai_fix (f : Pai → Pai) : (s.mapPai f).fix = s.fix := rfl
@[simp] theorem State.mapPai_air (f : Pai → Pai) : (s.mapPai f).air = s.air := rfl
@[simp] theorem State.mapPai_lnk (f : Pai → Pai) : (s.mapPai f).lnk = s.lnk := rfl
@[simp] theorem State.mapPai_pas (f : Pai → Pai) : (s.mapPai f).pas = s.pas := rfl
@[simp] theorem State.mapPai_tsk (f : Pai → Pai) : (s.mapPai f).tsk = s.tsk := rfl
@[simp] theorem State.mapPai_crk (f : Pai → Pai) : (s.mapPai f).crk = s.crk := rfl
@[simp] theorem State.mapPai_axs (f : Pai → Pai) : (s.mapPai f).axs = s.axs := rfl
@[simp] theorem State.mapPai_eth (f : Pai → Pai) : (s.mapPai f).eth = s.eth := rfl
@[simp] theorem State.mapPai_can (f : Pai → Pai) : (s.mapPai f).can = s.can := rfl
@[simp] theorem State.mapPai_fld (f : Pai → Pai) : (s.mapPai f).fld = s.fld := rfl
@[simp] theorem State.mapPai_pai (f : Pai → Pai) : (s.mapPai f).pai = f s.pai := rfl
@[simp] theorem State.mapPai_vit (f : Pai → Pai) : (s.mapPai f).vit = s.vit := rfl
@[simp] theorem State.mapPai_cx (f : Pai → Pai) : (s.mapPai f).cx = s.cx := rfl
@[simp] theorem State.mapPai_fac (f : Pai → Pai) : (s.mapPai f).fac = s.fac := rfl

@[simp] theorem State.mapVit_pending (f : Vit → Vit) : (s.mapVit f).pending = s.pending := rfl
@[simp] theorem State.mapVit_now (f : Vit → Vit) : (s.mapVit f).now = s.now := rfl
@[simp] theorem State.mapVit_out (f : Vit → Vit) : (s.mapVit f).out = s.out := rfl
@[simp] theorem State.mapVit_free (f : Vit → Vit) : (s.mapVit f).free = s.free := rfl
@[simp] theorem State.mapVit_sys (f : Vit → Vit) : (s.mapVit f).sys = s.sys := rfl
@[simp] theorem State.mapVit_ses (f : Vit → Vit) : (s.mapVit f).ses = s.ses := rfl
@[simp] theorem State.mapVit_cfg (f : Vit → Vit) : (s.mapVit f).cfg = s.cfg := rfl
@[simp] theorem State.mapVit_clk (f : Vit → Vit) : (s.mapVit f).clk = s.clk := rfl
@[simp] theorem State.mapVit_mem (f : Vit → Vit) : (s.mapVit f).mem = s.mem := rfl
@[simp] theorem State.mapVit_upd (f : Vit → Vit) : (s.mapVit f).upd = s.upd := rfl
@[simp] theorem State.mapVit_arc (f : Vit → Vit) : (s.mapVit f).arc = s.arc := rfl
@[simp] theorem State.mapVit_gns (f : Vit → Vit) : (s.mapVit f).gns = s.gns := rfl
@[simp] theorem State.mapVit_fix (f : Vit → Vit) : (s.mapVit f).fix = s.fix := rfl
@[simp] theorem State.mapVit_air (f : Vit → Vit) : (s.mapVit f).air = s.air := rfl
@[simp] theorem State.mapVit_lnk (f : Vit → Vit) : (s.mapVit f).lnk = s.lnk := rfl
@[simp] theorem State.mapVit_pas (f : Vit → Vit) : (s.mapVit f).pas = s.pas := rfl
@[simp] theorem State.mapVit_tsk (f : Vit → Vit) : (s.mapVit f).tsk = s.tsk := rfl
@[simp] theorem State.mapVit_crk (f : Vit → Vit) : (s.mapVit f).crk = s.crk := rfl
@[simp] theorem State.mapVit_axs (f : Vit → Vit) : (s.mapVit f).axs = s.axs := rfl
@[simp] theorem State.mapVit_eth (f : Vit → Vit) : (s.mapVit f).eth = s.eth := rfl
@[simp] theorem State.mapVit_can (f : Vit → Vit) : (s.mapVit f).can = s.can := rfl
@[simp] theorem State.mapVit_fld (f : Vit → Vit) : (s.mapVit f).fld = s.fld := rfl
@[simp] theorem State.mapVit_pai (f : Vit → Vit) : (s.mapVit f).pai = s.pai := rfl
@[simp] theorem State.mapVit_vit (f : Vit → Vit) : (s.mapVit f).vit = f s.vit := rfl
@[simp] theorem State.mapVit_cx (f : Vit → Vit) : (s.mapVit f).cx = s.cx := rfl
@[simp] theorem State.mapVit_fac (f : Vit → Vit) : (s.mapVit f).fac = s.fac := rfl

@[simp] theorem State.mapCx_pending (f : Cxm → Cxm) : (s.mapCx f).pending = s.pending := rfl
@[simp] theorem State.mapCx_now (f : Cxm → Cxm) : (s.mapCx f).now = s.now := rfl
@[simp] theorem State.mapCx_out (f : Cxm → Cxm) : (s.mapCx f).out = s.out := rfl
@[simp] theorem State.mapCx_free (f : Cxm → Cxm) : (s.mapCx f).free = s.free := rfl
@[simp] theorem State.mapCx_sys (f : Cxm → Cxm) : (s.mapCx f).sys = s.sys := rfl
@[simp] theorem State.mapCx_ses (f : Cxm → Cxm) : (s.mapCx f).ses = s.ses := rfl
@[simp] theorem State.mapCx_cfg (f : Cxm → Cxm) : (s.mapCx f).cfg = s.cfg := rfl
@[simp] theorem State.mapCx_clk (f : Cxm → Cxm) : (s.mapCx f).clk = s.clk := rfl
@[simp] theorem State.mapCx_mem (f : Cxm → Cxm) : (s.mapCx f).mem = s.mem := rfl
@[simp] theorem State.mapCx_upd (f : Cxm → Cxm) : (s.mapCx f).upd = s.upd := rfl
@[simp] theorem State.mapCx_arc (f : Cxm → Cxm) : (s.mapCx f).arc = s.arc := rfl
@[simp] theorem State.mapCx_gns (f : Cxm → Cxm) : (s.mapCx f).gns = s.gns := rfl
@[simp] theorem State.mapCx_fix (f : Cxm → Cxm) : (s.mapCx f).fix = s.fix := rfl
@[simp] theorem State.mapCx_air (f : Cxm → Cxm) : (s.mapCx f).air = s.air := rfl
@[simp] theorem State.mapCx_lnk (f : Cxm → Cxm) : (s.mapCx f).lnk = s.lnk := rfl
@[simp] theorem State.mapCx_pas (f : Cxm → Cxm) : (s.mapCx f).pas = s.pas := rfl
@[simp] theorem State.mapCx_tsk (f : Cxm → Cxm) : (s.mapCx f).tsk = s.tsk := rfl
@[simp] theorem State.mapCx_crk (f : Cxm → Cxm) : (s.mapCx f).crk = s.crk := rfl
@[simp] theorem State.mapCx_axs (f : Cxm → Cxm) : (s.mapCx f).axs = s.axs := rfl
@[simp] theorem State.mapCx_eth (f : Cxm → Cxm) : (s.mapCx f).eth = s.eth := rfl
@[simp] theorem State.mapCx_can (f : Cxm → Cxm) : (s.mapCx f).can = s.can := rfl
@[simp] theorem State.mapCx_fld (f : Cxm → Cxm) : (s.mapCx f).fld = s.fld := rfl
@[simp] theorem State.mapCx_pai (f : Cxm → Cxm) : (s.mapCx f).pai = s.pai := rfl
@[simp] theorem State.mapCx_vit (f : Cxm → Cxm) : (s.mapCx f).vit = s.vit := rfl
@[simp] theorem State.mapCx_cx (f : Cxm → Cxm) : (s.mapCx f).cx = f s.cx := rfl
@[simp] theorem State.mapCx_fac (f : Cxm → Cxm) : (s.mapCx f).fac = s.fac := rfl

@[simp] theorem State.emit_pending (x : Output) : (s.emit x).pending = s.pending := rfl
@[simp] theorem State.emit_now (x : Output) : (s.emit x).now = s.now := rfl
@[simp] theorem State.emit_out (x : Output) : (s.emit x).out = s.out ++ [x] := rfl
@[simp] theorem State.emit_free (x : Output) : (s.emit x).free = s.free := rfl
@[simp] theorem State.emit_sys (x : Output) : (s.emit x).sys = s.sys := rfl
@[simp] theorem State.emit_ses (x : Output) : (s.emit x).ses = s.ses := rfl
@[simp] theorem State.emit_cfg (x : Output) : (s.emit x).cfg = s.cfg := rfl
@[simp] theorem State.emit_clk (x : Output) : (s.emit x).clk = s.clk := rfl
@[simp] theorem State.emit_mem (x : Output) : (s.emit x).mem = s.mem := rfl
@[simp] theorem State.emit_upd (x : Output) : (s.emit x).upd = s.upd := rfl
@[simp] theorem State.emit_arc (x : Output) : (s.emit x).arc = s.arc := rfl
@[simp] theorem State.emit_gns (x : Output) : (s.emit x).gns = s.gns := rfl
@[simp] theorem State.emit_fix (x : Output) : (s.emit x).fix = s.fix := rfl
@[simp] theorem State.emit_air (x : Output) : (s.emit x).air = s.air := rfl
@[simp] theorem State.emit_lnk (x : Output) : (s.emit x).lnk = s.lnk := rfl
@[simp] theorem State.emit_pas (x : Output) : (s.emit x).pas = s.pas := rfl
@[simp] theorem State.emit_tsk (x : Output) : (s.emit x).tsk = s.tsk := rfl
@[simp] theorem State.emit_crk (x : Output) : (s.emit x).crk = s.crk := rfl
@[simp] theorem State.emit_axs (x : Output) : (s.emit x).axs = s.axs := rfl
@[simp] theorem State.emit_eth (x : Output) : (s.emit x).eth = s.eth := rfl
@[simp] theorem State.emit_can (x : Output) : (s.emit x).can = s.can := rfl
@[simp] theorem State.emit_fld (x : Output) : (s.emit x).fld = s.fld := rfl
@[simp] theorem State.emit_pai (x : Output) : (s.emit x).pai = s.pai := rfl
@[simp] theorem State.emit_vit (x : Output) : (s.emit x).vit = s.vit := rfl
@[simp] theorem State.emit_cx (x : Output) : (s.emit x).cx = s.cx := rfl
@[simp] theorem State.emit_fac (x : Output) : (s.emit x).fac = s.fac := rfl

end Sys2Proof.Laws
end

