-- ==== Sys2Proof/Laws/Act.lean ====
section
/-! SUPPORT. What the passing of time, and the end of a command, can do. -/

namespace Sys2Proof.Laws

open Sys2Proof.Machine Sys2Proof.Safety

/-! ### Time passes -/

/-- The passing of time changes the model's clock, the last command's outputs, and the time unit, which is found here. -/
theorem advance_eq (dt : Nat) (s : State) : s.advance dt = { s with now := s.now + dt, out := [], clk := (s.advance dt).clk } := by
  unfold State.advance
  simp only
  split
  · split <;> rfl
  · rfl

section
variable (dt : Nat) (s : State)
@[simp] theorem advance_pending : (s.advance dt).pending = s.pending := by rw [advance_eq]
@[simp] theorem advance_now : (s.advance dt).now = s.now + dt := by rw [advance_eq]
@[simp] theorem advance_out : (s.advance dt).out = [] := by rw [advance_eq]
@[simp] theorem advance_free : (s.advance dt).free = s.free := by rw [advance_eq]
@[simp] theorem advance_sys : (s.advance dt).sys = s.sys := by rw [advance_eq]
@[simp] theorem advance_ses : (s.advance dt).ses = s.ses := by rw [advance_eq]
@[simp] theorem advance_cfg : (s.advance dt).cfg = s.cfg := by rw [advance_eq]
@[simp] theorem advance_mem : (s.advance dt).mem = s.mem := by rw [advance_eq]
@[simp] theorem advance_upd : (s.advance dt).upd = s.upd := by rw [advance_eq]
@[simp] theorem advance_arc : (s.advance dt).arc = s.arc := by rw [advance_eq]
@[simp] theorem advance_gns : (s.advance dt).gns = s.gns := by rw [advance_eq]
@[simp] theorem advance_fix : (s.advance dt).fix = s.fix := by rw [advance_eq]
@[simp] theorem advance_air : (s.advance dt).air = s.air := by rw [advance_eq]
@[simp] theorem advance_lnk : (s.advance dt).lnk = s.lnk := by rw [advance_eq]
@[simp] theorem advance_pas : (s.advance dt).pas = s.pas := by rw [advance_eq]
@[simp] theorem advance_tsk : (s.advance dt).tsk = s.tsk := by rw [advance_eq]
@[simp] theorem advance_crk : (s.advance dt).crk = s.crk := by rw [advance_eq]
@[simp] theorem advance_axs : (s.advance dt).axs = s.axs := by rw [advance_eq]
@[simp] theorem advance_eth : (s.advance dt).eth = s.eth := by rw [advance_eq]
@[simp] theorem advance_can : (s.advance dt).can = s.can := by rw [advance_eq]
@[simp] theorem advance_fld : (s.advance dt).fld = s.fld := by rw [advance_eq]
@[simp] theorem advance_pai : (s.advance dt).pai = s.pai := by rw [advance_eq]
@[simp] theorem advance_vit : (s.advance dt).vit = s.vit := by rw [advance_eq]
@[simp] theorem advance_cx : (s.advance dt).cx = s.cx := by rw [advance_eq]
@[simp] theorem advance_fac : (s.advance dt).fac = s.fac := by rw [advance_eq]
end

/-- With the controller die unpowered the count stands still (R65, R66). -/
theorem advance_clk_off {s : State} (h : s.sys.power ≠ .run) (dt : Nat) : (s.advance dt).clk = s.clk := by
  simp [State.advance, h]

/-- In Run without a slew the count follows the timebase (R172). -/
theorem advance_count {s : State} (h : s.sys.power = .run) (hs : s.clk.slewOn = false) (dt : Nat) :
    (s.advance dt).clk = { s.clk with count := s.clk.count + dt } := by
  simp [State.advance, h, hs]

/-- With no change of the stop state under way, a command meets what the passing of time leaves. -/
theorem before_eq_advance {s : State} (h : s.crk.due = []) (dt : Nat) : s.before dt = s.advance dt := by
  simp [State.before, State.stopsDue, h]

/-! ### A command's end -/

/-- What a command's effect is on the state that time has brought is all that counts. -/
theorem act_congr {dt : Nat} {f g : State → State} {s : State} (h : f (s.before dt) = g (s.before dt)) : s.act dt f = s.act dt g := by
  simp only [State.act, h]

section
variable (dt : Nat) (f : State → State) (s : State)
@[simp] theorem act_pending : (s.act dt f).pending = s.pending := rfl
@[simp] theorem act_now : (s.act dt f).now = s.now + dt := rfl
@[simp] theorem act_fac : (s.act dt f).fac = s.fac := rfl
end

/-- Powering-down's last step leaves a powered state as it is. -/
theorem unpowered_run {s : State} (h : s.sys.power = .run) : s.unpowered = s := by simp [State.unpowered, h]

/-- An unpowered state runs nothing and lets nothing wait (R65, R66). -/
theorem unpowered_inv (s : State) : Inv s.unpowered := by
  intro h
  unfold State.unpowered at h ⊢
  split
  · next hp => simp [hp] at h
  · simp

/-! ### Guards of the event rows -/

/-- A row of events acts where its effect is the one given. -/
theorem eventActs {row : Nat → Instr} {ok : State → Prop} {eff : State → State} (g : State → State)
    (hx : ∀ s dt, exec (row dt) s = .next (s.act dt g)) (h : ∀ u, ok u → g u = eff u) : EventActs row ok eff := by
  intro s dt ho
  rw [hx]
  exact congrArg _ (act_congr (h _ ho))

theorem native_of {f : State → State} {s : State} (h : s.sys.power = .run) (hc : s.sys.cx = false) (hf : s.sys.fw = .running) :
    s.native f = f s := by simp [State.native, h, hc, hf]

theorem nativeHw_of {f : State → State} {s : State} (h : s.sys.power = .run) (hc : s.sys.cx = false) : s.nativeHw f = f s := by
  simp [State.nativeHw, h, hc]

theorem inRun_of {f : State → State} {s : State} (h : s.sys.power = .run) (hf : s.sys.fw = .running) : s.inRun f = f s := by
  simp [State.inRun, h, hf]

theorem inCx_of {f : State → State} {s : State} (h : s.sys.power = .run) (hc : s.sys.cx = true) : s.inCx f = f s := by
  simp [State.inCx, h, hc]

end Sys2Proof.Laws
end

