-- ==== Sys2Proof/Laws/Host.lean ====
section
/-! SUPPORT. What a host packet that passes the checks of R78 does: its opcode's meaning runs on the session's state, and its answer
goes out. -/

namespace Sys2Proof.Laws

open Sys2Proof.Machine Sys2Proof.Safety

/-- Changing one session changes nothing but the table of sessions. -/
theorem mapSession_eq (n : Nat) (f : Session → Session) (s : State) :
    s.mapSession n f = { s with ses := { s.ses with sessions := (s.mapSession n f).ses.sessions } } := by
  unfold State.mapSession
  split <;> rfl

section
variable (n : Nat) (f : Session → Session) (s : State)
@[simp] theorem mapSession_pending : (s.mapSession n f).pending = s.pending := by rw [mapSession_eq]
@[simp] theorem mapSession_now : (s.mapSession n f).now = s.now := by rw [mapSession_eq]
@[simp] theorem mapSession_out : (s.mapSession n f).out = s.out := by rw [mapSession_eq]
@[simp] theorem mapSession_free : (s.mapSession n f).free = s.free := by rw [mapSession_eq]
@[simp] theorem mapSession_sys : (s.mapSession n f).sys = s.sys := by rw [mapSession_eq]
@[simp] theorem mapSession_cfg : (s.mapSession n f).cfg = s.cfg := by rw [mapSession_eq]
@[simp] theorem mapSession_clk : (s.mapSession n f).clk = s.clk := by rw [mapSession_eq]
@[simp] theorem mapSession_mem : (s.mapSession n f).mem = s.mem := by rw [mapSession_eq]
@[simp] theorem mapSession_upd : (s.mapSession n f).upd = s.upd := by rw [mapSession_eq]
@[simp] theorem mapSession_arc : (s.mapSession n f).arc = s.arc := by rw [mapSession_eq]
@[simp] theorem mapSession_gns : (s.mapSession n f).gns = s.gns := by rw [mapSession_eq]
@[simp] theorem mapSession_fix : (s.mapSession n f).fix = s.fix := by rw [mapSession_eq]
@[simp] theorem mapSession_air : (s.mapSession n f).air = s.air := by rw [mapSession_eq]
@[simp] theorem mapSession_lnk : (s.mapSession n f).lnk = s.lnk := by rw [mapSession_eq]
@[simp] theorem mapSession_pas : (s.mapSession n f).pas = s.pas := by rw [mapSession_eq]
@[simp] theorem mapSession_tsk : (s.mapSession n f).tsk = s.tsk := by rw [mapSession_eq]
@[simp] theorem mapSession_crk : (s.mapSession n f).crk = s.crk := by rw [mapSession_eq]
@[simp] theorem mapSession_axs : (s.mapSession n f).axs = s.axs := by rw [mapSession_eq]
@[simp] theorem mapSession_eth : (s.mapSession n f).eth = s.eth := by rw [mapSession_eq]
@[simp] theorem mapSession_can : (s.mapSession n f).can = s.can := by rw [mapSession_eq]
@[simp] theorem mapSession_fld : (s.mapSession n f).fld = s.fld := by rw [mapSession_eq]
@[simp] theorem mapSession_pai : (s.mapSession n f).pai = s.pai := by rw [mapSession_eq]
@[simp] theorem mapSession_vit : (s.mapSession n f).vit = s.vit := by rw [mapSession_eq]
@[simp] theorem mapSession_cx : (s.mapSession n f).cx = s.cx := by rw [mapSession_eq]
@[simp] theorem mapSession_fac : (s.mapSession n f).fac = s.fac := by rw [mapSession_eq]
end

theorem mapSession_ses (n : Nat) (f : Session → Session) (s : State) :
    (s.mapSession n f).ses.journal = s.ses.journal ∧ (s.mapSession n f).ses.journalFault = s.ses.journalFault ∧
      (s.mapSession n f).ses.spiOut = s.ses.spiOut ∧ (s.mapSession n f).ses.counts = s.ses.counts := by
  rw [mapSession_eq]; exact ⟨rfl, rfl, rfl, rfl⟩

@[simp] theorem heard_sys (op : Nat) (p : Pkt) (s : State) : (heard op p s).sys = s.sys := mapSession_sys ..
@[simp] theorem heardNumbered_sys (op : Nat) (p : Pkt) (s : State) : (heardNumbered op p s).sys = s.sys := by simp [heardNumbered]
@[simp] theorem heardNumbered_journal (op : Nat) (p : Pkt) (s : State) : (heardNumbered op p s).ses.journal = s.ses.journal := by
  simp only [heardNumbered, heard, (mapSession_ses _ _ _).1]

@[simp] theorem hear_agreed (op : Nat) (p : Pkt) (now : Nat) (x : Session) : (State.hear op p now x).agreed = x.agreed := rfl
@[simp] theorem hear_next (op : Nat) (p : Pkt) (now : Nat) (x : Session) : (State.hear op p now x).next = x.next := rfl

theorem far_of_direct {p : Pkt} (h : p.routed = false) : p.far = false := by
  unfold Pkt.far; split <;> first | rfl | exact h

@[simp] theorem hear_waiting (op : Nat) (p : Pkt) (now : Nat) (x : Session) : (State.hear op p now x).waiting = x.waiting := rfl

/-- What waits for an earlier effect is decided by the journal, the task store and the axes alone. -/
theorem blocked_heardNumbered (op n k : Nat) (b : Bytes) (p : Pkt) (s : State) :
    State.blocked holdsOp k b (heardNumbered op p s) n = State.blocked holdsOp k b s n := by
  simp only [State.blocked, State.boundaryDue, heardNumbered_journal]
  simp only [heardNumbered, heard, mapSession_tsk, mapSession_axs]

/-- The packet reaches the checks of its own session. -/
theorem hostPacket_ready {s : State} {spec : OpSpec} {p : Pkt} {x : Session} (h : HostReady s spec p x)
    (hop : opSpec? spec.code = some spec) (h1 : spec.code ≠ 1) (h2 : spec.code ≠ 2) :
    State.hostPacket 2 spec.code p s = (heard spec.code p s).receiveIn false holdsOp spec p (State.hear spec.code p s.now x) := by
  obtain ⟨hg, hmir, hsh⟩ := h.alone
  have hroom : ¬(p.via = .spi ∧ s.spiFull = true) := fun ⟨a, b⟩ => by simp [h.room a] at b
  have hshut : ¬(s.pairShut = true ∧ State.pairAnswers spec.code = false) := fun ⟨a, b⟩ => by simp [hsh a] at b
  simp only [State.hostPacket, h.hears, h.running, if_neg hshut, State.pairInput, hg, State.deliverOp, hroom, far_of_direct h.direct, State.judgeOp, hop,
    State.receiveOp, h1, h2, State.receive, h.head, State.flagCheck, h.flags, h.session.1, h.session.2, hmir]
  simp [heard]

theorem kind_ne {s : State} {spec : OpSpec} {p : Pkt} {x : Session} (h : HostReady s spec p x) :
    ¬(p.urgent = true ∧ spec.urgent = false) := fun ⟨a, b⟩ => by simp [h.urgent a] at b

/-- A control command, or an urgent one, runs at once and is answered. -/
theorem hostPacket_control {s : State} {spec : OpSpec} {p : Pkt} {x : Session} (h : HostReady s spec p x)
    (hop : opSpec? spec.code = some spec) (h1 : spec.code ≠ 1) (h2 : spec.code ≠ 2) (ho : Outside spec p) :
    State.hostPacket 2 spec.code p s =
      match spec.run (cmdOf spec p x) (heard spec.code p s) with
      | (t, .refuse a) => t.refusePkt spec.code p a
      | (t, .fin a) => answerControl spec p a t
      | (t, .later) => answerControl spec p (Ans.bare stOk 0) t
      | (t, .sent) => t := by
  rw [hostPacket_ready h hop h1 h2]
  have hk : (if p.urgent = true then OpKind.control else spec.kind) = .control := by
    rcases ho.1 with hu | hu <;> simp [hu]
  simp only [State.receiveIn, kind_ne h, heard_sys, h.running, hear_agreed, h.agreed, hk, ho.2, cmdOf, answerControl]
  simp only [if_false, ne_eq, not_true_eq_false, false_and, reduceCtorEq, beq_iff_eq]
  try rfl

/-- A numbered packet that its session expects reaches its opcode's kind. -/
theorem hostPacket_numbered {s : State} {spec : OpSpec} {p : Pkt} {x : Session} (h : HostReady s spec p x)
    (hop : opSpec? spec.code = some spec) (h1 : spec.code ≠ 1) (h2 : spec.code ≠ 2) (he : Expected s spec.code p x) (hk : spec.kind ≠ .control) :
    State.hostPacket 2 spec.code p s =
      (heardNumbered spec.code p s).judgeNumbered false spec p (cmdOf spec p x) (State.hear spec.code p s.now x) := by
  rw [hostPacket_ready h hop h1 h2]
  simp only [State.receiveIn, heard_sys, h.running, hear_agreed, h.agreed, h.whole, he.plain]
  cases hkk : spec.kind
  all_goals first
    | exact absurd hkk hk
    | (have hf := (blocked_heardNumbered spec.code p.sess spec.code p.body p s).trans he.free
       simp only [heardNumbered, heard] at hf ⊢
       simp [State.mustWait, hf, he.first, cmdOf])

theorem accSteps_self (n : Nat) : accSteps n n = 0 := by
  unfold accSteps; omega

/-- A query runs and is answered. -/
theorem hostPacket_query {s : State} {spec : OpSpec} {p : Pkt} {x : Session} (h : HostReady s spec p x)
    (hop : opSpec? spec.code = some spec) (h1 : spec.code ≠ 1) (h2 : spec.code ≠ 2) (he : Expected s spec.code p x) (hk : spec.kind = .query) :
    State.hostPacket 2 spec.code p s =
      match spec.run (cmdOf spec p x) (heardNumbered spec.code p s) with
      | (t, .refuse a) => t.refusePkt spec.code p a
      | (t, .fin a) => answerQuery spec p a t
      | (t, _) => t.mapSession p.sess (fun x => { x with next := succAcc p.acc }) := by
  rw [hostPacket_numbered h hop h1 h2 he (by simp [hk])]
  have hn := he.number
  simp only [State.judgeNumbered, hear_next, hn.1, hk, accSteps_self, answerQuery]
  have h0 : x.next ≠ 0 := hn.1 ▸ hn.2
  simp only [h0, ne_eq, not_true_eq_false, if_false, false_or, Nat.le_zero_eq, false_and, one_ne_zero]
  all_goals
    rcases spec.run (cmdOf spec p x) (heardNumbered spec.code p s) with ⟨t, r⟩
    cases r <;> rfl

/-- A work command with credit is accepted, runs, and is answered. -/
theorem hostPacket_work {s : State} {spec : OpSpec} {p : Pkt} {x : Session} (h : HostReady s spec p x)
    (hop : opSpec? spec.code = some spec) (h1 : spec.code ≠ 1) (h2 : spec.code ≠ 2) (he : Expected s spec.code p x) (hk : spec.kind = .work)
    (hc : Credit s spec p) :
    State.hostPacket 2 spec.code p s =
      match spec.run (cmdOf spec p x) (heardNumbered spec.code p s) with
      | (t, .refuse a) => t.refusePkt spec.code p a
      | (t, .fin a) => answerWork spec p x (some a) t
      | (t, _) => answerWork spec p x none t := by
  rw [hostPacket_numbered h hop h1 h2 he (by simp [hk])]
  have hn := he.number
  have hj : (heardNumbered spec.code p s).ses.journalFault = false := by
    simp only [heardNumbered, heard, (mapSession_ses _ _ _).2.1]; exact hc.1
  have hcr := hc.2
  have hd : ¬(p.acc = 0 ∨ 1 ≤ 0 ∧ 0 ≤ 0x7FFFFFFF) := by simp [hn.2]
  have hz : accSteps x.next p.acc = 0 := by rw [hn.1, accSteps_self]
  have hrom : ((heardNumbered spec.code p s).sys.fw == Fw.recovery) = false := by rw [heardNumbered_sys, h.running]; rfl
  simp only [State.judgeNumbered, hear_next, hz, hk, hrom, hj, if_neg hd, if_false, ne_eq, not_true_eq_false, false_and, Bool.false_eq_true]
  rw [show (cmdOf spec p x).params.length = p.body.length from rfl, hcr]
  rcases spec.run (cmdOf spec p x) (heardNumbered spec.code p s) with ⟨t, r⟩
  cases r <;> rfl

/-! ### Completion -/

section
variable {row : Nat → Pkt → Instr} {spec : OpSpec} {ok : Cmd → State → Prop}

/-- A query completes where its meaning ends with an answer. -/
theorem queryCompletes {res : Cmd → State → State × Ans} (hop : opSpec? spec.code = some spec) (h1 : spec.code ≠ 1) (h2 : spec.code ≠ 2)
    (hk : spec.kind = .query) (hx : ∀ dt p s, exec (row dt p) s = .next (s.act dt (State.hostPacket 2 spec.code p)))
    (hr : ∀ c s, ok c s → spec.run c s = ((res c s).1, .fin (res c s).2)) : QueryCompletes row spec ok res := by
  intro s dt p x h he ho
  rw [hx]
  refine congrArg _ (act_congr ?_)
  rw [hostPacket_query h hop h1 h2 he hk, hr _ _ ho]

/-- A work command completes where its meaning ends with an answer, or is taken for later. -/
theorem workCompletes {res : Cmd → State → State × Option Ans} (hop : opSpec? spec.code = some spec) (h1 : spec.code ≠ 1)
    (h2 : spec.code ≠ 2) (hk : spec.kind = .work)
    (hx : ∀ dt p s, exec (row dt p) s = .next (s.act dt (State.hostPacket 2 spec.code p)))
    (hr : ∀ c s, c.replay = false → ok c s → spec.run c s = ((res c s).1, match (res c s).2 with | some a => .fin a | none => .later)) :
    WorkCompletes row spec ok res := by
  intro s dt p x h he hc ho
  rw [hx]
  refine congrArg _ (act_congr ?_)
  rw [hostPacket_work h hop h1 h2 he hk hc, hr _ _ rfl ho]
  rcases (res _ _).2 with _ | a <;> rfl

/-- A control command completes where its meaning ends with an answer, or is done later: then it is answered OK at once. -/
theorem controlCompletes {res : Cmd → State → State × Ans} (hop : opSpec? spec.code = some spec) (h1 : spec.code ≠ 1) (h2 : spec.code ≠ 2)
    (hx : ∀ dt p s, exec (row dt p) s = .next (s.act dt (State.hostPacket 2 spec.code p)))
    (hr : ∀ c s, c.replay = false → ok c s → spec.run c s = ((res c s).1, .fin (res c s).2) ∨
      spec.run c s = ((res c s).1, .later) ∧ (res c s).2 = Ans.bare stOk 0) : ControlCompletes row spec ok res := by
  intro s dt p x h ho hk
  rw [hx]
  refine congrArg _ (act_congr ?_)
  rw [hostPacket_control h hop h1 h2 ho]
  rcases hr _ _ rfl hk with e | ⟨e, ea⟩
  · rw [e]
  · rw [e, ea]

end

end Sys2Proof.Laws
end

