-- ==== Sys2Proof/Laws/PerInstr.lean ====
section
/-! SUPPORT. The family `Units`: a well-formed command names only units that the K9 has (R3, R604). One lemma per command. -/

namespace Sys2Proof.Laws.Units

open Sys2Proof

/-- The units a command names, each with how many the K9 has. -/
def unitsOf : Instr → List (Nat × Nat)
  | .powerOn _ _ => []
  | .externalReset _ _ => []
  | .vinFall _ => []
  | .vbatLoss _ => []
  | .resetExecute _ _ => []
  | .standbyEntry _ => []
  | .wakePattern _ port _ _ _ => [(port, 3)]
  | .standbySnapshot _ _ => []
  | .tickBoundary _ _ => []
  | .windowOverrun _ _ => []
  | .superframeBoundary _ => []
  | .slotStart _ _ => []
  | .tickLengthChange _ => []
  | .tickRealign _ => []
  | .domainTakesEffect _ dom => [(dom, 19)]
  | .watchdog _ core => [(core, 8)]
  | .watchdogHwReset _ _ => []
  | .sessionExpiry _ _ => []
  | .fragmentTimeout _ => []
  | .badPacket _ _ _ => []
  | .fragment _ _ _ => []
  | .spiRead _ _ => []
  | .sessionOpen _ _ => []
  | .sessionResume _ _ => []
  | .sessionClose _ _ => []
  | .barrier _ _ => []
  | .completionAck _ _ => []
  | .completionRead _ _ => []
  | .ordersWrite _ _ => []
  | .ordersRead _ _ => []
  | .faultAck _ _ => []
  | .resmapRead _ _ => []
  | .eventRead _ _ => []
  | .sysCaptureRead _ _ => []
  | .budgetRead _ _ => []
  | .budgetProbe _ _ => []
  | .sysReset _ _ => []
  | .powerStandby _ _ => []
  | .prmGet _ _ => []
  | .prmSet _ _ => []
  | .commit _ _ => []
  | .discard _ _ => []
  | .echo _ _ => []
  | .countersRead _ _ => []
  | .countersClear _ _ => []
  | .coreCaptureRead _ _ => []
  | .diaEthCapture _ _ => []
  | .ethCaptureEnd _ => []
  | .diaCaptureRead _ _ => []
  | .diaRfTest _ _ => []
  | .rfTestEnd _ _ _ _ _ _ => []
  | .captureEdge _ ch _ => [(ch, 4)]
  | .compareEdge _ ch _ => [(ch, 4)]
  | .gnsStatusRead _ _ => []
  | .gnsMeasRead _ _ => []
  | .gnsExclude _ _ => []
  | .gnsReadmit _ _ => []
  | .gnsSnapStart _ _ => []
  | .snapshotCapture _ _ => []
  | .gnsSnapRead _ _ => []
  | .gnsSnapSolve _ _ => []
  | .snapshotSolveDone _ _ _ _ _ _ _ => []
  | .gnsSurveyStart _ _ => []
  | .surveyEnd _ _ _ => []
  | .gnsBaselineMeasure _ _ => []
  | .baselineMeasureDone _ _ _ _ _ _ _ => []
  | .channelAllocation _ _ => []
  | .antOpen _ ant => [(ant, 2)]
  | .antShort _ ant => [(ant, 2)]
  | .fixRead _ _ => []
  | .fixModeSet _ _ => []
  | .modeChangeInstant _ => []
  | .fixStateRead _ _ => []
  | .fixFilterReset _ _ => []
  | .clkTimeRead _ _ => []
  | .clkTimeSet _ _ => []
  | .holdoverExpiry _ => []
  | .timeFreerun _ => []
  | .timeOffset _ => []
  | .timeStep _ => []
  | .slewComplete _ => []
  | .leapSecond _ => []
  | .refinLost _ => []
  | .refinRetaken _ => []
  | .ppsPulse _ => []
  | .ppsOkMidpoint _ => []
  | .calendarTrim _ => []
  | .airChainRead _ _ => []
  | .airMapRead _ _ => []
  | .chainFault _ c _ => [(c, 4)]
  | .airRobotAdd _ _ => []
  | .airRobotRemove _ _ => []
  | .robotReleased _ r => [(r, 256)]
  | .airLinkRead _ _ => []
  | .joinRequest _ _ => []
  | .uplinkFrame _ _ => []
  | .corFrame _ _ => []
  | .corMissed _ r => [(r, 256)]
  | .spr _ r _ => [(r, 256)]
  | .resume _ r _ => [(r, 256)]
  | .sleepReq _ r _ => [(r, 256)]
  | .leave _ r _ => [(r, 256)]
  | .segReq _ r _ => [(r, 256)]
  | .release _ r _ => [(r, 256)]
  | .taskDone _ r _ => [(r, 256)]
  | .taskState _ r _ => [(r, 256)]
  | .stopState _ r _ => [(r, 256)]
  | .parcelRetx _ r => [(r, 256)]
  | .robotLost _ r => [(r, 256)]
  | .wakeMissed _ r => [(r, 256)]
  | .counterExhausted _ _ => []
  | .pasNodesWrite _ _ => []
  | .pasLanesWrite _ _ => []
  | .pasPaddockWrite _ _ => []
  | .pasHurdlePlace _ _ => []
  | .pasHurdleRemove _ _ => []
  | .pasMove _ _ => []
  | .pasResvRead _ _ => []
  | .pasStateRead _ _ => []
  | .pasResvClear _ _ => []
  | .overstay _ => []
  | .borderVoteTimeout _ => []
  | .preparedEntryExpiry _ => []
  | .noEvidence _ r => [(r, 256)]
  | .prfStateRead _ _ => []
  | .prfPfSet _ _ => []
  | .prfTrackRead _ _ => []
  | .tskSubmit _ _ => []
  | .tskCancel _ _ => []
  | .tskResultRead _ _ => []
  | .tskResultAck _ _ => []
  | .tskStateRead _ _ => []
  | .tskRead _ _ => []
  | .droverJobEnd _ _ => []
  | .crkStop _ _ => []
  | .crkRelease _ _ => []
  | .crkStateRead _ _ => []
  | .crkRobotRead _ _ => []
  | .loopOpen _ low => [(low.ch, 2)]
  | .loopClose _ _ _ => []
  | .loopDiscrepancy _ => []
  | .stopFrameSend _ c _ => [(c, 4)]
  | .stopUnconfirmed _ r => [(r, 256)]
  | .axsMove _ _ => []
  | .axsHalt _ _ => []
  | .axsHome _ _ => []
  | .axsSetPos _ _ => []
  | .axsStateRead _ _ => []
  | .axisPwmPeriod _ n _ _ => [(n, 4)]
  | .axisMoveDone _ n => [(n, 4)]
  | .axisStopRamp _ => []
  | .axisStall _ n _ => [(n, 4)]
  | .axisRefEdge _ n _ _ => [(n, 4)]
  | .encIndexEdge _ n => [(n, 4)]
  | .encError _ n _ => [(n, 4)]
  | .ethPortRead _ _ => []
  | .ethProbe _ _ => []
  | .ethFrameReceived _ port _ _ => [(port, 3)]
  | .arpRequest _ _ _ _ => []
  | .icmpEcho _ _ _ _ => []
  | .ipReassemblyTimeout _ => []
  | .phyPoll _ _ => []
  | .linkChanged _ port _ => [(port, 3)]
  | .excessCollisions _ port => [(port, 3)]
  | .plcaLost _ port _ => [(port, 3)]
  | .ptpSync _ port _ _ _ => [(port, 3)]
  | .ptpAnnounceTimeout _ _ => []
  | .ptpMasterSync _ port => [(port, 3)]
  | .ptpDelayReq _ port _ _ => [(port, 3)]
  | .canTx _ _ => []
  | .canTxAbort _ _ => []
  | .canMbRead _ _ => []
  | .canStateRead _ _ => []
  | .canRecover _ _ => []
  | .canSerialTx _ _ => []
  | .serialTxDone _ => []
  | .serialPacketEnd _ _ _ _ => []
  | .canFrameReceived _ port _ _ _ => [(port, 2)]
  | .canAttemptEnd _ port _ _ => [(port, 2)]
  | .canBusOff _ port => [(port, 2)]
  | .canBusOn _ port _ => [(port, 2)]
  | .canLockTimeout _ => []
  | .queRead _ _ => []
  | .queRelease _ _ => []
  | .queStateRead _ _ => []
  | .memStateRead _ _ => []
  | .memUncorrectable _ b _ _ => [(b, 48)]
  | .bankCopyDone _ => []
  | .scrubPassEnd _ _ _ => []
  | .mramScrub _ _ _ => []
  | .fldStateRead _ _ => []
  | .fldMemberAdd _ _ => []
  | .fldMemberRemove _ _ => []
  | .fldMembersRead _ _ => []
  | .join _ _ => []
  | .joinAnswer _ _ => []
  | .heartbeat _ _ => []
  | .hbAnswer _ _ => []
  | .foldPeriodicSend _ => []
  | .memberAbsent _ _ _ => []
  | .foldLost _ => []
  | .routed _ _ => []
  | .stop _ _ => []
  | .stopAck _ _ => []
  | .stopSet _ _ => []
  | .releaseReq _ dev _ => [(dev, 64)]
  | .foldRelease _ dev _ => [(dev, 64)]
  | .releaseAck _ dev _ => [(dev, 64)]
  | .prepare _ dev _ => [(dev, 64)]
  | .vote _ dev _ => [(dev, 64)]
  | .decide _ dev _ => [(dev, 64)]
  | .resumeNote _ dev _ => [(dev, 64)]
  | .noteAck _ dev _ => [(dev, 64)]
  | .taskReport _ dev _ => [(dev, 64)]
  | .reportAck _ dev _ => [(dev, 64)]
  | .borderDigest _ dev _ => [(dev, 64)]
  | .relay _ _ => []
  | .foldPartTimeout _ => []
  | .paiStateRead _ _ => []
  | .paiResync _ _ => []
  | .paiRoleSet _ _ => []
  | .paiYield _ _ => []
  | .pairTick _ _ => []
  | .pairStop _ _ _ _ _ => []
  | .yield _ _ => []
  | .item _ _ => []
  | .merge _ _ => []
  | .journalConf _ _ _ => []
  | .digest _ _ _ _ _ => []
  | .mismatchTestDone _ _ => []
  | .syncReq _ _ _ _ _ => []
  | .syncAnswer _ _ => []
  | .pairStateFrame _ _ => []
  | .pairLinkTrained _ _ _ => []
  | .pairLaneDown _ lane => [(lane, 2)]
  | .pairLinkLost _ => []
  | .partnerSilent _ => []
  | .partnerAbsent _ => []
  | .resyncTimeout _ => []
  | .itemDiscard _ => []
  | .vitKeyLoad _ _ => []
  | .vitKeyErase _ _ => []
  | .vitSlotRead _ _ => []
  | .vitAttest _ _ => []
  | .vitCertRead _ _ => []
  | .vitStateRead _ _ => []
  | .vitTamperClear _ _ => []
  | .tamperAlarm _ _ _ => []
  | .keyRemask _ => []
  | .rngFault _ => []
  | .updOpen _ _ => []
  | .updBegin _ _ => []
  | .bankEraseDone _ _ => []
  | .updWrite _ _ => []
  | .updVerify _ _ => []
  | .updActivate _ _ => []
  | .handoverPause _ _ _ _ => []
  | .handoverFail _ _ _ _ => []
  | .updConfirm _ _ => []
  | .updClose _ _ => []
  | .updStateRead _ _ => []
  | .updIdleTimeout _ => []
  | .trialUnconfirmed _ => []
  | .arcRead _ _ => []
  | .arcStateRead _ _ => []
  | .archiveIntervalEnd _ => []
  | .cxBadFrame _ => []
  | .ping _ _ _ => []
  | .getVersion _ _ _ => []
  | .reset _ _ _ => []
  | .getStatus _ _ _ => []
  | .getTime _ _ _ => []
  | .setBasePos _ _ _ => []
  | .getBasePos _ _ _ => []
  | .startSurvey _ _ _ => []
  | .getSurvey _ _ _ => []
  | .setElevMask _ _ _ => []
  | .getSatInfo _ _ _ => []
  | .setRtcm _ _ _ => []
  | .readRtcm _ _ _ => []
  | .setRadio _ _ _ => []
  | .getRadio _ _ _ => []
  | .addRobot _ _ _ => []
  | .removeRobot _ _ _ => []
  | .listRobots _ _ _ => []
  | .getRobot _ _ _ => []
  | .sendTask _ _ _ => []
  | .cancelTask _ _ _ => []
  | .getTask _ _ _ => []
  | .sendMsg _ _ _ => []
  | .readMsg _ _ _ => []
  | .stopAll _ _ _ => []
  | .releaseStop _ _ _ => []
  | .stopRobot _ _ _ => []
  | .getStop _ _ _ => []
  | .setCan _ _ _ => []
  | .canSend _ _ _ => []
  | .canRead _ _ _ => []
  | .setNetkey _ _ _ => []
  | .setAnt _ _ _ => []
  | .getEvent _ _ _ => []
  | .saveConfig _ _ _ => []
  | .loadDefaults _ _ _ => []
  | .getCounters _ _ _ => []
  | .k9Info _ _ _ => []
  | .cxTick _ => []
  | .cxJoinRequest _ _ => []
  | .cxPositionReport _ _ => []
  | .cxMessageFrame _ _ => []
  | .cxStatusFrame _ _ => []
  | .cxRobotLost _ _ => []
  | .cxStopLine _ _ => []
  | .legacyCorrDropped _ r => [(r, 256)]
  | .badOpcode _ _ _ _ => []
  | .cxUnknownOpcode _ _ _ _ => []
  | .ethFrameSent _ port => [(port, 3)]
  | .consoleLineSent _ => []
  | .eventOutputFall _ => []
  | .followUpTimeout _ => []

/-- Every unit that a well-formed command names exists. -/
def Statement (i : Instr) : Prop := wellFormed i = true → ∀ u ∈ unitsOf i, u.1 < u.2

theorem none_of {i : Instr} (h : unitsOf i = []) : Statement i := by
  intro _ u hu
  rw [h] at hu
  cases hu

theorem one_of {i : Instr} {a n : Nat} (h : unitsOf i = [(a, n)]) (hw : wellFormed i = true → a < n) : Statement i := by
  intro w u hu
  rw [h] at hu
  cases List.mem_singleton.1 hu
  exact hw w

theorem powerOn (a0 : Nat) (a1 : BootObs) : Statement (.powerOn a0 a1) := none_of rfl

theorem externalReset (a0 : Nat) (a1 : BootObs) : Statement (.externalReset a0 a1) := none_of rfl

theorem vinFall (a0 : Nat) : Statement (.vinFall a0) := none_of rfl

theorem vbatLoss (a0 : Nat) : Statement (.vbatLoss a0) := none_of rfl

theorem resetExecute (a0 : Nat) (a1 : BootObs) : Statement (.resetExecute a0 a1) := none_of rfl

theorem standbyEntry (a0 : Nat) : Statement (.standbyEntry a0) := none_of rfl

theorem wakePattern (a0 : Nat) (a1 : Nat) (a2 : Bytes) (a3 : Bool) (a4 : BootObs) : Statement (.wakePattern a0 a1 a2 a3 a4) := one_of rfl fun h => of_decide_eq_true (Bool.and_eq_true_iff.1 h).1

theorem standbySnapshot (a0 : Nat) (a1 : Option (Nat × Nat)) : Statement (.standbySnapshot a0 a1) := none_of rfl

theorem tickBoundary (a0 : Nat) (a1 : TickObs) : Statement (.tickBoundary a0 a1) := none_of rfl

theorem windowOverrun (a0 : Nat) (a1 : Nat) : Statement (.windowOverrun a0 a1) := none_of rfl

theorem superframeBoundary (a0 : Nat) : Statement (.superframeBoundary a0) := none_of rfl

theorem slotStart (a0 : Nat) (a1 : List Int) : Statement (.slotStart a0 a1) := none_of rfl

theorem tickLengthChange (a0 : Nat) : Statement (.tickLengthChange a0) := none_of rfl

theorem tickRealign (a0 : Nat) : Statement (.tickRealign a0) := none_of rfl

theorem domainTakesEffect (a0 : Nat) (a1 : Nat) : Statement (.domainTakesEffect a0 a1) := one_of rfl fun h => of_decide_eq_true h

theorem watchdog (a0 : Nat) (a1 : Nat) : Statement (.watchdog a0 a1) := one_of rfl fun h => of_decide_eq_true h

theorem watchdogHwReset (a0 : Nat) (a1 : BootObs) : Statement (.watchdogHwReset a0 a1) := none_of rfl

theorem sessionExpiry (a0 : Nat) (a1 : Nat) : Statement (.sessionExpiry a0 a1) := none_of rfl

theorem fragmentTimeout (a0 : Nat) : Statement (.fragmentTimeout a0) := none_of rfl

theorem badPacket (a0 : Nat) (a1 : Via) (a2 : Nat) : Statement (.badPacket a0 a1 a2) := none_of rfl

theorem fragment (a0 : Nat) (a1 : Nat) (a2 : Pkt) : Statement (.fragment a0 a1 a2) := none_of rfl

theorem spiRead (a0 : Nat) (a1 : Bool) : Statement (.spiRead a0 a1) := none_of rfl

theorem sessionOpen (a0 : Nat) (a1 : Pkt) : Statement (.sessionOpen a0 a1) := none_of rfl

theorem sessionResume (a0 : Nat) (a1 : Pkt) : Statement (.sessionResume a0 a1) := none_of rfl

theorem sessionClose (a0 : Nat) (a1 : Pkt) : Statement (.sessionClose a0 a1) := none_of rfl

theorem barrier (a0 : Nat) (a1 : Pkt) : Statement (.barrier a0 a1) := none_of rfl

theorem completionAck (a0 : Nat) (a1 : Pkt) : Statement (.completionAck a0 a1) := none_of rfl

theorem completionRead (a0 : Nat) (a1 : Pkt) : Statement (.completionRead a0 a1) := none_of rfl

theorem ordersWrite (a0 : Nat) (a1 : Pkt) : Statement (.ordersWrite a0 a1) := none_of rfl

theorem ordersRead (a0 : Nat) (a1 : Pkt) : Statement (.ordersRead a0 a1) := none_of rfl

theorem faultAck (a0 : Nat) (a1 : Pkt) : Statement (.faultAck a0 a1) := none_of rfl

theorem resmapRead (a0 : Nat) (a1 : Pkt) : Statement (.resmapRead a0 a1) := none_of rfl

theorem eventRead (a0 : Nat) (a1 : Pkt) : Statement (.eventRead a0 a1) := none_of rfl

theorem sysCaptureRead (a0 : Nat) (a1 : Pkt) : Statement (.sysCaptureRead a0 a1) := none_of rfl

theorem budgetRead (a0 : Nat) (a1 : Pkt) : Statement (.budgetRead a0 a1) := none_of rfl

theorem budgetProbe (a0 : Nat) (a1 : Pkt) : Statement (.budgetProbe a0 a1) := none_of rfl

theorem sysReset (a0 : Nat) (a1 : Pkt) : Statement (.sysReset a0 a1) := none_of rfl

theorem powerStandby (a0 : Nat) (a1 : Pkt) : Statement (.powerStandby a0 a1) := none_of rfl

theorem prmGet (a0 : Nat) (a1 : Pkt) : Statement (.prmGet a0 a1) := none_of rfl

theorem prmSet (a0 : Nat) (a1 : Pkt) : Statement (.prmSet a0 a1) := none_of rfl

theorem commit (a0 : Nat) (a1 : Pkt) : Statement (.commit a0 a1) := none_of rfl

theorem discard (a0 : Nat) (a1 : Pkt) : Statement (.discard a0 a1) := none_of rfl

theorem echo (a0 : Nat) (a1 : Pkt) : Statement (.echo a0 a1) := none_of rfl

theorem countersRead (a0 : Nat) (a1 : Pkt) : Statement (.countersRead a0 a1) := none_of rfl

theorem countersClear (a0 : Nat) (a1 : Pkt) : Statement (.countersClear a0 a1) := none_of rfl

theorem coreCaptureRead (a0 : Nat) (a1 : Pkt) : Statement (.coreCaptureRead a0 a1) := none_of rfl

theorem diaEthCapture (a0 : Nat) (a1 : Pkt) : Statement (.diaEthCapture a0 a1) := none_of rfl

theorem ethCaptureEnd (a0 : Nat) : Statement (.ethCaptureEnd a0) := none_of rfl

theorem diaCaptureRead (a0 : Nat) (a1 : Pkt) : Statement (.diaCaptureRead a0 a1) := none_of rfl

theorem diaRfTest (a0 : Nat) (a1 : Pkt) : Statement (.diaRfTest a0 a1) := none_of rfl

theorem rfTestEnd (a0 : Nat) (a1 : Bool) (a2 : Int) (a3 : Int) (a4 : Nat) (a5 : Nat) : Statement (.rfTestEnd a0 a1 a2 a3 a4 a5) := none_of rfl

theorem captureEdge (a0 : Nat) (a1 : Nat) (a2 : Bool) : Statement (.captureEdge a0 a1 a2) := one_of rfl fun h => of_decide_eq_true h

theorem compareEdge (a0 : Nat) (a1 : Nat) (a2 : Bool) : Statement (.compareEdge a0 a1 a2) := one_of rfl fun h => of_decide_eq_true h

theorem gnsStatusRead (a0 : Nat) (a1 : Pkt) : Statement (.gnsStatusRead a0 a1) := none_of rfl

theorem gnsMeasRead (a0 : Nat) (a1 : Pkt) : Statement (.gnsMeasRead a0 a1) := none_of rfl

theorem gnsExclude (a0 : Nat) (a1 : Pkt) : Statement (.gnsExclude a0 a1) := none_of rfl

theorem gnsReadmit (a0 : Nat) (a1 : Pkt) : Statement (.gnsReadmit a0 a1) := none_of rfl

theorem gnsSnapStart (a0 : Nat) (a1 : Pkt) : Statement (.gnsSnapStart a0 a1) := none_of rfl

theorem snapshotCapture (a0 : Nat) (a1 : List (Nat × Byte)) : Statement (.snapshotCapture a0 a1) := none_of rfl

theorem gnsSnapRead (a0 : Nat) (a1 : Pkt) : Statement (.gnsSnapRead a0 a1) := none_of rfl

theorem gnsSnapSolve (a0 : Nat) (a1 : Pkt) : Statement (.gnsSnapSolve a0 a1) := none_of rfl

theorem snapshotSolveDone (a0 : Nat) (a1 : Nat) (a2 : Nat) (a3 : Nat) (a4 : Int × Int × Int) (a5 : Nat) (a6 : Nat) : Statement (.snapshotSolveDone a0 a1 a2 a3 a4 a5 a6) := none_of rfl

theorem gnsSurveyStart (a0 : Nat) (a1 : Pkt) : Statement (.gnsSurveyStart a0 a1) := none_of rfl

theorem surveyEnd (a0 : Nat) (a1 : Int × Int × Int) (a2 : Nat) : Statement (.surveyEnd a0 a1 a2) := none_of rfl

theorem gnsBaselineMeasure (a0 : Nat) (a1 : Pkt) : Statement (.gnsBaselineMeasure a0 a1) := none_of rfl

theorem baselineMeasureDone (a0 : Nat) (a1 : Int) (a2 : Int) (a3 : Int) (a4 : Nat) (a5 : Int) (a6 : Int) : Statement (.baselineMeasureDone a0 a1 a2 a3 a4 a5 a6) := none_of rfl

theorem channelAllocation (a0 : Nat) (a1 : List Cand) : Statement (.channelAllocation a0 a1) := none_of rfl

theorem antOpen (a0 : Nat) (a1 : Nat) : Statement (.antOpen a0 a1) := one_of rfl fun h => of_decide_eq_true h

theorem antShort (a0 : Nat) (a1 : Nat) : Statement (.antShort a0 a1) := one_of rfl fun h => of_decide_eq_true h

theorem fixRead (a0 : Nat) (a1 : Pkt) : Statement (.fixRead a0 a1) := none_of rfl

theorem fixModeSet (a0 : Nat) (a1 : Pkt) : Statement (.fixModeSet a0 a1) := none_of rfl

theorem modeChangeInstant (a0 : Nat) : Statement (.modeChangeInstant a0) := none_of rfl

theorem fixStateRead (a0 : Nat) (a1 : Pkt) : Statement (.fixStateRead a0 a1) := none_of rfl

theorem fixFilterReset (a0 : Nat) (a1 : Pkt) : Statement (.fixFilterReset a0 a1) := none_of rfl

theorem clkTimeRead (a0 : Nat) (a1 : Pkt) : Statement (.clkTimeRead a0 a1) := none_of rfl

theorem clkTimeSet (a0 : Nat) (a1 : Pkt) : Statement (.clkTimeSet a0 a1) := none_of rfl

theorem holdoverExpiry (a0 : Nat) : Statement (.holdoverExpiry a0) := none_of rfl

theorem timeFreerun (a0 : Nat) : Statement (.timeFreerun a0) := none_of rfl

theorem timeOffset (a0 : Nat) : Statement (.timeOffset a0) := none_of rfl

theorem timeStep (a0 : Nat) : Statement (.timeStep a0) := none_of rfl

theorem slewComplete (a0 : Nat) : Statement (.slewComplete a0) := none_of rfl

theorem leapSecond (a0 : Nat) : Statement (.leapSecond a0) := none_of rfl

theorem refinLost (a0 : Nat) : Statement (.refinLost a0) := none_of rfl

theorem refinRetaken (a0 : Nat) : Statement (.refinRetaken a0) := none_of rfl

theorem ppsPulse (a0 : Nat) : Statement (.ppsPulse a0) := none_of rfl

theorem ppsOkMidpoint (a0 : Nat) : Statement (.ppsOkMidpoint a0) := none_of rfl

theorem calendarTrim (a0 : Nat) : Statement (.calendarTrim a0) := none_of rfl

theorem airChainRead (a0 : Nat) (a1 : Pkt) : Statement (.airChainRead a0 a1) := none_of rfl

theorem airMapRead (a0 : Nat) (a1 : Pkt) : Statement (.airMapRead a0 a1) := none_of rfl

theorem chainFault (a0 : Nat) (a1 : Nat) (a2 : Nat) : Statement (.chainFault a0 a1 a2) := one_of rfl fun h => of_decide_eq_true (Bool.and_eq_true_iff.1 h).1

theorem airRobotAdd (a0 : Nat) (a1 : Pkt) : Statement (.airRobotAdd a0 a1) := none_of rfl

theorem airRobotRemove (a0 : Nat) (a1 : Pkt) : Statement (.airRobotRemove a0 a1) := none_of rfl

theorem robotReleased (a0 : Nat) (a1 : Nat) : Statement (.robotReleased a0 a1) := one_of rfl fun h => of_decide_eq_true h

theorem airLinkRead (a0 : Nat) (a1 : Pkt) : Statement (.airLinkRead a0 a1) := none_of rfl

theorem joinRequest (a0 : Nat) (a1 : AirRx) : Statement (.joinRequest a0 a1) := none_of rfl

theorem uplinkFrame (a0 : Nat) (a1 : AirRx) : Statement (.uplinkFrame a0 a1) := none_of rfl

theorem corFrame (a0 : Nat) (a1 : AirRx) : Statement (.corFrame a0 a1) := none_of rfl

theorem corMissed (a0 : Nat) (a1 : Nat) : Statement (.corMissed a0 a1) := one_of rfl fun h => of_decide_eq_true h

theorem spr (a0 : Nat) (a1 : Nat) (a2 : Bytes) : Statement (.spr a0 a1 a2) := one_of rfl fun h => of_decide_eq_true h

theorem resume (a0 : Nat) (a1 : Nat) (a2 : Bytes) : Statement (.resume a0 a1 a2) := one_of rfl fun h => of_decide_eq_true h

theorem sleepReq (a0 : Nat) (a1 : Nat) (a2 : Bytes) : Statement (.sleepReq a0 a1 a2) := one_of rfl fun h => of_decide_eq_true h

theorem leave (a0 : Nat) (a1 : Nat) (a2 : Bytes) : Statement (.leave a0 a1 a2) := one_of rfl fun h => of_decide_eq_true h

theorem segReq (a0 : Nat) (a1 : Nat) (a2 : Bytes) : Statement (.segReq a0 a1 a2) := one_of rfl fun h => of_decide_eq_true h

theorem release (a0 : Nat) (a1 : Nat) (a2 : Bytes) : Statement (.release a0 a1 a2) := one_of rfl fun h => of_decide_eq_true h

theorem taskDone (a0 : Nat) (a1 : Nat) (a2 : Bytes) : Statement (.taskDone a0 a1 a2) := one_of rfl fun h => of_decide_eq_true h

theorem taskState (a0 : Nat) (a1 : Nat) (a2 : Bytes) : Statement (.taskState a0 a1 a2) := one_of rfl fun h => of_decide_eq_true h

theorem stopState (a0 : Nat) (a1 : Nat) (a2 : Bytes) : Statement (.stopState a0 a1 a2) := one_of rfl fun h => of_decide_eq_true h

theorem parcelRetx (a0 : Nat) (a1 : Nat) : Statement (.parcelRetx a0 a1) := one_of rfl fun h => of_decide_eq_true h

theorem robotLost (a0 : Nat) (a1 : Nat) : Statement (.robotLost a0 a1) := one_of rfl fun h => of_decide_eq_true h

theorem wakeMissed (a0 : Nat) (a1 : Nat) : Statement (.wakeMissed a0 a1) := one_of rfl fun h => of_decide_eq_true h

theorem counterExhausted (a0 : Nat) (a1 : Option Nat) : Statement (.counterExhausted a0 a1) := none_of rfl

theorem pasNodesWrite (a0 : Nat) (a1 : Pkt) : Statement (.pasNodesWrite a0 a1) := none_of rfl

theorem pasLanesWrite (a0 : Nat) (a1 : Pkt) : Statement (.pasLanesWrite a0 a1) := none_of rfl

theorem pasPaddockWrite (a0 : Nat) (a1 : Pkt) : Statement (.pasPaddockWrite a0 a1) := none_of rfl

theorem pasHurdlePlace (a0 : Nat) (a1 : Pkt) : Statement (.pasHurdlePlace a0 a1) := none_of rfl

theorem pasHurdleRemove (a0 : Nat) (a1 : Pkt) : Statement (.pasHurdleRemove a0 a1) := none_of rfl

theorem pasMove (a0 : Nat) (a1 : Pkt) : Statement (.pasMove a0 a1) := none_of rfl

theorem pasResvRead (a0 : Nat) (a1 : Pkt) : Statement (.pasResvRead a0 a1) := none_of rfl

theorem pasStateRead (a0 : Nat) (a1 : Pkt) : Statement (.pasStateRead a0 a1) := none_of rfl

theorem pasResvClear (a0 : Nat) (a1 : Pkt) : Statement (.pasResvClear a0 a1) := none_of rfl

theorem overstay (a0 : Nat) : Statement (.overstay a0) := none_of rfl

theorem borderVoteTimeout (a0 : Nat) : Statement (.borderVoteTimeout a0) := none_of rfl

theorem preparedEntryExpiry (a0 : Nat) : Statement (.preparedEntryExpiry a0) := none_of rfl

theorem noEvidence (a0 : Nat) (a1 : Nat) : Statement (.noEvidence a0 a1) := one_of rfl fun h => of_decide_eq_true h

theorem prfStateRead (a0 : Nat) (a1 : Pkt) : Statement (.prfStateRead a0 a1) := none_of rfl

theorem prfPfSet (a0 : Nat) (a1 : Pkt) : Statement (.prfPfSet a0 a1) := none_of rfl

theorem prfTrackRead (a0 : Nat) (a1 : Pkt) : Statement (.prfTrackRead a0 a1) := none_of rfl

theorem tskSubmit (a0 : Nat) (a1 : Pkt) : Statement (.tskSubmit a0 a1) := none_of rfl

theorem tskCancel (a0 : Nat) (a1 : Pkt) : Statement (.tskCancel a0 a1) := none_of rfl

theorem tskResultRead (a0 : Nat) (a1 : Pkt) : Statement (.tskResultRead a0 a1) := none_of rfl

theorem tskResultAck (a0 : Nat) (a1 : Pkt) : Statement (.tskResultAck a0 a1) := none_of rfl

theorem tskStateRead (a0 : Nat) (a1 : Pkt) : Statement (.tskStateRead a0 a1) := none_of rfl

theorem tskRead (a0 : Nat) (a1 : Pkt) : Statement (.tskRead a0 a1) := none_of rfl

theorem droverJobEnd (a0 : Nat) (a1 : Nat) : Statement (.droverJobEnd a0 a1) := none_of rfl

theorem crkStop (a0 : Nat) (a1 : Pkt) : Statement (.crkStop a0 a1) := none_of rfl

theorem crkRelease (a0 : Nat) (a1 : Pkt) : Statement (.crkRelease a0 a1) := none_of rfl

theorem crkStateRead (a0 : Nat) (a1 : Pkt) : Statement (.crkStateRead a0 a1) := none_of rfl

theorem crkRobotRead (a0 : Nat) (a1 : Pkt) : Statement (.crkRobotRead a0 a1) := none_of rfl

theorem loopOpen (a0 : Nat) (a1 : PadLow) : Statement (.loopOpen a0 a1) := one_of rfl fun h => of_decide_eq_true h

theorem loopClose (a0 : Nat) (a1 : Bool) (a2 : Bool) : Statement (.loopClose a0 a1 a2) := none_of rfl

theorem loopDiscrepancy (a0 : Nat) : Statement (.loopDiscrepancy a0) := none_of rfl

theorem stopFrameSend (a0 : Nat) (a1 : Nat) (a2 : Int) : Statement (.stopFrameSend a0 a1 a2) := one_of rfl fun h => of_decide_eq_true h

theorem stopUnconfirmed (a0 : Nat) (a1 : Nat) : Statement (.stopUnconfirmed a0 a1) := one_of rfl fun h => of_decide_eq_true h

theorem axsMove (a0 : Nat) (a1 : Pkt) : Statement (.axsMove a0 a1) := none_of rfl

theorem axsHalt (a0 : Nat) (a1 : Pkt) : Statement (.axsHalt a0 a1) := none_of rfl

theorem axsHome (a0 : Nat) (a1 : Pkt) : Statement (.axsHome a0 a1) := none_of rfl

theorem axsSetPos (a0 : Nat) (a1 : Pkt) : Statement (.axsSetPos a0 a1) := none_of rfl

theorem axsStateRead (a0 : Nat) (a1 : Pkt) : Statement (.axsStateRead a0 a1) := none_of rfl

theorem axisPwmPeriod (a0 : Nat) (a1 : Nat) (a2 : Nat) (a3 : Int) : Statement (.axisPwmPeriod a0 a1 a2 a3) := one_of rfl fun h => of_decide_eq_true h

theorem axisMoveDone (a0 : Nat) (a1 : Nat) : Statement (.axisMoveDone a0 a1) := one_of rfl fun h => of_decide_eq_true h

theorem axisStopRamp (a0 : Nat) : Statement (.axisStopRamp a0) := none_of rfl

theorem axisStall (a0 : Nat) (a1 : Nat) (a2 : Nat) : Statement (.axisStall a0 a1 a2) := one_of rfl fun h => of_decide_eq_true h

theorem axisRefEdge (a0 : Nat) (a1 : Nat) (a2 : Bool) (a3 : Bool) : Statement (.axisRefEdge a0 a1 a2 a3) := one_of rfl fun h => of_decide_eq_true h

theorem encIndexEdge (a0 : Nat) (a1 : Nat) : Statement (.encIndexEdge a0 a1) := one_of rfl fun h => of_decide_eq_true h

theorem encError (a0 : Nat) (a1 : Nat) (a2 : Nat) : Statement (.encError a0 a1 a2) := one_of rfl fun h => of_decide_eq_true (Bool.and_eq_true_iff.1 h).1

theorem ethPortRead (a0 : Nat) (a1 : Pkt) : Statement (.ethPortRead a0 a1) := none_of rfl

theorem ethProbe (a0 : Nat) (a1 : Pkt) : Statement (.ethProbe a0 a1) := none_of rfl

theorem ethFrameReceived (a0 : Nat) (a1 : Nat) (a2 : Bytes) (a3 : Bool) : Statement (.ethFrameReceived a0 a1 a2 a3) := one_of rfl fun h => of_decide_eq_true h

theorem arpRequest (a0 : Nat) (a1 : Nat) (a2 : Nat) (a3 : Nat) : Statement (.arpRequest a0 a1 a2 a3) := none_of rfl

theorem icmpEcho (a0 : Nat) (a1 : Nat) (a2 : Nat) (a3 : Bytes) : Statement (.icmpEcho a0 a1 a2 a3) := none_of rfl

theorem ipReassemblyTimeout (a0 : Nat) : Statement (.ipReassemblyTimeout a0) := none_of rfl

theorem phyPoll (a0 : Nat) (a1 : Nat) : Statement (.phyPoll a0 a1) := none_of rfl

theorem linkChanged (a0 : Nat) (a1 : Nat) (a2 : Nat) : Statement (.linkChanged a0 a1 a2) := one_of rfl fun h => of_decide_eq_true h

theorem excessCollisions (a0 : Nat) (a1 : Nat) : Statement (.excessCollisions a0 a1) := one_of rfl fun h => of_decide_eq_true h

theorem plcaLost (a0 : Nat) (a1 : Nat) (a2 : Bool) : Statement (.plcaLost a0 a1 a2) := one_of rfl fun h => of_decide_eq_true h

theorem ptpSync (a0 : Nat) (a1 : Nat) (a2 : Nat) (a3 : Int) (a4 : Nat) : Statement (.ptpSync a0 a1 a2 a3 a4) := one_of rfl fun h => of_decide_eq_true h

theorem ptpAnnounceTimeout (a0 : Nat) (a1 : Option Nat) : Statement (.ptpAnnounceTimeout a0 a1) := none_of rfl

theorem ptpMasterSync (a0 : Nat) (a1 : Nat) : Statement (.ptpMasterSync a0 a1) := one_of rfl fun h => of_decide_eq_true h

theorem ptpDelayReq (a0 : Nat) (a1 : Nat) (a2 : Nat) (a3 : List Byte) : Statement (.ptpDelayReq a0 a1 a2 a3) := one_of rfl fun h => of_decide_eq_true (Bool.and_eq_true_iff.1 h).1

theorem canTx (a0 : Nat) (a1 : Pkt) : Statement (.canTx a0 a1) := none_of rfl

theorem canTxAbort (a0 : Nat) (a1 : Pkt) : Statement (.canTxAbort a0 a1) := none_of rfl

theorem canMbRead (a0 : Nat) (a1 : Pkt) : Statement (.canMbRead a0 a1) := none_of rfl

theorem canStateRead (a0 : Nat) (a1 : Pkt) : Statement (.canStateRead a0 a1) := none_of rfl

theorem canRecover (a0 : Nat) (a1 : Pkt) : Statement (.canRecover a0 a1) := none_of rfl

theorem canSerialTx (a0 : Nat) (a1 : Pkt) : Statement (.canSerialTx a0 a1) := none_of rfl

theorem serialTxDone (a0 : Nat) : Statement (.serialTxDone a0) := none_of rfl

theorem serialPacketEnd (a0 : Nat) (a1 : SerialRx) (a2 : Nat) (a3 : Bool) : Statement (.serialPacketEnd a0 a1 a2 a3) := none_of rfl

theorem canFrameReceived (a0 : Nat) (a1 : Nat) (a2 : CanFrame) (a3 : Nat) (a4 : Nat) : Statement (.canFrameReceived a0 a1 a2 a3 a4) := one_of rfl fun h => of_decide_eq_true (Bool.and_eq_true_iff.1 h).1

theorem canAttemptEnd (a0 : Nat) (a1 : Nat) (a2 : Nat) (a3 : Nat) : Statement (.canAttemptEnd a0 a1 a2 a3) := one_of rfl fun h => of_decide_eq_true h

theorem canBusOff (a0 : Nat) (a1 : Nat) : Statement (.canBusOff a0 a1) := one_of rfl fun h => of_decide_eq_true h

theorem canBusOn (a0 : Nat) (a1 : Nat) (a2 : Nat) : Statement (.canBusOn a0 a1 a2) := one_of rfl fun h => of_decide_eq_true h

theorem canLockTimeout (a0 : Nat) : Statement (.canLockTimeout a0) := none_of rfl

theorem queRead (a0 : Nat) (a1 : Pkt) : Statement (.queRead a0 a1) := none_of rfl

theorem queRelease (a0 : Nat) (a1 : Pkt) : Statement (.queRelease a0 a1) := none_of rfl

theorem queStateRead (a0 : Nat) (a1 : Pkt) : Statement (.queStateRead a0 a1) := none_of rfl

theorem memStateRead (a0 : Nat) (a1 : Pkt) : Statement (.memStateRead a0 a1) := none_of rfl

theorem memUncorrectable (a0 : Nat) (a1 : Nat) (a2 : Nat) (a3 : List Nat) : Statement (.memUncorrectable a0 a1 a2 a3) := one_of rfl fun h => of_decide_eq_true h

theorem bankCopyDone (a0 : Nat) : Statement (.bankCopyDone a0) := none_of rfl

theorem scrubPassEnd (a0 : Nat) (a1 : Bool) (a2 : List (Nat × Nat × List Nat × Option (List Nat))) : Statement (.scrubPassEnd a0 a1 a2) := none_of rfl

theorem mramScrub (a0 : Nat) (a1 : List Nat) (a2 : List (Nat × Nat × Bool)) : Statement (.mramScrub a0 a1 a2) := none_of rfl

theorem fldStateRead (a0 : Nat) (a1 : Pkt) : Statement (.fldStateRead a0 a1) := none_of rfl

theorem fldMemberAdd (a0 : Nat) (a1 : Pkt) : Statement (.fldMemberAdd a0 a1) := none_of rfl

theorem fldMemberRemove (a0 : Nat) (a1 : Pkt) : Statement (.fldMemberRemove a0 a1) := none_of rfl

theorem fldMembersRead (a0 : Nat) (a1 : Pkt) : Statement (.fldMembersRead a0 a1) := none_of rfl

theorem join (a0 : Nat) (a1 : FoldRx) : Statement (.join a0 a1) := none_of rfl

theorem joinAnswer (a0 : Nat) (a1 : FoldRx) : Statement (.joinAnswer a0 a1) := none_of rfl

theorem heartbeat (a0 : Nat) (a1 : FoldRx) : Statement (.heartbeat a0 a1) := none_of rfl

theorem hbAnswer (a0 : Nat) (a1 : FoldRx) : Statement (.hbAnswer a0 a1) := none_of rfl

theorem foldPeriodicSend (a0 : Nat) : Statement (.foldPeriodicSend a0) := none_of rfl

theorem memberAbsent (a0 : Nat) (a1 : Nat) (a2 : Nat) : Statement (.memberAbsent a0 a1 a2) := none_of rfl

theorem foldLost (a0 : Nat) : Statement (.foldLost a0) := none_of rfl

theorem routed (a0 : Nat) (a1 : FoldRx) : Statement (.routed a0 a1) := none_of rfl

theorem stop (a0 : Nat) (a1 : FoldRx) : Statement (.stop a0 a1) := none_of rfl

theorem stopAck (a0 : Nat) (a1 : FoldRx) : Statement (.stopAck a0 a1) := none_of rfl

theorem stopSet (a0 : Nat) (a1 : FoldRx) : Statement (.stopSet a0 a1) := none_of rfl

theorem releaseReq (a0 : Nat) (a1 : Nat) (a2 : Bytes) : Statement (.releaseReq a0 a1 a2) := one_of rfl fun h => of_decide_eq_true h

theorem foldRelease (a0 : Nat) (a1 : Nat) (a2 : Bytes) : Statement (.foldRelease a0 a1 a2) := one_of rfl fun h => of_decide_eq_true h

theorem releaseAck (a0 : Nat) (a1 : Nat) (a2 : Bytes) : Statement (.releaseAck a0 a1 a2) := one_of rfl fun h => of_decide_eq_true h

theorem prepare (a0 : Nat) (a1 : Nat) (a2 : Bytes) : Statement (.prepare a0 a1 a2) := one_of rfl fun h => of_decide_eq_true h

theorem vote (a0 : Nat) (a1 : Nat) (a2 : Bytes) : Statement (.vote a0 a1 a2) := one_of rfl fun h => of_decide_eq_true h

theorem decide (a0 : Nat) (a1 : Nat) (a2 : Bytes) : Statement (.decide a0 a1 a2) := one_of rfl fun h => of_decide_eq_true h

theorem resumeNote (a0 : Nat) (a1 : Nat) (a2 : Bytes) : Statement (.resumeNote a0 a1 a2) := one_of rfl fun h => of_decide_eq_true h

theorem noteAck (a0 : Nat) (a1 : Nat) (a2 : Bytes) : Statement (.noteAck a0 a1 a2) := one_of rfl fun h => of_decide_eq_true h

theorem taskReport (a0 : Nat) (a1 : Nat) (a2 : Bytes) : Statement (.taskReport a0 a1 a2) := one_of rfl fun h => of_decide_eq_true h

theorem reportAck (a0 : Nat) (a1 : Nat) (a2 : Bytes) : Statement (.reportAck a0 a1 a2) := one_of rfl fun h => of_decide_eq_true h

theorem borderDigest (a0 : Nat) (a1 : Nat) (a2 : Bytes) : Statement (.borderDigest a0 a1 a2) := one_of rfl fun h => of_decide_eq_true h

theorem relay (a0 : Nat) (a1 : FoldRx) : Statement (.relay a0 a1) := none_of rfl

theorem foldPartTimeout (a0 : Nat) : Statement (.foldPartTimeout a0) := none_of rfl

theorem paiStateRead (a0 : Nat) (a1 : Pkt) : Statement (.paiStateRead a0 a1) := none_of rfl

theorem paiResync (a0 : Nat) (a1 : Pkt) : Statement (.paiResync a0 a1) := none_of rfl

theorem paiRoleSet (a0 : Nat) (a1 : Pkt) : Statement (.paiRoleSet a0 a1) := none_of rfl

theorem paiYield (a0 : Nat) (a1 : Pkt) : Statement (.paiYield a0 a1) := none_of rfl

theorem pairTick (a0 : Nat) (a1 : Nat) : Statement (.pairTick a0 a1) := none_of rfl

theorem pairStop (a0 : Nat) (a1 : Nat) (a2 : Nat) (a3 : Nat) (a4 : Bool) : Statement (.pairStop a0 a1 a2 a3 a4) := none_of rfl

theorem yield (a0 : Nat) (a1 : Nat) : Statement (.yield a0 a1) := none_of rfl

theorem item (a0 : Nat) (a1 : PairIn) : Statement (.item a0 a1) := none_of rfl

theorem merge (a0 : Nat) (a1 : MergeMsg) : Statement (.merge a0 a1) := none_of rfl

theorem journalConf (a0 : Nat) (a1 : Nat) (a2 : Nat) : Statement (.journalConf a0 a1 a2) := none_of rfl

theorem digest (a0 : Nat) (a1 : Nat) (a2 : Nat) (a3 : Bool) (a4 : Nat) : Statement (.digest a0 a1 a2 a3 a4) := none_of rfl

theorem mismatchTestDone (a0 : Nat) (a1 : Bool) : Statement (.mismatchTestDone a0 a1) := none_of rfl

theorem syncReq (a0 : Nat) (a1 : Nat) (a2 : Nat) (a3 : Bool) (a4 : Bool) : Statement (.syncReq a0 a1 a2 a3 a4) := none_of rfl

theorem syncAnswer (a0 : Nat) (a1 : Nat) : Statement (.syncAnswer a0 a1) := none_of rfl

theorem pairStateFrame (a0 : Nat) (a1 : Machine.StatePart) : Statement (.pairStateFrame a0 a1) := none_of rfl

theorem pairLinkTrained (a0 : Nat) (a1 : Bool) (a2 : Bool) : Statement (.pairLinkTrained a0 a1 a2) := none_of rfl

theorem pairLaneDown (a0 : Nat) (a1 : Nat) : Statement (.pairLaneDown a0 a1) := one_of rfl fun h => of_decide_eq_true h

theorem pairLinkLost (a0 : Nat) : Statement (.pairLinkLost a0) := none_of rfl

theorem partnerSilent (a0 : Nat) : Statement (.partnerSilent a0) := none_of rfl

theorem partnerAbsent (a0 : Nat) : Statement (.partnerAbsent a0) := none_of rfl

theorem resyncTimeout (a0 : Nat) : Statement (.resyncTimeout a0) := none_of rfl

theorem itemDiscard (a0 : Nat) : Statement (.itemDiscard a0) := none_of rfl

theorem vitKeyLoad (a0 : Nat) (a1 : Pkt) : Statement (.vitKeyLoad a0 a1) := none_of rfl

theorem vitKeyErase (a0 : Nat) (a1 : Pkt) : Statement (.vitKeyErase a0 a1) := none_of rfl

theorem vitSlotRead (a0 : Nat) (a1 : Pkt) : Statement (.vitSlotRead a0 a1) := none_of rfl

theorem vitAttest (a0 : Nat) (a1 : Pkt) : Statement (.vitAttest a0 a1) := none_of rfl

theorem vitCertRead (a0 : Nat) (a1 : Pkt) : Statement (.vitCertRead a0 a1) := none_of rfl

theorem vitStateRead (a0 : Nat) (a1 : Pkt) : Statement (.vitStateRead a0 a1) := none_of rfl

theorem vitTamperClear (a0 : Nat) (a1 : Pkt) : Statement (.vitTamperClear a0 a1) := none_of rfl

theorem tamperAlarm (a0 : Nat) (a1 : Nat) (a2 : Bool) : Statement (.tamperAlarm a0 a1 a2) := none_of rfl

theorem keyRemask (a0 : Nat) : Statement (.keyRemask a0) := none_of rfl

theorem rngFault (a0 : Nat) : Statement (.rngFault a0) := none_of rfl

theorem updOpen (a0 : Nat) (a1 : Pkt) : Statement (.updOpen a0 a1) := none_of rfl

theorem updBegin (a0 : Nat) (a1 : Pkt) : Statement (.updBegin a0 a1) := none_of rfl

theorem bankEraseDone (a0 : Nat) (a1 : Nat) : Statement (.bankEraseDone a0 a1) := none_of rfl

theorem updWrite (a0 : Nat) (a1 : Pkt) : Statement (.updWrite a0 a1) := none_of rfl

theorem updVerify (a0 : Nat) (a1 : Pkt) : Statement (.updVerify a0 a1) := none_of rfl

theorem updActivate (a0 : Nat) (a1 : Pkt) : Statement (.updActivate a0 a1) := none_of rfl

theorem handoverPause (a0 : Nat) (a1 : Nat) (a2 : Nat) (a3 : Nat) : Statement (.handoverPause a0 a1 a2 a3) := none_of rfl

theorem handoverFail (a0 : Nat) (a1 : Nat) (a2 : Nat) (a3 : Bool) : Statement (.handoverFail a0 a1 a2 a3) := none_of rfl

theorem updConfirm (a0 : Nat) (a1 : Pkt) : Statement (.updConfirm a0 a1) := none_of rfl

theorem updClose (a0 : Nat) (a1 : Pkt) : Statement (.updClose a0 a1) := none_of rfl

theorem updStateRead (a0 : Nat) (a1 : Pkt) : Statement (.updStateRead a0 a1) := none_of rfl

theorem updIdleTimeout (a0 : Nat) : Statement (.updIdleTimeout a0) := none_of rfl

theorem trialUnconfirmed (a0 : Nat) : Statement (.trialUnconfirmed a0) := none_of rfl

theorem arcRead (a0 : Nat) (a1 : Pkt) : Statement (.arcRead a0 a1) := none_of rfl

theorem arcStateRead (a0 : Nat) (a1 : Pkt) : Statement (.arcStateRead a0 a1) := none_of rfl

theorem archiveIntervalEnd (a0 : Nat) : Statement (.archiveIntervalEnd a0) := none_of rfl

theorem cxBadFrame (a0 : Nat) : Statement (.cxBadFrame a0) := none_of rfl

theorem ping (a0 : Nat) (a1 : Bool) (a2 : Bytes) : Statement (.ping a0 a1 a2) := none_of rfl

theorem getVersion (a0 : Nat) (a1 : Bool) (a2 : Bytes) : Statement (.getVersion a0 a1 a2) := none_of rfl

theorem reset (a0 : Nat) (a1 : Bool) (a2 : Bytes) : Statement (.reset a0 a1 a2) := none_of rfl

theorem getStatus (a0 : Nat) (a1 : Bool) (a2 : Bytes) : Statement (.getStatus a0 a1 a2) := none_of rfl

theorem getTime (a0 : Nat) (a1 : Bool) (a2 : Bytes) : Statement (.getTime a0 a1 a2) := none_of rfl

theorem setBasePos (a0 : Nat) (a1 : Bool) (a2 : Bytes) : Statement (.setBasePos a0 a1 a2) := none_of rfl

theorem getBasePos (a0 : Nat) (a1 : Bool) (a2 : Bytes) : Statement (.getBasePos a0 a1 a2) := none_of rfl

theorem startSurvey (a0 : Nat) (a1 : Bool) (a2 : Bytes) : Statement (.startSurvey a0 a1 a2) := none_of rfl

theorem getSurvey (a0 : Nat) (a1 : Bool) (a2 : Bytes) : Statement (.getSurvey a0 a1 a2) := none_of rfl

theorem setElevMask (a0 : Nat) (a1 : Bool) (a2 : Bytes) : Statement (.setElevMask a0 a1 a2) := none_of rfl

theorem getSatInfo (a0 : Nat) (a1 : Bool) (a2 : Bytes) : Statement (.getSatInfo a0 a1 a2) := none_of rfl

theorem setRtcm (a0 : Nat) (a1 : Bool) (a2 : Bytes) : Statement (.setRtcm a0 a1 a2) := none_of rfl

theorem readRtcm (a0 : Nat) (a1 : Bool) (a2 : Bytes) : Statement (.readRtcm a0 a1 a2) := none_of rfl

theorem setRadio (a0 : Nat) (a1 : Bool) (a2 : Bytes) : Statement (.setRadio a0 a1 a2) := none_of rfl

theorem getRadio (a0 : Nat) (a1 : Bool) (a2 : Bytes) : Statement (.getRadio a0 a1 a2) := none_of rfl

theorem addRobot (a0 : Nat) (a1 : Bool) (a2 : Bytes) : Statement (.addRobot a0 a1 a2) := none_of rfl

theorem removeRobot (a0 : Nat) (a1 : Bool) (a2 : Bytes) : Statement (.removeRobot a0 a1 a2) := none_of rfl

theorem listRobots (a0 : Nat) (a1 : Bool) (a2 : Bytes) : Statement (.listRobots a0 a1 a2) := none_of rfl

theorem getRobot (a0 : Nat) (a1 : Bool) (a2 : Bytes) : Statement (.getRobot a0 a1 a2) := none_of rfl

theorem sendTask (a0 : Nat) (a1 : Bool) (a2 : Bytes) : Statement (.sendTask a0 a1 a2) := none_of rfl

theorem cancelTask (a0 : Nat) (a1 : Bool) (a2 : Bytes) : Statement (.cancelTask a0 a1 a2) := none_of rfl

theorem getTask (a0 : Nat) (a1 : Bool) (a2 : Bytes) : Statement (.getTask a0 a1 a2) := none_of rfl

theorem sendMsg (a0 : Nat) (a1 : Bool) (a2 : Bytes) : Statement (.sendMsg a0 a1 a2) := none_of rfl

theorem readMsg (a0 : Nat) (a1 : Bool) (a2 : Bytes) : Statement (.readMsg a0 a1 a2) := none_of rfl

theorem stopAll (a0 : Nat) (a1 : Bool) (a2 : Bytes) : Statement (.stopAll a0 a1 a2) := none_of rfl

theorem releaseStop (a0 : Nat) (a1 : Bool) (a2 : Bytes) : Statement (.releaseStop a0 a1 a2) := none_of rfl

theorem stopRobot (a0 : Nat) (a1 : Bool) (a2 : Bytes) : Statement (.stopRobot a0 a1 a2) := none_of rfl

theorem getStop (a0 : Nat) (a1 : Bool) (a2 : Bytes) : Statement (.getStop a0 a1 a2) := none_of rfl

theorem setCan (a0 : Nat) (a1 : Bool) (a2 : Bytes) : Statement (.setCan a0 a1 a2) := none_of rfl

theorem canSend (a0 : Nat) (a1 : Bool) (a2 : Bytes) : Statement (.canSend a0 a1 a2) := none_of rfl

theorem canRead (a0 : Nat) (a1 : Bool) (a2 : Bytes) : Statement (.canRead a0 a1 a2) := none_of rfl

theorem setNetkey (a0 : Nat) (a1 : Bool) (a2 : Bytes) : Statement (.setNetkey a0 a1 a2) := none_of rfl

theorem setAnt (a0 : Nat) (a1 : Bool) (a2 : Bytes) : Statement (.setAnt a0 a1 a2) := none_of rfl

theorem getEvent (a0 : Nat) (a1 : Bool) (a2 : Bytes) : Statement (.getEvent a0 a1 a2) := none_of rfl

theorem saveConfig (a0 : Nat) (a1 : Bool) (a2 : Bytes) : Statement (.saveConfig a0 a1 a2) := none_of rfl

theorem loadDefaults (a0 : Nat) (a1 : Bool) (a2 : Bytes) : Statement (.loadDefaults a0 a1 a2) := none_of rfl

theorem getCounters (a0 : Nat) (a1 : Bool) (a2 : Bytes) : Statement (.getCounters a0 a1 a2) := none_of rfl

theorem k9Info (a0 : Nat) (a1 : Bool) (a2 : Bytes) : Statement (.k9Info a0 a1 a2) := none_of rfl

theorem cxTick (a0 : Nat) : Statement (.cxTick a0) := none_of rfl

theorem cxJoinRequest (a0 : Nat) (a1 : CxRx) : Statement (.cxJoinRequest a0 a1) := none_of rfl

theorem cxPositionReport (a0 : Nat) (a1 : CxRx) : Statement (.cxPositionReport a0 a1) := none_of rfl

theorem cxMessageFrame (a0 : Nat) (a1 : CxRx) : Statement (.cxMessageFrame a0 a1) := none_of rfl

theorem cxStatusFrame (a0 : Nat) (a1 : CxRx) : Statement (.cxStatusFrame a0 a1) := none_of rfl

theorem cxRobotLost (a0 : Nat) (a1 : Nat) : Statement (.cxRobotLost a0 a1) := none_of rfl

theorem cxStopLine (a0 : Nat) (a1 : Bool) : Statement (.cxStopLine a0 a1) := none_of rfl

theorem legacyCorrDropped (a0 : Nat) (a1 : Nat) : Statement (.legacyCorrDropped a0 a1) := one_of rfl fun h => of_decide_eq_true h

theorem badOpcode (a0 : Nat) (a1 : Nat) (a2 : Nat) (a3 : Pkt) : Statement (.badOpcode a0 a1 a2 a3) := none_of rfl

theorem cxUnknownOpcode (a0 : Nat) (a1 : Bool) (a2 : Nat) (a3 : Bool) : Statement (.cxUnknownOpcode a0 a1 a2 a3) := none_of rfl

theorem ethFrameSent (a0 : Nat) (a1 : Nat) : Statement (.ethFrameSent a0 a1) := one_of rfl fun h => of_decide_eq_true h

theorem consoleLineSent (a0 : Nat) : Statement (.consoleLineSent a0) := none_of rfl

theorem eventOutputFall (a0 : Nat) : Statement (.eventOutputFall a0) := none_of rfl

theorem followUpTimeout (a0 : Nat) : Statement (.followUpTimeout a0) := none_of rfl

end Sys2Proof.Laws.Units
end

