-- ==== Sys2Proof/Laws/Raise.lean ====
section
/-! SUPPORT. Raising an event changes nothing but the events' part of the state and the Archive (R98, R555). -/

namespace Sys2Proof.Laws

open Sys2Proof.Machine

/-- `t` is `s` but for the system part, where events are kept, and the Archive; a raised event leaves the firmware, the power state and
the tick as they are. -/
def OnlyRaises (s t : State) : Prop :=
  t = { s with arc := t.arc, sys := { s.sys with
    events := t.sys.events, nextSeq := t.sys.nextSeq, toMatch := t.sys.toMatch, unacked := t.sys.unacked
    console := t.sys.console, consoleDropped := t.sys.consoleDropped, evHigh := t.sys.evHigh } }

theorem OnlyRaises.refl (s : State) : OnlyRaises s s := rfl

theorem OnlyRaises.trans {s t u : State} (h : OnlyRaises s t) (k : OnlyRaises t u) : OnlyRaises s u := by
  unfold OnlyRaises at *
  rw [k, h]

theorem OnlyRaises.foldl {α : Type} {f : State → α → State} (h : ∀ s a, OnlyRaises s (f s a)) (l : List α) (s : State) :
    OnlyRaises s (l.foldl f s) := by
  induction l generalizing s with
  | nil => exact .refl s
  | cons a l ih => exact (h s a).trans (ih _)

theorem onlyRaises_consoleNote (e : Event) (s : State) : OnlyRaises s (State.consoleNote e s) := by
  unfold State.consoleNote
  split
  · dsimp only; split <;> rfl
  · rfl

theorem onlyRaises_padNote (e : Event) (s : State) : OnlyRaises s (State.padNote e s) := by
  unfold State.padNote
  split <;> rfl

theorem onlyRaises_arcNote (e : Event) (s : State) : OnlyRaises s (State.arcNote e s).1 := by
  unfold State.arcNote
  dsimp only
  split
  · split <;> rfl
  · split <;> rfl

theorem onlyRaises_mapSys (f : Sys → Sys) (s : State) (h : ∀ y, f y = { y with
    events := (f y).events, nextSeq := (f y).nextSeq, toMatch := (f y).toMatch, unacked := (f y).unacked
    console := (f y).console, consoleDropped := (f y).consoleDropped, evHigh := (f y).evHigh }) : OnlyRaises s (s.mapSys f) := by
  unfold OnlyRaises State.mapSys
  dsimp only
  rw [← h]

theorem onlyRaises_enterEvent (e : Event) (s : State) : OnlyRaises s (State.enterEvent e s) := by
  unfold State.enterEvent
  exact onlyRaises_mapSys _ _ fun _ => by dsimp only

theorem onlyRaises_raiseCore (code : Nat) (cls : Cls) (level kind idx data : Nat) (s : State) :
    OnlyRaises s (State.raiseCore code cls level kind idx data s).1 := by
  exact (onlyRaises_enterEvent _ _).trans ((onlyRaises_consoleNote _ _).trans ((onlyRaises_padNote _ _).trans (onlyRaises_arcNote _ _)))

/-- Raising an event changes nothing but the events and the Archive. -/
theorem onlyRaises_raiseD (code : Nat) (cls : Cls) (level kind idx data : Nat) (s : State) :
    OnlyRaises s (State.raiseD code cls level kind idx data s) := by
  unfold State.raiseD
  dsimp only
  have h1 := onlyRaises_raiseCore code cls level kind idx data s
  generalize State.raiseCore code cls level kind idx data s = a at h1 ⊢
  obtain ⟨t, b⟩ := a
  cases b
  · exact h1
  · dsimp only
    have h2 := fun l => onlyRaises_raiseCore 0x1201 .notice l 0 0 code t
    generalize hz : State.raiseCore 0x1201 .notice _ 0 0 code t = z
    have h3 := hz ▸ h2 _
    obtain ⟨u, b⟩ := z
    cases b
    · exact h1.trans h3
    · exact (h1.trans h3).trans (onlyRaises_raiseCore _ _ _ _ _ _ _)

theorem onlyRaises_raise (code : Nat) (cls : Cls) (level kind idx : Nat) (s : State) :
    OnlyRaises s (State.raise code cls level kind idx s) := onlyRaises_raiseD ..

theorem onlyRaises_raise0 (code : Nat) (cls : Cls) (level data : Nat) (s : State) :
    OnlyRaises s (State.raise0 code cls level data s) := onlyRaises_raiseD ..

section
variable {s t : State} (h : OnlyRaises s t)
include h
theorem OnlyRaises.pending : t.pending = s.pending := by rw [h]
theorem OnlyRaises.now : t.now = s.now := by rw [h]
theorem OnlyRaises.out : t.out = s.out := by rw [h]
theorem OnlyRaises.free : t.free = s.free := by rw [h]
theorem OnlyRaises.ses : t.ses = s.ses := by rw [h]
theorem OnlyRaises.cfg : t.cfg = s.cfg := by rw [h]
theorem OnlyRaises.clk : t.clk = s.clk := by rw [h]
theorem OnlyRaises.mem : t.mem = s.mem := by rw [h]
theorem OnlyRaises.upd : t.upd = s.upd := by rw [h]
theorem OnlyRaises.gns : t.gns = s.gns := by rw [h]
theorem OnlyRaises.fix : t.fix = s.fix := by rw [h]
theorem OnlyRaises.air : t.air = s.air := by rw [h]
theorem OnlyRaises.lnk : t.lnk = s.lnk := by rw [h]
theorem OnlyRaises.pas : t.pas = s.pas := by rw [h]
theorem OnlyRaises.tsk : t.tsk = s.tsk := by rw [h]
theorem OnlyRaises.crk : t.crk = s.crk := by rw [h]
theorem OnlyRaises.axs : t.axs = s.axs := by rw [h]
theorem OnlyRaises.eth : t.eth = s.eth := by rw [h]
theorem OnlyRaises.can : t.can = s.can := by rw [h]
theorem OnlyRaises.fld : t.fld = s.fld := by rw [h]
theorem OnlyRaises.pai : t.pai = s.pai := by rw [h]
theorem OnlyRaises.vit : t.vit = s.vit := by rw [h]
theorem OnlyRaises.cx : t.cx = s.cx := by rw [h]
theorem OnlyRaises.power : t.sys.power = s.sys.power := by rw [h]
theorem OnlyRaises.fw : t.sys.fw = s.sys.fw := by rw [h]
theorem OnlyRaises.tick : t.sys.tick = s.sys.tick := by rw [h]
end

end Sys2Proof.Laws
end

