-- ==== Sys2Proof/Laws/Replies.lean ====
section
/-! SUPPORT. Replies and completions change nothing but the sessions' part of the state, the outputs and the windows' counts (R79, R86, R429). -/

namespace Sys2Proof.Laws

open Sys2Proof.Machine

/-- `t` is `s` but for the sessions' part, the outputs and the counts of the read windows (a disabled queue counts what it
drops, R429). -/
def OnlyReplies (s t : State) : Prop :=
  t = { s with ses := t.ses, out := t.out, mem := { s.mem with windows := t.mem.windows } }

theorem OnlyReplies.refl (s : State) : OnlyReplies s s := rfl

theorem OnlyReplies.trans {s t u : State} (h : OnlyReplies s t) (k : OnlyReplies t u) : OnlyReplies s u := by
  unfold OnlyReplies at *
  rw [k, h]

theorem OnlyReplies.foldl {α : Type} {f : State → α → State} (h : ∀ s a, OnlyReplies s (f s a)) (l : List α) (s : State) :
    OnlyReplies s (l.foldl f s) := by
  induction l generalizing s with
  | nil => exact .refl s
  | cons a l ih => exact (h s a).trans (ih _)

theorem onlyReplies_mapSes (f : Ses → Ses) (s : State) : OnlyReplies s (s.mapSes f) := rfl

theorem onlyReplies_emit (o : Output) (s : State) : OnlyReplies s (s.emit o) := rfl

theorem onlyReplies_sendPacket (v : Via) (r : Reply) (s : State) : OnlyReplies s (s.sendPacket v r) := by
  unfold State.sendPacket
  split
  · rfl
  · split
    · rfl
    · cases v <;> rfl

theorem onlyReplies_pumpSession (n : Nat) (s : State) : OnlyReplies s (s.pumpSession n) := by
  unfold State.pumpSession
  split
  · rfl
  · refine OnlyReplies.trans (OnlyReplies.foldl (fun s e => ?_) _ s) (onlyReplies_mapSes _ _)
    split
    · exact onlyReplies_sendPacket _ _ s
    · rfl

theorem onlyReplies_completeCore (n acc : Nat) (a : Ans) (s : State) : OnlyReplies s (s.completeCore n acc a) := by
  unfold State.completeCore
  split
  · rfl
  · exact (onlyReplies_mapSes _ s).trans (onlyReplies_pumpSession _ _)

theorem onlyReplies_pumpBarriers (s : State) : OnlyReplies s s.pumpBarriers := by
  unfold State.pumpBarriers
  exact OnlyReplies.foldl (fun s (e : JEntry) => onlyReplies_completeCore e.sess e.acc _ s) _ s

/-- A completion changes nothing but the sessions' part, the outputs and the windows' counts. -/
theorem onlyReplies_complete (n acc : Nat) (a : Ans) (s : State) : OnlyReplies s (s.complete n acc a) :=
  (onlyReplies_completeCore n acc a s).trans (onlyReplies_pumpBarriers _)

section
variable {s t : State} (h : OnlyReplies s t)
include h
theorem OnlyReplies.pending : t.pending = s.pending := by rw [h]
theorem OnlyReplies.now : t.now = s.now := by rw [h]
theorem OnlyReplies.sys : t.sys = s.sys := by rw [h]
theorem OnlyReplies.cfg : t.cfg = s.cfg := by rw [h]
theorem OnlyReplies.clk : t.clk = s.clk := by rw [h]
theorem OnlyReplies.banks : t.mem.banks = s.mem.banks := by rw [h]
theorem OnlyReplies.queues : t.mem.queues = s.mem.queues := by rw [h]
theorem OnlyReplies.gns : t.gns = s.gns := by rw [h]
theorem OnlyReplies.fix : t.fix = s.fix := by rw [h]
theorem OnlyReplies.air : t.air = s.air := by rw [h]
theorem OnlyReplies.lnk : t.lnk = s.lnk := by rw [h]
theorem OnlyReplies.pas : t.pas = s.pas := by rw [h]
theorem OnlyReplies.tsk : t.tsk = s.tsk := by rw [h]
theorem OnlyReplies.crk : t.crk = s.crk := by rw [h]
theorem OnlyReplies.axs : t.axs = s.axs := by rw [h]
theorem OnlyReplies.vit : t.vit = s.vit := by rw [h]
end

end Sys2Proof.Laws
end

