-- ==== Sys2Proof/Laws/Tab.lean ====
section
/-! SUPPORT. Tables keep one form and a read finds what was last written; the snapshot buffer keeps its canonical form. -/

namespace Sys2Proof.Laws

open Sys2Proof.Machine

variable {α : Type}

/-- The keys of a table rise: each lies below every later one. -/
theorem Tab.wf_iff_pairwise (t : Tab α) : Tab.wf t = true ↔ t.Pairwise (fun a b => a.1 < b.1) := by
  induction t with
  | nil => simp [Tab.wf]
  | cons a t ih =>
    cases t with
    | nil => simp [Tab.wf]
    | cons b t =>
      obtain ⟨j, x⟩ := a
      obtain ⟨k, y⟩ := b
      rw [show Tab.wf ((j, x) :: (k, y) :: t) = (decide (j < k) && Tab.wf ((k, y) :: t)) from rfl, Bool.and_eq_true, ih,
        decide_eq_true_eq, List.pairwise_cons (a := (j, x))]
      refine ⟨fun ⟨h, hp⟩ => ⟨fun c hc => ?_, hp⟩, fun ⟨h, hp⟩ => ⟨h _ (List.mem_cons_self), hp⟩⟩
      rcases List.mem_cons.1 hc with rfl | hc
      · exact h
      · exact lt_trans h ((List.pairwise_cons.1 hp).1 c hc)

theorem Tab.mem_put {k : Nat} {a : α} {t : Tab α} {e : Nat × α} (h : e ∈ Tab.put k a t) : e = (k, a) ∨ e ∈ t := by
  induction t with
  | nil => simpa [Tab.put] using h
  | cons b t ih =>
    obtain ⟨j, x⟩ := b
    simp only [Tab.put] at h
    split at h
    · simpa using h
    · split at h
      · rcases List.mem_cons.1 h with h | h
        · exact .inl h
        · exact .inr (List.mem_cons_of_mem _ h)
      · rcases List.mem_cons.1 h with h | h
        · exact .inr (h ▸ List.mem_cons_self)
        · exact (ih h).imp_right (List.mem_cons_of_mem _)

/-- Writing keeps a table's form. -/
theorem Tab.wf_put (k : Nat) (a : α) {t : Tab α} (h : Tab.wf t = true) : Tab.wf (Tab.put k a t) = true := by
  rw [Tab.wf_iff_pairwise] at h ⊢
  induction t with
  | nil => simp [Tab.put]
  | cons b t ih =>
    obtain ⟨j, x⟩ := b
    obtain ⟨hb, ht⟩ := List.pairwise_cons.1 h
    simp only [Tab.put]
    split
    · refine List.pairwise_cons.2 ⟨fun c hc => ?_, h⟩
      rcases List.mem_cons.1 hc with rfl | hc
      · assumption
      · exact lt_trans ‹k < j› (hb c hc)
    · split
      · next hk => exact List.pairwise_cons.2 ⟨fun c hc => hk ▸ hb c hc, ht⟩
      · refine List.pairwise_cons.2 ⟨fun c hc => ?_, ih ht⟩
        rcases Tab.mem_put hc with rfl | hc
        · simp only; omega
        · exact hb c hc

/-- Removing keeps a table's form. -/
theorem Tab.wf_del (k : Nat) {t : Tab α} (h : Tab.wf t = true) : Tab.wf (Tab.del k t) = true := by
  rw [Tab.wf_iff_pairwise] at h ⊢
  exact h.filter _

/-- A read finds what the last write of its key put there. -/
theorem Tab.find?_put (k j : Nat) (a : α) (t : Tab α) : Tab.find? j (Tab.put k a t) = if k = j then some a else Tab.find? j t := by
  induction t with
  | nil => simp [Tab.put, Tab.find?]
  | cons b t ih =>
    obtain ⟨i, x⟩ := b
    simp only [Tab.put]
    split
    · simp [Tab.find?]
    · split
      · next h => subst h; simp only [Tab.find?]; split <;> simp_all
      · simp only [Tab.find?, ih]; split <;> split <;> simp_all

theorem Tab.find?_del (k j : Nat) (t : Tab α) : Tab.find? j (Tab.del k t) = if k = j then none else Tab.find? j t := by
  induction t with
  | nil => simp [Tab.del, Tab.find?]
  | cons b t ih =>
    obtain ⟨i, x⟩ := b
    simp only [Tab.del, List.filter_cons] at ih ⊢
    split
    · simp only [Tab.find?, ih]; split <;> split <;> simp_all
    · rw [ih]; simp only [Tab.find?]; split <;> try split
      all_goals simp_all

@[simp] theorem Tab.getD_put_self (k : Nat) (d a : α) (t : Tab α) : Tab.getD k d (Tab.put k a t) = a := by
  simp [Tab.getD, Tab.find?_put]

theorem Tab.getD_put_ne {k j : Nat} (h : k ≠ j) (d a : α) (t : Tab α) : Tab.getD j d (Tab.put k a t) = Tab.getD j d t := by
  simp [Tab.getD, Tab.find?_put, h]

/-! ### The snapshot buffer -/

/-- A read after a write: the byte written at its address, every other byte as before. -/
theorem Memory.read_write (a b : Nat) (v : Byte) (t : Tab Byte) :
    Memory.read (Memory.write a v t) b = if a = b then v else Memory.read t b := by
  unfold Memory.read Memory.write Tab.getD
  split
  · next h => rw [Tab.find?_del]; split <;> simp_all
  · rw [Tab.find?_put]; split <;> simp

/-- A write keeps the canonical form. -/
theorem Memory.wf_write (a : Nat) (v : Byte) {t : Tab Byte} (h : Memory.wf t = true) : Memory.wf (Memory.write a v t) = true := by
  simp only [Memory.wf, Bool.and_eq_true, List.all_eq_true] at h ⊢
  unfold Memory.write
  split
  · exact ⟨Tab.wf_del a h.1, fun e he => h.2 e (List.mem_filter.1 he).1⟩
  · next hv =>
    refine ⟨Tab.wf_put a v h.1, fun e he => ?_⟩
    rcases Tab.mem_put he with rfl | he
    · simpa using hv
    · exact h.2 e he

/-- A list of writes keeps the canonical form. -/
theorem Memory.wf_writeAll (w : List (Nat × Byte)) {t : Tab Byte} (h : Memory.wf t = true) : Memory.wf (Memory.writeAll w t) = true := by
  induction w generalizing t with
  | nil => exact h
  | cons e w ih => exact ih (Memory.wf_write e.1 e.2 h)

/-- No element is found where none passes the test. -/
theorem findIdx_none {α : Type} (p : α → Bool) (l : List α) (h : ∀ x ∈ l, p x = false) : findIdx p l = none := by
  unfold findIdx
  rw [List.find?_eq_none.2 fun x hx => by simp [h x.1 (List.fst_mem_of_mem_zipIdx hx)]]
  rfl

theorem bit0_lt {n : Nat} (h : n < 2) : bit n 0 = decide (n = 1) := by
  rcases (by omega : n = 0 ∨ n = 1) with rfl | rfl <;> rfl

theorem map_filter {α β : Type} (p : α → Bool) (f : α → β) (l : List α) :
    (l.filter p).map f = l.filterMap (fun a => if p a = true then some (f a) else none) := by
  induction l with
  | nil => rfl
  | cons a l ih => cases h : p a <;> simp [h, ih]

end Sys2Proof.Laws
end

