-- ==== Sys2Proof/Tests/Slice0.lean ====
section
/-! SUPPORT. Tests of the model: commands refused as ill formed, single steps, and for each statement with hypotheses a state and
operands that meet them. -/

namespace Sys2Proof.Tests

-- The tests are elaborated one after another: at the same time, each on a thread of its own, their stacks and heaps go past
-- the check's memory limit. The option ends with the namespace.
set_option Elab.async false

open Sys2Proof Sys2Proof.Machine Sys2Proof.Safety

/-! ### Ill-formed commands are refused -/

theorem test_wf_pkt_session_too_wide : wellFormed (.echo 0 { via := .spi, flags := 0, plen := 0, delivered := 20, acc := 0, sess := 65536, payload := [], pcrc := 0 }) = false := by decide

theorem test_wf_pkt_flags_too_wide : wellFormed (.echo 0 { via := .spi, flags := 256, plen := 0, delivered := 20, acc := 0, sess := 1, payload := [], pcrc := 0 }) = false := by decide

theorem test_wf_pkt_plen_too_wide : wellFormed (.echo 0 { via := .spi, flags := 0, plen := 65536, delivered := 20, acc := 0, sess := 1, payload := [], pcrc := 0 }) = false := by decide

theorem test_wf_pkt_acc_too_wide : wellFormed (.echo 0 { via := .spi, flags := 0, plen := 0, delivered := 20, acc := 2 ^ 32, sess := 1, payload := [], pcrc := 0 }) = false := by decide

theorem test_wf_pkt_pcrc_too_wide : wellFormed (.echo 0 { via := .spi, flags := 0, plen := 0, delivered := 20, acc := 0, sess := 1, payload := [], pcrc := 2 ^ 32 }) = false := by decide

theorem test_wf_udp_port_too_wide : wellFormed (.badPacket 0 (.udp 1 65536) 1) = false := by decide

theorem test_wf_fold_index_too_wide : wellFormed (.badPacket 0 (.fold 65536 1) 1) = false := by decide

theorem test_wf_check_out_of_range : wellFormed (.badPacket 0 .spi 4) = false := by decide

theorem test_wf_boot_strap_samples : wellFormed (.externalReset 0 { cxMode := [], recoverN := List.replicate 8 true, bad := [], unloaded := [], calErr := 0, lane0 := false, lane1 := false, openA := false, openB := false, rootBad := false }) = false := by decide

theorem test_wf_boot_no_such_part : wellFormed (.powerOn 0 { cxMode := List.replicate 8 true, recoverN := List.replicate 8 true, bad := [(0, 48)], unloaded := [], calErr := 0, lane0 := false, lane1 := false, openA := false, openB := false, rootBad := false }) = false := by decide

theorem test_wf_line_out_of_range : wellFormed (.windowOverrun 0 2) = false := by decide

theorem test_wf_domain_out_of_range : wellFormed (.domainTakesEffect 0 19) = false := by decide

theorem test_wf_core_out_of_range : wellFormed (.watchdog 0 8) = false := by decide

theorem test_wf_drover_core_out_of_range : wellFormed (.droverJobEnd 0 1) = false := by decide

theorem test_wf_channel_out_of_range : wellFormed (.captureEdge 0 4 false) = false := by decide

theorem test_wf_antenna_out_of_range : wellFormed (.antOpen 0 2) = false := by decide

theorem test_wf_chain_out_of_range : wellFormed (.chainFault 0 4 1) = false := by decide

theorem test_wf_level_out_of_range : wellFormed (.chainFault 0 0 256) = false := by decide

theorem test_wf_robot_out_of_range : wellFormed (.robotLost 0 256) = false := by decide

theorem test_wf_air_frame_chain : wellFormed (.uplinkFrame 0 ⟨4, 150, 3, 40, false, true, 5, 1, true, 20, []⟩) = false := by decide

theorem test_wf_loop_channel : wellFormed (.loopOpen 0 ⟨2, 100⟩) = false := by decide

theorem test_wf_axis_out_of_range : wellFormed (.axisMoveDone 0 4) = false := by decide

theorem test_wf_port_out_of_range : wellFormed (.linkChanged 0 3 0) = false := by decide

theorem test_wf_mac_too_wide : wellFormed (.icmpEcho 0 (2 ^ 48) 1 []) = false := by decide

theorem test_wf_ip_too_wide : wellFormed (.arpRequest 0 1 (2 ^ 32) 1) = false := by decide

theorem test_wf_can_port_out_of_range : wellFormed (.canBusOff 0 2) = false := by decide

theorem test_wf_can_dlc_too_wide : wellFormed (.canFrameReceived 0 0 ⟨false, false, false, false, false, 16, 0, []⟩ 0 0) = false := by decide

theorem test_wf_can_data_too_long : wellFormed (.canFrameReceived 0 0 ⟨false, false, false, false, false, 8, 0, List.replicate 65 0⟩ 0 0) = false := by decide

theorem test_wf_bank_out_of_range : wellFormed (.memUncorrectable 0 48 0 []) = false := by decide

theorem test_wf_fold_link_out_of_range : wellFormed (.relay 0 ⟨5, 0, 0, 1, 1, 0, 0, 0, [], 0⟩) = false := by decide

theorem test_wf_device_out_of_range : wellFormed (.prepare 0 64 []) = false := by decide

theorem test_wf_pair_lane_out_of_range : wellFormed (.pairLaneDown 0 2) = false := by decide

theorem test_wf_tamper_source_out_of_range : wellFormed (.tamperAlarm 0 7 true) = false := by decide

theorem test_wf_part_out_of_range : wellFormed (.bankEraseDone 0 5) = false := by decide

theorem test_wf_handover_chain_out_of_range : wellFormed (.handoverPause 0 2 4 0) = false := by decide

theorem test_wf_cx_payload_length : wellFormed (.cxMessageFrame 0 ⟨0, 1, [], true, 0⟩) = false := by decide

theorem test_wf_cx_opcode_too_wide : wellFormed (.cxUnknownOpcode 0 false 256 true) = false := by decide

/-! ### Worked examples of the manual -/

/-- 00_scope.md: the accession number 0001_2A3Fh is sent low byte first. -/
theorem test_byte_order : le 4 0x00012A3F = [0x3F, 0x2A, 0x01, 0x00] := by decide

/-- 08_air.md: the channels of chains A to D at ASN 30,364,914,944 with channels 1 to 29, stride 7 and offset 5. -/
theorem test_hop_channels :
    (List.range 4).map (hopChannel ((List.range 29).map (· + 1)) 5 7 30364914944) = [3, 23, 14, 5] := by decide

/-- 08_air.md: the ASN at pasture time 1,412,345,678.400 s. -/
theorem test_asn : alignedAsn 1412345678400000000 = 30364914944 := by decide

/-- 23_cx_mode.md: GET_ROBOT for robot 5. -/
theorem test_cx_request : cxFrameBytes 0x13 [5] = [0xAA, 0x02, 0x13, 0x05, 0xE6] := by decide

/-- 23_cx_mode.md: its reply. -/
theorem test_cx_reply :
    cxFrameBytes 0x13 ([0, 1] ++ le 4 123456 ++ leS 4 (-567890) ++ le 2 123 ++ [3, 7, 82, 0xB9]) =
    [0xAA, 0x11, 0x13, 0x00, 0x01, 0x40, 0xE2, 0x01, 0x00, 0xAE, 0x55, 0xF7, 0xFF, 0x7B, 0x00, 0x03, 0x07, 0x52, 0xB9, 0x2F] := by decide

/-- 17_queues_memory.md: a fix record of 88 bytes takes 92 bytes. -/
theorem test_slot_bytes : State.slotBytes 88 = 92 := by decide

/-- 04_commands.md, R38 and R60: the first tick has number 0, and the first event has SEQ 1 and code 0091h; R184: with no copy of the
calendar, CALENDAR_INVALID follows it. -/
theorem test_reset_first_event : State.reset.sys.tick = 0 ∧ State.reset.sys.events.map (fun e => (e.seq, e.code)) = [(1, 0x0091), (2, 0x0408)] := by decide

/-- R78: a packet that fails check 1 is counted on its transport and not answered. -/
theorem test_bad_packet_counted :
    (match exec (.badPacket 0 .spi 1) State.reset with | .next t => (t.ses.counts, t.out) | _ => ([], [])) =
    ([[0, 0, 0, 0, 0, 0, 0, 0], [1, 0, 0, 0, 0, 0, 0, 0], [0, 0, 0, 0, 0, 0, 0, 0]], []) := by decide +kernel


/-- A journal entry of session 1. -/
def jentry (acc : Nat) (r : Option Ans) : JEntry := {
  sess := 1, acc := acc, opcode := 0x0004, flags := 0, pre := [], pcrc := 0, params := [], reserve := 0, later := true, result := r
  sent := false, awaitConf := none, close := none }

/-- A session that has agreed every catalogue bit. -/
def hotSession : Session := {
  tag := 9, agreed := 2 ^ 256 - 1, via := .spi, next := 3, shadow := ⟨[], [], [], [], [], []⟩, heard := 0, part := none, waiting := [] }

/-- The state after reset with session 1 open. -/
def hot : State := State.reset.mapSes (fun z => { z with sessions := [(1, hotSession)] })

/-- Session 1 holds a completion and a running command. -/
def hotDone : State := hot.mapSes (fun z => { z with journal := [jentry 1 (some (Ans.ok [])), jentry 2 none] })

/-- A packet of session 1 over SPI. -/
def pk (acc flags : Nat) (b : Bytes) : Pkt := {
  via := .spi, flags := flags, plen := b.length, delivered := 20 + b.length, acc := acc, sess := 1, payload := b, pcrc := crc32c b }

abbrev pkN (b : Bytes) : Pkt := pk 3 0 b
abbrev pkC (b : Bytes) : Pkt := pk 0 0 b
abbrev pkU (b : Bytes) : Pkt := pk 0 4 b

/-- What HostReady asks, apart from the packet's length and check value. -/
def readyB (s : State) (spec : OpSpec) (p : Pkt) (x : Session) : Bool :=
  s.hearsHost p.via && s.sys.fw == .running && !s.merging && (!s.mirror && (!s.pairShut || State.pairAnswers spec.code)) && !s.spiFull && p.flags / 32 == 0 &&
  !p.routed && !p.fragment && (!p.urgent || spec.urgent) && p.sess != 0 && s.session p.sess == some x &&
  missingBit x.agreed (p.flagBits ++ spec.bits) == none && decide (p.plen ≤ 4076)

theorem pk_ready {s : State} {spec : OpSpec} {acc flags : Nat} {b : Bytes} {x : Session}
    (h : readyB s spec (pk acc flags b) x = true) : HostReady s spec (pk acc flags b) x := by
  simp only [readyB, Bool.and_eq_true, beq_iff_eq, Bool.not_eq_true', decide_eq_true_eq, Bool.or_eq_true, bne_iff_ne] at h
  obtain ⟨⟨⟨⟨⟨⟨⟨⟨⟨⟨⟨⟨h1, h2⟩, h3⟩, h4⟩, h5⟩, h6⟩, h7⟩, h8⟩, h9⟩, ha⟩, hb⟩, hc⟩, hd⟩ := h
  refine ⟨h1, h2, ⟨h3, h4.1, fun hu => ?_⟩, fun _ => h5, ?_, h6, h7, h8, fun hu => ?_, ⟨ha, hb⟩, hc⟩
  · rcases h4.2 with h4 | h4
    · simp [hu] at h4
    · exact h4
  · have e1 : ¬4076 < (pk acc flags b).plen := by omega
    have e2 : (pk acc flags b).pcrc = crc32c (pk acc flags b).payload := rfl
    have e3 : (pk acc flags b).delivered = 20 + (pk acc flags b).plen := rfl
    simp [State.headCheck, e1, e2, e3, h7]
  · rcases h9 with h9 | h9
    · simp [hu] at h9
    · exact h9

/-- A query's packet is taken in `s`, and `ok` holds of its command. -/
def WitQ (s : State) (spec : OpSpec) (b : Bytes) (ok : Cmd → State → Prop) (x : Session := hotSession) : Prop :=
  HostReady s spec (pkN b) x ∧ Expected s spec.code (pkN b) x ∧ ok (cmdOf spec (pkN b) x) (heardNumbered spec.code (pkN b) s)

/-- The same of a work command. -/
def WitW (s : State) (spec : OpSpec) (b : Bytes) (ok : Cmd → State → Prop) (x : Session := hotSession) : Prop :=
  HostReady s spec (pkN b) x ∧ Expected s spec.code (pkN b) x ∧ Credit s spec (pkN b) ∧
    ok (cmdOf spec (pkN b) x) (heardNumbered spec.code (pkN b) s)

/-- The same of a control command. -/
def WitC (s : State) (spec : OpSpec) (b : Bytes) (ok : Cmd → State → Prop) (x : Session := hotSession) : Prop :=
  HostReady s spec (pkC b) x ∧ Outside spec (pkC b) ∧ ok (cmdOf spec (pkC b) x) (heard spec.code (pkC b) s)

/-- The same of an urgent packet. -/
def WitU (s : State) (spec : OpSpec) (b : Bytes) (ok : Cmd → State → Prop) (x : Session := hotSession) : Prop :=
  HostReady s spec (pkU b) x ∧ Outside spec (pkU b) ∧ ok (cmdOf spec (pkU b) x) (heard spec.code (pkU b) s)

/-- Session 1 expects the packet's number, with credit to spare. -/
def expectedB (s : State) (spec : OpSpec) (b : Bytes) (x : Session) : Bool :=
  readyB s spec (pkN b) x && x.waiting.isEmpty && !State.blocked holdsOp spec.code (pkN b).body s 1 && !s.ses.journalFault &&
  (heardNumbered spec.code (pkN b) s).creditCheck 1 (pkN b).body.length spec.maxBody == none

theorem witW (s : State) (spec : OpSpec) (b : Bytes) (ok : Cmd → State → Prop) {x : Session} (h : (expectedB s spec b x && x.next == 3) = true)
    (ho : ok (cmdOf spec (pkN b) x) (heardNumbered spec.code (pkN b) s)) : WitW s spec b ok x := by
  simp only [expectedB, Bool.and_eq_true, Bool.not_eq_true', beq_iff_eq, List.isEmpty_iff] at h
  obtain ⟨⟨⟨⟨⟨hr, hw⟩, hf⟩, hj⟩, hc⟩, hn⟩ := h
  exact ⟨pk_ready hr, ⟨(by decide : bit 0 2 = false), ⟨hn.symm, (by decide : (3 : Nat) ≠ 0)⟩, hw, hf⟩, ⟨hj, hc⟩, ho⟩

theorem witQ (s : State) (spec : OpSpec) (b : Bytes) (ok : Cmd → State → Prop) {x : Session} (h : (expectedB s spec b x && x.next == 3) = true)
    (ho : ok (cmdOf spec (pkN b) x) (heardNumbered spec.code (pkN b) s)) : WitQ s spec b ok x :=
  let w := witW s spec b ok h ho
  ⟨w.1, w.2.1, w.2.2.2⟩

theorem witC (s : State) (spec : OpSpec) (b : Bytes) (ok : Cmd → State → Prop) {x : Session}
    (h : (readyB s spec (pkC b) x && spec.kind == .control) = true)
    (ho : ok (cmdOf spec (pkC b) x) (heard spec.code (pkC b) s)) : WitC s spec b ok x := by
  simp only [Bool.and_eq_true, beq_iff_eq] at h
  exact ⟨pk_ready h.1, ⟨.inr h.2, rfl⟩, ho⟩

theorem witU (s : State) (spec : OpSpec) (b : Bytes) (ok : Cmd → State → Prop) {x : Session} (h : readyB s spec (pkU b) x = true)
    (ho : ok (cmdOf spec (pkU b) x) (heard spec.code (pkU b) s)) : WitU s spec b ok x :=
  ⟨pk_ready h, ⟨.inl (by decide : bit 4 2 = true), rfl⟩, ho⟩

/-- A native robot in contact, with key slot 3, on chain 0. -/
def robot0 : Robot := { Robot.fresh 0x1122 1 false true 3 0 0 0 with link := .joined }

/-- A state in which parameters have these values. -/
def withParams (ps : Tab Nat) (s : State) : State := s.mapCfg (fun c => { c with eff := { c.eff with params := ps } })

/-- Chain 0 is enabled, and robot 5 is in contact: its uplink, COR and downlink slots lie in slots 2, 3 and 4 of every tick. -/
def hotFlock : State :=
  ((withParams [(0x0501, 1)] hot).mapLnk (fun l => { l with robots := [(5, robot0)] })).mapAir (fun a => { a with
    tick := 4
    map := ⟨[⟨0, .uplink, some 5, 0, 1, 0, 2⟩, ⟨0, .cor, some 5, 0, 1, 0, 3⟩, ⟨0, .downlink, some 5, 0, 1, 0, 4⟩], [(5, ⟨0, 0, 2, 0, 4, none, some 3, 3⟩)]⟩ })

/-- A frame of chain 0 with a sound check value and MIC. -/
def airRx (len ctr : Nat) (b : Bytes) : AirRx := ⟨0, 150, 3, len, false, true, 5, ctr, true, 20, b⟩

/-- An entry of robot 5 at node 0. -/
def entryOf (kind : Nat) (tOut : Option Nat) : Entry := {
  robot := 5, kind := kind, grant := 1, place := 0, seg := 0, cls := 0, shape := ⟨700, 600, 600, 200, 200⟩, geo := ⟨0, 0, 0, 0⟩
  tIn := 0, tOut := tOut, tseg := none, late := false, border := false, breach := false, conflict := false, hits := [], xid := none }

/-- Two nodes with HOLD, a lane from the first to the second, and robot 5 standing on the first. -/
def hotPasture : State := ((withParams [(0x0501, 1), (0x0605, 2), (0x0606, 1)] hotFlock).mapCfg (fun c => { c with eff := { c.eff with
    nodes := [(0, zeros 12 ++ [1, 0, 0, 0]), (1, le 4 1000 ++ zeros 8 ++ [1, 0, 0, 0])]
    lanes := [(0, [0, 0, 1, 0, 2, 0, 0, 0, 0, 0, 255, 255])] } })).mapPas (fun p => { p with
  entries := [entryOf 1 none, entryOf 0 (some 0), entryOf 3 (some 0)] })

/-- Robot 5 has a PAS_MOVE that waits. -/
def hotMove : State := hotPasture.mapPas (fun p => { p with robots := [(5, { PasRobot.fresh with move := some (0, 1, 2) })] })

/-- A copy of a key slot that holds a key of a type. -/
def keyCopy (typ : Nat) : SlotCopy := ⟨1, typ, true, 77, 5, true⟩

/-- Slot 3 holds a join key, slot 4 a network key for legacy members. -/
def withKeys (s : State) : State := s.mapVit (fun v => { v with slots := [(3, (keyCopy 1, keyCopy 1)), (4, (keyCopy 3, keyCopy 3))] })

/-- CX mode with its firmware running, as the state after a CX boot leaves it. -/
def hotCx : State := (State.reset.mapSys (fun y => { y with cx := true })).cxBoot

theorem wit_SessionCommandsComplete :
    WitW hot opSessionClose [] (fun c s => c.params = [] ∧ s.entriesOf c.sess = []) ∧
    WitW hot opBarrier (le 4 1) (fun c _ => c.params.length = 4 ∧ u8 c.params 0 ≤ 1 ∧ rd c.params 1 3 = 0) ∧
    WitC hotDone opCompletionAck (le 4 1)
      (fun c s => c.params.length = 4 ∧ ∃ x, s.session c.sess = some x ∧ State.notAccepted x (u32 c.params 0) = false ∧
        ∀ e, s.entry? c.sess (u32 c.params 0) = some e → e.result.isSome ∧ e.awaitConf = none) ∧
    WitC hotDone opCompletionRead (le 4 1)
      (fun c s => c.params.length = 4 ∧ s.entry? c.sess (u32 c.params 0) = some (jentry 1 (some (Ans.ok []))) ∧
        (jentry 1 (some (Ans.ok []))).awaitConf = none) ∧
    WitC hotDone opCompletionRead (le 4 2)
      (fun c s => c.params.length = 4 ∧ s.entry? c.sess (u32 c.params 0) = some (jentry 2 none) ∧ (jentry 2 none).awaitConf = none) ∧
    WitC hot opFaultAck (le 4 1) (fun c s => c.params.length = 4 ∧ u32 c.params 0 < s.sys.nextSeq) ∧
    WitU hot opFaultAck (le 4 1) (fun c s => c.params.length = 4 ∧ u32 c.params 0 < s.sys.nextSeq) ∧
    WitC hot opEventRead (le 4 1 ++ le 4 64)
      (fun c _ => c.params.length = 8 ∧ 1 ≤ u16 c.params 4 ∧ u16 c.params 4 ≤ 64 ∧ u16 c.params 6 = 0) ∧
    WitC hot opEcho [7] (fun c _ => c.params.length ≤ 4072) ∧
    WitQ hot opCountersRead [] (fun c _ => c.params = []) ∧
    WitW hot opCountersClear [] (fun c _ => c.params = []) ∧
    WitW hot opSysReset (le 2 1) (fun c _ => c.params.length = 2 ∧ u16 c.params 0 ≤ 1) ∧
    WitW hot opPowerStandby [7] (fun c s => c.params.length = 1 ∧ u8 c.params 0 ≤ 7 ∧
      missingBit c.agreed (if u8 c.params 0 = 0 then [] else [196]) = none ∧
      (s.beaconsOn = true → ∀ k < 4, s.chainOn k = false) ∧ (∀ n < 4, s.axisMoving n = false) ∧ s.upd.lock = none) := by
  refine ⟨witW _ _ _ _ (by decide) (by decide), witW _ _ _ _ (by decide) (by decide),
    witC _ _ _ _ (by decide) ⟨by decide, hotSession, by decide, by decide, ?_⟩, witC _ _ _ _ (by decide) (by decide),
    witC _ _ _ _ (by decide) (by decide), witC _ _ _ _ (by decide) (by decide), witU _ _ _ _ (by decide) (by decide),
    witC _ _ _ _ (by decide) (by decide), witC _ _ _ _ (by decide) (by decide), witQ _ _ _ _ (by decide) (by decide),
    witW _ _ _ _ (by decide) (by decide), witW _ _ _ _ (by decide) (by decide), witW _ _ _ _ (by decide) (by decide)⟩
  intro e he
  have : e = jentry 1 (some (Ans.ok [])) := by
    have h : (Safety.heard 6 (pkC (le 4 1)) hotDone).entry? 1 (u32 (le 4 1) 0) = some (jentry 1 (some (Ans.ok []))) := by decide
    exact Option.some.inj (he.symm.trans h)
  subst this
  exact ⟨rfl, rfl⟩

/-- Session 1 has staged a parameter of the system domain. -/
def stagedSession : Session := { hotSession with shadow := ⟨[(0x001B, 1)], [], [], [], [], []⟩ }

/-- The state in which it has. -/
def hotStaged : State := hot.mapSes (fun z => { z with sessions := [(1, stagedSession)] })

/-- Channel 0 captures rising edges, and has one stamp. -/
def hotCapture : State :=
  (hot.mapCfg (fun c => { c with eff := { c.eff with params := [(0x001C, 0x0100)] } })).mapSys (fun y => { y with
    cc := modAt 0 (fun k => { k with stamps := [(5, false, false)] }) y.cc })

theorem wit_ParameterCommandsComplete_a :
    WitQ hot opPrmGet (le 2 1 ++ le 2 0 ++ le 2 0x0010) (fun c s =>
      let b := c.params
      let ids := (List.range (u16 b 0)).map (fun i => u16 b (4 + 2 * i))
      1 ≤ u16 b 0 ∧ u16 b 0 ≤ 256 ∧ u8 b 2 ≤ 1 ∧ u8 b 3 = 0 ∧ b.length = 4 + 2 * u16 b 0 ∧ (∀ id ∈ ids, (paramDef? id).isSome) ∧
        24 + c.pre + (prmRecords c s).length ≤ 4096) ∧
    WitW hot opPrmSet (le 2 1 ++ le 2 0 ++ le 2 0x001B ++ le 2 1 ++ le 4 1) (fun c _ =>
      4 ≤ c.params.length ∧ 1 ≤ u16 c.params 0 ∧ u16 c.params 0 ≤ 256 ∧ u16 c.params 2 = 0 ∧
        prmItems c.agreed (u16 c.params 0) 0 (c.params.drop 4) [] = .inr [(0x001B, 1)]) ∧
    WitW hot opDiscard [] (fun c _ => c.params = []) ∧
    WitW hot opCommit (le 4 0) (fun c s => c.params.length = 4 ∧ (u32 c.params 0 = 0 ∨ u32 c.params 0 = s.newestNum) ∧
      (s.shadowOf c.sess).isEmpty = true) ∧
    WitW hot opOrdersWrite (le 2 255 ++ le 2 0 ++ le 8 (2 ^ 63 + 0x0090 * 2 ^ 40)) (fun c _ =>
      c.params.length = 12 ∧ u16 c.params 0 < 256 ∧ u16 c.params 2 = 0 ∧ soOk (u64 c.params 4) = true ∧
        missingBit c.agreed (soNeed (u64 c.params 4)) = none) ∧
    WitQ hot opOrdersRead (le 2 255 ++ le 2 1 ++ le 4 1) (fun c _ =>
      c.params.length = 8 ∧ 1 ≤ u16 c.params 2 ∧ u16 c.params 0 + u16 c.params 2 ≤ 256 ∧ u8 c.params 4 ≤ 1 ∧ rd c.params 5 3 = 0) ∧
    WitQ hot opResmapRead (le 4 7) (fun c _ => c.params.length = 4 ∧ 1 ≤ u8 c.params 0 ∧ u8 c.params 0 ≤ 7 ∧ rd c.params 1 3 = 0) ∧
    WitQ hot opBudgetRead [] (fun c _ => c.params = []) ∧
    WitW hotCapture opSysCaptureRead [0, 64, 0, 0] (fun c s =>
      c.params.length = 4 ∧ u8 c.params 0 < 4 ∧ 1 ≤ u8 c.params 1 ∧ u8 c.params 1 ≤ 64 ∧ u16 c.params 2 = 0 ∧
        1 ≤ u8 (s.ccRec (u8 c.params 0)) 1 ∧ u8 (s.ccRec (u8 c.params 0)) 1 ≤ 3 ∧
        s.sys.cc[u8 c.params 0]? = some ⟨[(5, false, false)], 0, false, none, false⟩) :=
  ⟨witQ _ _ _ _ (by decide) (by decide), witW _ _ _ _ (by decide) (by decide), witW _ _ _ _ (by decide) (by decide),
    witW _ _ _ _ (by decide) (by decide), witW _ _ _ _ (by decide) (by decide), witQ _ _ _ _ (by decide) (by decide),
    witQ _ _ _ _ (by decide) (by decide), witQ _ _ _ _ (by decide) (by decide), witW _ _ _ _ (by decide) (by decide)⟩

theorem wit_ParameterCommandsComplete_b :
    WitQ hot opBudgetProbe (le 2 1 ++ le 2 0 ++ [1, 0, 0, 0] ++ le 4 1) (fun c s =>
      u16 c.params 0 ≤ 64 ∧ u16 c.params 2 = 0 ∧ c.params.length = 4 + 8 * u16 c.params 0 ∧
        ∀ i < u16 c.params 0, State.probeEntryOk (slice c.params (4 + 8 * i) 8) ((s.newest.takeAll (s.shadowOf c.sess)).prm 0x050F) = true) :=
  witQ _ _ _ _ (by decide) (by decide)

theorem wit_ParameterCommandsComplete_c :
    WitW hotStaged opCommit (le 4 0) (fun c s =>
      c.params.length = 4 ∧ (u32 c.params 0 = 0 ∨ u32 c.params 0 = s.newestNum) ∧ (s.shadowOf c.sess).isEmpty = false ∧
        s.cfg.lost = false ∧
        s.commitCheck c.agreed s.newest (s.newest.takeAll (s.shadowOf c.sess)) (s.shadowOf c.sess) = .inr (false, false)) stagedSession :=
  witW _ _ _ _ (by decide) (by decide)

/-- A measurement set without records. -/
def set0 : MeasSet := { epoch := 7, tick := 1, timeQ := 0, flags := 0, bias := 0, drift := 0, recs := [] }

/-- The snapshot buffer is claimed, a capture of 1 ms and a set are held, and a base position is surveyed. -/
def hotGnss : State :=
  (hot.mapCfg (fun c => { c with eff := { c.eff with params := [(0x0220, 1)] } })).mapGns (fun g => { g with
    sets := [set0], capEnd := some ⟨0, false, 1, 1⟩, survey := none, surveyed := some (6371000000, 0, 0, 5) })

/-- A bank of the snapshot region is out of service. -/
def hotBankOut : State := hotGnss.mapBank 0 (fun k => { k with state := .outOfService })

theorem wit_GnssCommandsComplete :
    WitQ hot opGnsStatusRead [] (fun c _ => c.params = []) ∧
    WitQ hotGnss opGnsMeasRead (le 8 7 ++ le 2 191 ++ le 2 126) (fun c s =>
      c.params.length = 12 ∧ u16 c.params 8 ≤ 191 ∧ 1 ≤ u16 c.params 10 ∧ u16 c.params 10 ≤ 126 ∧
        (if u64 c.params 0 = 0 then s.gns.sets.head? else (s.gns.sets.take 2).find? (fun m => m.epoch == u64 c.params 0)) = some set0) ∧
    WitW hot opGnsExclude [1, 32, 1, 0] (fun c _ =>
      c.params.length = 4 ∧ sigOk (u8 c.params 0) (u8 c.params 1) (u8 c.params 2) = true ∧ u8 c.params 3 = 0) ∧
    WitW hot opGnsReadmit [3, 63, 6, 0] (fun c _ =>
      c.params.length = 4 ∧ sigOk (u8 c.params 0) (u8 c.params 1) (u8 c.params 2) = true ∧ u8 c.params 3 = 0) ∧
    WitW hotGnss opGnsSnapStart ([15, 32, 0, 0] ++ le 8 0) (fun c s =>
      c.params.length = 12 ∧ s.prm 0x0220 = 1 ∧ 1 ≤ u8 c.params 0 ∧ u8 c.params 0 ≤ 15 ∧ u16 c.params 2 = 0 ∧
        1 ≤ u8 c.params 1 ∧ u8 c.params 1 ≤ 32 ∧ s.gns.cap = none ∧ s.snapshotLost = false ∧
        (u64 c.params 4 = 0 ∨ s.timeValid = true ∧ s.clk.count + 20000000 ≤ u64 c.params 4 ∧ u64 c.params 4 ≤ s.clk.count + 60000000000)) ∧
    WitW hotBankOut opGnsSnapStart ([1, 1, 0, 0] ++ le 8 0) (fun c s =>
      c.params.length = 12 ∧ s.prm 0x0220 = 1 ∧ 1 ≤ u8 c.params 0 ∧ u8 c.params 0 ≤ 15 ∧ u16 c.params 2 = 0 ∧
        1 ≤ u8 c.params 1 ∧ u8 c.params 1 ≤ 32 ∧ s.gns.cap = none ∧ s.snapshotLost = true) ∧
    WitQ hotGnss opGnsSnapRead (le 4 28704 ++ le 2 4064) (fun c s =>
      c.params.length = 6 ∧ u32 c.params 0 % 16 = 0 ∧ u16 c.params 4 % 16 = 0 ∧ 16 ≤ u16 c.params 4 ∧ u16 c.params 4 ≤ 4064 ∧
        (∀ k t, s.gns.cap = some k → k.start = some t → s.now < t) ∧ s.gns.capEnd = some ⟨0, false, 1, 1⟩ ∧
        u32 c.params 0 + u16 c.params 4 ≤ snapBytes 1 1) ∧
    WitW hotGnss opGnsSnapSolve [] (fun c s =>
      c.params = [] ∧ s.gns.cap = none ∧ s.gns.solve = none ∧ s.snapshotLost = false ∧ s.gns.capEnd ≠ none) ∧
    WitW hotGnss opGnsSurveyStart [] (fun c s =>
      c.params = [] ∧ s.prm 0x0218 ≠ 0 ∧ ∀ t who, s.gns.survey = some (t, who) → who = none) ∧
    WitW hotGnss opGnsBaselineMeasure (le 4 3600) (fun c s =>
      c.params.length = 4 ∧ 30 ≤ u32 c.params 0 ∧ u32 c.params 0 ≤ 3600 ∧ s.basePos ≠ none ∧ s.gns.alarm = [] ∧ s.gns.baseline = none) :=
  ⟨witQ _ _ _ _ (by decide) (by decide), witQ _ _ _ _ (by decide) (by decide), witW _ _ _ _ (by decide) (by decide),
    witW _ _ _ _ (by decide) (by decide), witW _ _ _ _ (by decide) (by decide), witW _ _ _ _ (by decide) (by decide),
    witQ _ _ _ _ (by decide) ⟨by decide, by decide, by decide, by decide, by decide,
      (fun k _ h => by cases (show (none : Option SnapCap) = some k from h)), by decide +kernel⟩,
    witW _ _ _ _ (by decide) (by decide), witW _ _ _ _ (by decide) ⟨by decide, by decide,
      fun t who h => by cases (show (none : Option (Nat × Option (Nat × Nat))) = some (t, who) from h)⟩,
    witW _ _ _ _ (by decide) (by decide)⟩

theorem wit_GnssEventsAct :
    (let u := hotGnss.mapGns (fun g => { g with cap := some ⟨1, 1, some 0, 1, 1⟩ })
     let v := { u with now := 1000000 }
     NativeRun v ∧ v.gns.cap = some ⟨1, 1, some 0, 1, 1⟩ ∧ 0 + 1 * 1000000 ≤ v.now) ∧
    (let u := hotGnss.mapGns (fun g => { g with solve := some (1, 1), eph := [(257, [])] })
     NativeRun u ∧ u.jobStuck 6 0 = false ∧ u.gns.solve = some (1, 1) ∧ u.gns.eph ≠ [] ∧ u.gns.capEnd = some ⟨0, false, 1, 1⟩ ∧ bit 1 0 = true) ∧
    (let u := hotGnss.mapGns (fun g => { g with solve := some (1, 1), capEnd := some ⟨0, false, 2, 1⟩ })
     NativeRun u ∧ u.jobStuck 6 0 = false ∧ u.gns.solve = some (1, 1) ∧ u.gns.capEnd = some ⟨0, false, 2, 1⟩ ∧ bit 2 0 = false ∧ bit 2 2 = false) ∧
    (let u := { hot.mapGns (fun g => { g with acc := ⟨2, (200, 0, 0), 20002⟩ }) with now := 1800000000000 }
     NativeRun u ∧ u.gns.survey = some (0, none) ∧ u.prm 0x021C * 1000000000 ≤ u.now - 0 ∧ u.gns.acc.within (u.prm 0x021D) = true) ∧
    (let u := { hot with now := 7200000000000 }
     NativeRun u ∧ u.gns.survey = some (0, none) ∧ 4 * (u.prm 0x021C * 1000000000) ≤ u.now - 0 ∧ u.gns.acc.within (u.prm 0x021D) = false) ∧
    (let u := hot.mapGns (fun g => { g with baseline := some (0, 1, 1, true) })
     NativeRun u ∧ u.gns.baseline = some (0, 1, 1, true) ∧ 0 ≤ u.now ∧ u.jobStuck 6 0 = false) ∧
    FwRun hot ∧ (FwRun hot ∧ hot.biasOn 1 = true ∧ hot.antCut 1 = false ∧ hot.antOpen 1 = false) :=
  ⟨⟨⟨rfl, rfl, rfl⟩, by decide⟩, ⟨⟨rfl, rfl, rfl⟩, by decide⟩, ⟨⟨rfl, rfl, rfl⟩, by decide⟩, ⟨⟨rfl, rfl, rfl⟩, by decide⟩,
    ⟨⟨rfl, rfl, rfl⟩, by decide⟩, ⟨⟨rfl, rfl, rfl⟩, by decide⟩, ⟨rfl, rfl⟩, ⟨⟨rfl, rfl⟩, by decide⟩⟩

/-- The time unit in one of its states, at a count of 2 s. -/
def clkAt (st : TimeState) (f : Clk → Clk) : State := hot.mapClk (fun c => f { c with state := st, count := 2000000000, e0 := some 20 })

theorem wit_TimeRowsAct_a :
    WitQ hot opClkTimeRead [] (fun c _ => c.params = []) ∧
    WitW hot opClkTimeSet (le 8 5 ++ le 4 9 ++ [127, 0, 0, 0]) (fun c s =>
      c.params.length = 16 ∧ 0 ≤ i8 c.params 12 ∧ rd c.params 13 3 = 0 ∧ s.timeValid = false) ∧
    (let u := { clkAt .holdover id with now := 600000000000 }
     FwRun u ∧ u.clk.state = .holdover ∧ u.prm 0x0403 * 1000000000 ≤ u.now - u.clk.holdAt) ∧
    (let u := clkAt .expired (fun c => { c with e0 := some 1000001 })
     FwRun u ∧ u.timeValid = true ∧ u.clk.state ≠ .locked ∧ u.timeErrFine = some (1000001 * 200000000000000000000) ∧
       1000000 * 200000000000000000000 < 1000001 * 200000000000000000000) ∧
    (let u := clkAt .holdover (fun c => { c with offset := some (-100000) })
     FwRun u ∧ u.clk.offset = some (-100000) ∧ (-100000 : Int).natAbs ≤ u.prm 0x0406) ∧
    (let u := clkAt .holdover (fun c => { c with offset := some 100001 })
     FwRun u ∧ u.clk.offset = some 100001 ∧ u.prm 0x0406 < (100001 : Int).natAbs) ∧
    (let u := clkAt .slewing (fun c => { c with step := some 7 })
     FwRun u ∧ u.follows = false ∧ u.clk.step = some 7) ∧
    (let u := clkAt .slewing (fun c => { c with slewOn := true })
     FwRun u ∧ u.clk.slewOn = true ∧ u.clk.slew = 0 ∧ u.clk.state = .slewing) :=
  ⟨witQ _ _ _ _ (by decide) (by decide), witW _ _ _ _ (by decide) (by decide), ⟨⟨rfl, rfl⟩, by decide⟩, ⟨⟨rfl, rfl⟩, by decide⟩,
    ⟨⟨rfl, rfl⟩, by decide⟩, ⟨⟨rfl, rfl⟩, by decide⟩, ⟨⟨rfl, rfl⟩, by decide⟩, ⟨⟨rfl, rfl⟩, by decide⟩⟩

theorem wit_TimeRowsAct_b :
    (let u := clkAt .locked (fun c => { c with leapAnn := some (19, 1000000000) })
     FwRun u ∧ u.clk.leapAnn = some (19, 1000000000) ∧
       (if u.clk.leap < 19 then 1000000000 + 1000000000 else 1000000000) ≤ u.clk.count) ∧
    (let u := clkAt .locked (fun c => { c with refin := true }); FwRun u ∧ u.clk.refin = true) ∧
    (let u := hot.mapCfg (fun c => { c with eff := { c.eff with params := [(0x0401, 1)] } }); FwRun u ∧ u.prm 0x0401 = 1 ∧ u.clk.refin = false) ∧
    (FwRun hot ∧ (hot.prm 0x0401 ≠ 1 ∨ hot.clk.refin = true)) ∧
    (let u := clkAt .locked (fun c => { c with wasValid := true, ppsLast := some 1500000000 }) |> fun u => { u with now := 2000000000 }
     FwRun u ∧ u.prm 0x0407 = 1 ∧ u.clk.wasValid = true ∧ u.ppsPhase 0 = true ∧ u.clk.ppsLast = some 1500000000 ∧
       500000000 ≤ u.now - 1500000000) ∧
    (let u := clkAt .locked id |>.mapClk (fun c => { c with count := 2500000000 }); FwRun u ∧ u.ppsPhase 500000000 = true) ∧
    (let u := { clkAt .locked (fun c => { c with trimAt := some 0 }) with now := 60000000000 }
     FwRun u ∧ u.clk.state = .locked ∧ u.clk.trimAt = some 0 ∧ 60000000000 ≤ u.now - 0) ∧
    (let u := hot.mapSys (fun y => { y with misalign := some (-10000) }); FwRun u ∧ u.sys.misalign = some (-10000)) ∧
    (let u := hot.mapSys (fun y => { y with misalign := some 10001 }); FwRun u ∧ u.sys.misalign = some 10001) ∧
    (let u := hot.mapSys (fun y => { y with misalign := some (-10001) }); FwRun u ∧ u.sys.misalign = some (-10001)) :=
  ⟨⟨⟨rfl, rfl⟩, by decide⟩, ⟨⟨rfl, rfl⟩, rfl⟩, ⟨⟨rfl, rfl⟩, by decide⟩, ⟨⟨rfl, rfl⟩, by decide⟩, ⟨⟨rfl, rfl⟩, by decide +kernel⟩,
    ⟨⟨rfl, rfl⟩, by decide +kernel⟩, ⟨⟨rfl, rfl⟩, by decide +kernel⟩, ⟨⟨rfl, rfl⟩, rfl⟩, ⟨⟨rfl, rfl⟩, rfl⟩, ⟨⟨rfl, rfl⟩, rfl⟩⟩

/-- Robot 5 is base-solved at 5 Hz. -/
def hotBase : State := hotFlock.mapFix (fun f => { f with robots := [(5, { FixRobot.fresh with base := true, rate := 5 })] })

/-- A mode change of robot 5 that is due. -/
def hotChange : State := hotFlock.mapFix (fun f => { f with
  robots := [(5, { FixRobot.fresh with pend := some ⟨true, 5, 0, 1, 2⟩ }), (6, { FixRobot.fresh with pend := some ⟨true, 5, 1, 1, 3⟩ })] })

/-- Robot 5's COR slot lay in the last tick. -/
def hotOwed : State := hotBase.mapAir (fun a => { a with map := ⟨[⟨0, .cor, some 5, 0, 20, 3, 3⟩], a.map.pos⟩ })

/-- The observation record arrives in slot 3. -/
def hotCor : State := hotBase.mapAir (fun a => { a with slot := 4 })

theorem wit_FixRowsAct_a :
    WitQ hotBase opFixRead [210, 46, 0, 0] (fun c _ =>
      c.params.length = 4 ∧ 1 ≤ u8 c.params 1 ∧ u8 c.params 1 ≤ 46 ∧ u8 c.params 0 + u8 c.params 1 ≤ 256 ∧ u16 c.params 2 = 0) ∧
    WitW hotBase opFixModeSet [5, 1, 5, 0] (fun c s =>
      c.params.length = 4 ∧ u8 c.params 1 = b2n (s.fr (u8 c.params 0)).base ∧ u8 c.params 2 = (s.fr (u8 c.params 0)).rate ∧
        u8 c.params 3 = 0 ∧ (if u8 c.params 1 = 1 then [1, 2, 5, 10, 20].contains (u8 c.params 2) = true else u8 c.params 2 = 0) ∧
        missingBit c.agreed ((if u8 c.params 1 = 1 then [67] else []) ++ (if u8 c.params 2 = 20 then [68] else [])) = none ∧
        (s.robot? (u8 c.params 0)).isSome ∧ (s.fr (u8 c.params 0)).pend = none) ∧
    WitQ hotBase opFixStateRead [128, 128, 0, 0] (fun c _ =>
      c.params.length = 4 ∧ 1 ≤ u8 c.params 1 ∧ u8 c.params 1 ≤ 128 ∧ u8 c.params 0 + u8 c.params 1 ≤ 256 ∧ u16 c.params 2 = 0) ∧
    WitW hotBase opFixFilterReset [5, 0, 0, 0] (fun c s =>
      c.params.length = 4 ∧ rd c.params 1 3 = 0 ∧ (s.robot? (u8 c.params 0)).isSome ∧ (s.fr (u8 c.params 0)).base = true) :=
  ⟨witQ _ _ _ _ (by decide) (by decide), witW _ _ _ _ (by decide) (by decide), witQ _ _ _ _ (by decide) (by decide),
    witW _ _ _ _ (by decide) (by decide)⟩

theorem wit_FixRowsAct_b :
    ∃ m, WitW hotFlock opFixModeSet [5, 1, 5, 0] (fun c s => c.params.length = 4 ∧ u8 c.params 1 ≤ 1 ∧ u8 c.params 3 = 0 ∧
      (if u8 c.params 1 = 1 then [1, 2, 5, 10, 20].contains (u8 c.params 2) = true ∧ s.rateMismatch (u8 c.params 2) = false ∧ robot0.legacy = false
        else u8 c.params 2 = 0) ∧
      missingBit c.agreed ((if u8 c.params 1 = 1 then [67] else []) ++ (if u8 c.params 2 = 20 then [68] else [])) = none ∧
      s.robot? (u8 c.params 0) = some robot0 ∧ (s.fr (u8 c.params 0)).pend = none ∧
      ((s.fr (u8 c.params 0)).base ≠ (u8 c.params 1 == 1) ∨ (s.fr (u8 c.params 0)).base = true ∧ (s.fr (u8 c.params 0)).rate ≠ u8 c.params 2) ∧
      ((u8 c.params 1 = 1 ∧ ((s.fr (u8 c.params 0)).base = false ∨ (s.fr (u8 c.params 0)).rate < u8 c.params 2)) →
        s.overBudget (s.withModeChange c).siteAdmit = none) ∧ s.placeLengths (s.withModeChange c).siteMap = .ok m) :=
  ⟨_, witW _ _ _ _ (by decide) ⟨by decide, by decide, by decide, by decide, by decide, by decide, by decide, by decide, by decide, rfl⟩⟩

theorem wit_FixRowsAct_c :
    (∃ t i, NativeRun hotCor ∧ hotCor.fixedDown 4 = false ∧ hotCor.merging = false ∧
      hotCor.airFront .cor 21 (hotCor.psduMax 3) (airRx 30 1 []) = .pass t i ∧ i.robot = some 5 ∧ t.robot? 5 = some robot0 ∧
      State.counterCheck robot0.rxCtr robot0.rxLast [] 1 true = none) ∧
    (NativeRun hotOwed ∧ (hotOwed.fr 5).base = true ∧ (hotOwed.fr 5).rate ≠ 0 ∧
      hotOwed.air.map.items.find? (fun i => i.typ == .cor && i.robot == some 5 &&
        i.period == ratePeriod hotOwed.sys.slots (hotOwed.fr 5).rate) = some ⟨0, .cor, some 5, 0, 20, 3, 3⟩ ∧ hotOwed.tickNo ≠ 0 ∧
      (hotOwed.tickNo - 1) % max 1 (ratePeriod hotOwed.sys.slots (hotOwed.fr 5).rate) = 3 ∧
      (hotOwed.fr 5).lastEpoch ≠ some ((hotOwed.tickNo - 1) * hotOwed.tickNs * (hotOwed.fr 5).rate / 1000000000)) ∧
    (NativeRun hotBase ∧ (hotBase.robot? 5).isSome) ∧
    (Tab.wf hotChange.fix.robots = true ∧ Tab.find? 5 hotChange.fix.robots = some { FixRobot.fresh with pend := some ⟨true, 5, 0, 1, 2⟩ } ∧
      0 ≤ hotChange.clk.count) ∧
    (Tab.find? 6 hotChange.fix.robots = some { FixRobot.fresh with pend := some ⟨true, 5, 1, 1, 3⟩ } ∧ hotChange.clk.count < 1) :=
  ⟨⟨hotCor.mapChain 0 (fun k => { k with rcvd := inc32 k.rcvd }), ⟨0, .cor, some 5, 0, 1, 0, 3⟩, ⟨rfl, rfl, rfl⟩, rfl, rfl, rfl, rfl, rfl, rfl⟩, ⟨⟨rfl, rfl, rfl⟩, by decide⟩, ⟨⟨rfl, rfl, rfl⟩, by decide⟩, by decide +kernel⟩

theorem wit_AirRowsAct :
    WitQ hotFlock opAirChainRead [] (fun c _ => c.params = []) ∧
    WitQ hotFlock opAirMapRead [255, 1, 0, 0] (fun c _ =>
      c.params.length = 4 ∧ 1 ≤ u8 c.params 1 ∧ u8 c.params 0 + u8 c.params 1 ≤ 256 ∧ u16 c.params 2 = 0) ∧
    (NativeRun hotFlock ∧ (hotFlock.chain 3).bad = false ∧ (hotFlock.prm 0x7F13 ≠ 3 ∨ hotFlock.sys.rfTest = none)) ∧
    (let u := hotFlock.mapChain 3 (fun k => { k with bad := true }); NativeRun u ∧ (u.chain 3).bad = true) ∧
    (NativeRun hotFlock ∧ hotFlock.air.slot = 0) ∧
    (let u := hotFlock.mapAir (fun a => { a with slot := 1 }); NativeRun u ∧ u.air.slot = 0 + 1) ∧
    (NativeRun hotFlock ∧ hotFlock.tickNoNow % 10 = 0 ∧ hotFlock.air.tick ≠ hotFlock.tickNoNow ∧ hotFlock.sys.sfTick ≠ 10 ∧
      false = (hotFlock.air.jump && hotFlock.sys.misalign.isNone && hotFlock.timeValid)) ∧
    (let u := (hotFlock.mapAir (fun a => { a with jump := true })).mapClk (fun c => { c with state := .locked, e0 := some 5 })
     NativeRun u ∧ u.tickNoNow % 10 = 0 ∧ u.air.tick ≠ u.tickNoNow ∧ u.sys.sfTick ≠ 10 ∧
      true = (u.air.jump && u.sys.misalign.isNone && u.timeValid)) :=
  ⟨witQ _ _ _ _ (by decide) (by decide), witQ _ _ _ _ (by decide) (by decide), ⟨⟨rfl, rfl, rfl⟩, by decide⟩,
    ⟨⟨rfl, rfl, rfl⟩, by decide⟩, ⟨⟨rfl, rfl, rfl⟩, rfl⟩, ⟨⟨rfl, rfl, rfl⟩, rfl⟩, ⟨⟨rfl, rfl, rfl⟩, by decide⟩, ⟨⟨rfl, rfl, rfl⟩, by decide⟩⟩

/-- The state of robot 5 is changed. -/
def flockWith (f : Robot → Robot) : State := hotFlock.mapLnk (fun l => { l with robots := [(5, f robot0)] })

/-- Chain 0 is enabled, without robots; the legacy chain is chain 0 and the network key lies in slot 4. -/
def hotKeys : State := withKeys (withParams [(0x0500, 1), (0x0501, 1), (0x050F, 0), (0x1300, 4)] hot)

theorem wit_LinkRowsAct_a :
    WitW (flockWith id) opAirRobotRemove [5, 0, 0, 0] (fun c s => c.params.length = 4 ∧ rd c.params 1 3 = 0 ∧
      s.robot? (u8 c.params 0) = some robot0 ∧ robot0.legacy = false ∧ (robot0.link = .joined ∨ robot0.link = .asleep)) ∧
    WitW (flockWith (fun x => { x with link := .lost })) opAirRobotRemove [5, 0, 0, 0] (fun c s => c.params.length = 4 ∧ rd c.params 1 3 = 0 ∧
      s.robot? (u8 c.params 0) = some { robot0 with link := .lost } ∧ { robot0 with link := .lost }.link ≠ .leaving ∧
      ({ robot0 with link := .lost }.link = .registered ∨ { robot0 with link := .lost }.link = .lost ∨ { robot0 with link := .lost }.legacy = true)) ∧
    WitQ hotFlock opAirLinkRead [128, 128, 0, 0] (fun c _ =>
      c.params.length = 4 ∧ 1 ≤ u8 c.params 1 ∧ u8 c.params 1 ≤ 128 ∧ u8 c.params 0 + u8 c.params 1 ≤ 256 ∧ u16 c.params 2 = 0) :=
  ⟨witW _ _ _ _ (by decide) (by decide), witW _ _ _ _ (by decide) (by decide), witQ _ _ _ _ (by decide) (by decide)⟩
/-- What the request of AIR_ROBOT_ADD asks for: EUI 77h, class 15, key slot 3, with these FLAGS. -/
def addBytes (flags : Nat) : Bytes := le 8 0x77 ++ le 1 15 ++ le 1 flags ++ le 2 3 ++ le 4 0

theorem wit_LinkRowsAct_b :
    (∃ r m, WitW hotKeys opAirRobotAdd (addBytes 2) (fun c s => robotAddOk c s ∧
      (List.range 256).find? (fun i => (s.robot? i).isNone) = some r ∧
      s.overBudget (s.robotAdded c.params r).siteAdmit = none ∧ s.placeLengths (s.robotAdded c.params r).siteMap = .ok m)) ∧
    (∃ r m, WitW hotKeys opAirRobotAdd (addBytes 1) (fun c s => robotAddOk c s ∧
      (List.range 256).find? (fun i => (s.robot? i).isNone) = some r ∧
      s.overBudget (s.robotAdded c.params r).siteAdmit = none ∧ s.placeLengths (s.robotAdded c.params r).siteMap = .ok m)) :=
  ⟨⟨_, _, witW _ _ _ _ (by decide) ⟨⟨by decide, by decide, by decide, by decide, by decide, fun e h => absurd h List.not_mem_nil, by decide⟩,
      rfl, by decide, rfl⟩⟩,
    ⟨_, _, witW _ _ _ _ (by decide) ⟨⟨by decide, by decide, by decide, by decide, by decide, fun e h => absurd h List.not_mem_nil, by decide⟩,
      rfl, by decide, rfl⟩⟩⟩

/-- Robot 5's uplink slot is open. -/
def hotUp : State := hotFlock.mapAir (fun a => { a with slot := 3 })

/-- Slot 5 is the rejoin slot, and it is open; robot 5's join key lies in slot 3. -/
def hotJoin : State := withKeys (hotFlock.mapAir (fun a => { a with asn := 5, slot := 6, map := ⟨[⟨0, .rejoin, none, 0, 1, 0, 5⟩], []⟩ }))

/-- A chain has received a frame. -/
def gotFrame (s : State) : State := s.mapChain 0 (fun k => { k with rcvd := inc32 k.rcvd })

theorem wit_LinkRowsAct_c :
    (NativeRun hotUp ∧ hotUp.fixedDown 4 = false ∧ hotUp.merging = false ∧ hotUp.airFront .uplink 17 (hotUp.psduMax 3) (airRx 17 1 [0, 0, 0, 128]) =
      .pass (gotFrame hotUp) ⟨0, .uplink, some 5, 0, 1, 0, 2⟩ ∧ (gotFrame hotUp).robot? 5 = some robot0 ∧
      State.counterCheck robot0.rxCtr robot0.rxLast [0, 0, 0, 128] 1 true = none ∧ i8 [0, 0, 0, 128] 3 = -128) ∧
    (hotUp.airFront .uplink 17 (hotUp.psduMax 3) (airRx 17 1 [0, 0, 0, 20]) = .pass (gotFrame hotUp) ⟨0, .uplink, some 5, 0, 1, 0, 2⟩ ∧
      State.counterCheck robot0.rxCtr robot0.rxLast [0, 0, 0, 20] 1 true = none ∧ i8 [0, 0, 0, 20] 3 ≠ -128) ∧
    (let b : Bytes := [1, 1, 0, 0] ++ le 8 0x1122
     NativeRun hotJoin ∧ hotJoin.fixedDown 4 = false ∧ hotJoin.merging = false ∧ hotJoin.airFront .rejoin 25 25 { airRx 25 1 b with sec := 1 } =
      .pass (gotFrame hotJoin) ⟨0, .rejoin, none, 0, 1, 0, 5⟩ ∧ (gotFrame hotJoin).sfNumber % 2 = 0 ∧ b.length = 12 ∧
      List.find? (fun (e : Nat × Robot) => e.2.eui == u64 b 4 && !e.2.legacy) (gotFrame hotJoin).lnk.robots = some (5, robot0) ∧
      ((gotFrame hotJoin).readSlot 3).rootKeys = true ∧ ((gotFrame hotJoin).readSlot 3).joinKeyAt 3 = true ∧
      State.counterCheck robot0.joinRx robot0.joinLast b 1 true = none ∧ u8 b 0 = 1 ∧ u8 b 1 ≤ 1 ∧ u16 b 2 = 0 ∧ robot0.answer = none ∧
      robot0.roam = none) :=
  ⟨⟨⟨rfl, rfl, rfl⟩, rfl, rfl, rfl, rfl, rfl, by decide⟩, ⟨rfl, rfl, by decide⟩,
    ⟨⟨rfl, rfl, rfl⟩, rfl, rfl, rfl, by decide, by decide, rfl, by decide, by decide, rfl, by decide, by decide, by decide, rfl, rfl⟩⟩

theorem wit_LinkRowsAct_d :
    (let u := flockWith (fun x => { x with removing := some (1, 2, 10) })
     NativeRun u ∧ u.robot? 5 = some { robot0 with removing := some (1, 2, 10) } ∧ u.prm 0x0512 ≤ 10) ∧
    (NativeRun hotFlock ∧ (hotFlock.robot? 5).isSome ∧ hotFlock.robot? 5 = some robot0 ∧ robot0.link = .joined) ∧
    (let u := flockWith (fun x => { x with link := .leaving })
     NativeRun u ∧ u.robot? 5 = some { robot0 with link := .leaving }) ∧
    (let u := flockWith (fun x => { x with missSf := 10 })
     NativeRun u ∧ u.robot? 5 = some { robot0 with missSf := 10 } ∧ u.prm 0x0512 ≤ 10) ∧
    (let u := flockWith (fun x => { x with link := .asleep, wakeMiss := 3, missDue := true })
     NativeRun u ∧ u.robot? 5 = some { robot0 with link := .asleep, wakeMiss := 3, missDue := true }) ∧
    (let u := flockWith (fun x => { x with txCtr := 0xFFFFFFFF })
     NativeRun u ∧ u.robot? 5 = some { robot0 with txCtr := 0xFFFFFFFF }) ∧
    (let u := hotFlock.mapLnk (fun l => { l with flockCtr := 0xFFFFFFFF }); NativeRun u ∧ 0xFFFFFFFF ≤ u.lnk.flockCtr ∧ u.vit.rngFault = false) :=
  ⟨⟨⟨rfl, rfl, rfl⟩, rfl, by decide⟩, ⟨⟨rfl, rfl, rfl⟩, rfl, rfl, rfl⟩, ⟨⟨rfl, rfl, rfl⟩, rfl⟩, ⟨⟨rfl, rfl, rfl⟩, rfl, by decide⟩,
    ⟨⟨rfl, rfl, rfl⟩, rfl⟩, ⟨⟨rfl, rfl, rfl⟩, rfl⟩, ⟨⟨rfl, rfl, rfl⟩, by decide⟩⟩

theorem wit_PastureRowsAct_a :
    WitW hot opPasNodesWrite (le 4 65535 ++ le 2 1 ++ le 2 0 ++ zeros 12 ++ [1, 0, 0, 0]) (fun c _ => tableHeadOk 16 65536 c.params ∧
      ∀ x ∈ State.recordsOf 16 (u16 c.params 4) c.params, u8 x 12 < 2 ∧ rd x 13 3 = 0) ∧
    WitW hot opPasLanesWrite (le 4 131070 ++ le 2 2 ++ le 2 0 ++ zeros 8 ++ [0, 0, 255, 255] ++ zeros 8 ++ [1, 0, 255, 15]) (fun c _ =>
      tableHeadOk 12 131072 c.params ∧ ∀ x ∈ State.recordsOf 12 (u16 c.params 4) c.params,
        u8 x 9 = 0 ∧ (u8 x 8 = 0 ∧ u16 x 10 = 0xFFFF ∨ u8 x 8 = 1 ∧ u16 x 10 ≤ 4095 ∧ bit c.agreed 132 = true)) ∧
    WitW hot opPasPaddockWrite (le 2 1023 ++ [3, 1] ++ zeros 32) (fun c _ =>
      c.params.length = 12 + 8 * u8 c.params 2 ∧ u16 c.params 0 < 1024 ∧ 3 ≤ u8 c.params 2 ∧ u8 c.params 2 ≤ 32 ∧
        u8 c.params 3 < 2 ∧ rd c.params 9 3 = 0) ∧
    WitW hot opPasHurdlePlace (le 2 1023 ++ zeros 18 ++ le 4 100000 ++ zeros 8) (fun c s =>
      c.params.length = 32 ∧ u16 c.params 0 < 1024 ∧ u16 c.params 2 = 0 ∧ 1 ≤ u32 c.params 20 ∧ u32 c.params 20 ≤ 100000 ∧
        s.hurdlePriced c.params = none) ∧
    WitW hot opPasHurdleRemove [255, 3, 0, 0] (fun c _ => c.params.length = 4 ∧ u16 c.params 0 < 1024 ∧ u16 c.params 2 = 0) :=
  ⟨witW _ _ _ _ (by decide) (by unfold tableHeadOk; decide), witW _ _ _ _ (by decide) (by unfold tableHeadOk; decide), witW _ _ _ _ (by decide) (by decide),
    witW _ _ _ _ (by decide) (by decide), witW _ _ _ _ (by decide) (by decide)⟩

theorem wit_PastureRowsAct_b :
    WitW hotPasture opPasMove [5, 0, 0, 0, 1, 0, 0, 0] (fun c s => c.params.length = 8 ∧ rd c.params 1 3 = 0 ∧
      s.holdNode (u32 c.params 4) = true ∧ (s.robot? (u8 c.params 0)).isSome ∧ s.robotPriority (u8 c.params 0) = none ∧
      (s.pr (u8 c.params 0)).move = none) ∧
    WitW hotMove opPasMove [5, 0, 0, 0, 1, 0, 0, 0] (fun c s => c.params.length = 8 ∧ rd c.params 1 3 = 0 ∧
      s.holdNode (u32 c.params 4) = true ∧ (s.robot? (u8 c.params 0)).isSome ∧ s.robotPriority (u8 c.params 0) = none ∧
      (s.pr (u8 c.params 0)).move = some (0, 1, 2)) :=
  ⟨witW _ _ _ _ (by decide) ⟨by decide, by decide, by decide, by decide, by decide, rfl⟩,
    witW _ _ _ _ (by decide) ⟨by decide, by decide, by decide, by decide, by decide, rfl⟩⟩

theorem wit_PastureRowsAct_c :
    WitQ hotPasture opPasResvRead [255, 0, 255, 63, 127, 0, 0, 0] (fun c _ => c.params.length = 8 ∧ u8 c.params 1 = 0 ∧ u16 c.params 6 = 0 ∧
      u16 c.params 2 ≤ 16383 ∧ 1 ≤ u16 c.params 4 ∧ u16 c.params 4 ≤ 127) ∧
    WitQ hotPasture opPasStateRead [] (fun c _ => c.params = []) ∧
    WitW hotPasture opPasResvClear [5, 0, 0, 0] (fun c s => c.params.length = 4 ∧ rd c.params 1 3 = 0 ∧
      ∃ e ∈ s.pas.entries, e.robot = u8 c.params 0 ∧ e.kind ≠ 3) ∧
    WitW hotPasture opPasResvClear [6, 0, 0, 0] (fun c s => c.params.length = 4 ∧ rd c.params 1 3 = 0 ∧
      ∀ e ∈ s.pas.entries, e.robot = u8 c.params 0 → e.kind = 3) ∧
    NativeRun hotPasture ∧ hotPasture.overstayDue.pas.entries = [entryOf 1 none, { entryOf 2 none with tIn := hotPasture.rtNow }] ∧
    (let u := hotPasture.mapPas (fun p => { p with entries := [entryOf 3 (some 9)] })
     entryOf 3 (some 9) ∈ u.overstayDue.pas.entries ∧ u.rtNow < 9) ∧
    (let b : BorderWait := ⟨7, 5, [3], [], 0, [], 1000, []⟩
     let u := (hotPasture.mapPas (fun p => { p with borders := [b] })).mapSys (fun y => { y with tick := 10 })
     NativeRun u ∧ u.pas.borders = [b] ∧ b.since + u.prm 0x060D ≤ u.sys.tick) :=
  ⟨witQ _ _ _ _ (by decide) (by decide), witQ _ _ _ _ (by decide) rfl, witW _ _ _ _ (by decide) (by decide),
    witW _ _ _ _ (by decide) (by decide), ⟨rfl, rfl, rfl⟩, by decide, by decide, ⟨⟨rfl, rfl, rfl⟩, rfl, by decide⟩⟩

/-- The profile record of the worked example of its chapter: 30,000 mm in 22 s. -/
def ormsbyRec : ProfileRec := ⟨0, 0, 2000, -2000, [500000, 1000000, 500000, 18000000, 500000, 1000000, 500000]⟩

/-- R291 allows the worked example's track, and no track that stands still for its lane. -/
theorem wit_TracksEndEarliest :
    trackOk ⟨1500, 1000, 1000, 2000, 500⟩ 502217000 0 [⟨30000, 1500, 0⟩] [ormsbyRec] = true ∧
    trackOk ⟨1500, 1000, 1000, 2000, 500⟩ 502217000 0 [⟨30000, 1500, 0⟩] [⟨0, 0, 0, 0, [0, 0, 0, 0, 0, 0, 0]⟩] = false := by decide +kernel

/-- Robot 5 drives lane 57 of the worked example under grant 51h, from RT 0 on; it is RT 5,000 now. -/
def hotDrive : State := hotPasture.mapAir (fun a => { a with asn := 4000 }) |>.mapPas (fun p => { p with
  entries := [{ entryOf 0 (some 30000) with grant := 0x51, place := 57 }]
  robots := [(5, { PasRobot.fresh with tracks := [⟨0x51, [⟨57, ⟨0, -11000, 0, 19000⟩, 0, 0, 0, 22000, ormsbyRec⟩], 1000⟩] })] })

/-- The same, 5 s later. -/
def hotGap : State := { hotDrive with now := 5000000000 }

theorem wit_ProfileRowsAct :
    WitQ hotDrive opPrfStateRead [56, 200, 0, 0] (fun c _ => c.params.length = 4 ∧ 1 ≤ u8 c.params 1 ∧ u8 c.params 1 ≤ 200 ∧
      u8 c.params 0 + u8 c.params 1 ≤ 256 ∧ u16 c.params 2 = 0) ∧
    WitW hotDrive opPrfPfSet ([5, 0] ++ le 2 1500) (fun c s => c.params.length = 4 ∧ u8 c.params 1 = 0 ∧
      s.robot? (u8 c.params 0) = some robot0 ∧ u16 (s.prfClass robot0.cls) 26 ≤ u16 c.params 2 ∧
      u16 c.params 2 ≤ u16 (s.prfClass robot0.cls) 28) ∧
    WitQ hotDrive opPrfTrackRead [5, 0, 0, 0] (fun c s => c.params.length = 4 ∧ rd c.params 1 3 = 0 ∧ (s.robot? (u8 c.params 0)).isSome ∧
      (s.liveTracks (u8 c.params 0)).getLast? = some ⟨0x51, [⟨57, ⟨0, -11000, 0, 19000⟩, 0, 0, 0, 22000, ormsbyRec⟩], 1000⟩) ∧
    WitQ hotFlock opPrfTrackRead [5, 0, 0, 0] (fun c s => c.params.length = 4 ∧ rd c.params 1 3 = 0 ∧ (s.robot? (u8 c.params 0)).isSome ∧
      s.liveTracks (u8 c.params 0) = []) ∧
    (NativeRun hotGap ∧ hotGap.moving 5 = true ∧ (hotGap.pr 5).gapDone = false ∧ hotGap.prm 0x0713 * 1000000 ≤ hotGap.now - (hotGap.pr 5).lastEvid) ∧
    (let u := hotGap.mapPr 5 (fun x => { x with gapDone := true }); NativeRun u ∧ (u.pr 5).gapDone = true) :=
  ⟨witQ _ _ _ _ (by decide) (by decide), witW _ _ _ _ (by decide) (by decide), witQ _ _ _ _ (by decide) (by decide),
    witQ _ _ _ _ (by decide) (by decide), ⟨⟨rfl, rfl, rfl⟩, by decide +kernel⟩, ⟨⟨rfl, rfl, rfl⟩, by decide⟩⟩

/-- A task record that may be submitted: any class, PICKUP node 1, no DROP. -/
def taskRec : Bytes := zeros 6 ++ [255, 255] ++ le 4 1 ++ le 4 0xFFFFFFFF ++ zeros 48

/-- The store holds task 1 READY, and task 2 FINAL with result 1. -/
def hotTasks : State := { hotPasture with tsk := { hotPasture.tsk with
  serial := 2, resultSeq := 1
  tasks := [(1, { hotPasture.submittedTask 1 0 taskRec with state := 1 }), (2, { hotPasture.submittedTask 1 0 taskRec with state := 5, resultSeq := 1 })]
  cores := modAt 0 (fun _ => (some ⟨8, 0, 1, 6, 0⟩, none)) hotPasture.tsk.cores } }

theorem wit_TaskRowsAct :
    WitW hotPasture opTskSubmit (le 2 2 ++ le 2 0 ++ taskRec ++ taskRec) (fun c s => 1 ≤ u16 c.params 0 ∧ u16 c.params 0 ≤ 63 ∧
      u16 c.params 2 = 0 ∧ c.params.length = 4 + 64 * u16 c.params 0 ∧ s.tsk.tasks.length + u16 c.params 0 ≤ 4096 ∧
      (s.tsk.tasks.filter (fun e => e.2.sess == c.sess)).length + u16 c.params 0 ≤ s.prm 0x0801 ∧
      ∀ x ∈ submittedRecords c.params, s.taskRecOk x.1 = true) ∧
    WitW hotTasks opTskCancel (le 4 1) (fun c s => c.params.length = 4 ∧
      s.task? (u32 c.params 0) = some { hotPasture.submittedTask 1 0 taskRec with state := 1 } ∧
      ({ hotPasture.submittedTask 1 0 taskRec with state := 1 }.state = 6 → { hotPasture.submittedTask 1 0 taskRec with state := 1 }.sess = c.sess) ∧
      { hotPasture.submittedTask 1 0 taskRec with state := 1 }.state ≠ 5 ∧ { hotPasture.submittedTask 1 0 taskRec with state := 1 }.cancel = none ∧
      ∀ x ∈ s.tsk.cancels, x.1 ≠ u32 c.params 0) ∧
    WitQ hotTasks opTskResultRead (le 4 0 ++ le 2 126 ++ le 2 0) (fun c s => c.params.length = 8 ∧ 1 ≤ u16 c.params 4 ∧ u16 c.params 4 ≤ 126 ∧
      u16 c.params 6 = 0 ∧ seqPast s.tsk.resultSeq s.heldSeqs (u32 c.params 0) = true) ∧
    WitW hotTasks opTskResultAck (le 4 1) (fun c s => c.params.length = 4 ∧
      seqPast s.tsk.resultSeq s.heldSeqs (u32 c.params 0) = true) ∧
    WitQ hotTasks opTskStateRead [] (fun c _ => c.params = []) ∧
    WitQ hotTasks opTskRead (le 4 1) (fun c s => c.params.length = 4 ∧
      s.task? (u32 c.params 0) = some { hotPasture.submittedTask 1 0 taskRec with state := 1 } ∧
      { hotPasture.submittedTask 1 0 taskRec with state := 1 }.state ≠ 6) ∧
    (NativeRun hotTasks ∧ hotTasks.sys.halted.contains 2 = false ∧ hotTasks.tsk.cores[2 - 2]? = some (some ⟨8, 0, 1, 6, 0⟩, none)) ∧
    (let u := hotTasks.mapSys (fun y => { y with halted := [7] }); NativeRun u ∧ u.sys.halted.contains 7 = true) :=
  ⟨witW _ _ _ _ (by decide +kernel) (by decide +kernel),
    witW _ _ _ _ (by decide) (by decide +kernel),
    witQ _ _ _ _ (by decide) (by decide), witW _ _ _ _ (by decide) (by decide), witQ _ _ _ _ (by decide) rfl,
    witQ _ _ _ _ (by decide) (by decide), ⟨⟨rfl, rfl, rfl⟩, by decide⟩, ⟨⟨rfl, rfl, rfl⟩, by decide⟩⟩

/-- The loop is enabled; its channels are as given, and the all-stop has these holders. -/
def hotLoop (a b latched : Bool) (all : Tab Nat) : State := hotFlock.mapCrk (fun k => { k with
  backup := [1, 100, 50, 1, 1], openA := a, openB := b, latched := latched, all := all })

/-- A stop frame of chain 0 is due in slot 2. -/
def hotFrame : State := (((withParams [(0x0500, 1), (0x0501, 1)] hotFlock).mapSys (fun y => { y with beacons := true })).mapCrk (fun k => { k with frames := [(0, 0)] })).mapAir (fun a => { a with slot := 3 })

/-- A stop on robot 5 that stands for an hour without a report. -/
def hotUnconf : State := { hotFlock.mapCrk (fun k => { k with
  table := [⟨1, 5, [(2, 1)], none⟩], watch := [⟨1, 5, 0, false, [], []⟩] }) with now := 3600000000000 }

/-- A paired unit with a stop of robot 5 under way. -/
def hotPaired : State := (hotFlock.mapPai (fun y => { y with role := 1, trained := true })).mapCrk (fun k => { k with
  due := [(0, ⟨2, 1, 5, 1, true⟩)] })

theorem wit_CrookRowsAct_a :
    WitW hotFlock opCrkStop [1, 1, 5, 0] stopOk ∧ WitU hotFlock opCrkStop [0, 1, 0, 0] stopOk ∧
    WitW (hotFlock.mapCrk (fun k => { k with all := [(2, 1)] })) opCrkStop [0, 0, 0, 0] (fun c s =>
      stopOk c s ∧ Tab.find? 2 (s.stopsAhead.holdersOf (u8 c.params 0) (u16 c.params 2)) = some 1 ∧ u8 c.params 1 ≤ 1) ∧
    WitW hotFlock opCrkRelease [2, 3, 255, 3] (fun c s => c.params.length = 4 ∧ (u8 c.params 0 = 0 ∧ u8 c.params 1 = 0 ∧ u16 c.params 2 = 0 ∨
      u8 c.params 0 = 1 ∧ u8 c.params 1 = 0 ∧ u16 c.params 2 = 0 ∧ s.loopClosed = true ∨
      u8 c.params 0 = 2 ∧ 1 ≤ u8 c.params 1 ∧ u8 c.params 1 ≤ 3)) ∧
    WitQ hotFlock opCrkStateRead [] (fun c _ => c.params = []) ∧
    WitQ hotFlock opCrkRobotRead [1, 255, 0, 0] (fun c _ => c.params.length = 4 ∧ 1 ≤ u8 c.params 1 ∧ u8 c.params 0 + u8 c.params 1 ≤ 256 ∧
      u16 c.params 2 = 0) ∧
    (hotPaired.stopsAhead.alreadyHeld 2 3 1023 1 = false ∧ hotPaired.pai.role ≠ 0 ∧ hotPaired.pai.trained = true) ∧
    (hotFlock.stopsAhead.alreadyHeld 2 3 1023 1 = false ∧ hotFlock.pai.role = 0) ∧
    (hotPaired.crk.due = [(0, ⟨2, 1, 5, 1, true⟩)] ∧ 0 ≤ hotPaired.now) :=
  ⟨witW _ _ _ _ (by decide) (by unfold stopOk; decide), witU _ _ _ _ (by decide) (by unfold stopOk; decide),
    witW _ _ _ _ (by decide) (by unfold stopOk; decide), witW _ _ _ _ (by decide) (by decide), witQ _ _ _ _ (by decide) rfl,
    witQ _ _ _ _ (by decide) (by decide), by decide, by decide, by decide⟩

theorem wit_CrookRowsAct_b :
    (NativeHw (hotLoop false true false []) ∧ (hotLoop false true false []).loopPrm 0 ≠ 0 ∧ (hotLoop false true false []).loopPrm 1 ≤ 100) ∧
    (NativeHw (hotLoop false true false []) ∧ 99 < (hotLoop false true false []).loopPrm 1) ∧
    (let u := hotLoop true true true [(1, 1)]
     NativeHw u ∧ u.loopPrm 0 ≠ 0 ∧ u.crk.disc = false ∧ (u.crk.openA || u.crk.openB) = true ∧ u.loopPrm 4 = 1) ∧
    (∃ t, let u := (hotLoop false true false [(1, 1)]).mapCrk (fun k => { k with backup := [1, 100, 50, 1, 0] })
      NativeHw u ∧ u.loopPrm 0 ≠ 0 ∧ u.crk.disc = false ∧ (u.crk.openA || u.crk.openB) = true ∧ u.loopPrm 4 ≠ 1 ∧
      (u.mapCrk (fun k => { k with
        openA := false, openB := false, discFrom := none, discDone := false, disc := false, bothOpen := false
        togetherAt := some (k.togetherAt.getD u.now), latched := false })).releaseStop 1 0 0 = some t) ∧
    (let u := { (hotLoop true false true [(1, 1)]).mapCrk (fun k => { k with discFrom := some 0 }) with now := 50000001 }
     NativeHw u ∧ u.loopPrm 0 ≠ 0 ∧ u.crk.discDone = false ∧ u.crk.discFrom = some 0 ∧ u.loopPrm 2 * 1000000 < u.now - 0) ∧
    (NativeHw hotFrame ∧ hotFrame.crk.frames.find? (fun (f : Nat × Nat) => f.1 == 0 && decide (f.2 ≤ hotFrame.now)) = some (0, 0) ∧
      hotFrame.beaconsOn = true ∧ hotFrame.chainOn 0 = true ∧ 2 ≤ hotFrame.air.slot ∧ hotFrame.prm 0x0500 = 1) ∧
    (let u := withParams [(0x0500, 3), (0x0501, 1)] hotFrame; u.prm 0x0500 = 3 → -90 ≤ u.prmS 8 0x0510) ∧
    (let u := withParams [(0x0500, 3), (0x0501, 1)] hotFrame
     NativeHw u ∧ u.crk.frames.find? (fun (f : Nat × Nat) => f.1 == 0 && decide (f.2 ≤ u.now)) = some (0, 0) ∧
      u.beaconsOn = true ∧ u.chainOn 0 = true ∧ 2 ≤ u.air.slot ∧ u.prm 0x0500 = 3 ∧ u.prmS 8 0x0510 < -60) ∧
    (NativeRun hotUnconf ∧ (hotUnconf.robot? 5).isSome ∧ hotUnconf.crk.watch = [⟨1, 5, 0, false, [], []⟩] ∧ hotUnconf.scopeCovers 1 5 5 = true ∧
      (hotUnconf.tE 5 + hotUnconf.prm 0x0906) * 1000000 ≤ hotUnconf.now - 0) :=
  ⟨⟨⟨rfl, rfl⟩, by decide⟩, ⟨⟨rfl, rfl⟩, by decide⟩, ⟨⟨rfl, rfl⟩, by decide⟩, ⟨_, ⟨rfl, rfl⟩, by decide, rfl, rfl, by decide, rfl⟩, ⟨⟨rfl, rfl⟩, by decide⟩,
    ⟨⟨rfl, rfl⟩, by decide⟩, by decide, ⟨⟨rfl, rfl⟩, by decide⟩, ⟨⟨rfl, rfl, rfl⟩, by decide⟩⟩

/-- Axes 0 to 3 are enabled; axis 0 is as given. -/
def hotAxes (f : Axis → Axis) : State := (withParams [(0x0A00, 15)] hot).mapAxis 0 f

/-- A motion of axis 0 towards 1,000 microsteps, at 50,000 microsteps/s and 1 s from its end. -/
def hotMotion (homing : Bool) : Motion := ⟨false, 0, 0, 50000 * axVel, 0, [(0, 1000000)], none, 0, false, homing, false⟩

theorem wit_AxisRowsAct_a :
    (∃ tgt, WitW (hotAxes id) opAxsMove ([0, 1, 0, 0] ++ le 4 2147483647 ++ le 4 51200) (fun c s => c.params.length = 12 ∧
      axisReady s (u8 c.params 0) ∧ u8 c.params 1 ≤ 2 ∧ u16 c.params 2 = 0 ∧ 1 ≤ u32 c.params 8 ∧
      u32 c.params 8 ≤ u32 (s.axisRec (u8 c.params 0)) 0 ∧
      tgt = State.axisTarget (u8 c.params 1) (s.axis (u8 c.params 0)).p (i32 c.params 4) ∧
      -2147483648 ≤ tgt ∧ tgt ≤ 2147483647 ∧ (u8 c.params 1 = 2 ∨ tgt ≠ (s.axis (u8 c.params 0)).p))) ∧
    WitW (hotAxes id) opAxsMove ([0, 0, 0, 0] ++ le 4 0 ++ le 4 1) (fun c s => c.params.length = 12 ∧ axisReady s (u8 c.params 0) ∧
      u16 c.params 2 = 0 ∧ 1 ≤ u32 c.params 8 ∧ u32 c.params 8 ≤ u32 (s.axisRec (u8 c.params 0)) 0 ∧
      -2147483648 ≤ (s.axis (u8 c.params 0)).p ∧ (s.axis (u8 c.params 0)).p ≤ 2147483647 ∧
      (u8 c.params 1 = 0 ∧ i32 c.params 4 = (s.axis (u8 c.params 0)).p ∨ u8 c.params 1 = 1 ∧ i32 c.params 4 = 0)) ∧
    (let ok := fun (c : Cmd) (s : State) => c.params.length = 4 ∧ u8 c.params 0 < 4 ∧ s.axisOn (u8 c.params 0) = true ∧ u8 c.params 1 ≤ 1 ∧
      u16 c.params 2 = 0 ∧ s.axisMoving (u8 c.params 0) = true
     WitW (hotAxes (fun a => { a with motion := some (hotMotion false) })) opAxsHalt [0, 1, 0, 0] ok ∧
     WitU (hotAxes (fun a => { a with motion := some (hotMotion false) })) opAxsHalt [0, 1, 0, 0] ok) ∧
    WitW (hotAxes id) opAxsHalt [3, 0, 0, 0] (fun c s => c.params.length = 4 ∧ u8 c.params 0 < 4 ∧ s.axisOn (u8 c.params 0) = true ∧
      u8 c.params 1 ≤ 1 ∧ u16 c.params 2 = 0 ∧ s.axisMoving (u8 c.params 0) = false) ∧
    WitW (hotAxes id) opAxsHome ([3, 1, 0, 0] ++ le 4 51200 ++ le 4 7) (fun c s => c.params.length = 12 ∧ axisReady s (u8 c.params 0) ∧
      u8 c.params 1 ≤ 1 ∧ u16 c.params 2 = 0 ∧ 1 ≤ u32 c.params 4 ∧ u32 c.params 4 ≤ u32 (s.axisRec (u8 c.params 0)) 0 ∧
      (s.axis (u8 c.params 0)).refActive = false) ∧
    WitW (hotAxes id) opAxsSetPos ([3, 0, 0, 0] ++ le 4 4294967295) (fun c s => c.params.length = 8 ∧ u8 c.params 0 < 4 ∧
      s.axisOn (u8 c.params 0) = true ∧ rd c.params 1 3 = 0 ∧ s.axisMoving (u8 c.params 0) = false) ∧
    WitQ (hotAxes id) opAxsStateRead [] (fun c _ => c.params = []) :=
  ⟨⟨_, witW _ _ _ _ (by decide) ⟨by decide, by unfold axisReady; decide, by decide, by decide, by decide, by decide, rfl, by decide +kernel⟩⟩,
    witW _ _ _ _ (by decide) ⟨by decide, by unfold axisReady; decide, by decide +kernel⟩,
    ⟨witW _ _ _ _ (by decide) (by decide), witU _ _ _ _ (by decide) (by decide)⟩, witW _ _ _ _ (by decide) (by decide),
    witW _ _ _ _ (by decide) ⟨by decide, by unfold axisReady; decide, by decide +kernel⟩,
    witW _ _ _ _ (by decide) (by decide), witQ _ _ _ _ (by decide) rfl⟩

theorem wit_AxisRowsAct_b :
    (NativeHw (hotAxes id) ∧ (hotAxes id).axisOn 3 = true ∧ 3 < (hotAxes id).axs.length ∧ (∀ n, n < 4 → ((hotAxes id).axis n).stopDue = none) ∧
      ∀ m, ((hotAxes id).axis 3).motion = some m → m.homing = false) ∧
    (let u := { hotAxes (fun a => { a with motion := some (hotMotion false) }) with now := 1000000000 }
     NativeHw u ∧ (u.axis 0).motion = some (hotMotion false) ∧ (hotMotion false).total ≤ u.now - (hotMotion false).start) ∧
    (let u := hotAxes (fun a => { a with stopDue := some 1 })
     NativeHw u ∧ (u.axis 0).stopDue = some 1 ∧ ∀ k, 1 ≤ k → k < 4 → (u.axis k).stopDue = none) ∧
    (let u := hotAxes (fun a => { a with motion := some (hotMotion false), stallRun := 3 })
     NativeHw u ∧ u.axisOn 0 = true ∧ u.estimates = true ∧ u32 (u.axisRec 0) 40 ≤ u.axisSpeed 0 ∧ u.axisSpeed 0 ≠ 0 ∧
      u32 (u.axisRec 0) 36 < 1309001 ∧ (u.axis 0).stallRun + 1 = u8 (u.axisRec 0) 44) ∧
    (let u := hotAxes (fun a => { a with motion := some (hotMotion false), stallRun := 3 })
     1309000 ≤ u32 (u.axisRec 0) 36 ∧ u8 (u.axisRec 0) 44 ≠ 0) ∧
    (let u := hotAxes (fun a => { a with motion := some (hotMotion true) })
     NativeHw u ∧ u.axisOn 0 = true ∧ (u.axis 0).motion = some (hotMotion true) ∧ (hotMotion true).homing = true ∧ (hotMotion true).ramp = false) ∧
    (let u := withParams [(0x0A00, 15), (0x0A10, rd (le 4 51200 ++ zeros 44 ++ [47, 0, 0, 0]) 0 52)] hot
     NativeHw u ∧ u.axisOn 0 = true ∧ u8 (u.axisRec 0) 48 ≠ 0xFF) :=
  ⟨⟨⟨rfl, rfl⟩, by decide +kernel⟩, ⟨⟨rfl, rfl⟩, by decide +kernel⟩, ⟨⟨rfl, rfl⟩, by decide +kernel⟩,
    ⟨⟨rfl, rfl⟩, by decide +kernel⟩, by decide +kernel,
    ⟨⟨rfl, rfl⟩, by decide +kernel, by decide +kernel, rfl, rfl⟩, ⟨⟨rfl, rfl⟩, by decide +kernel⟩⟩

/-- A port with its link up. -/
def upPort : EthPort := { EthPort.fresh with link := 1, seen := 1 }

/-- All three ports run with their links up, MAC0 has an address, PTP runs as slave on MAC0 and as master on MAC1. -/
def hotEth : State := (withParams [(0x0400, 1), (0x0B00, 7), (0x0B01, 1), (0x0B06, 0x0A000001), (0x0B0B, 2)] hot).mapEth (fun e => { e with
  ports := [upPort, upPort, upPort] })

/-- A frame to the broadcast address, its FCS zeros. -/
def ethFrameTo (typ : Nat) (body : Bytes) : Bytes := List.replicate 6 255 ++ zeros 6 ++ be 2 typ ++ padTo 46 0 body ++ zeros 4

/-- An IPv4 packet to 10.0.0.1 with an empty UDP datagram to SYS_UDP_PORT. -/
def ipToHost : Bytes := be 2 0x4500 ++ be 2 28 ++ be 2 0 ++ be 2 0 ++ be 2 0x0011 ++ be 2 0xB0D0 ++ be 4 1 ++ be 4 0x0A000001 ++
  be 2 7 ++ be 2 (hotEth.prm 0x0019) ++ be 2 8 ++ be 2 0

theorem wit_EthernetRowsAct_a :
    WitQ hotEth opEthPortRead [] (fun c _ => c.params = []) ∧
    WitW hotEth opEthProbe [2, 64, 0xEE, 5, 0, 0, 0, 0, 0, 1, 0, 0] (fun c s =>
      c.params.length = 12 ∧ u8 c.params 0 ≤ 2 ∧ (u8 c.params 0 = 0 ∨ bit c.agreed 192 = true) ∧ 1 ≤ u8 c.params 1 ∧
      u8 c.params 1 ≤ 64 ∧ 64 ≤ u16 c.params 2 ∧ u16 c.params 2 ≤ s.ethM (u8 c.params 0) + 18 ∧ u16 c.params 10 = 0 ∧
      s.ethUp (u8 c.params 0) = true) ∧
    portUp 2 hotEth ∧ (zeros 63).length < 64 ∧ (portUp 0 hotEth ∧ hotEth.ethM 0 + 18 < (zeros 1519).length) ∧
    (portUp 0 hotEth ∧ hotEth.ethDstOk 0 (rdBe (List.replicate 64 1) 0 6) = false) :=
  ⟨witQ _ _ _ _ (by decide) rfl, witW _ _ _ _ (by decide) (by decide), ⟨⟨rfl, rfl⟩, by decide, rfl⟩, by decide,
    ⟨⟨⟨rfl, rfl⟩, by decide, rfl⟩, by decide +kernel⟩, ⟨⟨⟨rfl, rfl⟩, by decide, rfl⟩, by decide⟩⟩

theorem wit_EthernetRowsAct_b :
    (rdBe (ethFrameTo 0x88B5 []) 12 2 = 0x88B5 ∧ ethOk 2 (ethFrameTo 0x88B5 []) hotEth) ∧
    (rdBe (ethFrameTo 0x88F7 []) 12 2 = 0x88F7 ∧ ethOk 1 (ethFrameTo 0x88F7 []) hotEth ∧ hotEth.ptpOn 1 = true) ∧
    (rdBe (ethFrameTo 0x0800 ipToHost) 12 2 = 0x0800 ∧ ethOk 0 (ethFrameTo 0x0800 ipToHost) hotEth ∧
      udpOk (slice (ethFrameTo 0x0800 ipToHost) 14 ((ethFrameTo 0x0800 ipToHost).length - 18)) hotEth) ∧
    (hotEth.wiredOut = true ∧ hotEth.prm 0x0B06 ≠ 0) ∧
    (u8 [8, 0, 0xF7, 0xFF] 0 = 8 ∧ sum16 [8, 0, 0xF7, 0xFF] = 0xFFFF) ∧
    (hotEth.prm 0x0B01 = 1 ∧ (hotEth.port 0).seen ≠ 2 ∧ (hotEth.port 2).seen ≠ 4) := by
  unfold ethOk udpOk
  decide +kernel

theorem wit_EthernetRowsAct_c :
    (let f : EthFrame := ⟨4, 0, 64, .reply 1 1, []⟩
     let u := hotEth.mapPort 1 (fun p => { p with busy := some f, plca := 1 })
     NativeHw u ∧ (u.port 1).busy = some f ∧ (u.port 1).collRun = false ∧ (u.port 1).plca = 1) ∧
    (hotEth.mapPort 1 (fun p => { p with plca := 2 })).port 1 = { upPort with plca := 2 } ∧
    (let u := hotEth.mapEth (fun e => { e with master := some (5, 0, 0) })
     NativeRun u ∧ u.eth.master = some (5, 0, 0) ∧ u.prm 0x0400 = 0 + 1 ∧ u.ethUp 0 = true ∧ u.eth.delayLost = false ∧ u.eth.sync = none) ∧
    (let u := { hotEth.mapEth (fun e => { e with master := some (5, 0, 0) }) with now := 3000000000 }
     NativeRun u ∧ u.prm 0x0400 ≠ 0 ∧ u.eth.master = some (5, 0, 0) ∧ 3000000000 ≤ u.now - 0) ∧
    (let u := (hotEth.mapClk (fun c => { c with state := .locked })).mapPort 1 (fun p => { p with annAt := some 0 })
     NativeRun u ∧ u.clk.state = .locked ∧ bit (u.prm 0x0B0B) 1 = true ∧ u.ethOn 1 = true ∧ (u.port 1).syncAt = none ∧
      (u.port 1).annAt = some 0 ∧ u.now - 0 < 1000000000) ∧
    (let req : Bytes := 0x11 :: 0x02 :: zeros 42
     NativeRun hotEth ∧ bit (hotEth.prm 0x0B0B) 1 = true ∧ hotEth.ethUp 1 = true ∧ 34 ≤ req.length ∧ u8 req 4 = hotEth.prm 0x0B0A) ∧
    (let u := { hotEth.mapEth (fun e => { e with sync := some (1, 0) }) with now := 1000000000 }
     NativeRun u ∧ u.eth.sync = some (1, 0) ∧ 1000000000 ≤ u.now - 0) :=
  ⟨⟨⟨rfl, rfl⟩, rfl, rfl, rfl⟩, rfl, ⟨⟨rfl, rfl, rfl⟩, rfl, by decide, by decide, rfl, rfl⟩, ⟨⟨rfl, rfl, rfl⟩, by decide, rfl, by decide⟩,
    ⟨⟨rfl, rfl, rfl⟩, rfl, by decide, by decide, rfl, rfl, by decide⟩, ⟨⟨rfl, rfl, rfl⟩, by decide⟩, ⟨⟨rfl, rfl, rfl⟩, rfl, by decide⟩⟩

/-- A controller that is error active with these buffers. -/
def canPort1 (mbs : Tab CanMb) : CanPort := { CanPort.fresh with state := .active, mbs := mbs }

/-- Both controllers run; on port 0 buffer 63 receives and buffer 5 transmits. The serial link runs at 9,600 Bd into queue 16. -/
def hotCan : State := (withParams [(0x0C00, 3), (0x0C01, 3), (0x0C04, 0x0010FF0000002580), (0x0C45, 2), (0x0C7F, 1)] hot).mapCan (fun k => { k with
  ports := [canPort1 [], canPort1 []] })

/-- A frame of the base format without data. -/
def frame0 : CanFrame := { ide := false, fdf := false, rtr := false, brs := false, esi := false, dlc := 0, id := 0, data := [] }

/-- A transmission of it. -/
def tx0 : CanTx := { frame := frame0, sess := 1, acc := 1, loaded := true, attempts := 1, noAck := 0, aborts := [] }

theorem wit_CanRowsAct_a :
    WitW hotCan opCanTx ([0, 5, 6, 64] ++ zeros 68) canTxOk ∧ WitW hotCan opCanTx ([0, 5, 0, 0] ++ zeros 4) canTxOk ∧
    WitW hotCan opCanTxAbort [0, 5, 0, 0] (fun c s => canAbortOk c s ∧ (s.canMb (u8 c.params 0) (u8 c.params 1)).tx = none) ∧
    WitW (hotCan.putMb 0 5 { CanMb.fresh with tx := some tx0 }) opCanTxAbort [0, 5, 0, 0] (fun c s => canAbortOk c s ∧
      (s.canMb (u8 c.params 0) (u8 c.params 1)).tx = some tx0 ∧ (s.canPort (u8 c.params 0)).onBus ≠ some (u8 c.params 1)) ∧
    WitW ((hotCan.putMb 0 5 { CanMb.fresh with tx := some tx0 }).mapCanPort 0 (fun p => { p with onBus := some 5 })) opCanTxAbort [0, 5, 0, 0]
      (fun c s => canAbortOk c s ∧ c.acc ≠ 0 ∧ (s.canMb (u8 c.params 0) (u8 c.params 1)).tx = some tx0 ∧
        (s.canPort (u8 c.params 0)).onBus = some (u8 c.params 1)) := by
  refine ⟨witW _ _ _ _ (by decide +kernel) (by unfold canTxOk canAt; decide +kernel), witW _ _ _ _ (by decide +kernel) (by unfold canTxOk canAt; decide +kernel),
    witW _ _ _ _ (by decide +kernel) (by unfold canAbortOk canAt; decide +kernel), witW _ _ _ _ (by decide +kernel) (by unfold canAbortOk canAt; decide +kernel),
    witW _ _ _ _ (by decide +kernel) (by unfold canAbortOk canAt; decide +kernel)⟩

theorem wit_CanRowsAct_b :
    WitW (hotCan.putMb 0 63 { CanMb.fresh with isNew := true, frame := some (frame0, 7) }) opCanMbRead [0, 63, 0, 20] (fun c s =>
      c.params.length = 4 ∧ canAt c s ∧ u8 c.params 2 ≤ 19 ∧ 1 ≤ u8 c.params 3 ∧ u8 c.params 2 + u8 c.params 3 ≤ 20 ∧
      u8 (s.mbRec (u8 c.params 0) (u8 c.params 1)) 0 = 1 ∧ (s.canMb (u8 c.params 0) (u8 c.params 1)).frame = some (frame0, 7)) ∧
    WitQ hotCan opCanStateRead [] (fun c _ => c.params = []) ∧
    WitW (hotCan.mapCanPort 1 (fun p => { p with state := .busOff })) opCanRecover [1, 0, 0, 0] (fun c s =>
      c.params.length = 4 ∧ u8 c.params 0 ≤ 1 ∧ rd c.params 1 3 = 0 ∧ s.canOn (u8 c.params 0) = true ∧
      (s.canPort (u8 c.params 0)).state = .busOff) ∧
    WitW hotCan opCanRecover [1, 0, 0, 0] (fun c s => c.params.length = 4 ∧ u8 c.params 0 ≤ 1 ∧ rd c.params 1 3 = 0 ∧
      s.canOn (u8 c.params 0) = true ∧ (s.canPort (u8 c.params 0)).state ≠ .busOff) ∧
    WitW (hotCan.mapCan (fun k => { k with serTx := [(1, 1, zeros 1024)] })) opCanSerialTx ([0, 4, 0, 0] ++ zeros 1024)
      (fun c s => serialTxOk c s ∧ s.can.serTx ≠ []) ∧
    WitW hotCan opCanSerialTx [1, 0, 0, 0, 7, 0, 0, 0] (fun c s => serialTxOk c s ∧ s.can.serTx = [] ∧ s.inControl = true) := by
  refine ⟨witW _ _ _ _ (by decide +kernel) (by unfold canAt; decide +kernel), witQ _ _ _ _ (by decide +kernel) rfl,
    witW _ _ _ _ (by decide +kernel) (by decide +kernel), witW _ _ _ _ (by decide +kernel) (by decide +kernel),
    witW _ _ _ _ (by decide +kernel) (by unfold serialTxOk; decide +kernel), witW _ _ _ _ (by decide +kernel) (by unfold serialTxOk; decide +kernel)⟩

theorem wit_CanRowsAct_c :
    (let u := hotCan.mapCan (fun k => { k with serTx := [(1, 1, [7])] }); NativeRun u ∧ u.can.serTx = [(1, 1, [7])]) ∧
    (NativeRun hotCan ∧ hotCan.uartRx = none ∧ u32 hotCan.serRec 0 ≠ 0 ∧ hotCan.serDrive = false ∧ u8 hotCan.serRec 6 ≠ 0) ∧
    (let u := withParams [(0x0C04, 0x2580)] hotCan; NativeRun u ∧ u.uartRx = none ∧ u32 u.serRec 0 ≠ 0 ∧ u.serDrive = false ∧ u8 u.serRec 6 = 0) ∧
    (canTakes 1 hotCan ∧ ∀ m < 64, mbMatches (hotCan.mbRec 1 m) frame0 = false) ∧
    (canTakes 0 hotCan ∧ mbMatches (hotCan.mbRec 0 63) frame0 = true ∧ (hotCan.canMb 0 63).isNew = false ∧
      (hotCan.canMb 0 63).lock = none ∧ u8 (hotCan.canCfg 0) 14 = 0 ∧
      ∀ k < 63, mbMatches (hotCan.mbRec 0 k) frame0 = false ∨ (hotCan.canMb 0 k).isNew = true ∨ (hotCan.canMb 0 k).lock.isSome = true) ∧
    (let u := (hotCan.putMb 0 5 { CanMb.fresh with tx := some tx0 }).mapCanPort 0 (fun p => { p with onBus := some 5 })
     NativeRun u ∧ (u.canPort 0).onBus = some 5 ∧ (u.canMb 0 5).tx = some tx0) ∧
    (NativeRun hotCan ∧ (hotCan.canPort 1).state = .active ∧ (hotCan.canPort 1).onBus = none) ∧
    (let u := hotCan.mapCanPort 1 (fun p => { p with state := .busOff, counting := true, seqs := 127 })
     NativeRun u ∧ (u.canPort 1).state = .busOff ∧ (u.canPort 1).counting = true ∧ 128 ≤ (u.canPort 1).seqs + 1) ∧
    (let b : CanMb := { CanMb.fresh with lock := some 0 }
     let u := { hotCan.putMb 0 63 b with now := 1000000000 }
     NativeRun u ∧ (u.canPort 0).mbs = [(63, b)] ∧ (u.canPort 1).mbs = [] ∧ b.lock = some 0 ∧ 1000000000 ≤ u.now - 0) := by
  refine ⟨⟨⟨rfl, rfl, rfl⟩, rfl⟩, ⟨⟨rfl, rfl, rfl⟩, by decide +kernel⟩, ⟨⟨rfl, rfl, rfl⟩, by decide +kernel⟩,
    ⟨⟨⟨rfl, rfl, rfl⟩, by decide +kernel⟩, by decide +kernel⟩, ⟨⟨⟨rfl, rfl, rfl⟩, by decide +kernel⟩, by decide +kernel⟩,
    ⟨⟨rfl, rfl, rfl⟩, rfl, rfl⟩, ⟨⟨rfl, rfl, rfl⟩, rfl, rfl⟩, ⟨⟨rfl, rfl, rfl⟩, rfl, rfl, by decide⟩,
    ⟨⟨rfl, rfl, rfl⟩, rfl, rfl, rfl, by decide⟩⟩

/-- A queue of 256 bytes that holds packet 7. -/
def windowQueue : Queue := { Queue.opened 0x0C 256 0 with wp := 8, packets := [(7, [1, 2])], nextSeq := 8 }

/-- Queue 20 is claimed and holds packet 7 of two bytes. -/
def hotQueue : State := hot.mapMem (fun m => { m with queues := [(20, windowQueue)] })

/-- A stored word with one wrong symbol. -/
def wordCe : List Nat := [1, 0, 0, 0, 0, 0, 0, 0, 0, 0, 0, 0]

theorem wit_MemoryRowsAct_a :
    WitQ hotQueue opQueRead ([20, 0] ++ le 2 4056 ++ le 4 7 ++ le 4 0) (fun c s => c.params.length = 12 ∧ u8 c.params 1 = 0 ∧ 4 ≤ u16 c.params 2 ∧
      u16 c.params 2 ≤ 4056 ∧ u16 c.params 2 % 4 = 0 ∧ u32 c.params 8 = 0 ∧ 16 ≤ u8 c.params 0 ∧ u8 c.params 0 ≤ 63 ∧
      Tab.find? (u8 c.params 0) s.mem.queues = some windowQueue ∧
      (u32 c.params 4 = 0 ∨ u32 c.params 4 = 7)) ∧
    WitW hotQueue opQueRelease ([20, 1] ++ le 2 0 ++ le 4 7) (fun c s => c.params.length = 8 ∧ u8 c.params 1 ≤ 1 ∧ u16 c.params 2 = 0 ∧
      16 ≤ u8 c.params 0 ∧ u8 c.params 0 ≤ 63 ∧
      Tab.find? (u8 c.params 0) s.mem.queues = some windowQueue ∧
      u32 c.params 4 ≠ 0 ∧ accPrecedes (u32 c.params 4) 8 = true) ∧
    WitQ hot opQueStateRead [] (fun c _ => c.params = []) ∧ WitQ hot opMemStateRead [] (fun c _ => c.params = []) :=
  ⟨witQ _ _ _ _ (by decide +kernel) (by decide +kernel), witW _ _ _ _ (by decide +kernel) (by decide +kernel),
    witQ _ _ _ _ (by decide +kernel) (by decide +kernel), witQ _ _ _ _ (by decide +kernel) (by decide +kernel)⟩

theorem wit_MemoryRowsAct_b :
    (rsRead wordCe = .corrected ∧ FwRun (withParams [(0x0D81, 0)] hot) ∧ (withParams [(0x0D81, 0)] hot).prm 0x0D81 = 0 ∧
      (withParams [(0x0D81, 0), (0x0D80, 60)] hot).now - (withParams [(0x0D81, 0), (0x0D80, 60)] hot).mem.scrubStart <
        (withParams [(0x0D81, 0), (0x0D80, 60)] hot).prm 0x0D80 * 1000000000) ∧
    (Tab.find? 20 hotQueue.mem.queues = some windowQueue ∧ windowQueue.winOff < (hotQueue.queueBytes 20).length ∧
      (hot.mapMem (fun m => { m with queues := [(20, Queue.opened 0x0C 256 0)] })).queueBytes 20 = [] ∧ 0 ≤ (Queue.opened 0x0C 256 0).winOff) ∧
    (rsRead [1, 1, 1, 0, 0, 0, 0, 0, 0, 0, 0, 0] = .uncorrectable ∧ FwRun hot ∧ (hot.bank 46).poisoned.contains 4 = false ∧
      ((wordLost 46 4 hot).bank 46).state = .inService ∧ (wordLost 46 4 hot).mem.spareFor = none ∧ (wordLost 46 4 hot).mem.copying = none ∧
      ((wordLost 46 4 hot).bank 47).state = .inService) ∧
    (let u := hot.mapMem (fun m => { m with spareFor := some 0 })
     (u.bank 31).poisoned.contains 4 = false ∧ ((wordLost 31 4 u).bank 31).state = .inService ∧ (wordLost 31 4 u).mem.spareFor = some 0 ∧
      (wordLost 31 4 u).mem.copying = none) ∧
    ((hot.mapBank 5 (fun k => { k with poisoned := [4] })).bank 5).poisoned.contains 4 = true ∧
    (let u := hot.mapMem (fun m => { m with copying := some 3 })
     u.mem.copying = some 3 ∧ (u.bank 47).state = .inService) ∧
    hot.now - hot.mem.scrubStart ≤ hot.prm 0x0D80 * 1000000000 ∧
    (let u := { hot with now := 86400000000000 }
     FwRun u ∧ u.prm 0x0D80 * 1000000000 ≤ u.now - u.mem.scrubStart ∧ u.mem.scrubLate = false) ∧ hot.mem.mramCe ≤ 0xFFFFFFFF :=
  ⟨⟨by decide +kernel, ⟨rfl, rfl⟩, by decide +kernel⟩, by decide +kernel,
    ⟨by decide +kernel, ⟨rfl, rfl⟩, by decide +kernel⟩,
    by decide +kernel, by decide +kernel, ⟨rfl, by decide +kernel⟩, by decide +kernel,
    ⟨⟨rfl, rfl⟩, by decide +kernel, rfl⟩, by decide +kernel⟩

/-- Every bank of the first queues is out of service, and a word of bank 0 is poisoned. -/
def hotLost : State := ((((hot.mapBank 32 (fun k => { k with state := .outOfService })).mapBank 33 (fun k => { k with
  state := .outOfService })).mapBank 34 (fun k => { k with state := .outOfService })).mapBank 0 (fun k => { k with poisoned := [40] }))

theorem wit_MemoryRowsAct_c :
    (NativeRun hotLost ∧ hotLost.fixedDown (4 + 3) = true ∧ hotLost.fixedDown (State.intakeQueue .spi) = true ∧ hotLost.wiredOut = true ∧
      hotLost.fixedDown 3 = true ∧ hotLost.fixedDown 13 = true ∧ hotLost.poisonedIn 32 48 = true ∧ hotLost.poisonedIn 48 64 = false) ∧
    (windowQueue.disabled = false ∧ State.slotBytes 244 ≤ windowQueue.size - State.queueFill windowQueue) ∧
    ((hotQueue.mapBank 36 (fun k => { k with poisoned := [State.queueAddr windowQueue] })).ringPoisoned windowQueue windowQueue.rp 4 = true ∧
      hotQueue.ringPoisoned windowQueue windowQueue.rp 4 = false) :=
  ⟨⟨⟨rfl, rfl, rfl⟩, by decide +kernel⟩, by decide +kernel, by decide +kernel⟩

/-- Member 3 of fold 10, on MAC0. -/
def hotFld : State := withParams [(0x0B00, 1), (0x0E00, 1), (0x0E01, 10 + 65536 * 3)] hot

/-- Bellwether of fold 10, whose roster holds EUI 7 at index 5; and member 3 of fold 20. -/
def hotBell : State := (withParams [(0x0B00, 1), (0x0E00, 1), (0x0E01, 10), (0x0E02, 20 + 65536 * 3)] hot).mapCfg (fun c => { c with
  eff := { c.eff with roster := [(10 * 4096 + 5, 7)] } })

/-- A message of type `typ` with a right CRC. -/
def foldRx (typ fold src dst : Nat) (b : Bytes) : FoldRx := {
  link := 0, mac := 9, stamp := 0, ver := 1, fold := fold, src := src, dst := dst, seq := 1, body := b
  crc := crc32c (foldHeader 1 typ fold src dst 1 b.length ++ b) }

/-- What FoldHeard asks, apart from the CRC. -/
def heardB (typ k fold src dst : Nat) (u : State) : Bool :=
  u.sys.power == .run && !u.sys.cx && u.sys.fw == .running && (!u.merging && !u.fixedDown 2) && u.tierOf fold == some k &&
  (dst == (u.tier k).member || dst == 0xFFFF) && src != (u.tier k).member && decide (src < 4096) &&
  ((u.tier k).member != 0 || typ == 1 || Tab.has (fold * 4096 + src) u.fld.members)

theorem foldHeard_of {typ k fold src dst : Nat} {b : Bytes} {u : State} (h : heardB typ k fold src dst u = true) :
    FoldHeard typ k (foldRx typ fold src dst b) u := by
  simp only [heardB, Bool.and_eq_true, beq_iff_eq, Bool.not_eq_true', bne_iff_ne, decide_eq_true_eq, Bool.or_eq_true] at h
  obtain ⟨⟨⟨⟨⟨⟨⟨⟨h1, h2⟩, h3⟩, h4, hq⟩, h5⟩, h6⟩, h7⟩, h8⟩, h9⟩ := h
  refine ⟨⟨h1, h2, h3⟩, h4, hq, h5, rfl, rfl, h6, ⟨h7, h8⟩, fun e => ?_⟩
  rcases h9 with (h9 | h9) | h9
  · exact absurd e h9
  · exact .inl h9
  · exact .inr h9

/-- A member of fold 10 at index 5 that passes every test. -/
def member5 : FldMember := {
  order := 1, eui := 7, subdepth := 1, devices := 1, devmap := 2, cat := 0, catAdm := 0, absent := false, seen := false, missSf := 5
  differs := none, stopDiff := 0, prevIn := none, offRun := 0, oversize := false, reason := 0, passes := 0 }

/-- The bellwether with member 5 admitted. -/
def hotBell5 : State := hotBell.mapFld (fun x => { x with members := [(10 * 4096 + 5, member5)] })

theorem wit_FoldRowsAct_a :
    WitQ hotFld opFldStateRead [] (fun c _ => c.params = []) ∧
    WitW hotBell opFldMemberAdd ([10, 0, 255, 15] ++ le 8 7) (fun c s => c.params.length = 12 ∧ rosterOk s (u16 c.params 0) (u16 c.params 2)) ∧
    WitW hotBell opFldMemberRemove [10, 0, 1, 0] (fun c s => c.params.length = 4 ∧ rosterOk s (u16 c.params 0) (u16 c.params 2)) ∧
    WitQ hotBell opFldMembersRead [10, 0, 2, 15, 254, 0, 0, 0] (fun c s => c.params.length = 8 ∧ 1 ≤ u16 c.params 4 ∧
      u16 c.params 4 ≤ 254 ∧ u16 c.params 2 + u16 c.params 4 ≤ 4096 ∧ u16 c.params 6 = 0 ∧ s.bellTierOf (u16 c.params 0) = some 0) :=
  ⟨witQ _ _ _ _ (by decide) rfl, witW _ _ _ _ (by decide) ⟨by decide, by decide, by decide, by decide, 0, by decide +kernel⟩,
    witW _ _ _ _ (by decide) ⟨by decide, by decide, by decide, by decide, 0, by decide +kernel⟩, witQ _ _ _ _ (by decide) (by decide)⟩

theorem wit_FoldRowsAct_b :
    (let f := foldRx 1 10 5 0 (zeros 568)
     FoldHeard 1 0 f hotBell ∧ (hotBell.tier 0).member = 0 ∧ f.body.length = 568 ∧ hotBell.rosterEui 0 f.src ≠ some (u64 f.body 0)) ∧
    (let f := foldRx 1 10 5 0 (le 8 7 ++ [5, 0, 1, 0] ++ le 4 hotBell.fwVersion ++ le 4 1 ++ zeros 36 ++ le 512 2)
     FoldHeard 1 0 f hotBell ∧ (hotBell.tier 0).member = 0 ∧ f.body.length = 568 ∧ (foldFrom f hotBell).joinResult 0 f.src f.body = 0) ∧
    (let f := foldRx 2 10 0 3 (zeros 8)
     FoldHeard 2 0 f hotFld ∧ f.body.length = 8 ∧ f.src = 0 ∧ hotFld.upTier = some 0 ∧ hotFld.fld.admitted = false ∧ u8 f.body 0 = 0) ∧
    (let f := foldRx 2 10 0 0xFFFF (5 :: zeros 7)
     FoldHeard 2 0 f hotFld ∧ f.body.length = 8 ∧ f.src = 0 ∧ hotFld.upTier = some 0 ∧ hotFld.fld.admitted = false ∧ u8 f.body 0 ≠ 0) ∧
    (let f := foldRx 4 10 0 3 (zeros 48)
     let u := hotFld.mapFld (fun x => { x with admitted := true })
     FoldHeard 4 0 f u ∧ f.body.length = 48 ∧ f.src = 0 ∧ u.upTier = some 0 ∧ u.fld.admitted = true) ∧
    (hotFld.tiers ≠ 0 ∧ hotFld.bellTiers = [] ∧ hotFld.upTier = some 0 ∧ hotFld.fld.relays = [] ∧ hotFld.lnk.robots = [] ∧
      hotFld.fld.ownReason = 0 ∧ hotFld.fld.ownPasses = 0) ∧
    (Tab.find? (10 * 4096 + 5) hotBell5.fld.members = some member5 ∧ member5.absent = false ∧ hotBell5.prm 0x0E12 ≤ member5.missSf) ∧
    (let u := hotFld.mapFld (fun x => { x with admitted := true, missSf := 5 })
     NativeRun u ∧ u.upTier = some 0 ∧ u.fld.admitted = true ∧ u.prm 0x0E12 ≤ u.fld.missSf) :=
  ⟨⟨foldHeard_of (by decide +kernel), by decide +kernel⟩, ⟨foldHeard_of (by decide +kernel), by decide +kernel⟩,
    ⟨foldHeard_of (by decide +kernel), by decide +kernel⟩,
    ⟨foldHeard_of (by decide +kernel), by decide +kernel⟩,
    ⟨foldHeard_of (by decide +kernel), by decide +kernel⟩,
    by decide +kernel, by decide +kernel,
    ⟨⟨rfl, rfl, rfl⟩, by decide +kernel⟩⟩

/-- A HEARTBEAT body in which every test passes, of a device whose time is valid. -/
def hbBody (u : State) : Bytes := le 4 (u.prm 0x0E10) ++ le 8 u.cfgDigest ++ le 4 u.fwVersion ++ zeros 32 ++ [64, 1, 0, 0] ++ le 4 1 ++ zeros 8 ++
  le 8 u.stopDigest ++ le 512 2

theorem wit_FoldRowsAct_c :
    (let f := foldRx 3 10 5 0 (hbBody hotBell5)
     let u := hotBell5
     FoldHeard 3 0 f u ∧ (u.tier 0).member = 0 ∧ f.body.length = 584 ∧ Tab.find? (u.memberKey 0 f.src) u.fld.members = some member5 ∧
      u.upTier.isSome = true ∧ member5.stopDiff = 0 ∧ member5.reason = 0 ∧
      (let s := (foldFrom f u).mapFld (fun x => { x with
        members := Tab.put (u.memberKey 0 f.src) ((foldFrom f u).hbMember f.stamp f.body member5) x.members })
       s.hbFails (u.memberKey 0 f.src) f.body ((foldFrom f u).hbMember f.stamp f.body member5) = [])) :=
  ⟨foldHeard_of (by decide +kernel), by decide, by decide +kernel, by decide, by decide, rfl, rfl, by decide +kernel⟩

/-- A fold-routed packet with path [3] and HOP 1, and a reply to it. -/
def routedCmd : Bytes := packetWhole 8 0x0007 0 1 ([1, 1, 3, 0] ++ [])
def routedReply : Bytes := packetWhole 9 0x0007 0 1 ([1, 1, 3, 0] ++ [0, 0, 0, 0])

theorem wit_FoldRowsAct_d :
    (let f := foldRx 5 10 0 3 routedCmd
     FoldHeard 5 0 f hotFld ∧ wholeHeader f.body ∧ bit (u8 f.body 3) 0 = false ∧ bit (u8 f.body 3) 4 = false ∧
      State.headCheck (routedPkt f) = none ∧ u8 (routedPkt f).payload 1 = (routedPkt f).depth) ∧
    (let f := foldRx 5 10 5 0 routedReply
     let v : (Bytes × Nat) × Via := (([1, 3, 0], 1), .udp 1 2)
     let u := hotBell5.mapFld (fun x => { x with paths := [v] })
     FoldHeard 5 0 f u ∧ wholeHeader f.body ∧ bit (u8 f.body 3) 0 = true ∧
      u.fld.paths.find? (fun e => e.1 == (le 1 (u8 (replyOf f.body).pre 0) ++ slice (replyOf f.body).pre 2 (2 * u8 (replyOf f.body).pre 0),
        (replyOf f.body).sess)) = some v) ∧
    (let f := foldRx 6 10 5 0 (le 8 7 ++ [2, 0, 0, 0] ++ le 4 1)
     FoldHeard 6 0 f hotBell5 ∧ f.body.length = 16 ∧ u64 f.body 0 ≠ hotBell5.fac.eui ∧ u8 f.body 8 ≤ 2 ∧
      Tab.find? (u64 f.body 0) hotBell5.fld.stops = none ∧ hotBell5.fld.stopIn = []) ∧
    (let f := foldRx 6 10 5 0 (le 8 7 ++ [2, 0, 0, 0] ++ le 4 1)
     let u := hotBell5.mapFld (fun x => { x with stops := [(7, (2, 1))] })
     FoldHeard 6 0 f u ∧ f.body.length = 16 ∧ Tab.find? (u64 f.body 0) u.fld.stops = some (2, 1) ∧ u32 f.body 12 ≤ 1) ∧
    (let f := foldRx 7 10 5 0 (le 8 7 ++ le 4 1)
     let u := hotBell5.mapFld (fun x => { x with stopSends := [⟨0, 7, 1, 1, [5]⟩] })
     FoldHeard 7 0 f u ∧ f.body.length = 12 ∧ u.fld.stopSends = [⟨0, u64 f.body 0, 1, u32 f.body 8, [f.src]⟩]) ∧
    (let f := foldRx 8 10 0 3 ([1, 0, 1, 0] ++ le 8 7 ++ [2])
     FoldHeard 8 0 f hotFld ∧ f.src = 0 ∧ hotFld.upTier = some 0 ∧ u16 f.body 0 ≤ 448 ∧ f.body.length = 4 + 9 * u16 f.body 0 ∧
      bit (u8 f.body 2) 0 = true) ∧
    (let f := foldRx 0x14 10 0 3 (le 2 0 ++ le 2 1 ++ zeros 4 ++ foldMsg 0x13 10 0 0xFFFF 1 (zeros 8))
     let inner := f.body.drop 8
     FoldHeard 0x14 0 f hotFld ∧ u16 f.body 0 = hotFld.deviceNo ∧ 28 ≤ f.body.length ∧ inner.length = 20 + u16 inner 12 ∧ u8 inner 0 = 1 ∧
      crc32c (inner.take (16 + u16 inner 12)) = u32 inner (16 + u16 inner 12) ∧ 9 ≤ u8 inner 1 ∧ u8 inner 1 ≤ 0x13 ∧
      State.relayLenOk (u8 inner 1) (slice inner 16 (u16 inner 12)) = true) ∧
    (let f := foldRx 0x14 10 0 3 (le 2 1 ++ le 2 2 ++ [29, 0, 0, 0])
     FoldHeard 0x14 0 f hotFld ∧ u16 f.body 0 ≠ hotFld.deviceNo ∧ u16 f.body 0 ≠ toAll ∧ u8 f.body 4 < 30 ∧ hotFld.bellTiers = [] ∧
      hotFld.upTier = some 0) := by
  refine ⟨⟨foldHeard_of (by decide), by unfold wholeHeader; decide +kernel, by decide +kernel⟩,
    ⟨foldHeard_of (by decide), by unfold wholeHeader; decide +kernel, by decide +kernel⟩,
    ⟨foldHeard_of (by decide), by decide +kernel⟩,
    ⟨foldHeard_of (by decide), by decide +kernel⟩,
    ⟨foldHeard_of (by decide), by decide +kernel⟩, ⟨foldHeard_of (by decide), by decide +kernel⟩,
    ⟨foldHeard_of (by decide), by decide +kernel⟩,
    ⟨foldHeard_of (by decide), by decide +kernel⟩⟩

theorem wit_FoldRowsAct_e : NativeRun hotFld ∧ hotFld.tiers ≠ 0 ∧ State.relayLenOk 0x09 (zeros 8) = true ∧ State.relayLenOk 0x0A (zeros 16) = true ∧
    State.relayLenOk 0x0B (zeros 8) = true ∧ State.relayLenOk 0x0C (zeros 4 ++ [16, 0] ++ zeros 1154) = true ∧
    State.relayLenOk 0x0D (zeros 8) = true ∧ State.relayLenOk 0x0E (zeros 8) = true ∧ State.relayLenOk 0x0F (zeros 16) = true ∧
    State.relayLenOk 0x10 (zeros 8) = true ∧ State.relayLenOk 0x11 (zeros 20) = true ∧ State.relayLenOk 0x12 (zeros 8) = true ∧
    State.relayLenOk 0x13 (zeros 8) = true :=
  ⟨⟨rfl, rfl, rfl⟩, by decide +kernel⟩

/-- A robot with EUI 7 at an address. -/
def cxRobot (a : Nat) : CxRobot := { CxRobot.fresh 7 a with joined := true, report := some (100, -100, 3, 0) }

/-- Robots at the first and the last address, with messages, frames and events to read. -/
def busyCx : State := hotCx.mapCx (fun x => { x with
  robots := [(1, cxRobot 1), (48, CxRobot.fresh 9 48)], inbox := [(48, [1, 2])]
  canIn := [(⟨true, false, false, false, false, 1, 5, [9]⟩, 3)], events := [(1, 2)], survey := some (0, 60)
  conf := { x.conf with base := some (600000000, 0, 0, 1) } })

theorem cx_ready {s : State} (h : (s.sys.power == .run && s.sys.cx && s.sys.fw == .running && s.cx.resetAt == none) = true) : CxReady s := by
  simp only [Bool.and_eq_true, beq_iff_eq] at h
  exact ⟨⟨h.1.1.1, h.1.1.2, h.1.2⟩, h.2⟩

theorem wit_CxReadsComplete_a : CxReady hotCx ∧ (hotCx.cxUnread true).cx.conf.base = none ∧ (hotCx.cxUnread true).cx.survey = none ∧
    (hotCx.cxUnread true).cx.inbox = [] ∧ (hotCx.cxUnread true).cx.canIn = [] ∧ (hotCx.cxUnread true).cx.events = [] :=
  ⟨cx_ready (by decide +kernel), by decide +kernel⟩

theorem wit_CxReadsComplete_b : CxReady busyCx ∧ (busyCx.cxUnread false).cx.conf.base = some (600000000, 0, 0, 1) ∧
    (busyCx.cxUnread false).cx.survey = some (0, 60) ∧ Tab.find? (u8 [1] 0) (busyCx.cxUnread true).cx.robots = some (cxRobot 1) ∧
    (cxRobot 1).report = some (100, -100, 3, 0) ∧ Tab.find? (u8 [48] 0) (busyCx.cxUnread true).cx.robots = some (CxRobot.fresh 9 48) ∧
    (CxRobot.fresh 9 48).report = none ∧ (busyCx.cxUnread false).cx.inbox = [(48, [1, 2])] ∧
    (busyCx.cxUnread false).cx.canIn = [(⟨true, false, false, false, false, 1, 5, [9]⟩, 3)] ∧ (busyCx.cxUnread false).cx.events = [(1, 2)] :=
  ⟨cx_ready (by decide +kernel), by decide +kernel, by decide +kernel, by decide +kernel, rfl, by decide +kernel, rfl, by decide +kernel⟩

/-- The module's largest base coordinate. -/
def cxBaseMax : Bytes := le 4 640000000 ++ zeros 8

theorem wit_CxCommandsComplete : CxReady hotCx ∧
    (let b := cxBaseMax
     b.length = 12 ∧ (hotCx.cxUnread true).cx.survey = none ∧ (634000000 : Int) ^ 2 ≤ i32 b 0 * i32 b 0 + i32 b 4 * i32 b 4 + i32 b 8 * i32 b 8 ∧
      i32 b 0 * i32 b 0 + i32 b 4 * i32 b 4 + i32 b 8 * i32 b 8 ≤ 640000000 ^ 2) ∧
    (60 ≤ u16 (le 2 60) 0 ∧ u8 [45] 0 ≤ 45 ∧ u8 [60, 3] 0 ≤ 60 ∧ u8 [60, 3] 1 < 4) ∧
    (let b : Bytes := [1, 20, 0xFE, 0xFF]
     u8 b 0 = 1 ∧ -10 ≤ i8 b 1 ∧ i8 b 1 ≤ 20 ∧ u16 b 2 ≠ 0xFFFF) ∧
    Tab.has 1 (hotCx.cxUnread true).cx.robots = false ∧
    (CxReady busyCx ∧ Tab.has 2 (busyCx.cxUnread true).cx.robots = false ∧ Tab.has 1 (busyCx.cxUnread true).cx.robots = true) ∧
    Tab.find? (u8 [48] 0) (busyCx.cxUnread true).cx.robots = some (CxRobot.fresh 9 48) ∧
    (let b : Bytes := [1, 2, 0] ++ leS 4 (-8388608) ++ leS 4 8388607 ++ [5]
     b.length = 12 ∧ Tab.find? (u8 b 0) (busyCx.cxUnread true).cx.robots = some (cxRobot 1) ∧ -8388608 ≤ i32 b 3 ∧ i32 b 3 ≤ 8388607 ∧
      -8388608 ≤ i32 b 7 ∧ i32 b 7 ≤ 8388607) ∧ (cxRobot 1).msgs.length < 4 ∧ u8 [1, 1] 1 ≤ 1 ∧
    (let b : Bytes := le 4 (2 ^ 31 + 2 ^ 29 - 1) ++ [8] ++ zeros 8
     u8 b 4 ≤ 8 ∧ b.length = 5 + u8 b 4 ∧ (if bit (u32 b 0) 31 then u32 b 0 % 2 ^ 31 < 2 ^ 29 else u32 b 0 < 2 ^ 11) ∧
      (busyCx.cxUnread true).cx.canOut.length + b2n ((busyCx.cxUnread true).canMb 0 0).tx.isSome < 8) :=
  ⟨cx_ready (by decide +kernel), by decide +kernel, by decide +kernel, by decide +kernel, by decide +kernel,
    ⟨cx_ready (by decide +kernel), by decide +kernel⟩, by decide +kernel⟩

theorem wit_K9InfoIdentifies : CxReady hotCx ∧ ([0] : Bytes).length = 1 ∧ u8 [0] 0 = 0 ∧ u8 [1] 0 = 1 ∧ 2 ≤ u8 [2] 0 ∧ 2 ≤ u8 [255] 0 :=
  ⟨cx_ready (by decide +kernel), by decide +kernel⟩

/-- Robot 1 is joined and polled in the first poll of CX tick 2; the radio is on, and a key is set. -/
def airCx : State := hotCx.mapCx (fun x => { x with
  k := 2, robots := [(1, { cxRobot 1 with polls := 20, due := 1, part := 1 })], polled := [1]
  conf := { x.conf with radio := some (20, 0), key := some 5 } })

/-- A frame of robot 1 in the uplink slots of the first poll. -/
def cxRx (slot typ : Nat) (mic : Bool) : CxRx := { slot := slot, src := 1, payload := le 1 typ ++ le 8 7, micOk := mic, rssi := -60 }

theorem cx_up (typ : Nat) (mic : Bool) (h : (le 1 typ ++ le 8 7).length = 9) :
    CxUplink airCx (cxRx 6 typ mic) 0 { cxRobot 1 with polls := 20, due := 1, part := 1 } :=
  ⟨⟨rfl, rfl, rfl⟩, by decide +kernel, rfl, (by decide +kernel : airCx.cx.polled[0]? = some 1), h,
    (by decide +kernel : Tab.find? 1 airCx.cx.robots = some { cxRobot 1 with polls := 20, due := 1, part := 1 })⟩

theorem wit_CxEventsAct_a : CxRun airCx ∧ (airCx.cx.conf.radio = some (20, 0) ∧ airCx.cxRadioOn = true ∧ airCx.cx.joining = [] ∧ airCx.cx.joinReq = [] ∧
    airCx.cx.onAir = [] ∧ airCx.cxNext = [1] ∧ Tab.find? 1 airCx.cx.robots = some { cxRobot 1 with polls := 20, due := 1, part := 1 } ∧
    airCx.cx.k % 2 = 0 ∧ u64 (cxRx 38 0x21 true).payload 1 = 7 ∧
    List.find? (fun (e : Nat × CxRobot) => e.2.eui == 7) airCx.cx.robots = some (1, { cxRobot 1 with polls := 20, due := 1, part := 1 }) ∧ airCx.cx.lineOpen = false) ∧
    CxUplink airCx (cxRx 6 0x20 true) 0 { cxRobot 1 with polls := 20, due := 1, part := 1 } ∧
    CxUplink airCx (cxRx 6 0x22 true) 0 { cxRobot 1 with polls := 20, due := 1, part := 1 } ∧
    CxUplink airCx (cxRx 6 0x23 true) 0 { cxRobot 1 with polls := 20, due := 1, part := 1 } ∧
    CxUplink airCx (cxRx 6 0xFF false) 0 { cxRobot 1 with polls := 20, due := 1, part := 1 } :=
  ⟨⟨rfl, rfl, rfl⟩, by decide +kernel, cx_up _ _ (by decide), cx_up _ _ (by decide), cx_up _ _ (by decide), cx_up _ _ (by decide)⟩

/-- A legacy member, robot 5, whose uplink pair is open. -/
def hotLegacy : State := (((withParams [(0x0501, 1), (0x1300, 4), (0x0513, 0)] (withKeys hotFlock)).mapLnk (fun l => { l with
  robots := [(5, { robot0 with legacy := true })] })).mapAir (fun a => { a with
    slot := 3, asn := 7, map := ⟨[⟨0, .legacy, some 5, 2, 1, 0, 2⟩], []⟩ })).mapCx (fun x => { x with
      legacy := [(5, { cxRobot 1 with eui := 7, dropDue := true })] })

theorem wit_CxEventsAct_b :
    (let u := hotLegacy
     FwRun u ∧ u.sys.cx = false ∧ u.legacyOpen = some 5 ∧ u.rootKeys = true ∧ u.legacyKey (u.prm 0x1300) = true ∧ (u.legacyOf 5).eui = 7) ∧
    (NativeRun hotLegacy ∧ Tab.find? 5 hotLegacy.cx.legacy = some { cxRobot 1 with eui := 7, dropDue := true }) ∧
    (let v := (airCx.mapCx (fun x => { x with lineOpen := true })).setStop 1 0 0 0
     v.sys.power = .run ∧ v.sys.cx = true ∧ v.cx.lineOpen = true ∧ ((v.mapCx (fun x => { x with lineOpen := false })).releaseStop 1 0 0).isSome = true) :=
  ⟨⟨⟨rfl, rfl⟩, by decide +kernel⟩, ⟨⟨rfl, rfl, rfl⟩, by decide +kernel⟩,
    by decide +kernel⟩

/-- The state in a power state. -/
def inPower (p : Power) : State := hot.mapSys (fun y => { y with power := p })

/-- The wake frame of R395 for MAC0 of a module with address 0 address 0.0.0.9 and wake token 0. -/
def wakeFrame : Bytes :=
  let body := be 6 0 ++ zeros 6 ++ be 2 0x0800 ++ ([0x45, 0] ++ be 2 40 ++ zeros 5 ++ [17] ++ zeros 2 ++ zeros 4 ++ be 4 9) ++
    (be 2 1 ++ be 2 41990 ++ be 2 20 ++ be 2 0 ++ [0xA7, 0x4B, 0x57, 0x4B] ++ be 6 0 ++ le 2 0)
  body ++ zeros 10

theorem wit_PowerAndResetRowsAct_a : (inPower .off).sys.power = .off ∧ (inPower .backup).sys.power = .backup ∧ hot.sys.power = .run ∧
    (inPower .standby).sys.power = .standby ∧
    (let u := hot.mapSys (fun y => { y with pendReset := some ⟨true, 4, false, false, none⟩ })
     u.sys.power = .run ∧ u.sys.cx = false ∧ u.sys.pendReset = some ⟨true, 4, false, false, none⟩ ∧ u.replyWaits none = false) ∧
    (let u := hotCx.mapCx (fun x => { x with resetAt := some 0 })
     u.sys.power = .run ∧ u.sys.cx = true ∧ u.cx.resetAt = some 0 ∧ 0 ≤ u.now) ∧
    (let u := hot.mapSys (fun y => { y with wdtWait := some 10 })
     u.sys.power = .run ∧ u.sys.wdtWait = some 10 ∧ u.prm 0x0015 ≤ 10) ∧
    (let u := hot.mapSys (fun y => { y with pendStandby := some ⟨7, 9, 2⟩ })
     FwRun u ∧ u.sys.pendStandby = some ⟨7, 9, 2⟩ ∧ u.replyWaits (some (9, 2)) = false) :=
  ⟨rfl, rfl, rfl, rfl, by decide +kernel, by decide +kernel, by decide +kernel, ⟨rfl, rfl⟩, rfl, by decide +kernel⟩

theorem wit_PowerAndResetRowsAct_b :
    (let u := withParams [(0x0016, 60)] { inPower .standby with now := 60000000000 }
     u.sys.power = .standby ∧ u.prm 0x0016 ≠ 0 ∧ u.prm 0x0016 * 1000000000 ≤ u.now - u.sys.snapLast) ∧
    (let u := withParams [(0x0019, 41990), (0x0B06, 9), (0x0B0E, 0)] ((inPower .standby).mapSys (fun y => { y with wakeMask := 1 }))
     u.sys.power = .standby ∧ bit u.sys.wakeMask 0 = true ∧ { u with fac := { u.fac with mac := 0 } }.wakeMatch 0 wakeFrame true = true) := by
  refine by decide +kernel

/-- Observations of a tick in which every line is done. -/
def quietTick : TickObs := {
  epoch := none, done := [], early := 0, engines := [], us := [], uses := [], dieTemp := 40, vinMv := 12000, copied := false, ready := false, window := [], beacon := false }

/-- A COMMIT of generation 1 that waits for the system domain. -/
def pendOne (todo : List Domain) (tickAt : Option (Nat × Nat)) : PendCommit := {
  gen := 1, sess := 1, acc := 1, shadow := Shadow.empty, todo := todo, accSf := 0, inPlace := false, overlap := false, tickAt := tickAt, lateAt := none, again := false }

theorem wit_TickRowsAct_a : (NativeRun hot ∧ (tickOpened quietTick hot).sys.fw = .running ∧ (tickOpened quietTick hot).boundaryDomains.merging = false) ∧
    (CxRun hotCx ∧ hotCx.openTick.epochDue = true ∧ ((hotCx.openTick.epochMeasure quietTick).newSet).isSome = true) ∧
    (let u := hot.mapSys (fun y => { y with fw := .recovery })
     u.sys.power = .run ∧ u.sys.fw = .recovery) ∧
    Tab.has (16 + 1) hot.sys.runs = false ∧ Tab.has 20 hot.sys.runs = false ∧ Tab.has (22 + 0) hot.sys.runs = false ∧ Tab.has (22 + 3) hot.sys.runs = false := by
  refine ⟨⟨⟨rfl, rfl, rfl⟩, by decide +kernel⟩, ⟨⟨rfl, rfl, rfl⟩, by decide +kernel⟩,
    by decide +kernel⟩

theorem wit_TickRowsAct_b :
    (let u := hot.mapCfg (fun c => { c with pend := [pendOne [.SYS] none] })
     domainList[0]? = some .SYS ∧ u.cfg.pend = [pendOne [.SYS] none] ∧ u.domainDue .SYS (pendOne [.SYS] none) = true) ∧
    (let u := (hot.mapCfg (fun c => { c with pend := [pendOne [] (some (8, 0))] })).mapSys (fun y => { y with sfTick := 10 })
     u.cfg.pend = [pendOne [] (some (8, 0))] ∧ u.sys.sfTick = 10 ∧ 0 ≤ u.clk.count ∧
      (placeMap (((u.mapCfg (fun c => { c with
        eff := { c.eff with params := putParam 0x0010 8 c.eff.params }, pend := [{ pendOne [] (some (8, 0)) with tickAt := none }] })).mapSys (fun y => { y with
          slots := 8 })).siteMap)).isOk = true) ∧
    (FwRun hot ∧ 7 ∉ hot.sys.halted ∧ 0 ∉ hot.sys.halted ∧ hot.sys.wdtOrders = []) ∧
    (let e := 0x8000000000000000 + 0x0090
     let u := hot.mapSys (fun y => { y with wdtOrders := [(3, e)] })
     1 ∉ u.sys.halted ∧ soKind e = 0 ∧ soLevel e ≤ u.sys.halted.length + 1 ∧ u.sys.wdtWait = none) := by
  refine ⟨by decide +kernel, by decide +kernel,
    ⟨⟨rfl, rfl⟩, by decide +kernel⟩, by decide +kernel⟩

/-- A packet for session 0000h over SPI. -/
def pk0 (b : Bytes) : Pkt := {
  via := .spi, flags := 0, plen := b.length, delivered := 20 + b.length, acc := 0, sess := 0, payload := b, pcrc := crc32c b }

theorem open_ready {s : State} {b : Bytes} (hb : b.length ≤ 4076)
    (h : (s.hearsHost .spi && s.sys.fw == .running && (!s.merging && !s.pairShut) && !s.spiFull) = true) : OpenReady s (pk0 b) := by
  simp only [Bool.and_eq_true, beq_iff_eq, Bool.not_eq_true'] at h
  obtain ⟨⟨⟨h1, h2⟩, h3⟩, h4⟩ := h
  refine ⟨h1, h2, h3, fun _ => h4, ?_, (by decide : 0 / 32 = 0), (by decide : bit 0 3 = false), (by decide : bit 0 1 = false), (by decide : bit 0 2 = false), rfl, rfl⟩
  have e1 : ¬4076 < (pk0 b).plen := Nat.not_lt.2 hb
  have e2 : (pk0 b).pcrc = crc32c (pk0 b).payload := rfl
  have e3 : (pk0 b).delivered = 20 + (pk0 b).plen := rfl
  have e4 : (pk0 b).routed = false := (by decide : bit 0 3 = false)
  simp [State.headCheck, e1, e2, e3, e4]

/-- A fragment of an orders write in session 1. -/
def fragPk (index : Nat) : Pkt := pk 3 2 (le 2 index ++ le 2 3 ++ zeros 8)

theorem wit_SessionPacketsComplete_a :
    (let b := le 32 1 ++ zeros 8
     OpenReady hot (pk0 b) ∧ (pk0 b).body.length = 40 ∧ u32 (pk0 b).body 36 = 0 ∧ bit (rd (pk0 b).body 0 32) 0 = true ∧ hot.ses.sessions.length < 8) ∧
    (let b := le 2 1 ++ le 2 0 ++ le 4 9 ++ le 4 0 ++ le 4 0
     OpenReady hot (pk0 b) ∧ (pk0 b).body.length = 16 ∧ u16 (pk0 b).body 2 = 0 ∧ u32 (pk0 b).body 12 = 0 ∧ hot.session (u16 (pk0 b).body 0) = some hotSession ∧
      hotSession.tag = u32 (pk0 b).body 4 ∧ u32 (pk0 b).body 8 = 0) ∧
    (let b := le 2 1 ++ le 2 0 ++ le 4 9 ++ le 4 2 ++ le 4 0
     OpenReady hotDone (pk0 b) ∧ hotDone.session (u16 (pk0 b).body 0) = some hotSession ∧ u32 (pk0 b).body 8 ≠ 0 ∧
      State.notAccepted hotSession (u32 (pk0 b).body 8) = false) :=
  ⟨⟨open_ready (by decide) (by decide +kernel), by decide +kernel⟩,
    ⟨open_ready (by decide) (by decide +kernel), by decide +kernel⟩,
    ⟨open_ready (by decide) (by decide +kernel), by decide +kernel⟩⟩

theorem wit_SessionPacketsComplete_b :
    FragReady hot opCommit (fragPk 0) hotSession ∧ hotSession.part = none ∧ (fragPk 0).fragIndex = 0 ∧ (fragPk 1).fragIndex = 1 ∧ opSpec? 0x00FF = none ∧
    hot.hearsHost (pkN []).via = true ∧ hot.pairShut = false ∧ hot.merging = false ∧ hot.spiFull = false ∧ (pkN []).sess ≠ 0 ∧ (pkN []).far = false ∧
    hot.session (pkN []).sess = some hotSession ∧ (pk 3 8 [1, 0, 3, 0]).far = true ∧ State.headCheck (pk 3 8 [1, 0, 3, 0]) = none ∧
    hot.bellTiers = [] := by
  refine ⟨⟨by decide +kernel, rfl, by decide +kernel, fun _ => by decide +kernel, by decide +kernel, by decide, by decide,
    by decide, by decide, by decide +kernel, by decide +kernel, ⟨rfl, by decide +kernel⟩, by decide +kernel⟩, rfl,
    by decide +kernel⟩

/-- A capture and compare channel that holds `n` stamps. -/
def ccOf (n : Nat) (run : Bool) : CcState := { stamps := List.replicate n (1, false, true), lost := 0, run := run, lastRise := none, level := false }

/-- Channel 0 in a mode, holding `n` stamps; time is valid. -/
def hotCc (mode n : Nat) (run : Bool) : State :=
  ((withParams [(0x001C, ofLe ([5] ++ le 1 mode ++ zeros 10))] hot).mapSys (fun y => { y with cc := ccOf n run :: y.cc.drop 1 })).mapClk (fun c => { c with
    state := .locked, e0 := some 0 })

theorem wit_HostPinRowsAct_a :
    (let u := { hot with now := 604800000000000 }
     NativeRun u ∧ u.session 1 = some hotSession ∧ u.prm 0x0018 * 1000000000 ≤ u.now - hotSession.heard) ∧
    NativeHw hot ∧ hot.hearsHost .spi = true ∧ NativeRun hot ∧
    (let u := hotCx.mapCx (fun x => { x with reply := some [1] })
     CxRun u ∧ u.cx.reply = some [1]) ∧
    (let u := hot.mapSys (fun y => { y with console := [[1]], evHigh := some 0 })
     NativeHw u ∧ u.sys.console = [1] :: [] ∧ u.sys.consoleDropped = 0 ∧ u.sys.evHigh = some 0 ∧ 0 ≤ u.now) ∧
    (let u := hot.mapSys (fun y => { y with console := [[1], zeros 4085], consoleDropped := 1 })
     u.sys.console = [1] :: [zeros 4085] ∧ 0 < u.sys.consoleDropped ∧ (([zeros 4085] : List Bytes).map List.length).sum + 11 ≤ 4096) :=
  ⟨⟨⟨rfl, rfl, rfl⟩, by decide +kernel⟩, ⟨rfl, rfl⟩, by decide +kernel, ⟨rfl, rfl, rfl⟩,
    ⟨⟨rfl, rfl, rfl⟩, by decide +kernel⟩, ⟨⟨rfl, rfl⟩, rfl, rfl, rfl, Nat.zero_le _⟩,
    rfl, Nat.one_pos, by decide +kernel⟩

theorem wit_HostPinRowsAct_b :
    (NativeRun (hotCc 2 63 false) ∧ (hotCc 2 63 false).sys.cc[0]? = some (ccOf 63 false) ∧ (ccOf 63 false).stamps.length < 64 ∧
      u8 ((hotCc 2 63 false).ccRec 0) 1 = 2) ∧
    (u8 ((hotCc 1 0 false).ccRec 0) 1 = 1 ∧ u8 ((hotCc 3 0 false).ccRec 0) 1 = 3) ∧
    ((hotCc 3 64 false).sys.cc[0]? = some (ccOf 64 false) ∧ 64 ≤ (ccOf 64 false).stamps.length ∧ u8 ((hotCc 3 64 false).ccRec 0) 1 = 3) ∧
    ((hotCc 3 64 true).sys.cc[0]? = some (ccOf 64 true) ∧ u8 ((hotCc 3 64 true).ccRec 0) 1 = 3) ∧
    (NativeRun (hotCc 4 0 false) ∧ u8 ((hotCc 4 0 false).ccRec 0) 1 = 4 ∧ (hotCc 4 0 false).sys.cc[0]? = some (ccOf 0 false) ∧
      (hotCc 4 0 false).timeValid = true ∧ (ccOf 0 false).lastRise = none ∧
      (hotCc 4 0 false).clk.count % (u32 ((hotCc 4 0 false).ccRec 0) 4 * 1000) = 0) ∧
    (let k : CcState := { ccOf 0 false with lastRise := some 0, level := true }
     let u := { (hotCc 4 0 false).mapSys (fun y => { y with cc := k :: y.cc.drop 1 }) with now := 1000 }
     NativeRun u ∧ u8 (u.ccRec 0) 1 = 4 ∧ u.sys.cc[0]? = some k ∧ k.lastRise = some 0 ∧ u32 (u.ccRec 0) 8 * 1000 ≤ u.now - 0) :=
  ⟨⟨⟨rfl, rfl, rfl⟩, by decide +kernel⟩, by decide +kernel, by decide +kernel, by decide +kernel,
    ⟨⟨rfl, rfl, rfl⟩, by decide +kernel⟩, ⟨rfl, rfl, rfl⟩, by decide +kernel⟩

/-- A running RF test. -/
def rfTestOf (mode : Nat) : RfTest := {
  mode := mode, channel := 0, power := 0, mcs := 0, started := 0, durNs := 0, sess := 1, acc := 2, stopped := false }

theorem wit_DiagnosticsComplete_a :
    WitQ (hot.mapSys (fun y => { y with halted := [7] })) opCoreCaptureRead ([7, 0] ++ le 2 63) (fun c s => c.params.length = 4 ∧ u8 c.params 0 < 8 ∧
      u8 c.params 1 = 0 ∧ u16 c.params 2 < 64 ∧ s.sys.halted.contains (u8 c.params 0) = true) ∧
    WitW ((withParams [(0x0B00, 1), (0x7F12, 1)] hot).mapEth (fun e => { e with ports := e.ports.map (fun k => { k with link := 1 }) })) opDiaEthCapture
      ([0, 2] ++ le 2 0 ++ le 4 60000) (fun c s => c.params.length = 8 ∧ u8 c.params 0 ≤ 2 ∧ u8 c.params 1 ≤ 2 ∧ u16 c.params 2 = 0 ∧
        1 ≤ u32 c.params 4 ∧ u32 c.params 4 ≤ 60000 ∧ s.prm 0x7F12 = 1 ∧ s.sys.ethCap = none ∧ s.ethUp (u8 c.params 0) = true) ∧
    WitQ (hot.mapSys (fun y => { y with capDone := true, capBuf := zeros 32 })) opDiaCaptureRead (le 4 16 ++ le 2 16) (fun c s => c.params.length = 6 ∧
      u32 c.params 0 % 16 = 0 ∧ u16 c.params 4 % 16 = 0 ∧ 16 ≤ u16 c.params 4 ∧ u16 c.params 4 ≤ 4064 ∧ s.sys.ethCap = none ∧ s.sys.capDone = true ∧
      u32 c.params 0 + u16 c.params 4 ≤ s.sys.capBuf.length) :=
  ⟨witQ _ _ _ _ (by decide +kernel) (by decide +kernel), witW _ _ _ _ (by decide +kernel) (by decide +kernel),
    witQ _ _ _ _ (by decide +kernel) (by decide +kernel)⟩

theorem wit_DiagnosticsComplete_b :
    WitW (withParams [(0x0500, 1), (0x0502, 2), (0x7F13, 3)] hot) opDiaRfTest ([3, 30, 0xF6, 5] ++ le 4 60000) (fun c s => c.params.length = 8 ∧
      1 ≤ u8 c.params 0 ∧ u8 c.params 0 ≤ 3 ∧ u8 c.params 1 < (channelPlan (s.prm 0x0500) (s.prm 0x0502)).2.2 ∧
      -10 ≤ i8 c.params 2 ∧ i8 c.params 2 ≤ domainPower (s.prm 0x0500) ∧ u8 c.params 3 < phyCount (s.prm 0x0502) ∧ 1 ≤ u32 c.params 4 ∧
      u32 c.params 4 ≤ 60000 ∧ s.prm 0x7F13 < 4 ∧ s.sys.rfTest = none ∧ (s.chain (s.prm 0x7F13)).bad = false) ∧
    WitW (withParams [(0x0500, 1), (0x0502, 2)] hot) opDiaRfTest (zeros 4 ++ le 4 1) (fun c s => c.params.length = 8 ∧ u8 c.params 0 = 0 ∧
      State.rfOk (s.prm 0x0500) (s.prm 0x0502) c.params = true ∧ s.sys.rfTest = none) ∧
    WitW ((withParams [(0x0500, 1), (0x0502, 2)] hot).mapSys (fun y => { y with rfTest := some (rfTestOf 1) })) opDiaRfTest (zeros 4 ++ le 4 1)
      (fun c s => c.params.length = 8 ∧ u8 c.params 0 = 0 ∧ State.rfOk (s.prm 0x0500) (s.prm 0x0502) c.params = true ∧
        s.sys.rfTest = some (rfTestOf 1)) ∧
    (let u := hot.mapSys (fun y => { y with ethCap := some ⟨0, 0, true, 0, 0, 1, 2⟩ })
     NativeRun u ∧ u.sys.ethCap = some ⟨0, 0, true, 0, 0, 1, 2⟩ ∧ 0 ≤ u.now - 0) ∧
    (let u := hot.mapSys (fun y => { y with rfTest := some (rfTestOf 3) })
     u.sys.rfTest = some (rfTestOf 3) ∧ (rfTestOf 3).mode = 3 ∧ (rfTestOf 3).stopped = false ∧ (rfTestOf 3).durNs ≤ u.now - (rfTestOf 3).started) ∧
    ((rfTestOf 1).mode = 1 ∧ (rfTestOf 2).mode = 2 ∧ (withParams [(0x0500, 3)] hot).prm 0x0500 = 3) :=
  ⟨witW _ _ _ _ (by decide +kernel) (by decide +kernel), witW _ _ _ _ (by decide +kernel) (by decide +kernel),
    witW _ _ _ _ (by decide +kernel) (by decide +kernel), ⟨⟨rfl, rfl, rfl⟩, rfl, Nat.zero_le _⟩, ⟨rfl, rfl, rfl, Nat.zero_le _⟩, rfl, rfl, by decide +kernel⟩

theorem wit_StepRunsExec : State.reset.pending = [] := by decide +kernel

theorem wit_StepKeepsInv : Safety.Inv { State.reset with pending := [.vinFall 0] } ∧
    (match step { State.reset with pending := [.vinFall 0] } with | .next t => t.sys.power == .backup | _ => false) = true :=
  ⟨fun h => absurd (by decide +kernel) h, by decide +kernel⟩

theorem wit_WellFormedCompletes : QueueOk { State.reset with pending := [.watchdog 0 7] } ∧
    step { State.reset with pending := [.watchdog 0 8] } = .fault (.noSuchUnit "WATCHDOG") := by
  refine ⟨fun i hi => ?_, rfl⟩
  rw [List.mem_singleton.1 hi]
  rfl

theorem wit_StepFrame : ∃ t, ({ State.reset with pending := [.ping 5 true [], .vinFall 0] } : State).pending = .ping 5 true [] :: [.vinFall 0] ∧
    step { State.reset with pending := [.ping 5 true [], .vinFall 0] } = .next t := ⟨_, rfl, rfl⟩

theorem wit_UnpoweredIsInert : WellFormed (.ping 5 true []) ∧ reachesUnpowered (.ping 5 true []) = false ∧
    (State.reset.mapSys (fun y => { y with power := .standby })).sys.power ≠ .run := by
  refine ⟨rfl, rfl, by decide +kernel⟩

theorem wit_HopChannelsDistinct : hopOk [0, 1, 2, 3] 3 = true ∧ [0, 1, 2, 3].Nodup ∧ 0 < 4 ∧ 3 < 4 ∧ 0 ≠ 3 := by decide

theorem wit_TimeSetWhileValid : WitW (hot.mapClk (fun c => { c with state := .locked, e0 := some 0 })) opClkTimeSet (zeros 16)
    (fun c s => c.params.length = 16 ∧ 0 ≤ i8 c.params 12 ∧ rd c.params 13 3 = 0 ∧ s.timeValid = true) :=
  witW _ _ _ _ (by decide +kernel) (by decide +kernel)

theorem wit_EthProbeOfDownLink : WitW hot opEthProbe ([0, 1] ++ le 2 64 ++ zeros 8)
    (fun c s => c.params.length = 12 ∧ u8 c.params 0 ≤ 2 ∧ (u8 c.params 0 = 0 ∨ bit c.agreed 192 = true) ∧ 1 ≤ u8 c.params 1 ∧
      u8 c.params 1 ≤ 64 ∧ 64 ≤ u16 c.params 2 ∧ u16 c.params 2 ≤ s.ethM (u8 c.params 0) + 18 ∧ u16 c.params 10 = 0 ∧
      (s.port (u8 c.params 0)).link = 0) ∧
    WitW hot opEthProbe ([1, 64] ++ le 2 1518 ++ zeros 8)
    (fun c s => c.params.length = 12 ∧ u8 c.params 0 ≤ 2 ∧ (u8 c.params 0 = 0 ∨ bit c.agreed 192 = true) ∧ 1 ≤ u8 c.params 1 ∧
      u8 c.params 1 ≤ 64 ∧ 64 ≤ u16 c.params 2 ∧ u16 c.params 2 ≤ s.ethM (u8 c.params 0) + 18 ∧ u16 c.params 10 = 0 ∧
      s.ethOn (u8 c.params 0) = false) :=
  ⟨witW _ _ _ _ (by decide +kernel) (by decide +kernel), witW _ _ _ _ (by decide +kernel) (by decide +kernel)⟩

/-- A unit of a pair over a trained link. -/
def hotPair (role : Nat) (m : PairMode) (f : Pai → Pai) : State :=
  hot.mapPai (fun y => f { y with role := role, mode := m, trained := true, lane0 := true, lane1 := true })

theorem wit_PairRowsAct_a :
    WitQ hot opPaiStateRead [] (fun c _ => c.params = []) ∧
    WitW (hotPair 2 .withheld id) opPaiResync (zeros 4) (fun c s => c.params.length = 4 ∧ u32 c.params 0 = 0 ∧ s.pai.role = 2 ∧
      s.pai.trained = true ∧ (s.pai.mode = .withheld ∨ s.pai.mode = .yielded)) ∧
    WitW (hotPair 2 .resync id) opPaiResync (zeros 4) (fun c s => c.params.length = 4 ∧ u32 c.params 0 = 0 ∧ s.pai.role = 2 ∧
      s.pai.trained = true ∧ s.pai.mode = .resync) ∧
    WitC hot opPaiRoleSet (zeros 4) (fun c s => c.params.length = 4 ∧ u8 c.params 0 ≤ 2 ∧ rd c.params 1 3 = 0 ∧ s.pai.mode ≠ .lockstep ∧
      s.pai.mode ≠ .resync ∧ s.pai.role = u8 c.params 0) ∧
    WitC (hotPair 1 .alone id) opPaiRoleSet [2, 0, 0, 0] (fun c s => c.params.length = 4 ∧ (u8 c.params 0 = 1 ∨ u8 c.params 0 = 2) ∧
      rd c.params 1 3 = 0 ∧ s.pai.mode ≠ .lockstep ∧ s.pai.mode ≠ .resync ∧ s.pai.role ≠ 0 ∧ s.pai.role ≠ u8 c.params 0) ∧
    (∃ m, WitC hot opPaiRoleSet [2, 0, 0, 0] (fun c s => c.params.length = 4 ∧ u8 c.params 0 = 2 ∧ rd c.params 1 3 = 0 ∧
      s.pai.mode ≠ .lockstep ∧ s.pai.mode ≠ .resync ∧ s.pai.role = 0 ∧
      placeMap ((s.mapPai (fun y => { y with role := 2, mode := .withheld })).siteMap) = .ok m)) :=
  ⟨witQ _ _ _ _ (by decide +kernel) rfl, witW _ _ _ _ (by decide +kernel) (by decide +kernel), witW _ _ _ _ (by decide +kernel) (by decide +kernel),
    witC _ _ _ _ (by decide +kernel) (by decide +kernel), witC _ _ _ _ (by decide +kernel) (by decide +kernel),
    ⟨_, witC _ _ _ _ (by decide +kernel) ⟨rfl, rfl, rfl, by decide, by decide, rfl, rfl⟩⟩⟩

theorem pairUrgent_of {u : State} {x : Session} {b : Bytes}
    (h : (u.hearsHost .spi && u.sys.fw == .running && u.pai.mode == .lockstep && (u.pai.role == 1 || u.pai.role == 2) && !u.spiFull &&
      u.session 1 == some x && missingBit x.agreed ((pkU b).flagBits ++ opPaiYield.bits) == none && decide (b.length ≤ 4076)) = true) :
    PairUrgent u opPaiYield (pkU b) x := by
  simp only [Bool.and_eq_true, beq_iff_eq, Bool.not_eq_true', decide_eq_true_eq, Bool.or_eq_true] at h
  obtain ⟨⟨⟨⟨⟨⟨⟨h1, h2⟩, h3⟩, h4⟩, h5⟩, h6⟩, h7⟩, h8⟩ := h
  have e1 : ¬4076 < (pkU b).plen := Nat.not_lt.2 h8
  have e2 : (pkU b).pcrc = crc32c (pkU b).payload := rfl
  have e3 : (pkU b).delivered = 20 + (pkU b).plen := rfl
  have e4 : (pkU b).routed = false := (by decide : bit 4 3 = false)
  exact ⟨h1, h2, ⟨h3, h4⟩, fun _ => h5, by simp [State.headCheck, e1, e2, e3, e4], (by decide : 4 / 32 = 0), e4,
    ⟨(by decide : bit 4 2 = true), rfl⟩, rfl, ⟨(by decide : (1 : Nat) ≠ 0), h6⟩, h7⟩

theorem wit_PairRowsAct_b :
    (let u := hotPair 2 .lockstep id
     PairUrgent u opPaiYield (pkU [2, 0, 0, 0]) hotSession ∧ (pkU [2, 0, 0, 0]).body.length = 4 ∧ rd (pkU [2, 0, 0, 0]).body 1 3 = 0 ∧
      u8 (pkU [2, 0, 0, 0]).body 0 = u.pai.role ∧ u8 (pkU [1, 0, 0, 0]).body 0 + u.pai.role = 3) ∧
    (Linked 2 (hotPair 2 .lockstep id) ∧ Linked 1 (hotPair 1 .resync id) ∧ Linked 1 (hotPair 1 .alone id)) ∧
    (let u := hotPair 1 .alone id
     NativeHw u ∧ u.pai.role ≠ 0 ∧ u.pai.trained = true ∧ u.stopsAhead.stopsFull 2 3 = false) :=
  ⟨⟨pairUrgent_of (by decide +kernel), by decide +kernel⟩, ⟨⟨⟨rfl, rfl, rfl⟩, by decide⟩, ⟨⟨rfl, rfl, rfl⟩, by decide⟩, ⟨rfl, rfl, rfl⟩, by decide⟩,
    ⟨rfl, rfl⟩, by decide +kernel⟩

/-- What a unit in lockstep merges: its own numbered packet, and a fold message. -/
def pairFold : FoldRx := foldRx 8 10 0 3 (zeros 4)

/-- A unit in lockstep, with the inputs and times a clause asks for. -/
def lockPair (role : Nat) (f : Pai → Pai) : State := hotPair role .lockstep f

theorem lockPair_merges (f : Pai → Pai) {role : Nat} (h : (lockPair role f).merging = true) (hr : (lockPair role f).pai.role = role) :
    Merges role (lockPair role f) := ⟨⟨rfl, rfl, rfl⟩, h, hr⟩

theorem wit_PairRowsAct_c :
    Merges 2 (lockPair 2 id) ∧ (∀ op p k, PairIn.fold 8 pairFold = .cmd op p k → p.acc ≠ 0) ∧ (pkC []).acc = 0 ∧
    (let u := lockPair 1 (fun y => { y with taken := [.fold 10 0 1] })
     Merges 1 u ∧ u.pai.taken.contains (pairIdOf false true (.fold 8 pairFold)) = true) ∧
    (let u := lockPair 1 id
     Merges 1 u ∧ u.pai.taken.contains (.fold pairFold.fold pairFold.src pairFold.seq) = false ∧
      u.pai.taken.contains (.numbered (pkN []).sess (pkN []).acc (pkN []).pcrc) = false ∧ u.session (pkN []).sess = some hotSession ∧
      (pkN []).acc ≠ 0 ∧ accPrecedes (pkN []).acc hotSession.next = false) ∧
    ((lockPair 2 id).pai.heldTick = none ∧ (lockPair 2 id).pai.items = [] ∧ (lockPair 2 id).pai.mergeDue = none) ∧
    (let u := lockPair 2 (fun y => { y with mergeDue := some ⟨[.fold pairFold.fold pairFold.src pairFold.seq], none⟩
                                            owed := [(.fold pairFold.fold pairFold.src pairFold.seq, 0)] })
     Merges 2 u ∧ u.pai.mergeDue = some ⟨[.fold pairFold.fold pairFold.src pairFold.seq], none⟩ ∧
      (u.pai.owed.all (fun e => e.1 == .fold pairFold.fold pairFold.src pairFold.seq)) = true ∧ u.pai.items = [] ∧
      ((u.mapPai (fun y => { y with owed := [] })).foldTake 8 pairFold).pai.heldTick = none) ∧
    (let u := lockPair 2 (fun y => { y with heldTick := some quietTick })
     Merges 2 u ∧ u.pai.heldTick = some quietTick) ∧
    (let u := lockPair 2 (fun y => { y with items := [⟨.fold 8 pairFold, 4⟩] })
     Merges 2 u ∧ u.pai.items = [⟨.fold 8 pairFold, 4⟩] ∧ ((u.mapPai (fun y => { y with items := [] })).foldTake 8 pairFold).pai.heldTick = none) :=
  ⟨lockPair_merges _ rfl rfl, fun _ _ _ h => (nomatch h), rfl, ⟨lockPair_merges _ rfl rfl, by decide +kernel⟩,
    ⟨lockPair_merges _ rfl rfl, by decide +kernel⟩, by decide +kernel,
    ⟨lockPair_merges _ rfl rfl, by decide +kernel⟩, ⟨lockPair_merges _ rfl rfl, rfl⟩, lockPair_merges _ rfl rfl, by decide +kernel⟩

theorem wit_PairRowsAct_d :
    (let u := lockPair 1 id
     Merges 1 u ∧ (∀ e ∈ u.ses.journal, e.awaitConf = none) ∧ u.pai.own = none) ∧
    (let e : JEntry := { jentry 2 none with awaitConf := some (Ans.ok []) }
     let u := (lockPair 1 id).mapSes (fun z => { z with journal := [e] })
     Merges 1 u ∧ u.pai.mode = .lockstep ∧ u.ses.journal = [e] ∧ e.sess = 1 ∧ e.acc = 2 ∧ e.awaitConf = some (Ans.ok []) ∧ e.close = none ∧
      u.session 1 = some hotSession) ∧
    (let u := lockPair 2 (fun y => { y with own := some (7, 8) })
     Merges 2 u ∧ u.pai.own = some (7, 8) ∧ ((7 : Nat) ≠ 7 ∨ (8 : Nat) ≠ 9) ∧ u.pai.mode = .lockstep ∧ u.pai.test = none) ∧
    (let u := hotPair 2 .resync (fun y => { y with own := some (7, 8), syncAt := some 0, syncCmds := [(1, 2)] })
     Merges 2 u ∧ u.pai.own = some (7, 8) ∧ u.pai.mode = .resync ∧ u.pai.test = none ∧ u.pai.syncCmds = [(1, 2)]) ∧
    (let u := lockPair 1 (fun y => { y with test := some ⟨0, 0, 5⟩ }); NativeRun u ∧ u.pai.test = some ⟨0, 0, 5⟩) ∧
    (let u := lockPair 2 (fun y => { y with test := some ⟨0, 1, 5⟩ })
     NativeRun u ∧ u.pai.mode = .lockstep ∧ u.pai.role = 2 ∧ u.pai.test = some ⟨0, 1, 5⟩) ∧
    (let u := lockPair 1 (fun y => { y with test := some ⟨0, 2, 5⟩ }); NativeRun u ∧ u.pai.role = 1 ∧ u.pai.test = some ⟨0, 2, 5⟩) :=
  ⟨⟨lockPair_merges _ rfl rfl, by decide +kernel⟩, ⟨⟨⟨rfl, rfl, rfl⟩, rfl, rfl⟩, by decide +kernel⟩,
    ⟨lockPair_merges _ rfl rfl, by decide +kernel⟩, ⟨⟨⟨rfl, rfl, rfl⟩, rfl, rfl⟩, by decide +kernel⟩, ⟨⟨rfl, rfl, rfl⟩, rfl⟩,
    ⟨⟨rfl, rfl, rfl⟩, by decide +kernel⟩, ⟨rfl, rfl, rfl⟩, by decide +kernel⟩

theorem wit_PairRowsAct_e :
    (let u := hotPair 2 .resync (fun y => { y with syncFrom := some 0 })
     NativeRun u ∧ u.pai.role = 2 ∧ u.pai.mode = .resync) ∧
    (let u := (hotPair 1 .alone id).mapPai (fun y => { y with trained := false }); NativeHw u ∧ u.pai.trained = false ∧ (u.pai.role ≠ 2 ∨ u.prm 0x0F00 ≠ 1)) ∧
    (let u := (withParams [(0x0F00, 1)] (hotPair 2 .withheld id)).mapPai (fun y => { y with trained := false })
     NativeRun u ∧ u.pai.trained = false ∧ u.pai.role = 2 ∧ u.prm 0x0F00 = 1 ∧ (u.pai.mode = .withheld ∨ u.pai.mode = .yielded)) ∧
    (NativeHw (hotPair 1 .alone id) ∧ (hotPair 1 .alone id).pai.lane0 = true ∧ (hotPair 1 .alone id).pai.lane1 = true) ∧
    (Linked 1 (lockPair 1 id) ∧ (lockPair 1 id).pai.mode = .lockstep ∧ Linked 2 (lockPair 2 id) ∧ (lockPair 2 id).pai.mode = .lockstep ∧
      Linked 2 (hotPair 2 .resync id) ∧ Linked 1 (hotPair 1 .alone id) ∧ (hotPair 1 .alone id).pai.mode = .alone) ∧
    (let u := (hotPair 2 .resync id).mapSes (fun z => { z with sessions := [], journal := [] })
     NativeRun u ∧ u.pai.role = 2 ∧ u.pai.mode = .resync ∧ u.ses.sessions = [] ∧ u.ses.journal = []) ∧
    (let u := hotPair 2 .yielded (fun y => { y with linkYield := true, silent := 1000 })
     NativeRun u ∧ u.pai.role = 2 ∧ u.pai.mode = .yielded ∧ u.pai.linkYield = true ∧ u.pai.silentDone = false ∧ u.prm 0x0F02 ≤ u.pai.silent) ∧
    (let u := { hotPair 2 .withheld id with now := 3600000000000 }
     NativeRun u ∧ u.pai.role = 2 ∧ (u.pai.mode = .withheld ∨ u.pai.mode = .resync) ∧ u.pai.absentDone = false ∧
      u.prm 0x0F01 * 1000000000 ≤ u.now - u.pai.loadAt) ∧
    (let u := { hotPair 2 .resync (fun y => { y with syncFrom := some 0 }) with now := 60000000000 }
     NativeRun u ∧ u.pai.mode = .resync ∧ u.pai.syncFrom = some 0 ∧ 60000000000 ≤ u.now - 0) :=
  ⟨⟨⟨rfl, rfl, rfl⟩, by decide +kernel⟩, ⟨⟨rfl, rfl⟩, by decide +kernel⟩, ⟨⟨rfl, rfl, rfl⟩, by decide +kernel⟩, ⟨⟨rfl, rfl⟩, by decide +kernel⟩,
    ⟨⟨⟨rfl, rfl, rfl⟩, by decide⟩, rfl, ⟨⟨rfl, rfl, rfl⟩, by decide⟩, rfl, ⟨⟨rfl, rfl, rfl⟩, by decide⟩, ⟨⟨rfl, rfl, rfl⟩, by decide⟩, rfl⟩,
    ⟨⟨rfl, rfl, rfl⟩, by decide +kernel⟩, ⟨⟨rfl, rfl, rfl⟩, by decide +kernel⟩, ⟨⟨rfl, rfl, rfl⟩, by decide +kernel⟩, ⟨rfl, rfl, rfl⟩, by decide +kernel⟩

theorem wit_VitrineRowsAct_a :
    WitW hot opVitKeyLoad (le 2 511 ++ [1, 0] ++ zeros 92) (fun c s => keyLoadOk c.params s) ∧
    WitW hot opVitKeyErase [255, 1, 0, 0] (fun c s => c.params.length = 4 ∧ u16 c.params 0 < 512 ∧ u16 c.params 2 = 0 ∧ keysReady s ∧
      (∀ e ∈ s.lnk.robots, e.2.keySlot ≠ u16 c.params 0 ∨ e.2.legacy = true) ∧ (u16 c.params 0 = 0 → s.pai.role = 0)) ∧
    WitQ hot opVitSlotRead (le 2 257 ++ le 2 255) (fun c s => c.params.length = 4 ∧ 1 ≤ u16 c.params 2 ∧ u16 c.params 2 < 256 ∧
      u16 c.params 0 + u16 c.params 2 ≤ 512 ∧ s.vit.locked = false ∧ s.vit.rootBad = false) ∧
    WitQ hot opVitAttest (le 2 64 ++ zeros 66) (fun c s => c.params.length = 4 + u16 c.params 0 ∧ 16 ≤ u16 c.params 0 ∧ u16 c.params 0 ≤ 64 ∧
      u16 c.params 2 = 0 ∧ s.vit.locked = false ∧ s.vit.rootBad = false) ∧
    WitQ hot opVitCertRead [] (fun c _ => c.params = []) ∧ WitQ hot opVitStateRead [] (fun c _ => c.params = []) ∧
    WitW hot opVitTamperClear (zeros 4) (fun c s => c.params.length = 4 ∧ u32 c.params 0 = 0 ∧ s.vit.active = []) := by
  unfold keyLoadOk keysReady
  exact ⟨witW _ _ _ _ (by decide +kernel) (by decide +kernel), witW _ _ _ _ (by decide +kernel) (by decide +kernel),
    witQ _ _ _ _ (by decide +kernel) (by decide +kernel), witQ _ _ _ _ (by decide +kernel) (by decide +kernel),
    witQ _ _ _ _ (by decide +kernel) rfl, witQ _ _ _ _ (by decide +kernel) rfl, witW _ _ _ _ (by decide +kernel) (by decide +kernel)⟩

/-- Sources 4 to 6 alarm at level 3 of the monitor's copy; these orders and this power state hold. -/
def hotTamper (orders : List (Nat × Nat)) (p : Power) : State :=
  (hot.mapVit (fun v => { v with backup := [0, 0, 0, 0, 7, 3], orders := orders })).mapSys (fun y => { y with power := p })

theorem wit_VitrineRowsAct_b :
    (let u := hotTamper [] .run
     FwRun u ∧ u.tamperOn 6 = true ∧ u.vit.active.contains 6 = false ∧ u.vit.orders = []) ∧
    (let o := 6 * 256 + 3 * 65536
     let u := hotTamper [(9, o)] .run
     FwRun u ∧ field o 8 8 = 6 ∧ u.tamperOn 4 = true ∧ u.vit.active.contains 4 = false ∧ u.vit.orders = [(9, o)] ∧
      field o 16 8 ≤ u.tamperLevel 4 ∧ u.vit.locked = false ∧ u.vit.ops = []) ∧
    (let u := hotTamper [] .backup
     u.sys.power ≠ .off ∧ u.sys.power = .backup ∧ u.tamperOn 5 = true ∧ u.vit.active.contains 5 = false ∧ u.vit.orders = []) ∧
    (hot.vit.rngFault = false ∧ hot.sys.power = .run ∧ (hot.mapVit (fun v => { v with rngFault := true })).vit.rngFault = true) :=
  ⟨⟨⟨rfl, rfl⟩, by decide +kernel⟩, ⟨⟨rfl, rfl⟩, by decide +kernel⟩, by decide +kernel⟩

/-- Session 1 holds the update lock. -/
def hotLock (f : Upd → Upd) : State := hot.mapU (fun y => f { y with lock := some ⟨1, .spi, 9, 0⟩ })

/-- The firmware's spare bank is being written: 512 bytes are to come, two are there. -/
def hotWriting : State := (hotLock id).putBank 1 ((hotLock id).otherBank 1) ⟨.writing, 512, [1, 2], true⟩

/-- The other bank of the firmware is a trial that stands. -/
def hotTrial : State := { hot.mapU (fun y => { y with trial := some ⟨1, false, 0, false⟩ }) with now := 3600000000000000 }

theorem wit_UpdateRowsAct_a :
    WitW hot opUpdOpen (zeros 4) (fun c s => c.params.length = 4 ∧ u32 c.params 0 = 0 ∧ s.upd.lock = none ∧ s.session c.sess = some hotSession) ∧
    WitW (hotLock id) opUpdOpen (zeros 4) (fun c s => c.params.length = 4 ∧ u32 c.params 0 = 0 ∧ s.upd.lock = some ⟨1, .spi, 9, 0⟩ ∧ 1 = c.sess) ∧
    WitW (hotLock id) opUpdClose (zeros 4) (fun c s => c.params.length = 4 ∧ u32 c.params 0 = 0 ∧ holdsLock c s) ∧
    WitW (hotLock id) opUpdBegin ([4, 0, 0, 0] ++ le 4 129) (fun c s => c.params.length = 8 ∧ 1 ≤ u8 c.params 0 ∧ u8 c.params 0 ≤ 4 ∧
      rd c.params 1 3 = 0 ∧ holdsLock c s ∧ (s.upd.trial = none ∨ (s.imgBank (u8 c.params 0) (s.otherBank (u8 c.params 0))).state ≠ .confirmed) ∧
      128 < u32 c.params 4 ∧ u32 c.params 4 ≤ bankSize (u8 c.params 0) ∧ s.sys.fw = .running) ∧
    WitW hotWriting opUpdWrite ([1, 0, 1, 0, 2, 0, 0, 0] ++ [7]) (fun c s =>
      let w := s.imgBank (u8 c.params 0) (s.otherBank (u8 c.params 0))
      c.params.length = 8 + u16 c.params 2 ∧ 1 ≤ u8 c.params 0 ∧ u8 c.params 0 ≤ 4 ∧ u8 c.params 1 = 0 ∧ 1 ≤ u16 c.params 2 ∧
      u16 c.params 2 ≤ 4064 ∧ holdsLock c s ∧ u32 c.params 4 = w.data.length ∧ w.data.length + u16 c.params 2 ≤ w.len) ∧
    WitQ hot opUpdVerify [4, 0, 0, 0] (fun c s => c.params.length = 4 ∧ 1 ≤ u8 c.params 0 ∧ u8 c.params 0 ≤ 4 ∧ rd c.params 1 3 = 0 ∧
      s.upd.lock = none) ∧
    WitW (hotLock id) opUpdActivate [15, 1, 0, 0] (fun c s => c.params.length = 4 ∧ 1 ≤ u8 c.params 0 ∧ u8 c.params 0 < 16 ∧
      u8 c.params 1 = 1 ∧ u16 c.params 2 = 0 ∧ holdsLock c s ∧ s.upd.trial = none) :=
  ⟨witW _ _ _ _ (by decide +kernel) (by decide +kernel), witW _ _ _ _ (by decide +kernel) (by decide +kernel),
    witW _ _ _ _ (by decide +kernel) ⟨rfl, rfl, ⟨_, rfl, rfl⟩, rfl⟩,
    witW _ _ _ _ (by decide +kernel) ⟨rfl, by decide, by decide, rfl, ⟨⟨_, rfl, rfl⟩, rfl⟩, by decide +kernel⟩,
    witW _ _ _ _ (by decide +kernel) ⟨rfl, by decide, by decide, rfl, by decide, by decide, ⟨⟨_, rfl, rfl⟩, rfl⟩, by decide +kernel⟩,
    witQ _ _ _ _ (by decide +kernel) (by decide +kernel),
    witW _ _ _ _ (by decide +kernel) ⟨rfl, by decide, by decide, rfl, rfl, ⟨⟨_, rfl, rfl⟩, rfl⟩, rfl⟩⟩

/-- An activation in a stage. -/
def actIn (g : ActStage) : Activation := ⟨1, 2, [1], 0, 0, some g, 0, false, [5]⟩

theorem wit_UpdateRowsAct_b :
    (let u := hotLock (fun y => { y with erasing := [(4, 1, 2)] }); NativeHw u ∧ u.upd.erasing = [(4, 1, 2)]) ∧
    (let u := hotLock (fun y => { y with act := some (actIn .gnss) }); NativeRun u ∧ u.upd.act = some (actIn .gnss)) ∧
    (let u := hotLock (fun y => { y with act := some (actIn (.chainLoad 3)) }); NativeRun u ∧ u.upd.act = some (actIn (.chainLoad 3))) ∧
    (let u := { (hotLock (fun y => { y with act := some (actIn .pauseFw) })).mapSys (fun y => { y with fw := .paused }) with now := 1000000000 }
     NativeHw u ∧ (u.sys.fw = .running ∨ u.sys.fw = .paused) ∧ u.upd.act = some (actIn .pauseFw) ∧ 3 * u.tickNs ≤ u.now - (actIn .pauseFw).since) ∧
    (1 ≤ hot.upd.banks.length ∧ 1 ≤ hot.upd.running.length ∧ hot.runBank 1 < 2) ∧
    WitW hot opUpdConfirm (zeros 4) (fun c s => c.params.length = 4 ∧ u32 c.params 0 = 0 ∧ s.upd.lock = none ∧ s.upd.trial = none) ∧
    WitW hotTrial opUpdConfirm (zeros 4) (fun c s => c.params.length = 4 ∧ u32 c.params 0 = 0 ∧ s.upd.lock = none ∧
      s.upd.trial = some ⟨1, false, 0, false⟩) ∧
    WitQ hot opUpdStateRead [] (fun c s => c.params = [] ∧ s.sys.fw = .running) ∧
    (let u := { hotLock id with now := 3600000000000 }
     NativeHw u ∧ u.upd.lock = some ⟨1, .spi, 9, 0⟩ ∧ u.prm 0x1100 * 1000000000 ≤ u.now - 0) ∧
    (NativeHw (hotLock id) ∧ (hotLock id).upd.lock = some ⟨1, .spi, 9, 0⟩ ∧ (hotLock id).now - 0 < (hotLock id).prm 0x1100 * 1000000000) ∧
    (let u := withParams [(0x1101, 60)] hotTrial
     NativeRun u ∧ u.upd.trial = some ⟨1, false, 0, false⟩ ∧ u.prm 0x1101 ≠ 0 ∧ u.prm 0x1101 * 1000000000 ≤ u.now - 0) :=
  ⟨⟨⟨rfl, rfl⟩, rfl⟩, ⟨⟨rfl, rfl, rfl⟩, rfl⟩, ⟨⟨rfl, rfl, rfl⟩, rfl⟩, ⟨⟨rfl, rfl⟩, by decide +kernel⟩, by decide +kernel,
    witW _ _ _ _ (by decide +kernel) (by decide +kernel), witW _ _ _ _ (by decide +kernel) (by decide +kernel),
    witQ _ _ _ _ (by decide +kernel) (by decide +kernel), ⟨⟨rfl, rfl⟩, by decide +kernel⟩, ⟨⟨rfl, rfl⟩, by decide +kernel⟩,
    ⟨rfl, rfl, rfl⟩, by decide +kernel⟩

/-- A metric of one sample, and the record of its interval. -/
def metric1 : Metric := ⟨1, 3, 3, 7, 3, [1]⟩
def arcRec1 : ArcRec := ⟨1, 7, .interval 2 60 0 metric1, true⟩

/-- The Archive holds record 1, and the interval from 0 has samples of metric 2. -/
def hotArc : State := hot.mapArc (fun a => { a with recs := [(1, arcRec1)], next := 2, metrics := [(2, metric1)], codes := [] })

theorem wit_ArchiveRowsAct :
    WitQ hotArc opArcRead (le 8 1 ++ le 2 1 ++ zeros 6) (fun c s => c.params.length = 16 ∧ u64 c.params 0 = 1 ∧ 1 ≠ 0 ∧ u16 c.params 8 = 1 ∧
      rd c.params 10 6 = 0 ∧ 1 < s.arc.next ∧ archiveHolds s.arc.next 1 = true ∧
      (s.arc.recs.filter (fun e => decide (1 ≤ e.1))).head? = some (1, arcRec1) ∧ arcRec1.good = true) ∧
    WitQ hotArc opArcRead (le 8 2 ++ le 2 15 ++ zeros 6) (fun c s => c.params.length = 16 ∧ u64 c.params 0 = s.arc.next ∧ s.arc.next ≠ 0 ∧
      1 ≤ u16 c.params 8 ∧ u16 c.params 8 ≤ 15 ∧ rd c.params 10 6 = 0 ∧ ∀ e ∈ s.arc.recs, e.1 < s.arc.next) ∧
    WitQ hotArc opArcStateRead [] (fun c _ => c.params = []) ∧
    (let u := { hot.mapArc (fun a => { a with metrics := [], codes := [] }) with now := 86400000000000 }
     FwRun u ∧ u.timeValid = false ∧ u.prm 0x1200 * 1000000000 ≤ u.now - u.arc.startNow ∧ u.arc.metrics = [] ∧ u.arc.codes = []) ∧
    (let u := { (hotArc.mapClk (fun c => { c with state := .locked, e0 := some 0, count := 86400000000000 })) with now := 86400000000000 }
     FwRun u ∧ u.timeValid = true ∧ u.arc.start / (u.prm 0x1200 * 1000000000) < u.clk.count / (u.prm 0x1200 * 1000000000) ∧
      u.arc.metrics = [(2, metric1)] ∧ u.arc.codes = []) ∧
    (FwRun hot ∧ hot.timeValid = false ∧ hot.now - hot.arc.startNow < hot.prm 0x1200 * 1000000000 ∧ hot.arc.next ≤ 69632 ∧ hot.fixedDown 13 = false) :=
  ⟨witQ _ _ _ _ (by decide +kernel) (by decide +kernel), witQ _ _ _ _ (by decide +kernel) (by decide +kernel),
    witQ _ _ _ _ (by decide +kernel) rfl, ⟨⟨rfl, rfl⟩, by decide +kernel⟩, ⟨⟨rfl, rfl⟩, by decide +kernel⟩, ⟨rfl, rfl⟩, by decide +kernel⟩

end Sys2Proof.Tests
end

section
/-! A work command that its opcode's meaning refuses, and CLK_TIME_SET while time is valid (R190). -/

namespace Sys2Proof.Proofs

open Sys2Proof.Machine Sys2Proof.Safety Sys2Proof.Laws

/-- A work command is refused where its meaning refuses it and leaves the state that it meets. -/
theorem workRefuses {row : Nat → Pkt → Instr} {spec : OpSpec} {ok : Cmd → State → Prop} {a : Ans}
    (hop : opSpec? spec.code = some spec) (h1 : spec.code ≠ 1) (h2 : spec.code ≠ 2) (hk : spec.kind = .work)
    (hx : ∀ dt p s, exec (row dt p) s = .next (s.act dt (State.hostPacket 2 spec.code p)))
    (hr : ∀ c s, ok c s → spec.run c s = (s, .refuse a)) : WorkRefuses row spec ok a := by
  intro s dt p x hready hexp hcredit hok
  rw [hx]
  refine congrArg _ (act_congr ?_)
  rw [hostPacket_work hready hop h1 h2 hexp hk hcredit, hr _ _ hok]

/-- While time is valid, a well-formed CLK_TIME_SET is answered TIME_VALID and sets neither time nor calendar (R190). -/
theorem runTimeSet_of_timeValid {c : Cmd} {s : State} (hlen : c.params.length = 16) (hleap : 0 ≤ i8 c.params 12)
    (hres : rd c.params 13 3 = 0) (hvalid : s.timeValid = true) : s.runTimeSet c = (s, .refuse ⟨0x0440, 0, []⟩) := by
  have hparam : ¬(i8 c.params 12 < 0 ∨ rd c.params 13 3 ≠ 0) := by
    rintro (hneg | hne)
    · exact absurd hleap (Int.not_le.mpr hneg)
    · exact hne hres
  rw [State.runTimeSet, if_neg (not_not_intro hlen), if_neg hparam, if_pos hvalid]
  rfl

/-- CLK_TIME_SET is a host packet of opcode 0401h. -/
theorem exec_clkTimeSet (dt : Nat) (p : Pkt) (s : State) :
    exec (.clkTimeSet dt p) s = .next (s.act dt (State.hostPacket 2 opClkTimeSet.code p)) := rfl

theorem opSpec?_clkTimeSet : opSpec? opClkTimeSet.code = some opClkTimeSet := rfl

/-- Settles O34: the meaning of CLK_TIME_SET refuses with TIME_VALID before it touches the time. -/
theorem timeSetWhileValid : Obligations.TimeSetWhileValid := by
  unfold Obligations.TimeSetWhileValid
  refine workRefuses opSpec?_clkTimeSet (by decide) (by decide) rfl exec_clkTimeSet ?_
  rintro c s ⟨hlen, hleap, hres, hvalid⟩
  exact runTimeSet_of_timeValid hlen hleap hres hvalid

end Sys2Proof.Proofs
end

section
/-! ETH_PROBE on a port that is not running or whose link is down (R401). -/

namespace Sys2Proof.Proofs

open Sys2Proof.Machine Sys2Proof.Safety Sys2Proof.Laws

/-- A port that does not run, or whose link is down, is not up. -/
theorem ethUp_eq_false {s : State} {n : Nat} (hdown : s.ethOn n = false ∨ (s.port n).link = 0) : s.ethUp n = false := by
  rcases hdown with hoff | hlink
  · rw [State.ethUp, hoff, Bool.false_and]
  · rw [State.ethUp, hlink, bne_self_eq_false, Bool.and_false]

/-- An ETH_PROBE in range for a port that is not up is answered LINK_DOWN, and no probe is queued (R401). -/
theorem runEthProbe_of_notUp {c : Cmd} {s : State} (hlen : c.params.length = 12) (hport : u8 c.params 0 ≤ 2)
    (hbit : u8 c.params 0 = 0 ∨ bit c.agreed 192 = true) (hcount : 1 ≤ u8 c.params 1 ∧ u8 c.params 1 ≤ 64)
    (hsize : 64 ≤ u16 c.params 2 ∧ u16 c.params 2 ≤ s.ethM (u8 c.params 0) + 18) (hres : u16 c.params 10 = 0)
    (hdown : s.ethUp (u8 c.params 0) = false) : s.runEthProbe c = (s, .refuse ⟨0x0B40, 0, []⟩) := by
  have hagreed : ¬(u8 c.params 0 ≠ 0 ∧ bit c.agreed 192 = false) := by
    rintro ⟨hne, hoff⟩
    rcases hbit with h0 | hon
    · exact hne h0
    · exact Bool.false_ne_true (hoff.symm.trans hon)
  have hparam : ¬(u8 c.params 1 = 0 ∨ 64 < u8 c.params 1 ∨ u16 c.params 2 < 64 ∨ s.ethM (u8 c.params 0) + 18 < u16 c.params 2 ∨
      u16 c.params 10 ≠ 0) := by omega
  rw [State.runEthProbe, if_neg (not_not_intro hlen), if_neg (Nat.not_lt.mpr hport), if_neg hagreed, if_neg hparam, if_pos hdown]
  rfl

/-- ETH_PROBE is a host packet of opcode 0B01h. -/
theorem exec_ethProbe (dt : Nat) (p : Pkt) (s : State) :
    exec (.ethProbe dt p) s = .next (s.act dt (State.hostPacket 2 opEthProbe.code p)) := rfl

theorem opSpec?_ethProbe : opSpec? opEthProbe.code = some opEthProbe := rfl

/-- Settles O35: a port that does not run or has no link is not up, and the meaning of ETH_PROBE refuses it with LINK_DOWN. -/
theorem ethProbeOfDownLink : Obligations.EthProbeOfDownLink := by
  unfold Obligations.EthProbeOfDownLink
  refine workRefuses opSpec?_ethProbe (by decide) (by decide) rfl exec_ethProbe ?_
  rintro c s ⟨hlen, hport, hbit, hmin, hmax, hshort, hlong, hres, hdown⟩
  exact runEthProbe_of_notUp hlen hport hbit ⟨hmin, hmax⟩ ⟨hshort, hlong⟩ hres (ethUp_eq_false hdown)

end Sys2Proof.Proofs
end

section
/-! Commands that CX mode takes (R564 to R566), and K9_INFO (R568). -/

namespace Sys2Proof.Proofs

open Sys2Proof.Machine Sys2Proof.Safety Sys2Proof.Laws

/-! ### A command taken in CX mode -/

theorem cxRuns_of_cxRun {s : State} (h : CxRun s) : s.cxRuns = true := by
  simp [State.cxRuns, State.fwRuns, h.power, h.cx, h.running]

/-- Discarding an unread reply starts or ends no RESET (R564). -/
@[simp] theorem cxUnread_resetAt (spi : Bool) (s : State) : (s.cxUnread spi).cx.resetAt = s.cx.resetAt := by
  rw [State.cxUnread]
  split <;> rfl

/-- A command of suitable length that CX mode is ready for runs after the unread reply is discarded; its data follow only status 0
(R564 to R566). -/
theorem cxTake_of_ready {s : State} {op : Nat} {lens : Nat → Bool} {run : Bytes → State → State × Nat × Bytes} {spi : Bool}
    {data : Bytes} (hready : CxReady s) (hmax : data.length ≤ 254) (hlens : lens data.length = true) :
    s.cxTake op lens run spi data =
      (run data (s.cxUnread spi)).1.cxAnswer spi op (le 1 (run data (s.cxUnread spi)).2.1 ++
        if (run data (s.cxUnread spi)).2.1 = 0 then (run data (s.cxUnread spi)).2.2 else []) := by
  have htaken : ¬(s.cxRuns = false ∨ 254 < data.length) := by
    rintro (hoff | hlong)
    · exact Bool.false_ne_true (hoff.symm.trans (cxRuns_of_cxRun hready.run))
    · exact absurd hmax (Nat.not_le.mpr hlong)
  have hreset : ¬(s.cxUnread spi).cx.resetAt.isSome = true := by simp [hready.ready]
  simp only [State.cxTake, if_neg htaken, hlens, Bool.true_eq_false, if_false, if_neg hreset]

/-- A CX command completes where its meaning answers status 0. -/
theorem cxDoes_of_run {row : Nat → Bool → Bytes → Instr} {op : Nat} {lens : Nat → Bool} {run : Bytes → State → State × Nat × Bytes}
    {ok : Bytes → State → Prop} {res : Bytes → State → State × Bytes}
    (hx : ∀ dt spi data s, exec (row dt spi data) s = .next (s.act dt (State.cxTake op lens run spi data)))
    (hlens : ∀ b s, ok b s → lens b.length = true) (hrun : ∀ b s, ok b s → run b s = ((res b s).1, 0, (res b s).2)) :
    CxDoes row op ok res := by
  intro s dt spi data hready hmax hok
  rw [hx]
  refine congrArg _ (act_congr ?_)
  rw [cxTake_of_ready hready hmax (hlens _ _ hok), hrun _ _ hok, if_pos rfl]

/-! ### K9_INFO -/

/-- K9_INFO is the CX command F0h of one byte of data. -/
theorem exec_k9Info (dt : Nat) (spi : Bool) (data : Bytes) (s : State) :
    exec (.k9Info dt spi data) s = .next (s.act dt (State.cxTake 0xF0 (fun n => n == 1) State.cxInfo spi data)) := rfl

theorem cxInfo_sub0 {b : Bytes} (h : u8 b 0 = 0) (s : State) :
    s.cxInfo b = (s, 0, [0x4B, 0x39] ++ le 2 0x0E10 ++ le 4 s.fwVersion ++ le 8 s.fac.eui) := by
  rw [State.cxInfo, h]
  rfl

theorem cxInfo_sub1 {b : Bytes} (h : u8 b 0 = 1) (s : State) : s.cxInfo b = (s, 0, le 32 s.deviceCat) := by
  rw [State.cxInfo, h]
  rfl

/-- Any other SUB is a bad value, status 03h (R568). -/
theorem cxInfo_subOther {b : Bytes} (h : 2 ≤ u8 b 0) (s : State) : s.cxInfo b = (s, 3, []) := by
  rw [State.cxInfo]
  split
  · next h0 => omega
  · next h1 => omega
  · rfl

/-- Settles O20: a SUB of K9_INFO is 0, 1 or another, and each leaves the state and gives the answer of R568. -/
theorem k9InfoIdentifies : Obligations.K9InfoIdentifies := by
  unfold Obligations.K9InfoIdentifies
  refine ⟨cxDoes_of_run exec_k9Info ?_ ?_, cxDoes_of_run exec_k9Info ?_ ?_, ?_⟩
  · rintro b s ⟨hlen, -⟩
    exact beq_iff_eq.mpr hlen
  · rintro b s ⟨-, hsub⟩
    exact cxInfo_sub0 hsub s
  · rintro b s ⟨hlen, -⟩
    exact beq_iff_eq.mpr hlen
  · rintro b s ⟨-, hsub⟩
    exact cxInfo_sub1 hsub s
  · intro s dt spi data hready hlen hsub
    have hmax : data.length ≤ 254 := by omega
    have hlens : (fun n => n == 1) data.length = true := beq_iff_eq.mpr hlen
    rw [exec_k9Info]
    refine congrArg _ (act_congr ?_)
    rw [cxTake_of_ready hready hmax hlens, cxInfo_subOther hsub]
    rfl

end Sys2Proof.Proofs
end

section
/-! What one step can do (assumption 1), the invariant of the power states (R65, R66), the frame of every command, and
well-formed commands, which never end a run. -/

namespace Sys2Proof.Proofs

open Sys2Proof.Machine Sys2Proof.Safety Sys2Proof.Laws

/-! ### What a step can do -/

/-- A step idles on an empty queue, or the command at the front acts on the state with the queue's rest. -/
theorem step_cases {s t : State} (h : step s = .next t) :
    s.pending = [] ∧ t = s ∨
      ∃ i rest dt f, s.pending = i :: rest ∧ t = State.act dt f { s with pending := rest } := by
  rw [step] at h
  cases hq : s.pending with
  | nil =>
    rw [hq] at h
    injection h with h
    exact .inl ⟨rfl, h.symm⟩
  | cons i rest =>
    rw [hq] at h
    rcases exec_acts i { s with pending := rest } with ⟨dt, f, hx⟩ | ⟨m, hx⟩
    · have hn := hx.symm.trans h
      injection hn with hn
      exact .inr ⟨i, rest, dt, f, rfl, hn.symm⟩
    · cases hx.symm.trans h

/-- Settles O27: `step` takes the queue's front by definition. -/
theorem stepRunsExec : Obligations.StepRunsExec := by
  unfold Obligations.StepRunsExec
  refine ⟨fun c s => rfl, fun s hempty => ?_⟩
  rw [step, hempty]

/-! ### The invariant of the power states -/

/-- Whatever a command does, it ends unpowered where the power state asks for it, and the invariant reads nothing that `act` restores
after that. -/
theorem act_inv (dt : Nat) (f : State → State) (s : State) : Inv (s.act dt f) :=
  unpowered_inv ((f (s.before dt)).settle (s.before dt).sys.toMatch.length)

/-- Settles O28: the state after reset is in Run. -/
theorem resetHoldsInv : Obligations.ResetHoldsInv := by
  unfold Obligations.ResetHoldsInv
  intro hoff
  exact absurd rfl hoff

/-- Settles O29: an idle step keeps the state, and every command's end establishes the invariant. -/
theorem stepKeepsInv : Obligations.StepKeepsInv := by
  unfold Obligations.StepKeepsInv
  intro s t hinv hstep
  rcases step_cases hstep with ⟨-, rfl⟩ | ⟨i, rest, dt, f, -, rfl⟩
  · exact hinv
  · exact act_inv dt f _

/-! ### The frame of a step -/

/-- Settles O31: `act` restores the queue's rest and the identity, and adds `dt` to the clock. -/
theorem stepFrame : Obligations.StepFrame := by
  unfold Obligations.StepFrame
  intro s t c rest hqueue hstep
  rcases step_cases hstep with ⟨hempty, -⟩ | ⟨i, rest', dt, f, hqueue', rfl⟩
  · rw [hempty] at hqueue
    cases hqueue
  · obtain ⟨-, rfl⟩ := List.cons.inj (hqueue'.symm.trans hqueue)
    refine ⟨act_pending .., act_fac .., ?_⟩
    rw [act_now]
    exact Nat.le_add_right ..

/-! ### Well-formed commands go on -/

/-- A command whose unit is bounded acts where the unit exists. -/
theorem acts_of_unit {o : Host.Outcome State Fault Refusal} {c : Prop} [Decidable c] {dt : Nat} {f : State → State} {m : String}
    {s : State} (h : o = if c then .next (s.act dt f) else .fault (.noSuchUnit m)) (hc : c) : ∃ t, o = .next t :=
  ⟨_, h.trans (if_pos hc)⟩

/-- The one unit that a well-formed command names exists. -/
theorem unit_lt {i : Instr} {a n : Nat} (h : Units.Statement i) (hw : WellFormed i) (hu : Units.unitsOf i = [(a, n)]) : a < n :=
  h hw (a, n) (hu ▸ List.mem_singleton_self _)

/-- An air frame that is well formed comes on one of the four chains. -/
theorem chain_lt {f : AirRx} (h : f.ok = true) : f.chain < 4 := (of_decide_eq_true h).1

/-- Every well-formed command acts. The cases named are those whose meaning is bounded to units that exist; every other command acts
whatever its operands are. -/
theorem exec_of_wellFormed (i : Instr) (s : State) (hw : WellFormed i) : ∃ t, exec i s = .next t := by
  cases i
  case windowOverrun => exact acts_of_unit rfl hw
  case badPacket => exact acts_of_unit rfl (of_decide_eq_true (Bool.and_eq_true_iff.1 hw).1)
  case joinRequest => exact acts_of_unit rfl (chain_lt hw)
  case uplinkFrame => exact acts_of_unit rfl (chain_lt hw)
  case corFrame => exact acts_of_unit rfl (chain_lt hw)
  case counterExhausted => exact acts_of_unit rfl (of_decide_eq_true hw)
  case droverJobEnd => exact acts_of_unit rfl (of_decide_eq_true hw)
  case tamperAlarm => exact acts_of_unit rfl (of_decide_eq_true hw)
  case bankEraseDone => exact acts_of_unit rfl (of_decide_eq_true hw)
  case handoverPause => exact acts_of_unit rfl (of_decide_eq_true hw)
  case handoverFail => exact acts_of_unit rfl (of_decide_eq_true hw)
  case cxRobotLost => exact acts_of_unit rfl (of_decide_eq_true hw)
  case wakePattern => exact acts_of_unit rfl (unit_lt (Units.wakePattern _ _ _ _ _) hw rfl)
  case domainTakesEffect => exact acts_of_unit rfl (unit_lt (Units.domainTakesEffect _ _) hw rfl)
  case watchdog => exact acts_of_unit rfl (unit_lt (Units.watchdog _ _) hw rfl)
  case captureEdge => exact acts_of_unit rfl (unit_lt (Units.captureEdge _ _ _) hw rfl)
  case compareEdge => exact acts_of_unit rfl (unit_lt (Units.compareEdge _ _ _) hw rfl)
  case legacyCorrDropped => exact acts_of_unit rfl (unit_lt (Units.legacyCorrDropped _ _) hw rfl)
  case chainFault => exact acts_of_unit rfl (unit_lt (Units.chainFault _ _ _) hw rfl)
  case robotReleased => exact acts_of_unit rfl (unit_lt (Units.robotReleased _ _) hw rfl)
  case corMissed => exact acts_of_unit rfl (unit_lt (Units.corMissed _ _) hw rfl)
  case spr => exact acts_of_unit rfl (unit_lt (Units.spr _ _ _) hw rfl)
  case resume => exact acts_of_unit rfl (unit_lt (Units.resume _ _ _) hw rfl)
  case sleepReq => exact acts_of_unit rfl (unit_lt (Units.sleepReq _ _ _) hw rfl)
  case leave => exact acts_of_unit rfl (unit_lt (Units.leave _ _ _) hw rfl)
  case segReq => exact acts_of_unit rfl (unit_lt (Units.segReq _ _ _) hw rfl)
  case release => exact acts_of_unit rfl (unit_lt (Units.release _ _ _) hw rfl)
  case taskDone => exact acts_of_unit rfl (unit_lt (Units.taskDone _ _ _) hw rfl)
  case taskState => exact acts_of_unit rfl (unit_lt (Units.taskState _ _ _) hw rfl)
  case stopState => exact acts_of_unit rfl (unit_lt (Units.stopState _ _ _) hw rfl)
  case parcelRetx => exact acts_of_unit rfl (unit_lt (Units.parcelRetx _ _) hw rfl)
  case robotLost => exact acts_of_unit rfl (unit_lt (Units.robotLost _ _) hw rfl)
  case wakeMissed => exact acts_of_unit rfl (unit_lt (Units.wakeMissed _ _) hw rfl)
  case noEvidence => exact acts_of_unit rfl (unit_lt (Units.noEvidence _ _) hw rfl)
  case loopOpen => exact acts_of_unit rfl (unit_lt (Units.loopOpen _ _) hw rfl)
  case stopFrameSend => exact acts_of_unit rfl (unit_lt (Units.stopFrameSend _ _ _) hw rfl)
  case stopUnconfirmed => exact acts_of_unit rfl (unit_lt (Units.stopUnconfirmed _ _) hw rfl)
  case pairLaneDown => exact acts_of_unit rfl (unit_lt (Units.pairLaneDown _ _) hw rfl)
  case axisPwmPeriod => exact acts_of_unit rfl (unit_lt (Units.axisPwmPeriod _ _ _ _) hw rfl)
  case axisMoveDone => exact acts_of_unit rfl (unit_lt (Units.axisMoveDone _ _) hw rfl)
  case axisStall => exact acts_of_unit rfl (unit_lt (Units.axisStall _ _ _) hw rfl)
  case axisRefEdge => exact acts_of_unit rfl (unit_lt (Units.axisRefEdge _ _ _ _) hw rfl)
  case encIndexEdge => exact acts_of_unit rfl (unit_lt (Units.encIndexEdge _ _) hw rfl)
  case encError => exact acts_of_unit rfl (unit_lt (Units.encError _ _ _) hw rfl)
  case ethFrameReceived => exact acts_of_unit rfl (unit_lt (Units.ethFrameReceived _ _ _ _) hw rfl)
  case linkChanged => exact acts_of_unit rfl (unit_lt (Units.linkChanged _ _ _) hw rfl)
  case excessCollisions => exact acts_of_unit rfl (unit_lt (Units.excessCollisions _ _) hw rfl)
  case plcaLost => exact acts_of_unit rfl (unit_lt (Units.plcaLost _ _ _) hw rfl)
  case ptpSync => exact acts_of_unit rfl (unit_lt (Units.ptpSync _ _ _ _ _) hw rfl)
  case ptpMasterSync => exact acts_of_unit rfl (unit_lt (Units.ptpMasterSync _ _) hw rfl)
  case ptpDelayReq => exact acts_of_unit rfl (unit_lt (Units.ptpDelayReq _ _ _ _) hw rfl)
  case canFrameReceived => exact acts_of_unit rfl (unit_lt (Units.canFrameReceived _ _ _ _ _) hw rfl)
  case canAttemptEnd => exact acts_of_unit rfl (unit_lt (Units.canAttemptEnd _ _ _ _) hw rfl)
  case canBusOff => exact acts_of_unit rfl (unit_lt (Units.canBusOff _ _) hw rfl)
  case canBusOn => exact acts_of_unit rfl (unit_lt (Units.canBusOn _ _ _) hw rfl)
  case memUncorrectable => exact acts_of_unit rfl (unit_lt (Units.memUncorrectable _ _ _ _) hw rfl)
  case ethFrameSent => exact acts_of_unit rfl (unit_lt (Units.ethFrameSent _ _) hw rfl)
  case antOpen => exact acts_of_unit rfl (unit_lt (Units.antOpen _ _) hw rfl)
  case antShort => exact acts_of_unit rfl (unit_lt (Units.antShort _ _) hw rfl)
  all_goals exact ⟨_, rfl⟩

/-- Settles O30: a well-formed command acts; no command is refused; and a fault comes from a command that names a unit that the K9 has
not, which is not well formed. -/
theorem wellFormedCompletes : Obligations.WellFormedCompletes := by
  unfold Obligations.WellFormedCompletes
  refine ⟨fun s hqueue => ?_, fun s r hstep => ?_, fun s f hstep => ?_⟩
  · rw [step]
    cases hq : s.pending with
    | nil => exact ⟨s, rfl⟩
    | cons i rest => exact exec_of_wellFormed i _ (hqueue i (hq ▸ List.mem_cons_self))
  · rw [step] at hstep
    cases hq : s.pending with
    | nil =>
      rw [hq] at hstep
      cases hstep
    | cons i rest =>
      rw [hq] at hstep
      rcases exec_acts i { s with pending := rest } with ⟨dt, g, hx⟩ | ⟨m, hx⟩ <;> cases hx.symm.trans hstep
  · rw [step] at hstep
    cases hq : s.pending with
    | nil =>
      rw [hq] at hstep
      cases hstep
    | cons i rest =>
      rw [hq] at hstep
      refine ⟨i, rest, rfl, fun hw => ?_⟩
      obtain ⟨t, hx⟩ := exec_of_wellFormed i { s with pending := rest } hw
      cases hx.symm.trans hstep

end Sys2Proof.Proofs
end

section
/-! The hopping rule (R202): the positions of the chains lie apart on the hop list, and a stride that is coprime to its length keeps
them apart. -/

namespace Sys2Proof.Proofs

open Sys2Proof.Machine

/-- The index in a hop list of `n` channels at which chain `c` stands (R202). -/
def hopIndex (n off stride a c : Nat) : Nat := (a + off + c * (n / 4)) % n * stride % n

theorem hopChannel_eq_getD {list : List Nat} (hn : list.length ≠ 0) (off stride a c : Nat) :
    hopChannel list off stride a c = list.getD (hopIndex list.length off stride a c) 0 := by
  rw [hopChannel, if_neg hn, hopIndex]

/-- Two chains stand less than the list's length apart, and not at one place. -/
theorem chain_positions_ne {n c1 c2 : Nat} (hn : 4 ≤ n) (h1 : c1 < 4) (h2 : c2 < 4) (hne : c1 ≠ c2) (x : Nat) :
    ¬ x + c1 * (n / 4) ≡ x + c2 * (n / 4) [MOD n] := by
  intro h
  have hmod : c1 * (n / 4) ≡ c2 * (n / 4) [MOD n] := Nat.ModEq.add_left_cancel' x h
  have hlt : ∀ c < 4, c * (n / 4) < n := by
    intro c hc
    calc c * (n / 4) ≤ 3 * (n / 4) := Nat.mul_le_mul_right _ (by omega)
      _ < n := by omega
  have heq : c1 * (n / 4) = c2 * (n / 4) := Nat.ModEq.eq_of_lt_of_lt hmod (hlt c1 h1) (hlt c2 h2)
  exact hne (Nat.eq_of_mul_eq_mul_right (by omega) heq)

/-- A stride coprime to the length takes different positions to different indices. -/
theorem hopIndex_ne {n stride c1 c2 : Nat} (hn : 4 ≤ n) (hco : Nat.gcd stride n = 1) (h1 : c1 < 4) (h2 : c2 < 4) (hne : c1 ≠ c2)
    (off a : Nat) : hopIndex n off stride a c1 ≠ hopIndex n off stride a c2 := by
  intro h
  have hmul : (a + off + c1 * (n / 4)) % n * stride ≡ (a + off + c2 * (n / 4)) % n * stride [MOD n] := h
  have hpos : (a + off + c1 * (n / 4)) % n ≡ (a + off + c2 * (n / 4)) % n [MOD n] :=
    Nat.ModEq.cancel_right_of_coprime (Nat.gcd_comm stride n ▸ hco) hmul
  exact chain_positions_ne hn h1 h2 hne (a + off) (((Nat.mod_modEq _ n).symm.trans hpos).trans (Nat.mod_modEq _ n))

/-- Settles O33: the indices of two chains differ, and a list without repetition shows different channels there. -/
theorem hopChannelsDistinct : Obligations.HopChannelsDistinct := by
  unfold Obligations.HopChannelsDistinct
  intro list stride off a c1 c2 hok hnodup h1 h2 hne
  simp only [hopOk, Bool.and_eq_true, decide_eq_true_eq, beq_iff_eq] at hok
  obtain ⟨⟨hn, -⟩, hco⟩ := hok
  have hlt : ∀ c, hopIndex list.length off stride a c < list.length := fun c => Nat.mod_lt _ (by omega)
  have hget : ∀ c, hopChannel list off stride a c = list[hopIndex list.length off stride a c]'(hlt c) := fun c => by
    rw [hopChannel_eq_getD (by omega), List.getD_eq_getElem _ _ (hlt c)]
  rw [hget c1, hget c2]
  exact ⟨fun h => hopIndex_ne hn hco h1 h2 hne off a (hnodup.getElem_inj_iff.1 h), List.getElem_mem _⟩

end Sys2Proof.Proofs
end

section
/-! The choice of R296: every track that R291 allows is among those that the profile unit searches, and it takes one that ends
earliest. -/

namespace Sys2Proof.Proofs

open Sys2Proof.Machine

/-! ### The number that spells a record, and a track -/

/-- The fields of a record fit the widths of R290, with seven durations. -/
structure Fits (r : ProfileRec) : Prop where
  startUs : r.startUs < 2 ^ 32
  vIn : r.vIn < 2 ^ 32
  jAcc : -2 ^ 31 ≤ r.jAcc ∧ r.jAcc < 2 ^ 31
  jDec : -2 ^ 31 ≤ r.jDec ∧ r.jDec < 2 ^ 31
  phases : r.dur.length = 7
  dur : ∀ d ∈ r.dur, d < 2 ^ 32

/-- A record's eleven fields of 32 bits, as `recordAt` reads them. -/
def recordDigits (r : ProfileRec) : List Nat :=
  r.startUs :: r.vIn :: (r.jAcc + 2 ^ 31).toNat :: (r.jDec + 2 ^ 31).toNat :: r.dur

/-- The number that spells a record. -/
def recordCode (r : ProfileRec) : Nat := Nat.ofDigits (2 ^ 32) (recordDigits r)

/-- The number that spells a track: its first record lowest. -/
def trackCode : List ProfileRec → Nat
  | [] => 0
  | r :: rs => recordCode r + 2 ^ 352 * trackCode rs

/-- The digits of a number in a base are what its quotients leave. -/
theorem ofDigits_div_pow_mod {b : Nat} (hb : 1 < b) {l : List Nat} (hl : ∀ d ∈ l, d < b) (i : Nat) :
    Nat.ofDigits b l / b ^ i % b = l.getD i 0 := by
  rw [Nat.ofDigits_div_pow_eq_ofDigits_drop i (by omega) l hl, Nat.ofDigits_mod_eq_head!, List.getD_eq_getElem?_getD,
    ← List.head?_drop]
  cases hd : l.drop i with
  | nil => simp
  | cons d ds => simpa using Nat.mod_eq_of_lt (hl d (List.mem_of_mem_drop (hd ▸ List.mem_cons_self)))

theorem recordDigits_lt {r : ProfileRec} (h : Fits r) : ∀ d ∈ recordDigits r, d < 2 ^ 32 := by
  obtain ⟨hstart, hv, hacc, hdec, -, hdur⟩ := h
  intro d hd
  simp only [recordDigits, List.mem_cons] at hd
  rcases hd with rfl | rfl | rfl | rfl | hd
  · exact hstart
  · exact hv
  · omega
  · omega
  · exact hdur d hd

theorem recordCode_lt {r : ProfileRec} (h : Fits r) : recordCode r < 2 ^ 352 := by
  have hlt := Nat.ofDigits_lt_base_pow_length (by norm_num) (recordDigits_lt h)
  have hlen : (recordDigits r).length = 11 := by simp [recordDigits, h.phases]
  rwa [hlen, ← pow_mul, show 32 * 11 = 352 from rfl] at hlt

theorem recordAt_recordCode {r : ProfileRec} (h : Fits r) : recordAt (recordCode r) = r := by
  have hdigit : ∀ i, recordCode r / 2 ^ (32 * i) % 2 ^ 32 = (recordDigits r).getD i 0 := fun i => by
    rw [pow_mul, recordCode, ofDigits_div_pow_mod (by norm_num) (recordDigits_lt h)]
  have hphases : (List.range 7).map (fun i => r.dur.getD i 0) = r.dur := by
    refine List.ext_getElem (by simp [h.phases]) fun i h1 h2 => ?_
    rw [List.getElem_map, List.getElem_range, List.getD_eq_getElem _ _ h2]
  obtain ⟨-, -, hacc, hdec, -, -⟩ := h
  have hs : ∀ j : Int, -2 ^ 31 ≤ j → ((j + 2 ^ 31).toNat : Int) - 2 ^ 31 = j := by omega
  simp only [recordAt, hdigit]
  cases r
  simp_all [recordDigits, Nat.add_comm 4]

/-- A record is read from the lowest 352 bits alone. -/
theorem recordAt_add (c m : Nat) : recordAt (c + 2 ^ 352 * m) = recordAt c := by
  have hdigit : ∀ i < 11, (c + 2 ^ 352 * m) / 2 ^ (32 * i) % 2 ^ 32 = c / 2 ^ (32 * i) % 2 ^ 32 := fun i hi => by
    have hsplit : 2 ^ 352 * m = 2 ^ (32 * i) * (2 ^ 32 * (2 ^ (32 * (10 - i)) * m)) := by
      rw [← mul_assoc, ← mul_assoc, ← pow_add, ← pow_add]
      congr 2
      omega
    rw [hsplit, Nat.add_mul_div_left _ _ (by positivity), Nat.add_mul_mod_self_left]
  have hdur : ∀ i ∈ List.range 7, (c + 2 ^ 352 * m) / 2 ^ (32 * (4 + i)) % 2 ^ 32 = c / 2 ^ (32 * (4 + i)) % 2 ^ 32 :=
    fun i hi => hdigit _ (by have := List.mem_range.1 hi; omega)
  simp only [recordAt, hdigit 0 (by omega), hdigit 1 (by omega), hdigit 2 (by omega), hdigit 3 (by omega),
    List.map_congr_left hdur]

theorem trackCode_lt {rs : List ProfileRec} (h : ∀ r ∈ rs, Fits r) : trackCode rs < 2 ^ (352 * rs.length) := by
  induction rs with
  | nil => simp [trackCode]
  | cons r rs ih =>
    have hr := recordCode_lt (h r List.mem_cons_self)
    have hrs := ih fun x hx => h x (List.mem_cons_of_mem _ hx)
    rw [trackCode, List.length_cons, Nat.mul_succ, Nat.add_comm (352 * _), pow_add]
    calc recordCode r + 2 ^ 352 * trackCode rs < 2 ^ 352 * (trackCode rs + 1) := by rw [mul_add]; omega
      _ ≤ 2 ^ 352 * 2 ^ (352 * rs.length) := Nat.mul_le_mul_left _ hrs

theorem trackCode_spells {rs : List ProfileRec} (h : ∀ r ∈ rs, Fits r) :
    (List.range rs.length).map (fun i => recordAt (trackCode rs / 2 ^ (352 * i))) = rs := by
  induction rs with
  | nil => rfl
  | cons r rs ih =>
    have hr := h r List.mem_cons_self
    have hshift : ∀ i, trackCode (r :: rs) / 2 ^ (352 * (i + 1)) = trackCode rs / 2 ^ (352 * i) := fun i => by
      rw [trackCode, Nat.mul_succ, Nat.add_comm (352 * i), pow_add, ← Nat.div_div_eq_div_mul, Nat.add_mul_div_left _ _ (by positivity),
        Nat.div_eq_of_lt (recordCode_lt hr), Nat.zero_add]
    rw [List.length_cons, List.range_succ_eq_map, List.map_cons, List.map_map]
    refine congrArg₂ _ ?_ ?_
    · rw [Nat.mul_zero, pow_zero, Nat.div_one, trackCode, recordAt_add, recordAt_recordCode hr]
    · refine Eq.trans (List.map_congr_left fun i _ => ?_) (ih fun x hx => h x (List.mem_cons_of_mem _ hx))
      exact congrArg recordAt (hshift i)

/-! ### The tracks that R291 allows -/

theorem fits_of_recordOk {lim : Limits} {l : RunLane} {r : ProfileRec} (h : recordOk lim l r = true) : Fits r := by
  simp only [recordOk, Bool.and_eq_true, beq_iff_eq, List.all_eq_true, decide_eq_true_eq] at h
  obtain ⟨⟨⟨⟨⟨⟨⟨⟨⟨⟨hphases, hdur⟩, hv, hstart⟩, hj⟩, -⟩, -⟩, -⟩, -⟩, -⟩, -⟩, -⟩ := h
  exact ⟨by omega, by omega, by omega, by omega, hphases, hdur⟩

/-- A track that R291 allows has one record for each lane, and its records fit. -/
theorem fits_of_trackOk {lim : Limits} {runs : List RunLane} {recs : List ProfileRec} {t v : Nat}
    (h : trackOk lim t v runs recs = true) : recs.length = runs.length ∧ ∀ r ∈ recs, Fits r := by
  induction runs generalizing recs t v with
  | nil =>
    cases recs with
    | nil => exact ⟨rfl, fun r hr => absurd hr (List.not_mem_nil)⟩
    | cons r rs => cases h
  | cons l ls ih =>
    cases recs with
    | nil => cases h
    | cons r rs =>
      simp only [trackOk, Bool.and_eq_true] at h
      obtain ⟨⟨⟨⟨hr, -⟩, -⟩, -⟩, hrs⟩ := h
      obtain ⟨hlen, hfits⟩ := ih hrs
      exact ⟨congrArg (· + 1) hlen, List.forall_mem_cons.2 ⟨fits_of_recordOk hr, hfits⟩⟩

/-- The search finds exactly the tracks that R291 allows. -/
theorem mem_validTracks {lim : Limits} {t : Nat} {runs : List RunLane} {recs : List ProfileRec} :
    recs ∈ validTracks lim t runs ↔ trackOk lim t 0 runs recs = true := by
  refine ⟨fun h => (List.mem_filter.1 h).2, fun h => List.mem_filter.2 ⟨List.mem_map.2 ⟨trackCode recs, ?_, ?_⟩, h⟩⟩
  · obtain ⟨hlen, hfits⟩ := fits_of_trackOk h
    exact List.mem_range.2 (hlen ▸ trackCode_lt hfits)
  · obtain ⟨hlen, hfits⟩ := fits_of_trackOk h
    exact hlen ▸ trackCode_spells hfits

/-! ### The earliest of them -/

/-- The least duration of a list of tracks bounds each of them, and one of them has it. -/
theorem foldl_min_trackTotal (rs : List (List ProfileRec)) (m : Nat) :
    (rs.foldl (fun m k => min m (trackTotal k)) m ≤ m ∧ ∀ k ∈ rs, rs.foldl (fun m k => min m (trackTotal k)) m ≤ trackTotal k) ∧
      (rs.foldl (fun m k => min m (trackTotal k)) m = m ∨ ∃ k ∈ rs, trackTotal k = rs.foldl (fun m k => min m (trackTotal k)) m) := by
  induction rs generalizing m with
  | nil => simp
  | cons r rs ih =>
    obtain ⟨⟨hle, hall⟩, hmem⟩ := ih (min m (trackTotal r))
    rw [List.foldl_cons]
    refine ⟨⟨le_trans hle (min_le_left ..), List.forall_mem_cons.2 ⟨le_trans hle (min_le_right ..), hall⟩⟩, ?_⟩
    rcases hmem with hmem | ⟨k, hk, hmem⟩
    · rcases min_choice m (trackTotal r) with hm | hm
      · exact .inl (hmem.trans hm)
      · exact .inr ⟨r, List.mem_cons_self, (hmem.trans hm).symm⟩
    · exact .inr ⟨k, List.mem_cons_of_mem _ hk, hmem⟩

/-- What the choice answers: a track of the list that no other of the list beats, and none of an empty list alone. -/
theorem earliestTrack_spec (pick : Nat) (all : List (List ProfileRec)) :
    match earliestTrack pick all with
    | some recs => recs ∈ all ∧ ∀ k ∈ all, trackTotal recs ≤ trackTotal k
    | none => all = [] := by
  cases all with
  | nil => rfl
  | cons r rs =>
    obtain ⟨⟨hle, hall⟩, hmem⟩ := foldl_min_trackTotal rs (trackTotal r)
    simp only [earliestTrack]
    generalize rs.foldl (fun m k => min m (trackTotal k)) (trackTotal r) = best at hle hall hmem
    have hbest : ∀ k ∈ r :: rs, best ≤ trackTotal k := List.forall_mem_cons.2 ⟨hle, hall⟩
    have hne : (r :: rs).filter (fun k => trackTotal k == best) ≠ [] := by
      rw [Ne, List.filter_eq_nil_iff]
      intro hnone
      rcases hmem with hr | ⟨k, hk, hkb⟩
      · exact hnone r List.mem_cons_self (beq_iff_eq.2 hr.symm)
      · exact hnone k (List.mem_cons_of_mem _ hk) (beq_iff_eq.2 hkb)
    rw [List.getElem?_eq_getElem (Nat.mod_lt pick (List.length_pos_iff.2 hne))]
    obtain ⟨hin, htie⟩ := List.mem_filter.1 (List.getElem_mem (Nat.mod_lt pick (List.length_pos_iff.2 hne)))
    exact ⟨hin, fun k hk => (beq_iff_eq.1 htie).trans_le (hbest k hk)⟩

/-! ### The segments of the chosen track -/

theorem length_starts (recs : List ProfileRec) (acc : List Nat) :
    (recs.foldl (fun acc r => acc ++ [acc.getLastD 0 + r.total]) acc).length = acc.length + recs.length := by
  induction recs generalizing acc with
  | nil => rfl
  | cons r rs ih => rw [List.foldl_cons, ih]; simp; omega

theorem length_runLanes (s : State) (r : Nat) (lanes : List Nat) (s0 : Nat) : (s.runLanes r lanes s0).length = lanes.length := by
  simp [State.runLanes]

/-- Of lists zipped together and numbered, the shortest can be read back: here the first and the last. -/
theorem map_zipIdx_zip {α β γ δ : Type} (as : List α) (bs : List β) (cs : List γ) (ds : List δ) (hb : as.length = bs.length)
    (hc : as.length ≤ cs.length) (hd : as.length = ds.length) :
    (List.zip as (List.zip bs (List.zip cs ds))).zipIdx.map (fun x => x.1.1) = as ∧
      (List.zip as (List.zip bs (List.zip cs ds))).zipIdx.map (fun x => x.1.2.2.2) = ds := by
  have hfst : ∀ {ε : Type} (f : α × β × γ × δ → ε), (List.zip as (List.zip bs (List.zip cs ds))).zipIdx.map (fun x => f x.1) =
      (List.zip as (List.zip bs (List.zip cs ds))).map f := fun f =>
    List.map_map.symm.trans (congrArg (List.map f) (List.zipIdx_map_fst ..))
  have hcd : (List.zip cs ds).length = ds.length := by rw [List.length_zip]; omega
  have hbcd : (List.zip bs (List.zip cs ds)).length = ds.length := by rw [List.length_zip]; omega
  refine ⟨(hfst Prod.fst).trans (List.map_fst_zip (by omega)), (hfst fun y => y.2.2.2).trans ?_⟩
  calc (List.zip as (List.zip bs (List.zip cs ds))).map (fun y => y.2.2.2)
      = (((List.zip as (List.zip bs (List.zip cs ds))).map Prod.snd).map Prod.snd).map Prod.snd := by rw [List.map_map, List.map_map]; rfl
    _ = ds := by rw [List.map_snd_zip (by omega), List.map_snd_zip (by omega), List.map_snd_zip (by omega)]

/-- The segments carry the lanes in order and the records of the track that was chosen. -/
theorem chooseSegs_spec {s : State} {r : Nat} {lanes : List Nat} {s0 t0 : Nat} {segs : List TSeg}
    (h : s.chooseSegs r lanes s0 t0 = some segs) :
    trackOk (s.planLimits r) (t0 * 1000) 0 (s.runLanes r lanes s0) (segs.map (fun g => g.rcd)) = true ∧
      segs.map (fun g => g.lane) = lanes ∧
      ∀ k ∈ validTracks (s.planLimits r) (t0 * 1000) (s.runLanes r lanes s0), trackTotal (segs.map (fun g => g.rcd)) ≤ trackTotal k := by
  obtain ⟨recs, hrecs, rfl⟩ := Option.map_eq_some_iff.1 h
  have hspec := earliestTrack_spec (Config.chooseTrack (s.prfClass (s.clsOf r)) (s.pr r).p t0 s0 lanes)
    (validTracks (s.planLimits r) (t0 * 1000) (s.runLanes r lanes s0))
  rw [hrecs] at hspec
  obtain ⟨hmem, hleast⟩ := hspec
  have hok := mem_validTracks.1 hmem
  have hlen : recs.length = lanes.length := (fits_of_trackOk hok).1.trans (length_runLanes ..)
  obtain ⟨hlanes, hrcds⟩ := map_zipIdx_zip lanes (lanes.map fun i => s.laneGeoI i)
    (recs.foldl (fun acc r => acc ++ [acc.getLastD 0 + r.total]) [t0 * 1000]) recs (List.length_map _).symm
    (by rw [length_starts, List.length_singleton]; omega) hlen.symm
  simp only [List.map_map, Function.comp_def]
  rw [hlanes, hrcds]
  exact ⟨hok, rfl, hleast⟩

/-- Settles O40: the search finds exactly the tracks that R291 allows, and the choice takes one of least duration. -/
theorem tracksEndEarliest : Obligations.TracksEndEarliest := by
  unfold Obligations.TracksEndEarliest
  intro s r lanes s0 t0
  split
  · next segs h =>
    obtain ⟨hok, hlanes, hleast⟩ := chooseSegs_spec h
    exact ⟨hok, hlanes, fun recs hrecs => hleast recs (mem_validTracks.2 hrecs)⟩
  · next h =>
    intro recs
    have hnone := earliestTrack_spec (Config.chooseTrack (s.prfClass (s.clsOf r)) (s.pr r).p t0 s0 lanes)
      (validTracks (s.planLimits r) (t0 * 1000) (s.runLanes r lanes s0))
    rw [Option.map_eq_none_iff.1 h] at hnone
    exact Bool.eq_false_iff.2 fun hok => List.not_mem_nil (hnone ▸ mem_validTracks.2 hok)

end Sys2Proof.Proofs
end

section
/-! A host packet outside Run (R65, R429): one for a queue whose bank is out of service is counted although nothing that R65 keeps
powered could take it, so more than time has passed. -/

namespace Sys2Proof.Proofs

open Sys2Proof.Machine Sys2Proof.Safety Sys2Proof.Laws

/-- Nothing is left that the end of a native command would send on: no slot map or message of a fold is due, and no output goes on. -/
structure Idle (s : State) : Prop where
  native : s.sys.cx = false
  stopped : s.sys.fw = .none
  alone : s.pai.role = 0
  maps : s.cfg.pend = [] ∧ s.air.tickMap = none
  fold : s.crk.forward = false ∧ s.pas.outbox = []
  quiet : s.out = []

/-- In an idle state outside Run the end of a command changes nothing. -/
theorem settle_of_idle {s : State} (hoff : s.sys.power ≠ .run) (h : Idle s) (n : Nat) : s.settle n = s := by
  obtain ⟨hnative, hfw, halone, ⟨hpend, hmap⟩, ⟨hforward, houtbox⟩, hout⟩ := h
  have hyield : s.selfYield n = s := by simp [State.selfYield, halone]
  have hmatch : s.matchOrders = s := by simp [State.matchOrders, hoff]
  have hruns : s.fwRuns = false := by simp [State.fwRuns, hfw]
  have hpump : s.pumpWaiting = s := by simp [State.pumpWaiting, hruns]
  have hrefresh : s.tickMapRefresh = s := by simp [State.tickMapRefresh, hpend, hmap]
  have hforwards : s.forwardStop = s := by simp [State.forwardStop, hforward]
  have houtboxes : s.mapPas (fun p => { p with outbox := [] }) = s := by simp [State.mapPas, ← houtbox]
  have hflush : s.foldFlush = s := by simp [State.foldFlush, houtbox, houtboxes]
  simp [State.settle, State.settleNative, hruns, hnative, hyield, hmatch, hpump, hrefresh, hforwards, hflush, halone, State.sendOuts, hout]

/-- Standby with the bank of the intake queues Q0 to Q3 out of service. -/
def standbyBankOut : State :=
  (State.reset.mapBank 32 (fun k => { k with state := .outOfService })).mapSys (fun y => { y with power := .standby, fw := .none })

/-- A packet without parameters over SPI. -/
def spiPacket : Pkt :=
  { via := .spi, flags := 0, plen := 0, delivered := 20, acc := 0, sess := 0, payload := [], pcrc := 0 }

/-- In Standby the passing of time counts no dropped packet. -/
theorem windows_of_time (dt : Nat) : (standbyBankOut.act dt id).mem.windows = [] := by
  have hbefore : standbyBankOut.before dt = standbyBankOut.advance dt := before_eq_advance rfl dt
  have hidle : Idle (standbyBankOut.advance dt) := by
    constructor <;> simp only [advance_sys, advance_pai, advance_cfg, advance_air, advance_crk, advance_pas, advance_out]
    case maps => exact ⟨rfl, rfl⟩
    case fold => exact ⟨rfl, rfl⟩
    all_goals rfl
  have hoff : (standbyBankOut.advance dt).sys.power ≠ .run := by
    rw [advance_sys]
    decide
  simp only [State.act, hbefore, id, settle_of_idle hoff hidle, State.unpowered, if_neg hoff, advance_mem]
  rfl

/-- ECHO over SPI is dropped and counted at Q1. -/
theorem windows_of_echo : ∃ t, exec (.echo 0 spiPacket) standbyBankOut = .next t ∧ t.mem.windows = [(1, ⟨0, 0, 0, 1⟩)] :=
  ⟨_, rfl, by decide +kernel⟩

/-- Refutes O32: in Standby with bank 32 out of service, ECHO over SPI is dropped for the disabled queue Q1 and counted there. -/
theorem not_unpoweredIsInert : ¬ Obligations.UnpoweredIsInert := by
  unfold Obligations.UnpoweredIsInert
  intro h
  obtain ⟨dt, hdt⟩ := h (.echo 0 spiPacket) standbyBankOut (by decide) rfl (by decide)
  obtain ⟨t, hecho, hcounted⟩ := windows_of_echo
  have hsame := hecho.symm.trans hdt
  injection hsame with hsame
  rw [hsame, windows_of_time] at hcounted
  cases hcounted

end Sys2Proof.Proofs
end

section
/-! Host packets and event rows in the form that the families of statements use. -/

namespace Sys2Proof.Proofs

open Sys2Proof.Machine Sys2Proof.Safety Sys2Proof.Laws

/-- A row of the table is the host packet of an opcode that is served outside reception itself (all but SESSION_OPEN and
SESSION_RESUME). -/
structure HostRow (row : Nat → Pkt → Instr) (spec : OpSpec) : Prop where
  listed : opSpec? spec.code = some spec
  later : spec.code ≠ 1 ∧ spec.code ≠ 2
  packet : ∀ dt p s, exec (row dt p) s = .next (s.act dt (State.hostPacket 2 spec.code p))

section
variable {row : Nat → Pkt → Instr} {spec : OpSpec} {ok : Cmd → State → Prop}

/-- A query row completes where its meaning ends with an answer. -/
theorem queryRow {res : Cmd → State → State × Ans} (hrun : ∀ c s, ok c s → spec.run c s = ((res c s).1, .fin (res c s).2))
    (h : HostRow row spec := by exact ⟨rfl, by decide, fun _ _ _ => rfl⟩) (hkind : spec.kind = .query := by rfl) :
    QueryCompletes row spec ok res :=
  queryCompletes h.listed h.later.1 h.later.2 hkind h.packet hrun

/-- A work row completes where its meaning ends with an answer, or is taken for later. -/
theorem workRow {res : Cmd → State → State × Option Ans}
    (hrun : ∀ c s, c.replay = false → ok c s →
      spec.run c s = ((res c s).1, match (res c s).2 with | some a => .fin a | none => .later))
    (h : HostRow row spec := by exact ⟨rfl, by decide, fun _ _ _ => rfl⟩) (hkind : spec.kind = .work := by rfl) :
    WorkCompletes row spec ok res :=
  workCompletes h.listed h.later.1 h.later.2 hkind h.packet hrun

/-- A control row, or an urgent packet, completes where its meaning ends with an answer. -/
theorem controlRow {res : Cmd → State → State × Ans} (hrun : ∀ c s, c.replay = false → ok c s → spec.run c s = ((res c s).1, .fin (res c s).2))
    (h : HostRow row spec := by exact ⟨rfl, by decide, fun _ _ _ => rfl⟩) : ControlCompletes row spec ok res :=
  controlCompletes h.listed h.later.1 h.later.2 h.packet fun c s hreplay hok => .inl (hrun c s hreplay hok)

/-- The same where the command is done later: the answer is OK at once. -/
theorem controlRow_later {eff : Cmd → State → State} (hrun : ∀ c s, c.replay = false → ok c s → spec.run c s = (eff c s, .later))
    (h : HostRow row spec := by exact ⟨rfl, by decide, fun _ _ _ => rfl⟩) :
    ControlCompletes row spec ok (fun c s => (eff c s, Ans.bare stOk 0)) :=
  controlCompletes h.listed h.later.1 h.later.2 h.packet fun c s hreplay hok => .inr ⟨hrun c s hreplay hok, rfl⟩

end

section
variable {row : Nat → Instr} {eff : State → State} {ok : State → Prop} (f : State → State)

/-- A row of a native block acts in native mode with its firmware running. -/
theorem nativeRow (h : ∀ u, NativeRun u → ok u → f u = eff u)
    (hx : ∀ s dt, exec (row dt) s = .next (s.act dt (State.native f)) := by exact fun _ _ => rfl) :
    EventActs row (fun u => NativeRun u ∧ ok u) eff :=
  eventActs _ hx fun u ⟨hrun, hok⟩ => (native_of hrun.power hrun.native hrun.running).trans (h u hrun hok)

/-- A row of hardware acts in native mode. -/
theorem nativeHwRow (h : ∀ u, NativeHw u → ok u → f u = eff u)
    (hx : ∀ s dt, exec (row dt) s = .next (s.act dt (State.nativeHw f)) := by exact fun _ _ => rfl) :
    EventActs row (fun u => NativeHw u ∧ ok u) eff :=
  eventActs _ hx fun u ⟨hrun, hok⟩ => (nativeHw_of hrun.power hrun.native).trans (h u hrun hok)

/-- A row of both modes acts in Run with firmware running. -/
theorem runRow (h : ∀ u, FwRun u → ok u → f u = eff u)
    (hx : ∀ s dt, exec (row dt) s = .next (s.act dt (State.inRun f)) := by exact fun _ _ => rfl) :
    EventActs row (fun u => FwRun u ∧ ok u) eff :=
  eventActs _ hx fun u ⟨hrun, hok⟩ => (inRun_of hrun.power hrun.running).trans (h u hrun hok)

/-- A row of both modes acts in native mode with its firmware running. -/
theorem nativeInRunRow (h : ∀ u, NativeRun u → ok u → f u = eff u)
    (hx : ∀ s dt, exec (row dt) s = .next (s.act dt (State.inRun f)) := by exact fun _ _ => rfl) :
    EventActs row (fun u => NativeRun u ∧ ok u) eff :=
  eventActs _ hx fun u ⟨hrun, hok⟩ => (inRun_of hrun.power hrun.running).trans (h u hrun hok)

/-- A native row with firmware running is in particular one of hardware. -/
theorem NativeRun.hw {u : State} (h : NativeRun u) : NativeHw u := ⟨h.power, h.native⟩

end

end Sys2Proof.Proofs
end

section
/-! What single operations of the state leave unchanged, and what tables hold: facts that several families use. -/

namespace Sys2Proof.Proofs

open Sys2Proof.Machine Sys2Proof.Laws

/-! ### Tables -/

section
variable {α : Type} {t : Tab α} {k : Nat} {a : α}

theorem mem_of_find? (h : Tab.find? k t = some a) : (k, a) ∈ t := by
  induction t with
  | nil => simp [Tab.find?] at h
  | cons e t ih =>
    obtain ⟨j, b⟩ := e
    simp only [Tab.find?] at h
    split at h
    · next hj => simp [hj, Option.some.inj h]
    · exact List.mem_cons_of_mem _ (ih h)

theorem find?_of_mem (hwf : Tab.wf t = true) (h : (k, a) ∈ t) : Tab.find? k t = some a := by
  rw [Tab.wf_iff_pairwise] at hwf
  induction t with
  | nil => simp at h
  | cons e t ih =>
    obtain ⟨j, b⟩ := e
    obtain ⟨hlt, hrest⟩ := List.pairwise_cons.1 hwf
    rcases List.mem_cons.1 h with heq | hmem
    · obtain ⟨rfl, rfl⟩ := Prod.mk.inj heq
      simp [Tab.find?]
    · have : j < k := hlt _ hmem
      rw [Tab.find?, if_neg (by omega)]
      exact ih hrest hmem

end

/-! ### Robots and slot maps -/

/-- A change of a robot's record changes the link's part alone. -/
theorem mapRobot_eq (r : Nat) (f : Robot → Robot) (s : State) : s.mapRobot r f = { s with lnk := (s.mapRobot r f).lnk } := by
  unfold State.mapRobot
  split <;> rfl

/-- The state differs at most in the air's and the link's parts. -/
def OnlyLinks (s t : State) : Prop := t = { s with air := t.air, lnk := t.lnk }

theorem OnlyLinks.trans {s t u : State} (h : OnlyLinks s t) (k : OnlyLinks t u) : OnlyLinks s u := by
  unfold OnlyLinks at *
  rw [k, h]

theorem OnlyLinks.foldl {α : Type} {f : State → α → State} (h : ∀ s a, OnlyLinks s (f s a)) (l : List α) (s : State) :
    OnlyLinks s (l.foldl f s) := by
  induction l generalizing s with
  | nil => rfl
  | cons a l ih => exact (h s a).trans (ih _)

theorem onlyLinks_mapRobot (r : Nat) (f : Robot → Robot) (s : State) : OnlyLinks s (s.mapRobot r f) := by
  unfold OnlyLinks
  rw [mapRobot_eq]

theorem onlyLinks_acceptMap (m : SlotMap) (s : State) : OnlyLinks s (s.acceptMap m) := by
  refine OnlyLinks.trans (t := s.mapAir _) rfl (OnlyLinks.foldl (fun s e => ?_) _ _)
  split
  · exact onlyLinks_mapRobot ..
  · rfl

theorem OnlyLinks.fix {s t : State} (h : OnlyLinks s t) : t.fix = s.fix := by rw [h]

/-! ### Inputs of a unit without a partner -/

/-- A unit that merges nothing takes its inputs itself. -/
theorem pairInput_alone {i : PairIn} {act : State → State} {s : State} (h : s.merging = false) : s.pairInput i act = act s := if_pos h

/-- A frame on a chain whose input queue is in service is taken up. -/
theorem airIn_alone {kind : Nat} {f : AirRx} {act : AirRx → State → State} {s : State} (hup : s.fixedDown (4 + f.chain) = false)
    (h : s.merging = false) : s.airIn kind f act = act f s := by
  rw [State.airIn, if_neg (by simp [hup]), pairInput_alone h]
  split <;> rfl

end Sys2Proof.Proofs
end

section
/-! Sessions, completions, events, counters, and the requests for reset and Standby (R58, R67, R87, R89, R91, R92, R97 to R99). -/

namespace Sys2Proof.Proofs

open Sys2Proof.Machine Sys2Proof.Safety Sys2Proof.Laws

variable {c : Cmd} {s : State}

theorem runSessionClose_of_done (hlen : c.params = []) (hdone : s.entriesOf c.sess = []) : s.runSessionClose c =
    ((s.mapSes (fun z => { z with sessions := Tab.del c.sess z.sessions })).lockSessionEnds c.sess, .fin (Ans.ok [])) := by
  simp only [State.runSessionClose, hlen, hdone]
  rfl

theorem runBarrier_of_ok (hlen : c.params.length = 4) (hmode : u8 c.params 0 ≤ 1) (hres : rd c.params 1 3 = 0) :
    s.runBarrier c = (s, .later) := by
  rw [State.runBarrier, if_neg (by omega), if_neg (by omega)]

theorem runCompletionAck_of_held {x : Session} (hlen : c.params.length = 4) (hsess : s.session c.sess = some x)
    (hacc : State.notAccepted x (u32 c.params 0) = false)
    (hdone : ∀ e, s.entry? c.sess (u32 c.params 0) = some e → e.result.isSome ∧ e.awaitConf = none) :
    s.runCompletionAck c = ((s.ackCompletions c.sess (u32 c.params 0)).pumpSession c.sess, .fin (Ans.ok [])) := by
  simp only [State.runCompletionAck, hlen, hsess, hacc, Bool.false_or]
  cases he : s.entry? c.sess (u32 c.params 0) with
  | none => rfl
  | some e =>
    obtain ⟨hresult, hconf⟩ := hdone e he
    simp only [Option.isNone_eq_false_iff.2 hresult, hconf]
    rfl

theorem runCompletionRead_of_entry {e : JEntry} (hlen : c.params.length = 4) (he : s.entry? c.sess (u32 c.params 0) = some e)
    (hconf : e.awaitConf = none) : s.runCompletionRead c =
      (s.sendPacket c.via (match e.result with | some a => State.completionOf e a | none => State.acceptedOf e), .sent) := by
  simp only [State.runCompletionRead, hlen, he, hconf]
  cases e.result <;> rfl

theorem runFaultAck_of_raised (hlen : c.params.length = 4) (hseq : u32 c.params 0 < s.sys.nextSeq) : s.runFaultAck c =
    (s.mapSys (fun y => { y with
      unacked := y.unacked.filter (fun k => decide (u32 c.params 0 < k))
      events := y.events.map (fun e => if e.cls = .fault ∧ e.seq ≤ u32 c.params 0 then { e with acked := true } else e) }),
      .fin (Ans.ok [])) := by
  rw [State.runFaultAck, if_neg (by omega), if_neg (by omega)]
  rfl

theorem runEventRead_of_ok (hlen : c.params.length = 8) (hcount : 1 ≤ u16 c.params 4 ∧ u16 c.params 4 ≤ 64) (hres : u16 c.params 6 = 0) :
    s.runEventRead c =
      let es := (s.sys.events.filter (fun e => decide (u32 c.params 0 ≤ e.seq))).take (u16 c.params 4)
      let lost := match s.sys.events.head? with | some e => decide (u32 c.params 0 < e.seq ∧ 1 < e.seq) | none => false
      (s, .fin ⟨stOk, b2n lost, le 2 es.length ++ le 2 0 ++ es.flatMap eventBytes⟩) := by
  rw [State.runEventRead, if_neg (by omega), if_neg (by omega)] <;> rfl

theorem runSysReset_of_ok (hreplay : c.replay = false) (hlen : c.params.length = 2) (hkind : u16 c.params 0 ≤ 1) : s.runSysReset c =
    (s.mapSys (fun y => { y with pendReset := some ⟨u16 c.params 0 == 1, 4, false, false, some (c.sess, c.acc)⟩ }), .fin (Ans.ok [])) := by
  rw [State.runSysReset, if_neg (by omega), if_neg (by omega), if_neg (by simp [hreplay])]
  rfl

theorem runPowerStandby_of_quiet (hreplay : c.replay = false) (hlen : c.params.length = 1) (hmask : u8 c.params 0 ≤ 7)
    (hbits : missingBit c.agreed (if u8 c.params 0 = 0 then [] else [196]) = none)
    (hchains : s.beaconsOn = true → ∀ k < 4, s.chainOn k = false) (haxes : ∀ n < 4, s.axisMoving n = false) (hlock : s.upd.lock = none) :
    s.runPowerStandby c = (s.mapSys (fun y => { y with pendStandby := some ⟨u8 c.params 0, c.sess, c.acc⟩ }), .fin (Ans.ok [])) := by
  have hair : (s.beaconsOn && (List.range 4).any (fun k => s.chainOn k)) = false := by
    cases hb : s.beaconsOn with
    | false => rfl
    | true => exact List.any_eq_false.2 fun k hk => by simp [hchains hb k (List.mem_range.1 hk)]
  have hmoving : (List.range 4).any (fun n => s.axisMoving n) = false :=
    List.any_eq_false.2 fun n hn => by simp [haxes n (List.mem_range.1 hn)]
  rw [State.runPowerStandby, if_neg (by omega), if_neg (by omega)]
  simp only [hbits, hreplay, hair, hmoving, hlock]
  rfl

/-- COMPLETION_READ answers with the stored completion, or with the ACCEPTED state of a command that runs (R87). -/
theorem exec_completionRead {dt : Nat} {p : Pkt} {x : Session} {e : JEntry} (h : HostReady (s.before dt) opCompletionRead p x)
    (hout : Outside opCompletionRead p) (hlen : p.body.length = 4)
    (he : (heard 0x0006 p (s.before dt)).entry? p.sess (u32 p.body 0) = some e) (hconf : e.awaitConf = none) :
    exec (.completionRead dt p) s = .next (s.act dt (fun u => (heard 0x0006 p u).sendPacket p.via
      (match e.result with | some a => State.completionOf e a | none => State.acceptedOf e))) := by
  have hrow : HostRow .completionRead opCompletionRead := ⟨rfl, by decide, fun _ _ _ => rfl⟩
  rw [hrow.packet]
  refine congrArg _ (act_congr ?_)
  have hrun : opCompletionRead.run (cmdOf opCompletionRead p x) (heard opCompletionRead.code p (s.before dt)) = _ :=
    runCompletionRead_of_entry hlen he hconf
  refine (hostPacket_control h rfl (by decide) (by decide) hout).trans ?_
  rw [hrun]
  rfl

/-- Settles O1: each opcode's meaning passes its refusals and ends with the stated effect and answer. -/
theorem sessionCommandsComplete : Obligations.SessionCommandsComplete := by
  unfold Obligations.SessionCommandsComplete
  exact ⟨workRow fun c s _ ⟨hlen, hdone⟩ => runSessionClose_of_done hlen hdone,
    workRow fun c s _ ⟨hlen, hmode, hres⟩ => runBarrier_of_ok hlen hmode hres,
    controlRow fun c s _ ⟨hlen, x, hsess, hacc, hdone⟩ => runCompletionAck_of_held hlen hsess hacc hdone,
    fun s dt p x e => exec_completionRead,
    controlRow fun c s _ ⟨hlen, hseq⟩ => runFaultAck_of_raised hlen hseq,
    controlRow fun c s _ ⟨hlen, hmin, hmax, hres⟩ => runEventRead_of_ok hlen ⟨hmin, hmax⟩ hres,
    controlRow fun c s _ hlen => if_neg (Nat.not_lt.2 hlen),
    queryRow fun c s hlen => if_neg (not_not_intro (congrArg List.length hlen)),
    workRow fun c s _ hlen => if_neg (not_not_intro (congrArg List.length hlen)),
    workRow fun c s hreplay ⟨hlen, hkind⟩ => runSysReset_of_ok hreplay hlen hkind,
    workRow fun c s hreplay ⟨hlen, hmask, hbits, hchains, haxes, hlock⟩ =>
      runPowerStandby_of_quiet hreplay hlen hmask hbits hchains haxes hlock⟩

end Sys2Proof.Proofs
end

section
/-! Parameters, standing orders, commits and budgets (R25, R52, R53, R94 to R97, R102). -/

namespace Sys2Proof.Proofs

open Sys2Proof.Machine Sys2Proof.Safety Sys2Proof.Laws

variable {c : Cmd} {s : State}

/-- A reply to PRM_GET holds the records of its identifiers, all of them assigned, and fits a packet. -/
theorem runPrmGet_of_ok (hcount : 1 ≤ u16 c.params 0 ∧ u16 c.params 0 ≤ 256) (hstaged : u8 c.params 2 ≤ 1) (hres : u8 c.params 3 = 0)
    (hlen : c.params.length = 4 + 2 * u16 c.params 0)
    (hids : ∀ id ∈ (List.range (u16 c.params 0)).map (fun i => u16 c.params (4 + 2 * i)), (paramDef? id).isSome)
    (hfits : 24 + c.pre + (prmRecords c s).length ≤ 4096) : s.runPrmGet c = (s, .fin (Ans.ok (prmRecords c s))) := by
  have hfound : findIdx (fun id => (paramDef? id).isNone) ((List.range (u16 c.params 0)).map (fun i => u16 c.params (4 + 2 * i))) = none :=
    findIdx_none _ _ fun id hid => Option.isNone_eq_false_iff.2 (hids id hid)
  have hbody : ((List.range (u16 c.params 0)).map (fun i => u16 c.params (4 + 2 * i))).flatMap (fun id => match paramDef? id with
      | none => []
      | some d =>
        let v := if u8 c.params 2 = 1 then (match Tab.find? id (s.shadowOf c.sess).params with | some x => x | none => s.prmInUse id)
          else s.prmInUse id
        le 2 id ++ le 2 d.size ++ padMul 4 (le d.size v)) = prmRecords c s := by
    rw [List.flatMap_map, prmRecords]
    refine congrArg (List.flatMap · _) (funext fun i => ?_)
    dsimp only
    cases paramDef? (u16 c.params (4 + 2 * i)) with
    | none => rfl
    | some d => cases Tab.find? (u16 c.params (4 + 2 * i)) (s.shadowOf c.sess).params <;> rfl
  have hshort : ¬ 4096 < 20 + c.pre + 4 + (prmRecords c s).length := by omega
  rw [State.runPrmGet, if_neg (by omega), if_neg (by omega), if_neg (by omega)]
  simp only [hfound]
  erw [hbody]
  exact if_neg hshort

theorem runPrmSet_of_ok {items : List (Nat × Nat)} (hlen : 4 ≤ c.params.length) (hcount : 1 ≤ u16 c.params 0 ∧ u16 c.params 0 ≤ 256)
    (hres : u16 c.params 2 = 0) (hitems : prmItems c.agreed (u16 c.params 0) 0 (c.params.drop 4) [] = .inr items) :
    s.runPrmSet c = (s.mapShadow c.sess (fun h => { h with params := Tab.union h.params items }), .fin (Ans.ok [])) := by
  rw [State.runPrmSet, if_neg (by omega), if_neg (by omega)]
  simp only [hitems]
  rfl

/-- The number of the newest generation passes the first check of COMMIT, and so does 0 (R96). -/
theorem genAnswers {n m : Nat} (h : n = 0 ∨ n = m) : ¬(n ≠ 0 ∧ n ≠ m) := by tauto

theorem runCommit_of_empty (hlen : c.params.length = 4) (hgen : u32 c.params 0 = 0 ∨ u32 c.params 0 = s.newestNum)
    (hempty : (s.shadowOf c.sess).isEmpty = true) : s.runCommit c = (s, .fin (Ans.bare stOk 1)) := by
  rw [State.runCommit, if_neg (by omega), if_neg (genAnswers hgen), if_pos hempty]
  rfl

theorem runOrdersWrite_of_ok (hlen : c.params.length = 12) (hentry : u16 c.params 0 < 256) (hres : u16 c.params 2 = 0)
    (hok : soOk (u64 c.params 4) = true) (hbits : missingBit c.agreed (soNeed (u64 c.params 4)) = none) : s.runOrdersWrite c =
      (s.mapShadow c.sess (fun h => { h with orders := Tab.put (u16 c.params 0) (u64 c.params 4) h.orders }), .fin (Ans.ok [])) := by
  have hrange : ¬(256 ≤ u16 c.params 0 ∨ u16 c.params 2 ≠ 0 ∨ soOk (u64 c.params 4) = false) := by simp [hok, hres, hentry]
  rw [State.runOrdersWrite, if_neg (by omega), if_neg hrange]
  simp only [hbits]
  rfl

theorem runOrdersRead_of_ok (hlen : c.params.length = 8) (hcount : 1 ≤ u16 c.params 2) (hlast : u16 c.params 0 + u16 c.params 2 ≤ 256)
    (hstaged : u8 c.params 4 ≤ 1) (hres : rd c.params 5 3 = 0) :
    s.runOrdersRead c = (s, .fin (Ans.ok ((List.range (u16 c.params 2)).flatMap (fun i =>
      let v := Tab.getD (u16 c.params 0 + i) 0 s.cfg.eff.orders
      le 8 (if u8 c.params 4 = 1 then Tab.getD (u16 c.params 0 + i) v (s.shadowOf c.sess).orders else v))))) := by
  rw [State.runOrdersRead, if_neg (by omega), if_neg (by omega)]
  rfl

/-- The records of RESMAP_READ may be written one list after the other, and counted apart. -/
theorem runResmapRead_of_ok (hlen : c.params.length = 4) (hclass : 1 ≤ u8 c.params 0 ∧ u8 c.params 0 ≤ 7) (hres : rd c.params 1 3 = 0) :
    let own := s.cfg.claims.filter (fun k => k.1 / 0x1000000 == u8 c.params 0)
    let next := (claimsOf s.newest).filter (fun (k : Claim) => k.1 / 0x1000000 == u8 c.params 0 &&
      !(s.cfg.claims.any (fun o => o.1 == k.1 && o.2.1 == (k.2.1, k.2.2))))
    s.runResmapRead c = (s, .fin (Ans.ok (le 2 (own.length + next.length) ++ le 2 0 ++
      own.flatMap (fun k => le 4 k.1 ++ le 1 k.2.1.1 ++ le 1 (k.2.1.2 % 256) ++ le 2 0 ++ le 4 k.2.2) ++
      next.flatMap (fun k => le 4 k.1 ++ le 1 k.2.1 ++ le 1 (k.2.2 % 256) ++ le 2 1 ++ le 4 (s.claimGen k))))) := by
  rw [State.runResmapRead, if_neg (by omega), if_neg (by omega)]
  simp only [List.length_append, List.length_map, List.flatten_append, List.flatMap_def, List.append_assoc]
  rfl

theorem runSysCaptureRead_of_ok {k : CcState} (hlen : c.params.length = 4) (hch : u8 c.params 0 < 4)
    (hcount : 1 ≤ u8 c.params 1 ∧ u8 c.params 1 ≤ 64) (hres : u16 c.params 2 = 0)
    (hmode : 1 ≤ u8 (s.ccRec (u8 c.params 0)) 1 ∧ u8 (s.ccRec (u8 c.params 0)) 1 ≤ 3) (hk : s.sys.cc[u8 c.params 0]? = some k) :
    s.runSysCaptureRead c = (s.mapSys (fun y => { y with
        cc := modAt (u8 c.params 0) (fun k => { k with stamps := k.stamps.drop (u8 c.params 1), lost := 0 }) y.cc }),
      .fin (Ans.ok (le 2 (k.stamps.take (u8 c.params 1)).length ++ le 2 k.lost ++
        (k.stamps.take (u8 c.params 1)).flatMap (fun (x : Nat × Bool × Bool) =>
          le 8 x.1 ++ le 1 (b2n x.2.1) ++ le 1 (b2n x.2.2) ++ zeros 6)))) := by
  rw [State.runSysCaptureRead, if_neg (by omega), if_neg (by omega), if_neg (by omega)]
  simp only [hk]
  rfl

/-- Settles O2: each opcode's meaning passes its refusals and ends with the stated effect and answer. -/
theorem parameterCommandsComplete : Obligations.ParameterCommandsComplete := by
  unfold Obligations.ParameterCommandsComplete
  refine ⟨queryRow fun c s ⟨hmin, hmax, hstaged, hres, hlen, hids, hfits⟩ => runPrmGet_of_ok ⟨hmin, hmax⟩ hstaged hres hlen hids hfits,
    fun items => workRow fun c s _ ⟨hlen, hmin, hmax, hres, hitems⟩ => runPrmSet_of_ok hlen ⟨hmin, hmax⟩ hres hitems,
    workRow fun c s _ hlen => if_neg (not_not_intro (congrArg List.length hlen)),
    workRow fun c s _ ⟨hlen, hgen, hempty⟩ => runCommit_of_empty hlen hgen hempty,
    fun overlap inPlace => workRow fun c s _ ⟨hlen, hgen, hstaged, hkept, hchecks⟩ => ?commit,
    workRow fun c s _ ⟨hlen, hentry, hres, hok, hbits⟩ => runOrdersWrite_of_ok hlen hentry hres hok hbits,
    queryRow fun c s ⟨hlen, hcount, hlast, hstaged, hres⟩ => runOrdersRead_of_ok hlen hcount hlast hstaged hres,
    queryRow fun c s ⟨hlen, hmin, hmax, hres⟩ => runResmapRead_of_ok hlen ⟨hmin, hmax⟩ hres,
    queryRow fun c s hlen => if_neg (not_not_intro (congrArg List.length hlen)),
    queryRow fun c s ⟨hcount, hres, hlen, hentries⟩ => ?probe,
    fun k => workRow fun c s _ ⟨hlen, hch, hmin, hmax, hres, hfrom, hto, hk⟩ =>
      runSysCaptureRead_of_ok hlen hch ⟨hmin, hmax⟩ hres ⟨hfrom, hto⟩ hk⟩
  case commit =>
    refine (if_neg (by omega)).trans ((if_neg (genAnswers hgen)).trans ((if_neg (by simp [hstaged])).trans ((if_neg (by simp [hkept])).trans ?_)))
    simp only [hchecks] <;> rfl
  case probe =>
    have hfound : findIdx (fun e => !State.probeEntryOk e ((s.newest.takeAll (s.shadowOf c.sess)).prm 0x050F))
        ((List.range (u16 c.params 0)).map (fun i => slice c.params (4 + 8 * i) 8)) = none :=
      findIdx_none _ _ fun e he => by
        obtain ⟨i, hi, rfl⟩ := List.mem_map.1 he
        rw [hentries i (List.mem_range.1 hi)]
        rfl
    refine (if_neg (by omega)).trans ((if_neg (by omega)).trans ?_)
    simp only [hfound] <;> rfl

end Sys2Proof.Proofs
end

section
/-! The GNSS block: its opcodes (R128, R130 to R137), and what happens at antennas, channels, snapshots and surveys (R110, R111, R131,
R133, R135, R136). -/

namespace Sys2Proof.Proofs

open Sys2Proof.Machine Sys2Proof.Safety Sys2Proof.Laws

/-! ### Opcodes -/

section
variable {c : Cmd} {s : State}

/-- A signal named in range, with its reserved byte 0, passes the range test of GNS_EXCLUDE and GNS_READMIT. -/
theorem signal_in_range {b : Bytes} (hsig : sigOk (u8 b 0) (u8 b 1) (u8 b 2) = true) (hres : u8 b 3 = 0) :
    ¬(sigOk (u8 b 0) (u8 b 1) (u8 b 2) = false ∨ u8 b 3 ≠ 0) := by simp [hsig, hres]

theorem runGnsMeasRead_of_set {m : MeasSet} (hlen : c.params.length = 12) (hfirst : u16 c.params 8 ≤ 191)
    (hcount : 1 ≤ u16 c.params 10 ∧ u16 c.params 10 ≤ 126)
    (hset : (if u64 c.params 0 = 0 then s.gns.sets.head? else (s.gns.sets.take 2).find? (fun m => m.epoch == u64 c.params 0)) = some m) :
    s.runGnsMeasRead c =
      (s, .fin (Ans.ok (setHeader m ++ ((m.recs.drop (u16 c.params 8)).take (u16 c.params 10)).flatMap recBytesOf))) := by
  rw [State.runGnsMeasRead, if_neg (by omega), if_neg (by omega), if_neg (by omega)]
  simp only [hset]
  rfl

theorem runGnsExclude_of_ok (hlen : c.params.length = 4) (hsig : sigOk (u8 c.params 0) (u8 c.params 1) (u8 c.params 2) = true)
    (hres : u8 c.params 3 = 0) : s.runGnsExclude c =
      (State.raiseExcluded ((State.namedKeys c.params).filter (fun k => !State.suspectSig s.gns.integ k))
        (s.mapGns (fun g => { g with integ := (State.namedKeys c.params).foldl (fun t k => State.flagSig 64 k t) g.integ })),
        .fin (Ans.ok [])) := by
  rw [State.runGnsExclude, if_neg (by omega), if_neg (signal_in_range hsig hres)]
  rfl

theorem runGnsReadmit_of_ok (hlen : c.params.length = 4) (hsig : sigOk (u8 c.params 0) (u8 c.params 1) (u8 c.params 2) = true)
    (hres : u8 c.params 3 = 0) :
    s.runGnsReadmit c = ((State.namedKeys c.params).foldl (fun s k => s.readmit 1 k) s, .fin (Ans.ok [])) := by
  rw [State.runGnsReadmit, if_neg (by omega), if_neg (signal_in_range hsig hres)]
  rfl

/-- A claimed, idle snapshot buffer with sound fields leaves GNS_SNAP_START only its banks and its instant to judge. -/
theorem runGnsSnapStart_of_fields (hlen : c.params.length = 12) (hclaim : s.prm 0x0220 = 1) (hstreams : 1 ≤ u8 c.params 0 ∧ u8 c.params 0 ≤ 15)
    (hres : u16 c.params 2 = 0) (hms : 1 ≤ u8 c.params 1 ∧ u8 c.params 1 ≤ 32) (hidle : s.gns.cap = none) : s.runGnsSnapStart c =
      if s.snapshotLost then (s, .fin (Ans.bare stFault 0))
      else if u64 c.params 4 = 0 then
        (s.mapGns (fun g => { g with cap := some ⟨u8 c.params 0, u8 c.params 1, none, c.sess, c.acc⟩ }), .later)
      else if s.timeValid = false then (s, .refuse (Ans.bare stDenied 0))
      else if u64 c.params 4 < s.clk.count + 20000000 ∨ s.clk.count + 60000000000 < u64 c.params 4 then (s, .refuse (Ans.bare stBadParam 2))
      else (s.mapGns (fun g => { g with
        cap := some ⟨u8 c.params 0, u8 c.params 1, some (s.now + (u64 c.params 4 - s.clk.count)), c.sess, c.acc⟩ }), .later) := by
  rw [State.runGnsSnapStart, if_neg (by omega), if_neg (by omega), if_neg (by omega), if_neg (by omega), if_neg (by simp [hidle])]
  rfl

theorem runGnsSnapStart_of_start (hlen : c.params.length = 12) (hclaim : s.prm 0x0220 = 1) (hstreams : 1 ≤ u8 c.params 0 ∧ u8 c.params 0 ≤ 15)
    (hres : u16 c.params 2 = 0) (hms : 1 ≤ u8 c.params 1 ∧ u8 c.params 1 ≤ 32) (hidle : s.gns.cap = none)
    (hsound : s.snapshotLost = false) (hstart : u64 c.params 4 = 0 ∨ s.timeValid = true ∧ s.clk.count + 20000000 ≤ u64 c.params 4 ∧
      u64 c.params 4 ≤ s.clk.count + 60000000000) : s.runGnsSnapStart c =
      (s.mapGns (fun g => { g with cap := some ⟨u8 c.params 0, u8 c.params 1,
        if u64 c.params 4 = 0 then none else some (s.now + (u64 c.params 4 - s.clk.count)), c.sess, c.acc⟩ }), .later) := by
  rw [runGnsSnapStart_of_fields hlen hclaim hstreams hres hms hidle, if_neg (by simp [hsound])]
  by_cases hnow : u64 c.params 4 = 0
  · simp only [if_pos hnow]
  · obtain ⟨hvalid, hsoon, hlate⟩ := hstart.resolve_left hnow
    rw [if_neg hnow, if_neg (by simp [hvalid]), if_neg (by omega)]
    simp only [if_neg hnow]

theorem runGnsSnapStart_of_lost (hlen : c.params.length = 12) (hclaim : s.prm 0x0220 = 1) (hstreams : 1 ≤ u8 c.params 0 ∧ u8 c.params 0 ≤ 15)
    (hres : u16 c.params 2 = 0) (hms : 1 ≤ u8 c.params 1 ∧ u8 c.params 1 ≤ 32) (hidle : s.gns.cap = none) (hlost : s.snapshotLost = true) :
    s.runGnsSnapStart c = (s, .fin (Ans.bare stFault 0)) :=
  (runGnsSnapStart_of_fields hlen hclaim hstreams hres hms hidle).trans (if_pos hlost)

/-- No sample of a capture that starts later has been taken (R132). -/
theorem captureRuns_of_later (h : ∀ k t, s.gns.cap = some k → k.start = some t → s.now < t) : s.captureRuns = false := by
  unfold State.captureRuns
  cases hcap : s.gns.cap with
  | none => rfl
  | some k =>
    cases hstart : k.start with
    | none => simp only [hstart]
    | some t =>
      simp only [hstart]
      exact decide_eq_false (Nat.not_le.2 (h k t hcap hstart))

theorem runGnsSnapRead_of_held {d : SnapDone} (hlen : c.params.length = 6) (hoff : u32 c.params 0 % 16 = 0) (hsize : u16 c.params 4 % 16 = 0)
    (hrange : 16 ≤ u16 c.params 4 ∧ u16 c.params 4 ≤ 4064)
    (hlater : ∀ k t, s.gns.cap = some k → k.start = some t → s.now < t) (hheld : s.gns.capEnd = some d)
    (hfits : u32 c.params 0 + u16 c.params 4 ≤ snapBytes d.streams d.ms) : s.runGnsSnapRead c =
      (s, .fin (if s.poisonedIn (u32 c.params 0) (u32 c.params 0 + u16 c.params 4) then Ans.bare stFault 0
        else Ans.ok (Memory.bytes s.gns.buf (u32 c.params 0) (u16 c.params 4)))) := by
  rw [State.runGnsSnapRead, if_neg (by omega), if_neg (by omega), if_neg (by simp [captureRuns_of_later hlater])]
  simp only [hheld]
  rw [if_neg (by omega)]
  split <;> rfl

theorem runGnsSnapSolve_of_held (hlen : c.params = []) (hcap : s.gns.cap = none) (hsolve : s.gns.solve = none) (hsound : s.snapshotLost = false)
    (hheld : s.gns.capEnd ≠ none) :
    s.runGnsSnapSolve c = (s.mapGns (fun g => { g with solve := some (c.sess, c.acc) }), .later) := by
  have hidle : s.captureRuns = false := captureRuns_of_later fun k t hk => by simp [hcap] at hk
  rw [State.runGnsSnapSolve, if_neg (by simp [hlen]), if_neg (by simp [hidle, hsolve]), if_neg (by simp [hsound]), if_neg hheld]

theorem runGnsSurveyStart_of_ok (hlen : c.params = []) (hmode : s.prm 0x0218 ≠ 0) (hfree : ∀ t who, s.gns.survey = some (t, who) → who = none) :
    s.runGnsSurveyStart c =
      (s.mapGns (fun g => { g with survey := some (s.now, some (c.sess, c.acc)), acc := ⟨0, (0, 0, 0), 0⟩ }), .later) := by
  rw [State.runGnsSurveyStart, if_neg (by simp [hlen]), if_neg hmode]
  cases hsurvey : s.gns.survey with
  | none => rfl
  | some w =>
    obtain ⟨t, who⟩ := w
    rw [hfree t who hsurvey]
    rfl

theorem runGnsBaselineMeasure_of_ok (hlen : c.params.length = 4) (hrange : 30 ≤ u32 c.params 0 ∧ u32 c.params 0 ≤ 3600) (hpos : s.basePos ≠ none)
    (hquiet : s.gns.alarm = []) (hfree : s.gns.baseline = none) : s.runGnsBaselineMeasure c =
      (s.mapGns (fun g => { g with baseline := some (s.now + u32 c.params 0 * 1000000000, c.sess, c.acc, false) }), .later) := by
  rw [State.runGnsBaselineMeasure, if_neg (by omega), if_neg (by omega), if_neg (by simp [hpos, hquiet, hfree])]

end

/-- Settles O3: each opcode's meaning passes its refusals and ends with the stated effect and answer. -/
theorem gnssCommandsComplete : Obligations.GnssCommandsComplete := by
  unfold Obligations.GnssCommandsComplete
  exact ⟨queryRow fun c s hlen => if_neg (not_not_intro (congrArg List.length hlen)),
    fun m => queryRow fun c s ⟨hlen, hfirst, hmin, hmax, hset⟩ => runGnsMeasRead_of_set hlen hfirst ⟨hmin, hmax⟩ hset,
    workRow fun c s _ ⟨hlen, hsig, hres⟩ => runGnsExclude_of_ok hlen hsig hres,
    workRow fun c s _ ⟨hlen, hsig, hres⟩ => runGnsReadmit_of_ok hlen hsig hres,
    workRow fun c s _ ⟨hlen, hclaim, hs, hs', hres, hm, hm', hidle, hsound, hstart⟩ =>
      runGnsSnapStart_of_start hlen hclaim ⟨hs, hs'⟩ hres ⟨hm, hm'⟩ hidle hsound hstart,
    workRow fun c s _ ⟨hlen, hclaim, hs, hs', hres, hm, hm', hidle, hlost⟩ =>
      runGnsSnapStart_of_lost hlen hclaim ⟨hs, hs'⟩ hres ⟨hm, hm'⟩ hidle hlost,
    fun d => queryRow fun c s ⟨hlen, hoff, hsize, hmin, hmax, hlater, hheld, hfits⟩ =>
      runGnsSnapRead_of_held hlen hoff hsize ⟨hmin, hmax⟩ hlater hheld hfits,
    workRow fun c s _ ⟨hlen, hcap, hsolve, hsound, hheld⟩ => runGnsSnapSolve_of_held hlen hcap hsolve hsound hheld,
    workRow fun c s _ ⟨hlen, hmode, hfree⟩ => runGnsSurveyStart_of_ok hlen hmode hfree,
    workRow fun c s _ ⟨hlen, hmin, hmax, hpos, hquiet, hfree⟩ => runGnsBaselineMeasure_of_ok hlen ⟨hmin, hmax⟩ hpos hquiet hfree⟩

/-! ### Events -/

section
variable {u : State}

theorem snapshotCapture_of_done {c : SnapCap} {t : Nat} {wave : List (Nat × Byte)} (hcap : u.gns.cap = some c) (hstart : c.start = some t)
    (hlast : t + c.ms * 1000000 ≤ u.now) : u.snapshotCapture wave =
      (((u.mapGns (fun g => { g with
        cap := none, capEnd := some ⟨u.clk.count - (u.now - t), u.timeValid, c.streams, c.ms⟩
        buf := Memory.writeAll (wave.filter (fun (e : Nat × Byte) => decide (e.1 < snapBytes c.streams c.ms))) [] })).mapMem (fun m => { m with
          banks := State.cleanse 0 (snapBytes c.streams c.ms) m.banks })).completeOk c.sess c.acc
          (le 8 (u.clk.count - (u.now - t)) ++ le 4 (snapBytes c.streams c.ms) ++ le 1 c.streams ++ le 1 c.ms ++ le 2 (b2n u.timeValid))) := by
  simp only [State.snapshotCapture, hcap, hstart, if_neg (Nat.not_lt.2 hlast)]
  rfl

/-- The solve's RESULT: 04h with no L1-band stream, 02h with no ephemeris, else the solver's own (R133). -/
theorem snapshotSolveDone_of_solving {n a r sats time : Nat} {xyz : Int × Int × Int} {tSig pSig : Nat} (hfree : u.jobStuck 6 0 = false)
    (hsolve : u.gns.solve = some (n, a)) : u.snapshotSolveDone r sats time xyz tSig pSig =
      (u.mapGns (fun g => { g with solve := none })).completeOk n a
        (le 1 (if (u.gns.capEnd.any fun d => !bit d.streams 0 && !bit d.streams 2) then 4 else if u.gns.eph = [] then 2
            else if r ≤ 3 then r else 0) ++ le 1 sats ++ le 2 0 ++ le 8 time ++
          leS 8 xyz.1 ++ leS 8 xyz.2.1 ++ leS 8 xyz.2.2 ++ le 4 tSig ++ le 4 pSig ++ le 4 0) := by
  rw [State.snapshotSolveDone, if_neg (by simp [hfree])]
  simp only [hsolve]
  cases u.gns.capEnd <;> rfl

theorem surveyEnd_of_met {t : Nat} {who : Option (Nat × Nat)} {xyz : Int × Int × Int} {sigma : Nat} (hsurvey : u.gns.survey = some (t, who))
    (hlong : u.prm 0x021C * 1000000000 ≤ u.now - t) (hwithin : u.gns.acc.within (u.prm 0x021D) = true) : u.surveyEnd xyz sigma =
      let x := u.gns.acc.mean xyz
      let d := u.gns.acc.sigma sigma
      let v := (u.mapGns (fun g => { g with survey := none, surveyed := some (x.1, x.2.1, x.2.2, d) })).raise0 0x020A .notice 0 0
      match (generalizing := false) who with
      | none => v
      | some (n, a) => v.completeOk n a (le 1 0 ++ zeros 3 ++ leS 8 x.1 ++ leS 8 x.2.1 ++ leS 8 x.2.2 ++ le 4 d) := by
  simp only [State.surveyEnd, hsurvey, hlong, hwithin, decide_true, Bool.and_true]
  cases who <;> rfl

theorem surveyEnd_of_late {t : Nat} {who : Option (Nat × Nat)} {xyz : Int × Int × Int} {sigma : Nat} (hsurvey : u.gns.survey = some (t, who))
    (hlong : 4 * (u.prm 0x021C * 1000000000) ≤ u.now - t) (hwithin : u.gns.acc.within (u.prm 0x021D) = false) : u.surveyEnd xyz sigma =
      let x := u.gns.acc.mean xyz
      let d := u.gns.acc.sigma sigma
      let v := (u.mapGns (fun g => { g with survey := none })).raise0 0x020A .notice 1 0
      match (generalizing := false) who with
      | none => v
      | some (n, a) => v.completeOk n a (le 1 1 ++ zeros 3 ++ leS 8 x.1 ++ leS 8 x.2.1 ++ leS 8 x.2.2 ++ le 4 d) := by
  simp only [State.surveyEnd, hsurvey, hlong, hwithin, decide_true, Bool.and_false]
  cases who <;> rfl

theorem baselineDone_of_due {t n a : Nat} {alarmed : Bool} {e no up b1 b5 : Int} {sigma : Nat}
    (hbase : u.gns.baseline = some (t, n, a, alarmed)) (hlong : t ≤ u.now) (hfree : u.jobStuck 6 0 = false) :
    u.baselineDone e no up sigma b1 b5 =
      if alarmed then (u.mapGns (fun g => { g with baseline := none })).complete n a (Ans.bare stFault 0)
      else (u.mapGns (fun g => { g with baseline := none })).completeOk n a
        (leS 4 e ++ leS 4 no ++ leS 4 up ++ le 4 sigma ++ leS 2 b1 ++ leS 2 b5) := by
  simp only [State.baselineDone, hbase]
  rw [if_neg (by simp [hfree]; omega)]

end

/-- Settles O4: each event's meaning meets its conditions and acts as stated. -/
theorem gnssEventsAct : Obligations.GnssEventsAct := by
  unfold Obligations.GnssEventsAct
  refine ⟨fun c t wave => nativeRow (State.snapshotCapture wave) fun u _ ⟨hcap, hstart, hlast⟩ => snapshotCapture_of_done hcap hstart hlast,
    fun n a r sats time xyz tSig pSig => nativeRow (State.snapshotSolveDone r sats time xyz tSig pSig)
      fun u _ ⟨hfree, hsolve, hr, heph, hstreams⟩ => ?solved,
    fun n a d r sats time xyz tSig pSig => nativeRow (State.snapshotSolveDone r sats time xyz tSig pSig)
      fun u _ ⟨hfree, hsolve, hcap, h0, h2⟩ => ?noL1,
    fun t who xyz sigma => nativeInRunRow (State.surveyEnds xyz sigma) fun u hrun ⟨hsurvey, hlong, hwithin⟩ =>
      (if_neg (by simp [hrun.native])).trans (surveyEnd_of_met hsurvey hlong hwithin),
    fun t who xyz sigma => nativeInRunRow (State.surveyEnds xyz sigma) fun u hrun ⟨hsurvey, hlong, hwithin⟩ =>
      (if_neg (by simp [hrun.native])).trans (surveyEnd_of_late hsurvey hlong hwithin),
    fun t n a alarmed e no up sigma b1 b5 => nativeRow (State.baselineDone e no up sigma b1 b5)
      fun u _ ⟨hbase, hlong, hfree⟩ => baselineDone_of_due hbase hlong hfree,
    fun cands => eventActs _ (fun _ _ => rfl) fun u hrun => inRun_of hrun.power hrun.running,
    fun ant hant => runRow (State.antOpenEv ant) (fun u _ ⟨hbias, hcut, hopen⟩ => if_pos ⟨hbias, hcut, hopen⟩) fun _ _ => if_pos hant,
    fun ant hant => runRow (State.antShortEv ant) (fun u _ ⟨hbias, hcut⟩ => if_pos ⟨hbias, hcut⟩) fun _ _ => if_pos hant⟩
  case solved =>
    have hband : (u.gns.capEnd.any fun d => !bit d.streams 0 && !bit d.streams 2) = false := by
      cases hd : u.gns.capEnd with
      | none => rfl
      | some d => rcases hstreams d hd with h | h <;> simp [h]
    rw [snapshotSolveDone_of_solving hfree hsolve, if_neg (by simp [hband]), if_neg heph, if_pos hr]
  case noL1 =>
    rw [snapshotSolveDone_of_solving hfree hsolve, if_pos (by simp [hcap, h0, h2])]

end Sys2Proof.Proofs
end

section
/-! The time unit: reading and setting the time, and its events (R36, R173, R177 to R187). -/

namespace Sys2Proof.Proofs

open Sys2Proof.Machine Sys2Proof.Safety Sys2Proof.Laws

section
variable {u : State}

theorem timeFreerun_of_past {e : Nat} (hvalid : u.timeValid = true) (hlocked : u.clk.state ≠ .locked) (he : u.timeErrFine = some e)
    (hpast : 1000000 * 200000000000000000000 < e) :
    u.timeFreerun = (u.mapClk (fun c => { c with state := .freerun })).raise0 0x0403 .fault 1 0 := by
  simp only [State.timeFreerun, he]
  exact if_pos ⟨hvalid, hlocked, decide_eq_true hpast⟩

/-- A slew starts for an offset other than 0 (R180). -/
theorem startSlew_of_ne {d : Int} (hd : d ≠ 0) : u.startSlew d = u.mapClk (fun c => { c with
    offset := none, slew := d, slewOn := true, slewFrac := 0, align := c.align || (!u.timeValid && decide (d.natAbs ≤ 1000000))
    state := if d.natAbs ≤ 1000000 then .slewing else .freerun }) := if_neg hd

theorem timeOffset_of_within {d : Int} (hoffset : u.clk.offset = some d) (hwithin : d.natAbs ≤ u.prm 0x0406) :
    u.timeOffset = u.startSlew d := by
  simp only [State.timeOffset, hoffset]
  exact if_neg (Nat.not_lt.2 hwithin)

theorem timeOffset_of_beyond {d : Int} (hoffset : u.clk.offset = some d) (hbeyond : u.prm 0x0406 < d.natAbs) :
    u.timeOffset = (u.startSlew d).raise0 0x0404 .warning (State.errCodeOf (some d.natAbs)) (ofSigned 64 d) := by
  simp only [State.timeOffset, hoffset]
  exact if_pos hbeyond

theorem timeStep_of_armed {d : Int} (hlead : u.follows = false) (hstep : u.clk.step = some d) : u.timeStep =
    ((u.mapClk (fun c => { c with count := ((c.count : Int) - d).toNat, step := none, offset := none })).raise0
      0x0405 .notice (State.errCodeOf (some d.natAbs)) (ofSigned 64 d)).enterLocked.checkAlign := by
  simp only [State.timeStep, hlead, Bool.false_eq_true, if_false, hstep]

theorem leapSecond_of_due {n : Int} {t0 : Nat} (hann : u.clk.leapAnn = some (n, t0))
    (hdue : (if u.clk.leap < n then t0 + 1000000000 else t0) ≤ u.clk.count) :
    u.leapSecond = (u.mapClk (fun c => { c with leap := n, leapAnn := none })).raise0 0x0409 .notice (ofSigned 8 n) 0 := by
  simp only [State.leapSecond, hann]
  exact if_neg (Nat.not_lt.2 hdue)

theorem refinRetaken_of_not (h : u.prm 0x0401 ≠ 1 ∨ u.clk.refin = true) : u.refinRetaken = u :=
  if_neg fun ⟨hasked, hlost⟩ => h.elim (fun h => h hasked) fun h => by simp [h] at hlost

theorem ppsPulse_of_due (hon : u.prm 0x0407 = 1) (hwas : u.clk.wasValid = true) (hphase : u.ppsPhase 0 = true)
    (hlast : ∀ t, u.clk.ppsLast = some t → 500000000 ≤ u.now - t) : u.ppsPulse =
      (u.mapClk (fun c => { c with ppsOn := true, ppsLast := some u.now })).emit
        (.pps (u.prm 0x0408) (if u.prm 0x040B ≤ 47 then some (u.prm 0x040B) else none)) := by
  rw [State.ppsPulse, if_pos ⟨hon, hwas, hphase⟩]
  cases hpps : u.clk.ppsLast with
  | none => rfl
  | some t =>
    have hlong := hlast t hpps
    simp only [decide_eq_false (Nat.not_lt.2 hlong)]
    rfl

theorem ppsOkMidpoint_of_phase (hphase : u.ppsPhase 500000000 = true) :
    u.ppsOkMidpoint = u.mapClk (fun c => { c with ppsOk := c.state == .locked || c.state == .holdover }) := by
  rw [State.ppsOkMidpoint, if_pos hphase]
  refine congrArg u.mapClk (funext fun c => ?_)
  cases c.state <;> rfl

theorem calendarTrim_of_due (hlocked : u.clk.state = .locked) (hlast : ∀ t, u.clk.trimAt = some t → 60000000000 ≤ u.now - t) :
    u.calendarTrim = (u.draw 16).2.mapClk (fun c => { c with
      calCopy := some 30518, cal := u.clk.count * 32768 / 1000000000, calAt := u.now
      calTrim := some (toSigned 16 (u.draw 16).1), trimAt := some u.now }) := by
  have hdue : (match u.clk.trimAt with | none => true | some t => decide (60000000000 ≤ u.now - t)) = true := by
    cases htrim : u.clk.trimAt with
    | none => rfl
    | some t => exact decide_eq_true (hlast t htrim)
  exact if_pos ⟨hlocked, hdue⟩

/-- The realignment ends with a step of at most 10 us (R36). -/
theorem tickRealign_of_last {off : Int} (hoff : u.sys.misalign = some off) (hlast : off.natAbs ≤ 10000) : u.tickRealign =
    ((u.mapSys (fun y => { y with misalign := none })).mapAir (fun a => { a with jump := true })).raise0 0x008C .notice 1 0 := by
  simp only [State.tickRealign, hoff]
  exact if_pos (by omega)

theorem tickRealign_of_more {off k : Int} (hoff : u.sys.misalign = some off) (hk : max (-10000) (min 10000 off) = k) (hmore : off ≠ k) :
    u.tickRealign = u.mapSys (fun y => { y with misalign := some (off - k) }) := by
  simp only [State.tickRealign, hoff, hk]
  exact if_neg hmore

theorem runTimeSet_of_ok {c : Cmd} (hlen : c.params.length = 16) (hleap : 0 ≤ i8 c.params 12) (hres : rd c.params 13 3 = 0)
    (hfree : u.timeValid = false) : u.runTimeSet c = (u.mapClk (fun k => { k with
      count := u64 c.params 0, leap := i8 c.params 12, state := .calendar, e0 := some (u32 c.params 8), since := u.now,
      d := if k.refin then u.prm 0x0402 else 50, quad := !k.refin
      calCopy := some (u32 c.params 8), cal := u64 c.params 0 * 32768 / 1000000000, calAt := u.now,
      slew := 0, slewOn := false, slewFrac := 0, consec := 0, offset := none, step := none }), .fin (Ans.ok [])) := by
  rw [State.runTimeSet, if_neg (by omega), if_neg (by omega), if_neg (by simp [hfree])]
  rfl

end

/-- Settles O5: each command and event of the time unit meets its conditions and acts as stated. -/
theorem timeRowsAct : Obligations.TimeRowsAct := by
  unfold Obligations.TimeRowsAct
  exact ⟨queryRow fun c s hlen => if_neg (not_not_intro (congrArg List.length hlen)),
    workRow fun c s _ ⟨hlen, hleap, hres, hfree⟩ => runTimeSet_of_ok hlen hleap hres hfree,
    runRow State.holdoverExpiry fun u _ hdue => if_pos hdue,
    fun e => runRow State.timeFreerun fun u _ ⟨hvalid, hlocked, he, hpast⟩ => timeFreerun_of_past hvalid hlocked he hpast,
    fun d => runRow State.timeOffset fun u _ ⟨hoffset, hd, hwithin⟩ => (timeOffset_of_within hoffset hwithin).trans (startSlew_of_ne hd),
    fun d => runRow State.timeOffset fun u _ ⟨hoffset, hbeyond⟩ =>
      (timeOffset_of_beyond hoffset hbeyond).trans (by rw [startSlew_of_ne (by omega)]),
    fun d => runRow State.timeStep fun u _ ⟨hlead, hstep⟩ => timeStep_of_armed hlead hstep,
    runRow State.slewComplete fun u _ ⟨hon, hslew, hstate⟩ => (if_pos ⟨hon, hslew⟩).trans (if_pos (.inl hstate)),
    fun n t0 => runRow State.leapSecond fun u _ ⟨hann, hdue⟩ => leapSecond_of_due hann hdue,
    runRow State.refinLost fun u _ hrefin => if_pos hrefin,
    runRow State.refinRetaken fun u _ hasked => if_pos hasked,
    runRow State.refinRetaken fun u _ hnot => refinRetaken_of_not hnot,
    runRow State.ppsPulse fun u _ ⟨hon, hwas, hphase, hlast⟩ => ppsPulse_of_due hon hwas hphase hlast,
    runRow State.ppsOkMidpoint fun u _ hphase => ppsOkMidpoint_of_phase hphase,
    runRow State.calendarTrim fun u _ ⟨hlocked, hlast⟩ => calendarTrim_of_due hlocked hlast,
    fun off => runRow State.tickRealign fun u _ ⟨hoff, hlast⟩ => tickRealign_of_last hoff hlast,
    fun off => runRow State.tickRealign fun u _ ⟨hoff, hmore⟩ => tickRealign_of_more hoff (by omega) (by omega),
    fun off => runRow State.tickRealign fun u _ ⟨hoff, hmore⟩ => (tickRealign_of_more (k := -10000) hoff (by omega) (by omega)).trans
      (by rw [Int.sub_neg])⟩

end Sys2Proof.Proofs
end

section
/-! The fixes block: its opcodes, an observation record that arrives or does not, and the instant of a mode change (R143, R150, R156, R161,
R165, R168). -/

namespace Sys2Proof.Proofs

open Sys2Proof.Machine Sys2Proof.Safety Sys2Proof.Laws

/-! ### Opcodes -/

section
variable {c : Cmd} {s : State}

theorem runFixRead_of_ok (hlen : c.params.length = 4) (hcount : 1 ≤ u8 c.params 1 ∧ u8 c.params 1 ≤ 46)
    (hrange : u8 c.params 0 + u8 c.params 1 ≤ 256) (hres : u16 c.params 2 = 0) : s.runFixRead c =
      (s, .fin (Ans.ok ((List.range (u8 c.params 1)).flatMap (fun i =>
        if (s.robot? (u8 c.params 0 + i)).isNone then fixBytes false (noFix (u8 c.params 0 + i) 5)
        else match (s.fr (u8 c.params 0 + i)).newest with
        | some f => fixBytes (bit c.agreed 69) f
        | none => fixBytes false (noFix (u8 c.params 0 + i) 0))))) := by
  rw [State.runFixRead, if_neg (by omega), if_neg (by omega)]
  rfl

theorem runFixStateRead_of_ok (hlen : c.params.length = 4) (hcount : 1 ≤ u8 c.params 1 ∧ u8 c.params 1 ≤ 128)
    (hrange : u8 c.params 0 + u8 c.params 1 ≤ 256) (hres : u16 c.params 2 = 0) : s.runFixStateRead c =
      (s, .fin (Ans.ok ((List.range (u8 c.params 1)).flatMap (fun i =>
        let r := u8 c.params 0 + i
        let x := s.fr r
        if (s.robot? r).isNone then le 1 r ++ [0xFF] ++ zeros 14
        else
          let n : FixRec := x.newest.getD (noFix r 0)
          le 1 r ++ le 1 (b2n x.base) ++ le 1 x.rate ++ le 1 n.typ ++ le 1 n.fixedAmb ++ le 1 (b2n x.pend.isSome) ++ le 2 0 ++
            le 4 x.corsIn ++ le 4 x.corsMissed)))) := by
  rw [State.runFixStateRead, if_neg (by omega), if_neg (by omega)]
  rfl

theorem runFixFilterReset_of_ok (hlen : c.params.length = 4) (hres : rd c.params 1 3 = 0) (hrobot : (s.robot? (u8 c.params 0)).isSome)
    (hbase : (s.fr (u8 c.params 0)).base = true) : s.runFixFilterReset c =
      (s.mapFr (u8 c.params 0) (fun x => { x with restarts := x.restarts ++ [State.epochAt x.rate (s.epochNo x.rate + 1)] }),
        .fin (Ans.ok [])) := by
  rw [State.runFixFilterReset, if_neg (by omega), if_neg (by omega), if_neg (by simpa using Option.isSome_iff_ne_none.1 hrobot),
    if_neg (by simp [hbase])]
  rfl

/-- The mode and rate of FIX_MODE_SET are in range. -/
theorem modeFields_in_range {b : Bytes} (hmode : u8 b 1 ≤ 1) (hres : u8 b 3 = 0)
    (hrate : if u8 b 1 = 1 then [1, 2, 5, 10, 20].contains (u8 b 2) = true else u8 b 2 = 0) :
    ¬(2 ≤ u8 b 1 ∨ u8 b 3 ≠ 0 ∨ ((u8 b 1 == 1) = true ∧ [1, 2, 5, 10, 20].contains (u8 b 2) = false) ∨
      ((u8 b 1 == 1) = false ∧ u8 b 2 ≠ 0)) := by
  by_cases hbase : u8 b 1 = 1
  · rw [if_pos hbase] at hrate
    rintro (h | h | ⟨-, h⟩ | ⟨h, -⟩)
    · omega
    · exact h hres
    · simp only [hrate, reduceCtorEq] at h
    · simp [hbase] at h
  · rw [if_neg hbase] at hrate
    simp only [hrate, hres, beq_eq_false_iff_ne.2 hbase]
    simpa using hmode

theorem runFixModeSet_of_same {x : Robot} (hlen : c.params.length = 4) (hmode : u8 c.params 1 = b2n (s.fr (u8 c.params 0)).base)
    (hsame : u8 c.params 2 = (s.fr (u8 c.params 0)).rate) (hres : u8 c.params 3 = 0)
    (hrate : if u8 c.params 1 = 1 then [1, 2, 5, 10, 20].contains (u8 c.params 2) = true else u8 c.params 2 = 0)
    (hbits : missingBit c.agreed ((if u8 c.params 1 = 1 then [67] else []) ++ (if u8 c.params 2 = 20 then [68] else [])) = none)
    (hx : s.robot? (u8 c.params 0) = some x) (hpend : (s.fr (u8 c.params 0)).pend = none) :
    s.runFixModeSet c = (s, .fin (Ans.ok (le 8 0))) := by
  have hbase : (s.fr (u8 c.params 0)).base = (u8 c.params 1 == 1) := by
    rw [hmode]
    cases (s.fr (u8 c.params 0)).base <;> rfl
  have hle : u8 c.params 1 ≤ 1 := by
    rw [hmode]
    cases (s.fr (u8 c.params 0)).base <;> decide
  rw [State.runFixModeSet, if_neg (by omega), if_neg (modeFields_in_range hle hres hrate)]
  simp only [beq_iff_eq, hbits, hx]
  rw [if_neg (by simp [hpend]), if_pos ⟨hbase, .inr hsame.symm⟩]
  rfl

theorem runFixModeSet_of_change {x : Robot} {m : SlotMap} (hlen : c.params.length = 4) (hmode : u8 c.params 1 ≤ 1) (hres : u8 c.params 3 = 0)
    (hrate : if u8 c.params 1 = 1 then
        [1, 2, 5, 10, 20].contains (u8 c.params 2) = true ∧ s.rateMismatch (u8 c.params 2) = false ∧ x.legacy = false
      else u8 c.params 2 = 0)
    (hbits : missingBit c.agreed ((if u8 c.params 1 = 1 then [67] else []) ++ (if u8 c.params 2 = 20 then [68] else [])) = none)
    (hx : s.robot? (u8 c.params 0) = some x) (hpend : (s.fr (u8 c.params 0)).pend = none)
    (hchange : (s.fr (u8 c.params 0)).base ≠ (u8 c.params 1 == 1) ∨
      (s.fr (u8 c.params 0)).base = true ∧ (s.fr (u8 c.params 0)).rate ≠ u8 c.params 2)
    (hprice : (u8 c.params 1 = 1 ∧ ((s.fr (u8 c.params 0)).base = false ∨ (s.fr (u8 c.params 0)).rate < u8 c.params 2)) →
      s.overBudget (s.withModeChange c).siteAdmit = none) (hplace : s.placeLengths (s.withModeChange c).siteMap = .ok m) :
    s.runFixModeSet c = ((s.withModeChange c).acceptMap m, .later) := by
  have hrange : if u8 c.params 1 = 1 then [1, 2, 5, 10, 20].contains (u8 c.params 2) = true else u8 c.params 2 = 0 := by
    split at hrate
    · next hbase => exact (if_pos hbase).symm ▸ hrate.1
    · next hbase => exact (if_neg hbase).symm ▸ hrate
  have hother : ¬((s.fr (u8 c.params 0)).base = (u8 c.params 1 == 1) ∧
      ((u8 c.params 1 == 1) = false ∨ (s.fr (u8 c.params 0)).rate = u8 c.params 2)) := by
    rintro ⟨hbase, hsame⟩
    rcases hchange with h | ⟨hb, h⟩
    · exact h hbase
    · rw [← hbase, hb] at hsame
      exact hsame.elim (by simp) h
  have hsound : u8 c.params 1 = 1 → s.rateMismatch (u8 c.params 2) = false ∧ x.legacy = false := fun h => by
    rw [if_pos h] at hrate
    exact hrate.2
  rw [State.runFixModeSet, if_neg (by omega), if_neg (modeFields_in_range hmode hres hrange)]
  simp only [beq_iff_eq, hbits, hx]
  rw [if_neg (by simp [hpend]), if_neg hother, if_neg (fun h => by simp [(hsound h.2).2] at h), if_neg (fun h => by simp [(hsound h.1).1] at h)]
  have hfree : (if u8 c.params 1 = 1 ∧ ((s.fr (u8 c.params 0)).base = false ∨ (s.fr (u8 c.params 0)).rate < u8 c.params 2) then
      s.overBudget (s.withModeChange c).siteAdmit else none) = none := by
    split
    · next h => exact hprice h
    · rfl
  simp only [hfree, hplace]

end

/-! ### Frames and epochs -/

section
variable {u : State}

theorem corAirFrame_of_verified {f : AirRx} {t : State} {i : SlotItem} {r : Nat} {x : Robot}
    (hfront : u.airFront .cor 21 (u.psduMax f.mcs) f = .pass t i) (hr : i.robot = some r) (hx : t.robot? r = some x)
    (hctr : State.counterCheck x.rxCtr x.rxLast f.payload f.ctr f.micOk = none) :
    u.corAirFrame f = ((t.frameVerified r f).parcelsMissed r).corFrame r f.payload := by
  simp only [State.corAirFrame, hfront, hr, hx, hctr]

theorem corMissed_of_due {r : Nat} {k : SlotItem} (hbase : (u.fr r).base = true) (hrate : (u.fr r).rate ≠ 0)
    (hitem : u.air.map.items.find? (fun i => i.typ == .cor && i.robot == some r && i.period == ratePeriod u.sys.slots (u.fr r).rate) = some k)
    (htick : u.tickNo ≠ 0) (hslot : (u.tickNo - 1) % max 1 (ratePeriod u.sys.slots (u.fr r).rate) = k.offset)
    (hlast : (u.fr r).lastEpoch ≠ some ((u.tickNo - 1) * u.tickNs * (u.fr r).rate / 1000000000)) : u.corMissed r =
      let n := (u.tickNo - 1) * u.tickNs * (u.fr r).rate / 1000000000
      let run := (u.fr r).missRun + 1
      let s := u.mapFr r (fun x => { x with corsMissed := inc32 x.corsMissed, missRun := run, lastEpoch := some n })
      let s := if s.withheld then s else s.noneFix r n (State.epochAt (u.fr r).rate n) 1 false 0
      if s.prm 0x030A ≤ run then s.raise 0x0302 .warning (min 255 run) 1 r else s := by
  simp only [State.corMissed, hitem]
  rw [if_neg (by simp [hbase, hrate, htick, hslot, hlast])]

end

/-! ### The instant of a mode change -/

/-- One robot's mode change takes effect and its command completes (R143). -/
def modeTaken (s : State) (x : Nat × ModeChange) : State :=
  ((s.mapFr x.1 (State.modeFrom x.2 s.now)).mapAir (fun a => { a with
    map := State.dropOldCors x.1 a.map, next := a.next.map (fun (n : Nat × SlotMap) => (n.1, State.dropOldCors x.1 n.2)) })).completeOk
      x.2.sess x.2.acc (le 8 x.2.instant)

/-- The mode changes that are due, by robot. -/
def modesDue (s : State) : List (Nat × ModeChange) :=
  s.fix.robots.filterMap (fun (e : Nat × FixRobot) => e.2.pend.bind (fun m => if m.instant ≤ s.clk.count then some (e.1, m) else none))

theorem modeTaken_fix (s : State) (x : Nat × ModeChange) :
    (modeTaken s x).fix.robots = Tab.upd x.1 FixRobot.fresh (State.modeFrom x.2 s.now) s.fix.robots ∧ (modeTaken s x).now = s.now := by
  have h := onlyReplies_complete x.2.sess x.2.acc (Ans.ok (le 8 x.2.instant))
    ((s.mapFr x.1 (State.modeFrom x.2 s.now)).mapAir (fun a => { a with
      map := State.dropOldCors x.1 a.map, next := a.next.map (fun (n : Nat × SlotMap) => (n.1, State.dropOldCors x.1 n.2)) }))
  exact ⟨congrArg Fix.robots h.fix, h.now⟩

/-- The new map that may follow leaves the fixes as the changes left them. -/
theorem modeChangeInstant_fix (s : State) : s.modeChangeInstant.fix = ((modesDue s).foldl modeTaken s).fix := by
  change (if modesDue s = [] then s else
    match placeMap ((modesDue s).foldl modeTaken s).siteMap with
    | .ok m => if m = ((modesDue s).foldl modeTaken s).newestMap then (modesDue s).foldl modeTaken s
      else ((modesDue s).foldl modeTaken s).acceptMap m
    | .error _ => (modesDue s).foldl modeTaken s).fix = _
  split
  · next h => rw [h, List.foldl_nil]
  · split
    · split
      · rfl
      · exact (onlyLinks_acceptMap _ _).fix
    · rfl

theorem find?_modesTaken_of_notMem {r : Nat} (l : List (Nat × ModeChange)) (s : State) (h : ∀ x ∈ l, x.1 ≠ r) :
    Tab.find? r (l.foldl modeTaken s).fix.robots = Tab.find? r s.fix.robots := by
  induction l generalizing s with
  | nil => rfl
  | cons x l ih =>
    obtain ⟨hfix, -⟩ := modeTaken_fix s x
    rw [List.foldl_cons, ih _ fun y hy => h y (List.mem_cons_of_mem _ hy), hfix, Tab.upd, Tab.find?_put, if_neg (h x List.mem_cons_self)]

theorem find?_modesTaken_of_mem {r : Nat} {m : ModeChange} {x : FixRobot} (l : List (Nat × ModeChange)) (s : State)
    (hkeys : l.Pairwise (fun a b => a.1 ≠ b.1)) (hmem : (r, m) ∈ l) (hx : Tab.find? r s.fix.robots = some x) :
    Tab.find? r (l.foldl modeTaken s).fix.robots = some (State.modeFrom m s.now x) := by
  induction l generalizing s with
  | nil => simp at hmem
  | cons y l ih =>
    obtain ⟨hfirst, hrest⟩ := List.pairwise_cons.1 hkeys
    obtain ⟨hfix, hnow⟩ := modeTaken_fix s y
    rcases List.mem_cons.1 hmem with rfl | hmem
    · rw [List.foldl_cons, find?_modesTaken_of_notMem l _ fun z hz => (hfirst z hz).symm, hfix, Tab.upd, Tab.find?_put, if_pos rfl,
        Tab.getD, hx, Option.getD_some]
    · rw [List.foldl_cons, ih _ hrest hmem, hnow]
      rw [hfix, Tab.upd, Tab.find?_put, if_neg (hfirst _ hmem), hx]

theorem mem_modesDue {s : State} {r : Nat} {m : ModeChange} :
    (r, m) ∈ modesDue s ↔ ∃ x, (r, x) ∈ s.fix.robots ∧ x.pend = some m ∧ m.instant ≤ s.clk.count := by
  simp only [modesDue, List.mem_filterMap, Option.bind_eq_some_iff, Option.ite_none_right_eq_some, Option.some.injEq, Prod.mk.injEq, Prod.exists]
  constructor
  · rintro ⟨r', x, hmem, m', hpend, hdue, rfl, rfl⟩
    exact ⟨x, hmem, hpend, hdue⟩
  · rintro ⟨x, hmem, hpend, hdue⟩
    exact ⟨r, x, hmem, m, hpend, hdue, rfl, rfl⟩

theorem modesDue_keys {s : State} (hwf : Tab.wf s.fix.robots = true) : (modesDue s).Pairwise (fun a b => a.1 ≠ b.1) := by
  refine List.Pairwise.filterMap _ (fun a b hab c hc d hd => ?_) ((Tab.wf_iff_pairwise _).1 hwf)
  have key : ∀ {e : Nat × FixRobot} {x : Nat × ModeChange},
      (e.2.pend.bind fun m => if m.instant ≤ s.clk.count then some (e.1, m) else none) = some x → x.1 = e.1 := by
    intro e x h
    simp only [Option.bind_eq_some_iff, Option.ite_none_right_eq_some, Option.some.injEq] at h
    obtain ⟨m, -, -, rfl⟩ := h
    rfl
  rw [key hc, key hd]
  omega

/-- Settles O6: the opcodes and events pass their guards, and a mode change that is due reaches exactly its robot's record. -/
theorem fixRowsAct : Obligations.FixRowsAct := by
  unfold Obligations.FixRowsAct
  refine ⟨queryRow fun c s ⟨hlen, hmin, hmax, hrange, hres⟩ => runFixRead_of_ok hlen ⟨hmin, hmax⟩ hrange hres,
    workRow fun c s _ ⟨hlen, hmode, hsame, hres, hrate, hbits, hrobot, hpend⟩ => ?same,
    fun x m => workRow fun c s _ ⟨hlen, hmode, hres, hrate, hbits, hx, hpend, hchange, hprice, hplace⟩ =>
      runFixModeSet_of_change hlen hmode hres hrate hbits hx hpend hchange hprice hplace,
    queryRow fun c s ⟨hlen, hmin, hmax, hrange, hres⟩ => runFixStateRead_of_ok hlen ⟨hmin, hmax⟩ hrange hres,
    workRow fun c s _ ⟨hlen, hres, hrobot, hbase⟩ => runFixFilterReset_of_ok hlen hres hrobot hbase,
    fun f t i r x hf => eventActs (State.native (State.airIn 1 f State.corAirFrame)) (fun _ _ => if_pos hf) ?cor,
    fun r k hr => nativeRow (State.corMissed r) (fun u _ ⟨hbase, hrate, hitem, htick, hslot, hlast⟩ =>
      corMissed_of_due hbase hrate hitem htick hslot hlast) fun _ _ => if_pos hr,
    fun r v hr => nativeRow (State.elementIn 0x82 r v) (fun u _ hrobot => if_pos hrobot) fun _ _ => if_pos hr,
    eventActs _ (fun _ _ => rfl) fun u hrun => native_of hrun.power hrun.native hrun.running,
    fun u r x m hwf hx hpend hdue => ?due, fun u r x hwf hx hwait => ?waits⟩
  case same =>
    obtain ⟨x, hx⟩ := Option.isSome_iff_exists.1 hrobot
    exact runFixModeSet_of_same hlen hmode hsame hres hrate hbits hx hpend
  case cor =>
    rintro u ⟨hrun, hup, halone, hfront, hr, hx, hctr⟩
    rw [native_of hrun.power hrun.native hrun.running, airIn_alone hup halone, corAirFrame_of_verified hfront hr hx hctr]
  case due =>
    rw [modeChangeInstant_fix]
    exact find?_modesTaken_of_mem _ _ (modesDue_keys hwf) (mem_modesDue.2 ⟨x, mem_of_find? hx, hpend, hdue⟩) hx
  case waits =>
    rw [modeChangeInstant_fix, find?_modesTaken_of_notMem _ _ ?_, hx]
    rintro ⟨r', m⟩ hmem rfl
    obtain ⟨y, hy, hpend, hdue⟩ := mem_modesDue.1 hmem
    obtain rfl : x = y := Option.some.inj (hx.symm.trans (find?_of_mem hwf hy))
    rcases hwait with hnone | ⟨m', hm', hlater⟩
    · simp [hnone] at hpend
    · obtain rfl : m = m' := Option.some.inj (hpend.symm.trans hm')
      omega

end Sys2Proof.Proofs
end

section
/-! The air block: its queries, a chain that fails, and the start of slots and superframes (R197, R198, R205, R213, R214). -/

namespace Sys2Proof.Proofs

open Sys2Proof.Machine Sys2Proof.Safety Sys2Proof.Laws

section
variable {u : State}

theorem runAirMapRead_of_ok {c : Cmd} (hlen : c.params.length = 4) (hcount : 1 ≤ u8 c.params 1)
    (hrange : u8 c.params 0 + u8 c.params 1 ≤ 256) (hres : u16 c.params 2 = 0) : u.runAirMapRead c =
      (u, .fin (Ans.ok ((List.range (u8 c.params 1)).flatMap (fun i =>
        let r := u8 c.params 0 + i
        match u.robot? r with
        | none => le 1 r ++ List.replicate 8 0xFF ++ zeros 3
        | some x => match Tab.find? r u.air.map.pos with
          | some p => le 1 r ++ State.Pos.bytes p ++ zeros 3
          | none => le 1 r ++ le 1 x.chain ++ List.replicate 7 0xFF ++ zeros 3)))) := by
  rw [State.runAirMapRead, if_neg (by omega), if_neg (by omega)]
  rfl

/-- No RF test ends where none runs, or where one runs on another chain. -/
theorem rfTestFault_of_other {c : Nat} (h : u.prm 0x7F13 ≠ c ∨ u.sys.rfTest = none) : u.rfTestFault c = u := by
  unfold State.rfTestFault
  cases htest : u.sys.rfTest with
  | none => rfl
  | some t => exact if_neg (h.resolve_right (by simp [htest]))

/-- Events leave the RF test as it is. -/
theorem rfTest_of_onlyRaises {s t : State} (h : OnlyRaises s t) : t.sys.rfTest = s.sys.rfTest := by rw [h]

theorem onlyRaises_budgetShort (line kind idx : Nat) (s : State) : OnlyRaises s (s.budgetShort line kind idx) := onlyRaises_raise ..

theorem chainFault_of_sound {c level : Nat} (hsound : (u.chain c).bad = false) (htest : u.prm 0x7F13 ≠ c ∨ u.sys.rfTest = none) :
    u.chainFault c level = ((u.mapChain c (fun k => { k with bad := true })).raise 0x0502 .fault level 4 c).budgetShort (6 + c) 4 c := by
  rw [State.chainFault, if_neg (by simp [hsound])]
  have hraised := (onlyRaises_raise 0x0502 .fault level 4 c (u.mapChain c (fun k => { k with bad := true }))).trans
    (onlyRaises_budgetShort (6 + c) 4 c _)
  apply rfTestFault_of_other
  rw [State.prm, hraised.cfg, rfTest_of_onlyRaises hraised]
  exact htest

/-- The count of slots goes on from the one found. -/
theorem mapAir_slot {k : Nat} (hslot : u.air.slot = k) (asn : Nat → Nat) :
    u.mapAir (fun a => { a with asn := asn a.asn, slot := a.slot + 1, slotAt := u.now }) =
      u.mapAir (fun a => { a with asn := asn a.asn, slot := k + 1, slotAt := u.now }) := by
  subst hslot
  rfl

theorem slotStart_first {sense : List Int} (hslot : u.air.slot = 0) : u.slotStart sense =
    ((u.mapAir (fun a => { a with asn := a.asn % 2 ^ 40, slot := 1, slotAt := u.now })).sendBeacons sense).legacySlot := by
  simp only [State.slotStart, State.slotOpen, hslot, if_true]
  rw [mapAir_slot hslot (· % 2 ^ 40)]

theorem slotStart_later {sense : List Int} {k : Nat} (hslot : u.air.slot = k + 1) : u.slotStart sense =
    let v := u.mapAir (fun a => { a with asn := (a.asn + 1) % 2 ^ 40, slot := k + 2, slotAt := u.now })
    ((u.air.plan.filter (fun f => f.slot == k + 1 && !u.stopTakes f.chain)).foldl (fun s f => s.sendPlanned sense f)
      (v.mapAir (fun a => { a with due := a.due ++ v.framesDue (k + 1) }))).legacySlot := by
  simp only [State.slotStart, State.slotOpen, hslot, Nat.add_eq_zero_iff, one_ne_zero, and_false, if_false]
  rw [mapAir_slot hslot (fun n => (n + 1) % 2 ^ 40)]
  rfl

theorem superframeOpens_of_due {jump : Bool} (htick : u.tickNoNow % 10 = 0) (hnew : u.air.tick ≠ u.tickNoNow) (hsf : u.sys.sfTick ≠ 10)
    (hjump : jump = (u.air.jump && u.sys.misalign.isNone && u.timeValid)) : u.superframeOpens =
      let s := if jump then u.asnJump (u.asnOfTick u.tickNoNow) else u.mapAir (fun a => { a with asn := u.nextAsn, slot := 0 })
      let s := s.mapSys (fun y => { y with sfTick := 10, sfCount := y.sfCount + 1 })
      let v := (((s.mapsTake).superframeLink u.sfNumber).foldSuperframe).retune
      (v.takeDomains [.AIR] v.nextTick).planJoined s.starting u.tickNoNow := by
  rw [State.superframeOpens, if_neg (by simp [htick, hnew, hsf])]
  simp only [hjump, Bool.and_eq_true, and_assoc]

end

/-- Settles O7: the queries answer, a sound chain that fails goes out of service, and slots and superframes start as stated. -/
theorem airRowsAct : Obligations.AirRowsAct := by
  unfold Obligations.AirRowsAct
  exact ⟨queryRow fun c s hlen => if_neg (not_not_intro (congrArg List.length hlen)),
    queryRow fun c s ⟨hlen, hcount, hrange, hres⟩ => runAirMapRead_of_ok hlen hcount hrange hres,
    fun c level hc => nativeRow (State.chainFault c level) (fun u _ ⟨hsound, htest⟩ => chainFault_of_sound hsound htest) fun _ _ => if_pos hc,
    fun c level hc => nativeRow (State.chainFault c level) (fun u _ hbad => if_pos hbad) fun _ _ => if_pos hc,
    fun sense => nativeRow (State.slotStart sense) fun u _ hslot => slotStart_first hslot,
    fun sense k => nativeRow (State.slotStart sense) fun u _ hslot => slotStart_later hslot,
    fun jump => nativeRow State.superframeOpens fun u _ ⟨htick, hnew, hsf, hjump⟩ => superframeOpens_of_due htick hnew hsf hjump⟩

end Sys2Proof.Proofs
end

section
/-! The radio link: registration, what a robot sends, and how contact is lost (R219, R220, R224 to R237, R605). -/

namespace Sys2Proof.Proofs

open Sys2Proof.Machine Sys2Proof.Safety Sys2Proof.Laws

/-! ### Opcodes -/

section
variable {c : Cmd} {s : State}

/-- A new robot's table entries and slots are free: AIR_ROBOT_ADD registers it and accepts its map. -/
theorem runAirRobotAdd_of_ok {r : Nat} {m : SlotMap} (hreplay : c.replay = false) (hok : robotAddOk c s)
    (hfree : (List.range 256).find? (fun i => (s.robot? i).isNone) = some r)
    (hprice : s.overBudget (s.robotAdded c.params r).siteAdmit = none) (hplace : s.placeLengths (s.robotAdded c.params r).siteMap = .ok m) :
    s.runAirRobotAdd c =
      ((s.robotAdded c.params r).acceptMap m, .fin (Ans.ok (le 1 r ++ le 1 (s.newChain (bit (u8 c.params 9) 0)) ++ le 2 0))) := by
  obtain ⟨hlen, hcls, hflags, hres, hroom, hnew, hkind⟩ := hok
  have hnone : ¬((s.lnk.robots.any fun e => e.2.eui == u64 c.params 0) = true) := by simpa using fun i x h => hnew (i, x) h
  rw [State.runAirRobotAdd, if_neg (by omega)]
  cases hlegacy : bit (u8 c.params 9) 0 with
  | true =>
    simp only [hlegacy, if_true] at hkind
    obtain ⟨hbits, hfew, hchain, hkey⟩ := hkind
    rw [if_neg (by simp; omega)]
    simp only [if_true, hbits]
    rw [if_neg hnone, if_neg (by omega), if_neg (by omega), if_neg (by simp [hchain]), if_neg (by simp [hkey])]
    simp only [hfree, Option.getD_some, hreplay, Bool.false_eq_true, if_false, hprice, hplace]
    rfl
  | false =>
    simp only [hlegacy, Bool.false_eq_true, if_false] at hkind
    obtain ⟨hbits, hslot, hkey⟩ := hkind
    rw [if_neg (by simp; omega)]
    simp only [Bool.false_eq_true, if_false, hbits]
    rw [if_neg hnone, if_neg (by omega), if_neg (by simp), if_neg (by simp), if_neg (by simp [hkey])]
    simp only [hfree, Option.getD_some, hreplay, Bool.false_eq_true, if_false, hprice, hplace]
    rfl

theorem runAirRobotRemove_of_contact {x : Robot} (hlen : c.params.length = 4) (hres : rd c.params 1 3 = 0)
    (hx : s.robot? (u8 c.params 0) = some x) (hlegacy : x.legacy = false) (hlink : x.link = .joined ∨ x.link = .asleep) :
    s.runAirRobotRemove c = ((s.mapRobot (u8 c.params 0) (fun x => { x with
      link := .leaving, removing := some (c.sess, c.acc, 0) })).sendElem (u8 c.params 0) 0x09 [0], .later) := by
  rw [State.runAirRobotRemove, if_neg (by omega), if_neg (by omega)]
  simp only [hx]
  rcases hlink with h | h <;> simp [h, hlegacy]

theorem runAirRobotRemove_of_away {x : Robot} (hlen : c.params.length = 4) (hres : rd c.params 1 3 = 0)
    (hx : s.robot? (u8 c.params 0) = some x) (hstay : x.link ≠ .leaving) (hlink : x.link = .registered ∨ x.link = .lost ∨ x.legacy = true) :
    s.runAirRobotRemove c = (s.releaseRobot (u8 c.params 0), .fin (Ans.ok [])) := by
  rw [State.runAirRobotRemove, if_neg (by omega), if_neg (by omega)]
  simp only [hx]
  rw [if_neg hstay, if_pos hlink]
  rfl

theorem runAirLinkRead_of_ok (hlen : c.params.length = 4) (hcount : 1 ≤ u8 c.params 1 ∧ u8 c.params 1 ≤ 128)
    (hrange : u8 c.params 0 + u8 c.params 1 ≤ 256) (hres : u16 c.params 2 = 0) : s.runAirLinkRead c =
      (s, .fin (Ans.ok ((List.range (u8 c.params 1)).flatMap (fun i =>
        let r := u8 c.params 0 + i
        match s.robot? r with
        | none => le 1 r ++ [0xFF] ++ zeros 22
        | some x =>
          le 1 r ++ le 1 x.link.code ++ le 1 x.chain ++ le 1 (b2n x.legacy + 2 * b2n x.sleepOk) ++ le 1 x.dlMcs ++ le 1 x.ulMcs ++
            leS 1 (clampS 8 (x.ulSnr.getD (-128))) ++ leS 1 (clampS 8 (x.dlSnr.getD (-128))) ++ le 4 x.gen ++
            le 2 (min 0xFFFF x.unacked.length) ++ le 2 x.wake.2.2 ++ le 4 x.frames ++ le 4 x.secDisc)))) := by
  rw [State.runAirLinkRead, if_neg (by omega), if_neg (by omega)]
  rfl

end

/-! ### Frames -/

section
variable {u t : State} {f : AirRx} {i : SlotItem} {r : Nat} {x : Robot}

/-- The parcels and elements of an uplink are taken in their order (R229). -/
def uplinkTaken (r : Nat) (b : Bytes) (s : State) : State :=
  (elements true b.length (b.drop 4)).foldl (fun s (e : Nat × Bytes) =>
    if e.1 = 0xFF then s.takeParcel r (u16 e.2 0) (e.2.drop 2) else s.deliverElem false r e.1 e.2) (s.takeAcks r (u16 b 0) (u8 b 2))

theorem uplinkFrame_of_unmeasured (hfront : u.airFront .uplink 17 (u.psduMax f.mcs) f = .pass t i) (hr : i.robot = some r)
    (hx : t.robot? r = some x) (hctr : State.counterCheck x.rxCtr x.rxLast f.payload f.ctr f.micOk = none) (hsnr : i8 f.payload 3 = -128) :
    u.uplinkFrame f = uplinkTaken r f.payload (t.frameVerified r f) := by
  simp only [State.uplinkFrame, hfront, hr, hx, hctr, if_pos hsnr]
  rfl

theorem uplinkFrame_of_measured (hfront : u.airFront .uplink 17 (u.psduMax f.mcs) f = .pass t i) (hr : i.robot = some r)
    (hx : t.robot? r = some x) (hctr : State.counterCheck x.rxCtr x.rxLast f.payload f.ctr f.micOk = none) (hsnr : i8 f.payload 3 ≠ -128)
    {y : Nat × List Int × Option Nat} (hy : y = (t.frameVerified r f).mcsInput x.dlMcs x.dlHist x.dlUp (i8 f.payload 3)) :
    u.uplinkFrame f = uplinkTaken r f.payload ((t.frameVerified r f).mapRobot r (fun x => { x with
      dlSnr := some (i8 f.payload 3), dlMcs := y.1, dlHist := y.2.1, dlUp := y.2.2 })) := by
  subst hy
  simp only [State.uplinkFrame, hfront, hr, hx, hctr, if_neg hsnr]
  rfl

/-- The one request of a robot that waits for no answer is answered in the next superframe (R226, R227). -/
theorem takeRequest_of_first {w : RoamWait} {eui : Nat} (hanswer : x.answer = none) (hroam : x.roam = none) :
    u.takeRequest r x w false eui = u.prepareAnswer r w (u.sys.sfCount + 1) false false := by
  simp [State.takeRequest, hanswer, hroam]

theorem joinRequest_of_verified (hfront : u.airFront .rejoin 25 25 f = .pass t i) (heven : t.sfNumber % 2 = 0) (hlen : f.payload.length = 12)
    (hx : List.find? (fun (e : Nat × Robot) => e.2.eui == u64 f.payload 4 && !e.2.legacy) t.lnk.robots = some (r, x))
    (hroot : (t.readSlot x.keySlot).rootKeys = true) (hkey : (t.readSlot x.keySlot).joinKeyAt x.keySlot = true)
    (hctr : State.counterCheck x.joinRx x.joinLast f.payload f.ctr f.micOk = none) (htype : u8 f.payload 0 = 1) (hflags : u8 f.payload 1 ≤ 1)
    (hres : u16 f.payload 2 = 0) (hanswer : x.answer = none) (hroam : x.roam = none) : u.joinRequest f =
      let s := ((t.readSlot x.keySlot).useKey (256 + x.keySlot)).mapRobot r (fun x => { x with
        joinRx := some f.ctr, joinLast := f.payload, secRun := false })
      s.prepareAnswer r ⟨f.ctr, f.chain, s.sys.sfCount, bit (u8 f.payload 1) 0, s.air.asn, s.slotKey x.keySlot, s.sys.sfCount⟩
        (s.sys.sfCount + 1) false false := by
  simp only [State.joinRequest, hfront]
  rw [if_neg (by omega)]
  simp only [hx]
  rw [if_neg (by simp [hroot, hkey])]
  simp only [hctr]
  rw [if_neg (by simp [htype, hres]; omega), if_neg (by simp [State.requestIgnored, hanswer, hroam])]
  simp only [htype]
  exact takeRequest_of_first hanswer hroam

end

/-! ### Elements -/

section
variable {u : State} {r : Nat} {v : Bytes}

/-- An element of a registered robot is delivered. -/
theorem elementIn_of_robot {typ : Nat} (h : (u.robot? r).isSome) : u.elementIn typ r v = u.deliverElem true r typ v := if_pos h

theorem leaveElem_of_contact {x : Robot} (hx : u.robot? r = some x) (hlink : x.link = .joined ∨ x.link = .asleep) :
    u.leaveElem r [1] = u.mapRobot r (fun x => { x with bye := true }) := by
  rw [State.leaveElem, if_neg (not_not_intro rfl)]
  rcases hlink with h | h <;> simp only [hx, h]

theorem leaveElem_of_leaving {x : Robot} (hx : u.robot? r = some x) (hlink : x.link = .leaving) : u.leaveElem r [1] = u.releaseRobot r := by
  rw [State.leaveElem, if_neg (not_not_intro rfl)]
  simp only [hx, hlink]

end

/-! ### Timed events -/

section
variable {u : State} {r : Nat} {x : Robot}

theorem robotReleased_of_due {m : Nat × Nat × Nat} (hx : u.robot? r = some x) (hm : x.removing = some m) (hdue : u.prm 0x0512 ≤ m.2.2) :
    u.robotReleased r = u.releaseRobot r := by
  simp only [State.robotReleased, hx, hm, if_pos hdue]

theorem parcelRetx_of_robot (hx : u.robot? r = some x) : u.parcelRetx r =
    u.mapRobot r (fun y => { y with unacked := y.unacked.map (fun (p : Parcel) => match p.sentAt with
      | some t =>
        if x.lastFrame ≤ t ∧ u.prm 0x0517 * 10 * u.sys.slots * max 1 x.wake.1 ≤ (u.now - t + 625000) / 1250000 then { p with missed := true } else p
      | none => p) }) := by
  simp only [State.parcelRetx, hx]
  congr 1
  funext y
  congr 2
  funext p
  unfold State.resendDue
  cases p.sentAt <;> simp

theorem robotLost_of_joined (hx : u.robot? r = some x) (hlink : x.link = .joined) (hmiss : u.prm 0x0512 ≤ x.missSf) :
    u.robotLost r = u.loseRobot r 1 := by
  simp only [State.robotLost, hx]
  exact if_pos ⟨hlink, hmiss⟩

theorem robotLost_of_asleep (hx : u.robot? r = some x) (hlink : x.link = .asleep) (hmiss : 3 ≤ x.wakeMiss) :
    u.robotLost r = u.loseRobot r 2 := by
  simp only [State.robotLost, hx]
  rw [if_neg (by simp [hlink]), if_pos ⟨hlink, hmiss⟩]

theorem wakeMissed_of_due (hx : u.robot? r = some x) (hlink : x.link = .asleep) (hmiss : x.missDue = true) : u.wakeMissed r =
    (u.mapRobot r (fun y => { y with wakeMiss := x.wakeMiss + 1, missDue := false, doubleRate := true })).raise
      0x050A .notice (x.wakeMiss + 1) 1 r := by
  simp only [State.wakeMissed, hx]
  exact if_pos ⟨hlink, hmiss⟩

theorem counterExhausted_of_link (hx : u.robot? r = some x) (hctr : 0xFFFFFFFF ≤ x.txCtr) (hlost : x.link ≠ .lost)
    (hreg : x.link ≠ .registered) : u.counterExhausted (some r) = (u.raise 0x0508 .fault 1 1 r).loseRobot r 3 := by
  simp only [State.counterExhausted, hx]
  rw [if_neg (by simp [hlost, hreg, hctr])]

theorem counterExhausted_of_flock (hctr : 0xFFFFFFFF ≤ u.lnk.flockCtr) (hrng : u.vit.rngFault = false) : u.counterExhausted none =
    ((u.draw 128).2.mapLnk (fun l => { l with
      flockGen := l.flockGen + 1, flockCtr := 0, flockKey := (u.draw 128).1, flockNext := none })).raise0 0x0508 .fault 1 0 := by
  rw [State.counterExhausted, if_neg (by omega), if_neg (by simp [hrng])]

end

/-- Settles O8: each opcode, frame, element and timed event of the link meets its conditions and acts as stated. -/
theorem linkRowsAct : Obligations.LinkRowsAct := by
  unfold Obligations.LinkRowsAct
  refine ⟨fun r m => workRow fun c s hreplay ⟨hok, hfree, hprice, hplace⟩ => runAirRobotAdd_of_ok hreplay hok hfree hprice hplace,
    fun x => workRow fun c s _ ⟨hlen, hres, hx, hlegacy, hlink⟩ => runAirRobotRemove_of_contact hlen hres hx hlegacy hlink,
    fun x => workRow fun c s _ ⟨hlen, hres, hx, hstay, hlink⟩ => runAirRobotRemove_of_away hlen hres hx hstay hlink,
    queryRow fun c s ⟨hlen, hmin, hmax, hrange, hres⟩ => runAirLinkRead_of_ok hlen ⟨hmin, hmax⟩ hrange hres,
    fun f t i r x hf => nativeRow (State.airIn 0 f State.uplinkFrame) (fun u _ ⟨hup, halone, hfront, hr, hx, hctr, hsnr⟩ =>
      (airIn_alone hup halone).trans (uplinkFrame_of_unmeasured hfront hr hx hctr hsnr)) fun _ _ => if_pos hf,
    fun f t i r x y hf => nativeRow (State.airIn 0 f State.uplinkFrame) (fun u _ ⟨hup, halone, hfront, hr, hx, hctr, hsnr, hy⟩ =>
      (airIn_alone hup halone).trans (uplinkFrame_of_measured hfront hr hx hctr hsnr hy)) fun _ _ => if_pos hf,
    fun f t i r x hf => nativeRow (State.airIn 2 f State.joinRequest) (fun u _ ⟨hup, halone, hfront, heven, hlen, hx, hroot, hkey, hctr,
      htype, hflags, hres, hanswer, hroam⟩ => (airIn_alone hup halone).trans
        (joinRequest_of_verified hfront heven hlen hx hroot hkey hctr htype hflags hres hanswer hroam)) fun _ _ => if_pos hf,
    fun r x m hr => nativeRow (State.robotReleased r) (fun u _ ⟨hx, hm, hdue⟩ => robotReleased_of_due hx hm hdue) fun _ _ => if_pos hr,
    fun r v hr => nativeRow (State.elementIn 0x83 r v) (fun u _ ⟨hrobot, hlen⟩ => (elementIn_of_robot hrobot).trans (if_pos hlen)) fun _ _ => if_pos hr,
    fun r v hr => nativeRow (State.elementIn 0x84 r v) (fun u _ ⟨hrobot, hlen⟩ => (elementIn_of_robot hrobot).trans
      (if_neg (not_not_intro hlen))) fun _ _ => if_pos hr,
    fun r x hr => nativeRow (State.elementIn 0x09 r [1]) (fun u _ ⟨hx, hlink⟩ => (elementIn_of_robot (by simp [hx])).trans
      (leaveElem_of_contact hx hlink)) fun _ _ => if_pos hr,
    fun r x hr => nativeRow (State.elementIn 0x09 r [1]) (fun u _ ⟨hx, hlink⟩ => (elementIn_of_robot (by simp [hx])).trans
      (leaveElem_of_leaving hx hlink)) fun _ _ => if_pos hr,
    fun r v hr => nativeRow (State.elementIn 0xA0 r v) (fun u _ ⟨hrobot, hlen⟩ => (elementIn_of_robot hrobot).trans (if_pos hlen)) fun _ _ => if_pos hr,
    fun r v hr => nativeRow (State.elementIn 0xA1 r v) (fun u _ ⟨hrobot, hlen⟩ => (elementIn_of_robot hrobot).trans (if_pos hlen)) fun _ _ => if_pos hr,
    fun r v hr => nativeRow (State.elementIn 0xA8 r v) (fun u _ hrobot => elementIn_of_robot hrobot) fun _ _ => if_pos hr,
    fun r v hr => nativeRow (State.elementIn 0xA9 r v) (fun u _ hrobot => elementIn_of_robot hrobot) fun _ _ => if_pos hr,
    fun r v hr => nativeRow (State.elementIn 0xB0 r v) (fun u _ hrobot => elementIn_of_robot hrobot) fun _ _ => if_pos hr,
    fun r x hr => nativeRow (State.parcelRetx r) (fun u _ hx => parcelRetx_of_robot hx) fun _ _ => if_pos hr,
    fun r x hr => nativeRow (State.robotLost r) (fun u _ ⟨hx, hlink, hmiss⟩ => robotLost_of_joined hx hlink hmiss) fun _ _ => if_pos hr,
    fun r x hr => nativeRow (State.robotLost r) (fun u _ ⟨hx, hlink, hmiss⟩ => robotLost_of_asleep hx hlink hmiss) fun _ _ => if_pos hr,
    fun r x hr => nativeRow (State.wakeMissed r) (fun u _ ⟨hx, hlink, hmiss⟩ => wakeMissed_of_due hx hlink hmiss) fun _ _ => if_pos hr,
    fun r x hr => nativeRow (State.counterExhausted (some r)) (fun u _ ⟨hx, hctr, hlost, hreg⟩ => counterExhausted_of_link hx hctr hlost hreg)
      fun _ _ => if_pos hr,
    nativeRow (State.counterExhausted none) fun u _ ⟨hctr, hrng⟩ => counterExhausted_of_flock hctr hrng⟩

end Sys2Proof.Proofs
end

section
/-! The pasture: what its opcodes stage, place, free and read, and what becomes of entries whose time has ended (R252, R255, R257, R276,
R277, R283, R284). -/

namespace Sys2Proof.Proofs

open Sys2Proof.Machine Sys2Proof.Safety Sys2Proof.Laws

/-! ### Opcodes -/

section
variable {c : Cmd} {s : State}

theorem runPasNodesWrite_of_ok (hhead : tableHeadOk 16 65536 c.params)
    (hrecs : ∀ x ∈ State.recordsOf 16 (u16 c.params 4) c.params, u8 x 12 < 2 ∧ rd x 13 3 = 0) :
    s.runPasNodesWrite c = (s.mapShadow c.sess (fun h => { h with nodes := stagedRecords 16 c.params h.nodes }), .fin (Ans.ok [])) := by
  obtain ⟨hfit, hcount, hres, hlen⟩ := hhead
  have hsound : findIdx (fun x => !State.nodeRecOk x) (State.recordsOf 16 (u16 c.params 4) c.params) = none :=
    findIdx_none _ _ fun x hx => by simp [State.nodeRecOk, hrecs x hx]
  rw [State.runPasNodesWrite, State.runTableWrite, if_neg (by omega)]
  simp only [Bool.false_eq_true, if_false]
  rw [if_neg (by omega), if_neg (by omega)]
  simp only [hsound, false_and, if_false]
  rfl

theorem runPasLanesWrite_of_ok (hhead : tableHeadOk 12 131072 c.params)
    (hrecs : ∀ x ∈ State.recordsOf 12 (u16 c.params 4) c.params,
      u8 x 9 = 0 ∧ (u8 x 8 = 0 ∧ u16 x 10 = 0xFFFF ∨ u8 x 8 = 1 ∧ u16 x 10 ≤ 4095 ∧ bit c.agreed 132 = true)) :
    s.runPasLanesWrite c = (s.mapShadow c.sess (fun h => { h with lanes := stagedRecords 12 c.params h.lanes }), .fin (Ans.ok [])) := by
  obtain ⟨hfit, hcount, hres, hlen⟩ := hhead
  have hsound : findIdx (fun x => !State.laneRecOk x) (State.recordsOf 12 (u16 c.params 4) c.params) = none :=
    findIdx_none _ _ fun x hx => by
      obtain ⟨hzero, ⟨hinner, hfold⟩ | ⟨hborder, hfold, -⟩⟩ := hrecs x hx
      · simp [State.laneRecOk, hzero, hinner, hfold, bit]
      · simp [State.laneRecOk, hzero, hborder, hfold, bit]
  have hagreed : ¬((State.recordsOf 12 (u16 c.params 4) c.params).any (fun x => bit (u8 x 8) 0) = true ∧ bit c.agreed 132 = false) := by
    rintro ⟨hany, hbit⟩
    obtain ⟨x, hx, hborder⟩ := List.any_eq_true.1 hany
    obtain ⟨-, ⟨hinner, -⟩ | ⟨-, -, hagreed⟩⟩ := hrecs x hx
    · simp [hinner, bit] at hborder
    · simp [hbit] at hagreed
  rw [State.runPasLanesWrite, State.runTableWrite, if_neg (by omega)]
  simp only [if_true]
  rw [if_neg (by omega), if_neg (by omega)]
  simp only [hsound, true_and]
  rw [if_neg hagreed]
  rfl

theorem runPasPaddockWrite_of_ok (hlen : c.params.length = 12 + 8 * u8 c.params 2) (hid : u16 c.params 0 < 1024)
    (hsides : 3 ≤ u8 c.params 2 ∧ u8 c.params 2 ≤ 32) (hflags : u8 c.params 3 < 2) (hres : rd c.params 9 3 = 0) :
    s.runPasPaddockWrite c = (s.mapShadow c.sess (fun h => { h with
      pads := Tab.put (u16 c.params 0) (if u8 c.params 3 = 1 then c.params else []) h.pads }), .fin (Ans.ok [])) := by
  rw [State.runPasPaddockWrite, if_neg (by omega), if_neg (by omega), if_neg (by omega)]
  simp only [bit0_lt hflags, decide_eq_true_eq]
  rfl

theorem runPasHurdlePlace_of_ok (hlen : c.params.length = 32) (hid : u16 c.params 0 < 1024) (hres : u16 c.params 2 = 0)
    (hradius : 1 ≤ u32 c.params 20 ∧ u32 c.params 20 ≤ 100000) (hprice : s.hurdlePriced c.params = none) :
    s.runPasHurdlePlace c =
      (s.mapPas (fun p => { p with hurdleNext := p.hurdleNext ++ [(u16 c.params 0, some (s.hurdleOf c.params), c.sess, c.acc)] }), .later) := by
  rw [State.runPasHurdlePlace, if_neg (by omega), if_neg (by omega)]
  simp only [hprice]

theorem runPasHurdleRemove_of_ok (hlen : c.params.length = 4) (hid : u16 c.params 0 < 1024) (hres : u16 c.params 2 = 0) :
    s.runPasHurdleRemove c =
      (s.mapPas (fun p => { p with hurdleNext := p.hurdleNext ++ [(u16 c.params 0, none, c.sess, c.acc)] }), .later) := by
  rw [State.runPasHurdleRemove, if_neg (by omega), if_neg (by omega)]

/-- A move is taken for a robot without a task: the one before it ends, and the planner is asked (R284). -/
theorem runPasMove_of_ok (hlen : c.params.length = 8) (hres : rd c.params 1 3 = 0) (hnode : s.holdNode (u32 c.params 4) = true)
    (hrobot : (s.robot? (u8 c.params 0)).isSome) (hfree : s.robotPriority (u8 c.params 0) = none) : s.runPasMove c =
      (((match (s.pr (u8 c.params 0)).move with
        | some (_, n, a) => s.complete n a (Ans.bare stDenied 5)
        | none => s).mapPr (u8 c.params 0) (fun x => { x with move := some (u32 c.params 4, c.sess, c.acc) })).askPlan
          (u8 c.params 0) ⟨[u32 c.params 4], true, false⟩, .later) := by
  rw [State.runPasMove, if_neg (by omega), if_neg (by simp [hres, hnode]), if_neg (by simpa using Option.isSome_iff_ne_none.1 hrobot)]
  exact if_neg (by simp [hfree])

theorem runPasResvRead_of_ok (hlen : c.params.length = 8) (hres : u8 c.params 1 = 0) (hres' : u16 c.params 6 = 0)
    (hfirst : u16 c.params 2 ≤ 16383) (hcount : 1 ≤ u16 c.params 4 ∧ u16 c.params 4 ≤ 127) : s.runPasResvRead c =
      let out := ((s.pas.entries.filter (fun e => u8 c.params 0 == 0xFF || e.robot == u8 c.params 0)).drop (u16 c.params 2)).take (u16 c.params 4)
      (s, .fin (Ans.ok (le 2 out.length ++ le 2 0 ++ out.flatMap entryRecord))) := by
  rw [State.runPasResvRead, if_neg (by omega), if_neg (by omega)]
  rfl

theorem runPasResvClear_of_some (hlen : c.params.length = 4) (hres : rd c.params 1 3 = 0)
    (hsome : ∃ e ∈ s.pas.entries, e.robot = u8 c.params 0 ∧ e.kind ≠ 3) : s.runPasResvClear c =
      (s.mapPas (fun p => { p with entries := p.entries.filter (fun e => !(e.robot == u8 c.params 0 && e.kind != 3)) }), .fin (Ans.ok [])) := by
  obtain ⟨e, he, hrobot, hkind⟩ := hsome
  have hheld : ¬((s.entriesOfRobot (u8 c.params 0)).isEmpty = true) := by
    rw [List.isEmpty_iff]
    exact List.ne_nil_of_mem (List.mem_filter.2 ⟨he, by simp [hrobot, hkind]⟩)
  rw [State.runPasResvClear, if_neg (by omega), if_neg (by omega), if_neg hheld]
  rfl

theorem runPasResvClear_of_none (hlen : c.params.length = 4) (hres : rd c.params 1 3 = 0)
    (hnone : ∀ e ∈ s.pas.entries, e.robot = u8 c.params 0 → e.kind = 3) : s.runPasResvClear c = (s, .fin (Ans.bare stOk 1)) := by
  have hempty : (s.entriesOfRobot (u8 c.params 0)).isEmpty = true := by
    rw [List.isEmpty_iff]
    exact List.filter_eq_nil_iff.2 fun e he => by simpa using hnone e he
  rw [State.runPasResvClear, if_neg (by omega), if_neg (by omega), if_pos hempty]
  rfl

end

/-! ### The end of entries -/

/-- The state has the pasture's entries of another. -/
def SameEntries (s t : State) : Prop := t.pas.entries = s.pas.entries

theorem SameEntries.foldl {α : Type} {f : State → α → State} (h : ∀ s a, SameEntries s (f s a)) (l : List α) (s : State) :
    SameEntries s (l.foldl f s) := by
  induction l generalizing s with
  | nil => rfl
  | cons a l ih => exact (ih _).trans (h s a)

theorem sameEntries_mapRobot (r : Nat) (f : Robot → Robot) (s : State) : SameEntries s (s.mapRobot r f) := by
  unfold SameEntries
  rw [mapRobot_eq]

theorem sameEntries_sendHoldZones (r : Nat) (s : State) : SameEntries s (s.sendHoldZones r) :=
  SameEntries.foldl (fun s _ => sameEntries_mapRobot _ _ s) _ _

theorem sameEntries_overstayed (r : Nat) (s : State) : SameEntries s (s.overstayed r) := by
  unfold State.overstayed SameEntries
  dsimp only
  split
  · rfl
  · rw [(onlyRaises_raise 0x0604 .warning 1 1 r _).pas]
    rfl

/-- What the end of windows makes of one entry. -/
theorem overstayDue_entry (u : State) (e : Entry) : afterEnd u.rtNow e =
    if (!(e.kind == 3 && (match e.tOut with | some t => decide (t ≤ u.rtNow) | none => false))) = true then
      some (if u.windowEnded e then State.overstayEntry u.rtNow e else e) else none := by
  unfold afterEnd State.windowEnded State.overstayEntry
  cases e.tOut with
  | none => simp
  | some t =>
    by_cases hnow : u.rtNow < t
    · simp [hnow, Nat.not_le.2 hnow]
    · simp only [hnow, if_false, Nat.not_lt.1 hnow, decide_true, Bool.and_true]
      by_cases h0 : e.kind = 0
      · simp [h0]
      · by_cases h1 : e.kind = 1
        · simp [h1]
        · by_cases h3 : e.kind = 3 <;> simp [h0, h1, h3]

theorem overstayDue_entries (u : State) : u.overstayDue.pas.entries = u.pas.entries.filterMap (afterEnd u.rtNow) := by
  refine (SameEntries.foldl (fun s r => (sameEntries_sendHoldZones r _).trans (sameEntries_overstayed r s)) _ _).trans ?_
  exact (map_filter _ _ _).trans (congrArg (List.filterMap · u.pas.entries) (funext fun e => (overstayDue_entry u e).symm))

theorem afterEnd_prepared {now t : Nat} {e e' : Entry} (h : afterEnd now e = some e') (hkind : e'.kind = 3) (ht : e'.tOut = some t) : now < t := by
  unfold afterEnd at h
  split at h
  · next hnone => simp_all
  · next t' hsome =>
    split at h
    · next hnow =>
      obtain rfl := Option.some.inj h
      rwa [Option.some.inj (ht.symm.trans hsome)]
    · exfalso
      split at h
      · simp at h
      · next h3 =>
        split at h
        · simp [← Option.some.inj h] at hkind
        · split at h
          · simp [← Option.some.inj h] at ht
          · exact h3 (Option.some.inj h ▸ hkind)

theorem borderTimeouts_of_due {u : State} {b : BorderWait} (hone : u.pas.borders = [b]) (hdue : b.since + u.prm 0x060D ≤ u.sys.tick) :
    u.borderTimeouts = ((b.waiting ++ b.voted).foldl (fun s d => s.decide1 b.xid d true) (u.mapPas (fun p => { p with
      borders := p.borders.filter (fun k => k.xid != b.xid) }))).raise 0x060A .notice 2 1 b.robot := by
  rw [State.borderTimeouts, hone, List.filter_singleton, decide_eq_true hdue]
  rfl

/-- Settles O9: the opcodes stage, place, free and read as stated, and entries whose window has ended take the form stated. -/
theorem pastureRowsAct : Obligations.PastureRowsAct := by
  unfold Obligations.PastureRowsAct
  refine ⟨workRow fun c s _ ⟨hhead, hrecs⟩ => runPasNodesWrite_of_ok hhead hrecs,
    workRow fun c s _ ⟨hhead, hrecs⟩ => runPasLanesWrite_of_ok hhead hrecs,
    workRow fun c s _ ⟨hlen, hid, hmin, hmax, hflags, hres⟩ => runPasPaddockWrite_of_ok hlen hid ⟨hmin, hmax⟩ hflags hres,
    workRow fun c s _ ⟨hlen, hid, hres, hmin, hmax, hprice⟩ => runPasHurdlePlace_of_ok hlen hid hres ⟨hmin, hmax⟩ hprice,
    workRow fun c s _ ⟨hlen, hid, hres⟩ => runPasHurdleRemove_of_ok hlen hid hres,
    workRow fun c s _ ⟨hlen, hres, hnode, hrobot, hfree, hmove⟩ => (runPasMove_of_ok hlen hres hnode hrobot hfree).trans (by rw [hmove]),
    fun d n a => workRow fun c s _ ⟨hlen, hres, hnode, hrobot, hfree, hmove⟩ =>
      (runPasMove_of_ok hlen hres hnode hrobot hfree).trans (by rw [hmove]),
    queryRow fun c s ⟨hlen, hres, hres', hfirst, hmin, hmax⟩ => runPasResvRead_of_ok hlen hres hres' hfirst ⟨hmin, hmax⟩,
    queryRow fun c s hlen => if_neg (not_not_intro (congrArg List.length hlen)),
    workRow fun c s _ ⟨hlen, hres, hsome⟩ => runPasResvClear_of_some hlen hres hsome,
    workRow fun c s _ ⟨hlen, hres, hnone⟩ => runPasResvClear_of_none hlen hres hnone,
    eventActs _ (fun _ _ => rfl) fun u hrun => native_of hrun.power hrun.native hrun.running,
    eventActs _ (fun _ _ => rfl) fun u hrun => native_of hrun.power hrun.native hrun.running,
    overstayDue_entries, fun u e he hkind t ht => ?prepared,
    fun b => nativeRow State.borderTimeouts fun u _ ⟨hone, hdue⟩ => borderTimeouts_of_due hone hdue⟩
  case prepared =>
    rw [overstayDue_entries] at he
    obtain ⟨e', -, he'⟩ := List.mem_filterMap.1 he
    exact afterEnd_prepared he' hkind ht

end Sys2Proof.Proofs
end

section
/-! The profile unit: what its opcodes read and set (R306), and the evidence gap of a moving robot (R303). -/

namespace Sys2Proof.Proofs

open Sys2Proof.Machine Sys2Proof.Safety Sys2Proof.Laws

section
variable {c : Cmd} {s : State}

theorem runPrfStateRead_of_ok (hlen : c.params.length = 4) (hcount : 1 ≤ u8 c.params 1 ∧ u8 c.params 1 ≤ 200)
    (hrange : u8 c.params 0 + u8 c.params 1 ≤ 256) (hres : u16 c.params 2 = 0) : s.runPrfStateRead c =
      (s, .fin (Ans.ok ((List.range (u8 c.params 1)).flatMap (fun i =>
        let r := u8 c.params 0 + i
        match s.robot? r with
        | none => le 1 r ++ le 1 0xFF ++ zeros 14
        | some _ =>
          let p := s.pr r
          le 1 r ++ le 1 (if p.devRaised then 2 else b2n (p.devRun != 0)) ++ le 2 (p.pNext.getD p.p) ++ leS 4 p.ea ++
            leS 4 p.ec ++ le 4 p.breaches)))) := by
  rw [State.runPrfStateRead, if_neg (by omega), if_neg (by omega)]
  rfl

theorem runPrfPfSet_of_ok {x : Robot} (hlen : c.params.length = 4) (hres : u8 c.params 1 = 0) (hx : s.robot? (u8 c.params 0) = some x)
    (hmin : u16 (s.prfClass x.cls) 26 ≤ u16 c.params 2) (hmax : u16 c.params 2 ≤ u16 (s.prfClass x.cls) 28) :
    s.runPrfPfSet c = (s.mapPr (u8 c.params 0) (fun p => { p with p := u16 c.params 2, pNext := none }), .fin (Ans.ok [])) := by
  rw [State.runPrfPfSet, if_neg (by omega)]
  simp only [hx]
  rw [if_neg (by omega)]
  rfl

/-- PRF_TRACK_READ shows the newest track that lives, or an empty record. -/
theorem runPrfTrackRead_of_robot (hlen : c.params.length = 4) (hres : rd c.params 1 3 = 0) (hrobot : (s.robot? (u8 c.params 0)).isSome) :
    s.runPrfTrackRead c = (s, .fin (Ans.ok (((s.liveTracks (u8 c.params 0)).getLast?.map fun k =>
      le 2 k.id ++ le 1 k.segs.length ++ le 1 0 ++ k.segs.flatMap (fun g =>
        le 4 g.lane ++ le 4 g.s0 ++ le 4 (g.tStart % 4294967296) ++ le 4 (g.tEnd % 4294967296) ++ g.rcd.bytes)).getD (zeros 4)))) := by
  rw [State.runPrfTrackRead, if_neg (by omega), if_neg (by omega), if_neg (by simpa using Option.isSome_iff_ne_none.1 hrobot)]
  dsimp only
  cases (s.liveTracks (u8 c.params 0)).getLast? <;> rfl

end

theorem noEvidence_of_reported {u : State} {r : Nat} (h : (u.pr r).gapDone = true) : u.noEvidence r = u := if_neg (by simp [h])

/-- Settles O10: the profile unit's opcodes answer as stated, and an evidence gap is reported once. -/
theorem profileRowsAct : Obligations.ProfileRowsAct := by
  unfold Obligations.ProfileRowsAct
  exact ⟨queryRow fun c s ⟨hlen, hmin, hmax, hrange, hres⟩ => runPrfStateRead_of_ok hlen ⟨hmin, hmax⟩ hrange hres,
    fun x => workRow fun c s _ ⟨hlen, hres, hx, hmin, hmax⟩ => runPrfPfSet_of_ok hlen hres hx hmin hmax,
    fun k => queryRow fun c s ⟨hlen, hres, hrobot, hk⟩ => (runPrfTrackRead_of_robot hlen hres hrobot).trans (by rw [hk]; rfl),
    queryRow fun c s ⟨hlen, hres, hrobot, hnone⟩ => (runPrfTrackRead_of_robot hlen hres hrobot).trans (by rw [hnone]; rfl),
    fun r hr => nativeRow (State.noEvidence r) (fun u _ hgap => if_pos hgap) fun _ _ => if_pos hr,
    fun r hr => nativeRow (State.noEvidence r) (fun u _ hdone => noEvidence_of_reported hdone) fun _ _ => if_pos hr⟩

end Sys2Proof.Proofs
end

section
/-! The tasks block: what its opcodes take in, cancel, read and free, and what a core's end of job does (R309, R313, R314, R329, R332, R334,
R337). -/

namespace Sys2Proof.Proofs

open Sys2Proof.Machine Sys2Proof.Safety Sys2Proof.Laws

section
variable {c : Cmd} {s : State}

/-- A submitted record takes the next free serial, after those entered before it (R309). -/
def recordEntered (sess : Nat) (acc : State × List Nat) (x : Bytes × Nat) : State × List Nat :=
  let ser := acc.1.nextSerial 4097 acc.1.tsk.serial
  let id := acc.1.deviceNo * 1048576 + ser
  (acc.1.mapTsk (fun k => { k with tasks := Tab.put id (State.submittedTask acc.1 sess x.2 x.1) k.tasks, serial := ser }), acc.2 ++ [id])

theorem submitRecords_eq (sess : Nat) (l : List (Bytes × Nat)) : s.submitRecords sess l = l.foldl (recordEntered sess) (s, []) := rfl

/-- What was answered for earlier records only stands ahead. -/
theorem foldl_recordEntered (sess : Nat) (l : List (Bytes × Nat)) (s : State) (ids : List Nat) :
    (l.foldl (recordEntered sess) (s, ids)).2 = ids ++ (l.foldl (recordEntered sess) (s, [])).2 := by
  induction l generalizing s ids with
  | nil => simp
  | cons x l ih =>
    rw [List.foldl_cons, List.foldl_cons, recordEntered, recordEntered, ih _ (ids ++ _), ih _ ([] ++ _), List.nil_append, List.append_assoc]

theorem submitRecords_cons (sess i : Nat) (x : Bytes) (l : List (Bytes × Nat)) : (s.submitRecords sess ((x, i) :: l)).2 =
    (s.deviceNo * 1048576 + s.nextSerial 4097 s.tsk.serial) :: ((s.mapTsk (fun k => { k with
      tasks := Tab.put (s.deviceNo * 1048576 + s.nextSerial 4097 s.tsk.serial) (State.submittedTask s sess i x) k.tasks
      serial := s.nextSerial 4097 s.tsk.serial })).submitRecords sess l).2 := by
  rw [submitRecords_eq, submitRecords_eq, List.foldl_cons, recordEntered, foldl_recordEntered]
  rfl

theorem runTskSubmit_of_ok (hcount : 1 ≤ u16 c.params 0 ∧ u16 c.params 0 ≤ 63) (hres : u16 c.params 2 = 0)
    (hlen : c.params.length = 4 + 64 * u16 c.params 0) (hroom : s.tsk.tasks.length + u16 c.params 0 ≤ 4096)
    (hquota : (s.tsk.tasks.filter (fun e => e.2.sess == c.sess)).length + u16 c.params 0 ≤ s.prm 0x0801)
    (hrecs : ∀ x ∈ submittedRecords c.params, s.taskRecOk x.1 = true) : s.runTskSubmit c =
      ((s.submitRecords c.sess (submittedRecords c.params)).1.mapTsk (fun k => { k with submits := k.submits + 1, fullRun := false }),
        .fin (Ans.ok ((s.submitRecords c.sess (submittedRecords c.params)).2.flatMap (fun i => le 4 i)))) := by
  have hsound : findIdx (fun x => !s.taskRecOk x) ((List.range (u16 c.params 0)).map (fun i => slice c.params (4 + 64 * i) 64)) = none :=
    findIdx_none _ _ fun x hx => by
      obtain ⟨i, hi, rfl⟩ := List.mem_iff_getElem.1 hx
      simpa using hrecs (_, i) (List.mem_zipIdx_iff_getElem?.2 (List.getElem?_eq_getElem hi))
  rw [State.runTskSubmit, if_neg (by omega), if_neg (by omega), if_neg (by omega), if_neg (by omega), if_neg (by omega), if_neg (by omega)]
  simp only [hsound]
  rfl

theorem runTskCancel_of_ok {t : Task} (hlen : c.params.length = 4) (ht : s.task? (u32 c.params 0) = some t)
    (hmine : t.state = 6 → t.sess = c.sess) (hopen : t.state ≠ 5) (hfirst : t.cancel = none)
    (hfirst' : ∀ x ∈ s.tsk.cancels, x.1 ≠ u32 c.params 0) :
    s.runTskCancel c = (s.mapTsk (fun k => { k with cancels := k.cancels ++ [(u32 c.params 0, c.sess, c.acc)] }), .later) := by
  rw [State.runTskCancel, if_neg (by omega)]
  simp only [ht]
  rw [if_neg (fun h => h.2 (hmine h.1)), if_neg hopen, if_neg]
  simpa [hfirst] using fun n a h => hfirst' (u32 c.params 0, n, a) h rfl

theorem runTskResultRead_of_past (hlen : c.params.length = 8) (hcount : 1 ≤ u16 c.params 4 ∧ u16 c.params 4 ≤ 126) (hres : u16 c.params 6 = 0)
    (hpast : seqPast s.tsk.resultSeq s.heldSeqs (u32 c.params 0) = true) : s.runTskResultRead c =
      let held := s.tsk.tasks.filter (fun e => e.2.state == 5 &&
        decide (seqAge s.tsk.resultSeq e.2.resultSeq ≤ seqAge s.tsk.resultSeq (u32 c.params 0)))
      let out := (sortBy (fun x y => decide (seqAge s.tsk.resultSeq y.2.resultSeq ≤ seqAge s.tsk.resultSeq x.2.resultSeq)) held).take
        (u16 c.params 4)
      (s, .fin (Ans.ok (le 2 out.length ++ le 2 0 ++ out.flatMap (fun e => resultRecord e.1 e.2)))) := by
  rw [State.runTskResultRead, if_neg (by omega), if_neg (by omega)]
  simp only [hpast, if_true]
  rfl

theorem runTskResultAck_of_past (hlen : c.params.length = 4) (hpast : seqPast s.tsk.resultSeq s.heldSeqs (u32 c.params 0) = true) :
    s.runTskResultAck c = (s.mapTsk (fun k => { k with tasks := k.tasks.filter (fun e => !(e.2.state == 5 &&
      decide (seqAge s.tsk.resultSeq (u32 c.params 0) ≤ seqAge s.tsk.resultSeq e.2.resultSeq))) }), .fin (Ans.ok [])) := by
  rw [State.runTskResultAck, if_neg (by omega), if_neg (by simp [hpast])]
  rfl

theorem runTskRead_of_held {t : Task} (hlen : c.params.length = 4) (ht : s.task? (u32 c.params 0) = some t) (hstate : t.state ≠ 6) :
    s.runTskRead c = (s, .fin (Ans.ok (le 1 t.state ++ le 1 (t.robot.getD 0xFF) ++ le 2 0 ++ le 4 t.resultSeq ++
      le 8 (if t.state = 0 then 0 else t.release) ++ t.record ++ le 8 (if t.state = 4 then t.eta else 0)))) := by
  rw [State.runTskRead, if_neg (by omega)]
  simp only [ht]
  rw [if_neg hstate]
  rfl

theorem droverJobEnd_of_busy {core : Nat} {a : Job} {b : Option Job} (hruns : s.sys.halted.contains core = false)
    (hcore : s.tsk.cores[core - 2]? = some (some a, b)) :
    s.droverJobEnd core = (s.mapTsk (fun k => { k with cores := modAt (core - 2) (fun _ => (b, none)) k.cores })).fillCores := by
  simp only [State.droverJobEnd, hruns, Bool.false_eq_true, if_false, hcore]

end

/-- Settles O11: the task opcodes act as stated on sound parameters, and a core's job ends only while the core runs. -/
theorem taskRowsAct : Obligations.TaskRowsAct := by
  unfold Obligations.TaskRowsAct
  exact ⟨workRow fun c s _ ⟨hmin, hmax, hres, hlen, hroom, hquota, hrecs⟩ => runTskSubmit_of_ok ⟨hmin, hmax⟩ hres hlen hroom hquota hrecs,
    fun s sess x i l => submitRecords_cons sess i x l,
    fun t => workRow fun c s _ ⟨hlen, ht, hmine, hopen, hfirst, hfirst'⟩ => runTskCancel_of_ok hlen ht hmine hopen hfirst hfirst',
    queryRow fun c s ⟨hlen, hmin, hmax, hres, hpast⟩ => runTskResultRead_of_past hlen ⟨hmin, hmax⟩ hres hpast,
    workRow fun c s _ ⟨hlen, hpast⟩ => runTskResultAck_of_past hlen hpast,
    queryRow fun c s hlen => if_neg (not_not_intro (congrArg List.length hlen)),
    fun t => queryRow fun c s ⟨hlen, ht, hstate⟩ => runTskRead_of_held hlen ht hstate,
    fun core a b hmin hmax => nativeRow (State.droverJobEnd core) (fun u _ ⟨hruns, hcore⟩ => droverJobEnd_of_busy hruns hcore)
      fun _ _ => if_pos ⟨hmin, hmax⟩,
    fun core hmin hmax => nativeRow (State.droverJobEnd core) (fun u _ hhalted => if_pos hhalted) fun _ _ => if_pos ⟨hmin, hmax⟩⟩

end Sys2Proof.Proofs
end

section
/-! Crook: its opcodes, the loop, the preemptive stop frame and the confirmation that does not come (R342 to R344, R346, R352, R358, R359,
R365). -/

namespace Sys2Proof.Proofs

open Sys2Proof.Machine Sys2Proof.Safety Sys2Proof.Laws

/-- Two changes of Crook's part that agree on the part found are one. -/
theorem mapCrk_congr {f g : Crk → Crk} {s : State} (h : f s.crk = g s.crk) : s.mapCrk f = s.mapCrk g :=
  congrArg (fun k => { s with crk := k }) h

/-! ### Stops -/

section
variable {c : Cmd} {s u : State} {kind index ramp : Nat}

theorem runCrkStop_of_ok (h : stopOk c s) : s.runCrkStop c =
    (s.setStop 2 (u8 c.params 0) (u16 c.params 2) (u8 c.params 1), .fin (stopAnswer c (stopFormed c s))) := by
  obtain ⟨hlen, hramp, hscope, hbits, hroom⟩ := h
  rw [State.runCrkStop, if_neg (by omega), if_neg (by omega)]
  simp only [hbits]
  have hrobot : ¬(u8 c.params 0 = 1 ∧ (s.robot? (u16 c.params 2)).isNone = true) := by
    rintro ⟨hkind, hnone⟩
    obtain ⟨h0, -⟩ | ⟨-, -, hsome⟩ | ⟨h2, -⟩ | ⟨h3, -⟩ := hscope
    · omega
    · simp [Option.isNone_iff_eq_none.1 hnone] at hsome
    · omega
    · omega
  have hpaddock : ¬(u8 c.params 0 = 3 ∧ (s.paddocks.all fun p => p.1 != u16 c.params 2) = true) := by
    rintro ⟨hkind, hall⟩
    obtain ⟨h0, -⟩ | ⟨h1, -⟩ | ⟨h2, -⟩ | ⟨-, -, p, hp, hid⟩ := hscope
    · omega
    · omega
    · omega
    · simpa [hid] using List.all_eq_true.1 hall p hp
  rw [if_neg hrobot, if_neg hpaddock, if_neg (by simp [hroom])]
  rfl

/-- A stop that its source holds as strongly changes nothing. -/
theorem putStop_of_held (h : s.alreadyHeld 2 kind index ramp = true) : s.putStop 2 kind index ramp = s := if_pos h

theorem setStop_of_held (h : s.stopsAhead.alreadyHeld 2 kind index ramp = true) : s.setStop 2 kind index ramp = s := if_pos h

theorem setStop_of_new (h : u.stopsAhead.alreadyHeld 2 kind index ramp = false) :
    u.setStop 2 kind index ramp = u.changeStop ⟨2, kind, index, ramp, true⟩ := if_neg (by simp [h])

theorem changeStop_of_pair (hrole : u.pai.role ≠ 0) (htrained : u.pai.trained = true) : u.changeStop ⟨2, kind, index, ramp, true⟩ =
    (u.emit (.pairStop kind index ramp true)).mapCrk (fun k => { k with
      due := k.due ++ [(u.now + 20000, ⟨2, kind, index, ramp, true⟩)] }) :=
  if_pos ⟨by simp [State.paired, hrole, htrained], (by decide : (2 : Nat) ≠ 4)⟩

theorem changeStop_of_alone (hrole : u.pai.role = 0) : u.changeStop ⟨2, kind, index, ramp, true⟩ = u.putStop 2 kind index ramp :=
  (if_neg (by simp [State.paired, hrole])).trans (if_pos rfl)

theorem stopsDue_of_one {t : Nat} {x : StopChange} (hdue : u.crk.due = [(t, x)]) (ht : t ≤ u.now) :
    u.stopsDue = { State.applyStop x { u.mapCrk (fun k => { k with due := [] }) with now := t } with now := u.now } := by
  have hripe : u.crk.due.filter (fun x => decide (x.1 ≤ u.now)) = [(t, x)] := by simp [hdue, ht]
  have hrest : u.mapCrk (fun k => { k with due := k.due.filter (fun x => decide (u.now < x.1)) }) = u.mapCrk (fun k => { k with due := [] }) :=
    mapCrk_congr (by simp [hdue, ht])
  simp only [State.stopsDue, hripe, hrest]
  rfl

theorem runCrkRelease_of_ok (hlen : c.params.length = 4) (hscope : u8 c.params 0 = 0 ∧ u8 c.params 1 = 0 ∧ u16 c.params 2 = 0 ∨
      u8 c.params 0 = 1 ∧ u8 c.params 1 = 0 ∧ u16 c.params 2 = 0 ∧ s.loopClosed = true ∨
      u8 c.params 0 = 2 ∧ 1 ≤ u8 c.params 1 ∧ u8 c.params 1 ≤ 3) : s.runCrkRelease c =
    (s.mapCrk (fun k => { k with
      releases := k.releases ++ [(u8 c.params 0, u8 c.params 1, u16 c.params 2, c.sess, c.acc)] }), .later) := by
  have hloop : ¬(u8 c.params 0 = 1 ∧ s.loopClosed = false ∧ c.replay = false) := by
    rintro ⟨h1, hopen, -⟩
    obtain ⟨h0, -⟩ | ⟨-, -, -, hclosed⟩ | ⟨h2, -⟩ := hscope
    · omega
    · simp [hopen] at hclosed
    · omega
  rw [State.runCrkRelease, if_neg (by omega), if_neg (by omega), if_neg hloop]

theorem runCrkRobotRead_of_ok (hlen : c.params.length = 4) (hcount : 1 ≤ u8 c.params 1) (hrange : u8 c.params 0 + u8 c.params 1 ≤ 256)
    (hres : u16 c.params 2 = 0) : s.runCrkRobotRead c = (s, .fin (Ans.ok ((List.range (u8 c.params 1)).flatMap (fun i =>
      let r := u8 c.params 0 + i
      if (s.robot? r).isNone then le 1 r ++ le 1 0xFF ++ zeros 6
      else
        let k := Tab.getD r ⟨false, 0, 0⟩ s.crk.conf
        let late := s.crk.watch.any (fun w => s.scopeCovers w.kind w.index r && w.late.contains r)
        let st := if s.covered r = false then 0 else if s.stopConfirmed r then 2 else if late then 3 else 1
        le 1 r ++ le 1 st ++ le 1 (if st = 0 then 0 else s.coverRamp r) ++ le 1 0 ++ le 4 (if st = 2 then k.still else 0))))) := by
  rw [State.runCrkRobotRead, if_neg (by omega), if_neg (by omega)]
  rfl

end

/-! ### The loop -/

section
variable {u : State}

theorem loopLow_of_filtered {ch us : Nat} (h : u.loopPrm 1 ≤ us) : u.loopLow ⟨ch, us⟩ = u.loopOpen ch := if_neg (Nat.not_lt.2 h)

theorem loopOpen_a (hon : u.loopPrm 0 ≠ 0) : u.loopOpen 0 = (u.mapCrk (fun k => { k with
    openA := true, bothOpen := k.bothOpen || k.openB, togetherAt := none
    discFrom := if k.openB then none else match k.discFrom with | some t => some t | none => some u.now
    discDone := k.discDone && !k.openB
    latched := k.latched || u.loopPrm 4 == 1 })).setStop 1 0 0 (u.loopPrm 3) := by
  rw [State.loopOpen, if_neg hon]
  exact congrArg (State.setStop 1 0 0 (u.loopPrm 3)) (mapCrk_congr (by simp <;> rfl))

theorem loopOpen_b (hon : u.loopPrm 0 ≠ 0) : u.loopOpen 1 = (u.mapCrk (fun k => { k with
    openB := true, bothOpen := k.bothOpen || k.openA, togetherAt := none
    discFrom := if k.openA then none else match k.discFrom with | some t => some t | none => some u.now
    discDone := k.discDone && !k.openA
    latched := k.latched || u.loopPrm 4 == 1 })).setStop 1 0 0 (u.loopPrm 3) := by
  rw [State.loopOpen, if_neg hon]
  exact congrArg (State.setStop 1 0 0 (u.loopPrm 3)) (mapCrk_congr (by simp <;> rfl))

/-- Both channels of a loop without discrepancy have closed: what remains is the latch (R344). -/
theorem loopClose_both (hon : u.loopPrm 0 ≠ 0) (hdisc : u.crk.disc = false) (hopen : (u.crk.openA || u.crk.openB) = true) :
    u.loopClose true true = (u.mapCrk (fun k => { k with
      openA := false, openB := false, discFrom := none, discDone := false, disc := false, bothOpen := false
      togetherAt := some (k.togetherAt.getD u.now) })).loopRearm := by
  have hwas : u.loopClosed = false := by
    simp only [Bool.or_eq_true] at hopen
    rcases hopen with h | h <;> simp [State.loopClosed, h]
  rw [State.loopClose, if_neg hon]
  refine (if_pos ⟨by simp [State.loopClosed, hdisc], hwas⟩).trans (congrArg State.loopRearm (mapCrk_congr ?_))
  simp [hdisc]

theorem loopRearm_of_latched (hrearm : u.loopPrm 4 = 1) : u.loopRearm = u.mapCrk (fun k => { k with latched := true }) := by
  simp only [State.loopRearm, hrearm]
  rfl

theorem loopRearm_of_released {t : State} (hrearm : u.loopPrm 4 ≠ 1)
    (ht : (u.mapCrk (fun k => { k with latched := false })).releaseStop 1 0 0 = some t) : u.loopRearm = t := by
  simp only [State.loopRearm, beq_eq_false_iff_ne.2 hrearm, ht]
  rfl

theorem loopDiscrepancy_of_due {t : Nat} (hon : u.loopPrm 0 ≠ 0) (hdone : u.crk.discDone = false) (hfrom : u.crk.discFrom = some t)
    (hlong : u.loopPrm 2 * 1000000 < u.now - t) : u.loopDiscrepancy =
      (u.mapCrk (fun k => { k with disc := true, discDone := true, bothOpen := false })).raise0 0x0903 .fault (if u.crk.openA then 1 else 2) 0 := by
  simp only [State.loopDiscrepancy, hfrom]
  refine if_neg ?_
  rintro (h | h | h)
  · exact hon h
  · simp [hdone] at h
  · exact Nat.not_le.2 hlong h

end

/-! ### Stop frames and confirmations -/

section
variable {u : State}

/-- An occasion that has come is used outside slot 0: the frame is sent, or a busy channel loses it (R352, R353). -/
theorem stopFrameSend_of_due {c : Nat} {f : Nat × Nat} {sense : Int}
    (hdue : u.crk.frames.find? (fun (f : Nat × Nat) => f.1 == c && decide (f.2 ≤ u.now)) = some f) (hbeacons : u.beaconsOn = true)
    (hchain : u.chainOn c = true) (hslot : 2 ≤ u.air.slot) : u.stopFrameSend c sense =
      if u.lbtBusy sense = true then
        (u.mapCrk (fun k => { k with frames := k.frames.erase f, framesLost := k.framesLost + 1 })).mapChain c (fun k => { k with
          deferrals := inc32 k.deferrals })
      else
        ((((u.mapCrk (fun k => { k with frames := k.frames.erase f })).useKey 0).flockCount).2.mapChain c (fun k => { k with
          stopAsn := some u.air.asn })).transmit c (u.prm 0x0506) 21 (fun khz => .stopFrame c khz
            (u.flockPsdu u.lnk.flockCtr (le 4 (u.air.asn % 2 ^ 32) ++ le 2 (u.tokenWith u.crk.table.getLast?) ++ [0, 0]))) := by
  have huse : ¬((u.mapCrk (fun k => { k with frames := k.frames.erase f })).beaconsOn = false ∨
      (u.mapCrk (fun k => { k with frames := k.frames.erase f })).chainOn c = false ∨
      (u.mapCrk (fun k => { k with frames := k.frames.erase f })).air.slot ≤ 1) := by
    change ¬(u.beaconsOn = false ∨ u.chainOn c = false ∨ u.air.slot ≤ 1)
    simp [hbeacons, hchain]
    omega
  simp only [State.stopFrameSend, hdue]
  rw [if_neg huse]
  rfl

theorem stopUnconfirmed_of_one {r : Nat} {w : StopWatch} (hrobot : (u.robot? r).isSome) (hone : u.crk.watch = [w])
    (hconf : w.conf.contains r = false) (hcovers : u.scopeCovers w.kind w.index r = true) (hnew : w.late.contains r = false)
    (hlong : (u.tE r + u.prm 0x0906) * 1000000 ≤ u.now - w.since) : u.stopUnconfirmed r =
      (u.mapCrk (fun k => { k with watch := [{ w with late := r :: w.late }] })).raise 0x0904 .warning 1 1 r := by
  have hlate : (State.scopeCovers u w.kind w.index r && !w.conf.contains r && !w.late.contains r &&
      decide ((u.tE r + u.prm 0x0906) * 1000000 ≤ u.now - w.since)) = true := by
    simp only [hcovers, hconf, hnew, hlong, decide_true, Bool.not_false, Bool.and_self]
  rw [State.stopUnconfirmed, if_neg (by simpa using Option.isSome_iff_ne_none.1 hrobot), hone, List.filter_singleton, hlate]
  refine congrArg (State.raise 0x0904 .warning 1 1 r) (mapCrk_congr ?_)
  simp only [hone, List.map_cons, List.map_nil, if_pos hlate]

end

/-- Settles O12: Crook's opcodes, the loop's and the stop frame's events meet their conditions and act as stated. -/
theorem crookRowsAct : Obligations.CrookRowsAct := by
  unfold Obligations.CrookRowsAct
  refine ⟨workRow fun c s _ hok => runCrkStop_of_ok hok, controlRow fun c s _ hok => runCrkStop_of_ok hok,
    fun old => workRow fun c s _ ⟨hok, hold, hramp⟩ => ?held,
    fun u kind index ramp hnew hrole htrained => (setStop_of_new hnew).trans (changeStop_of_pair hrole htrained),
    fun u kind index ramp hnew hrole => (setStop_of_new hnew).trans (changeStop_of_alone hrole),
    fun u t x hdue ht => stopsDue_of_one hdue ht,
    workRow fun c s _ ⟨hlen, hscope⟩ => runCrkRelease_of_ok hlen hscope,
    queryRow fun c s hlen => if_neg (not_not_intro (congrArg List.length hlen)),
    queryRow fun c s ⟨hlen, hcount, hrange, hres⟩ => runCrkRobotRead_of_ok hlen hcount hrange hres,
    fun us => nativeHwRow (State.loopLow ⟨0, us⟩) fun u _ ⟨hon, hlong⟩ => (loopLow_of_filtered hlong).trans (loopOpen_a hon),
    fun us => nativeHwRow (State.loopLow ⟨1, us⟩) fun u _ ⟨hon, hlong⟩ => (loopLow_of_filtered hlong).trans (loopOpen_b hon),
    fun ch us hch => nativeHwRow (State.loopLow ⟨ch, us⟩) (fun u _ hshort => if_pos hshort) fun _ _ => if_pos hch,
    nativeHwRow (State.loopClose true true) fun u _ ⟨hon, hdisc, hopen, hrearm⟩ =>
      (loopClose_both hon hdisc hopen).trans (loopRearm_of_latched hrearm),
    fun t => nativeHwRow (State.loopClose true true) fun u _ ⟨hon, hdisc, hopen, hrearm, ht⟩ =>
      (loopClose_both hon hdisc hopen).trans (loopRearm_of_released hrearm ht),
    fun t => nativeHwRow State.loopDiscrepancy fun u _ ⟨hon, hdone, hfrom, hlong⟩ => loopDiscrepancy_of_due hon hdone hfrom hlong,
    fun c f sense hc => nativeHwRow (State.stopFrameSend c sense) (fun u _ ⟨hdue, hbeacons, hchain, hslot, hquiet⟩ =>
      (stopFrameSend_of_due hdue hbeacons hchain hslot).trans (if_neg (by simpa [State.lbtBusy] using hquiet))) fun _ _ => if_pos hc,
    fun c f sense hc => nativeHwRow (State.stopFrameSend c sense) (fun u _ ⟨hdue, hbeacons, hchain, hslot, hdomain, hbusy⟩ =>
      (stopFrameSend_of_due hdue hbeacons hchain hslot).trans (if_pos (by simp [State.lbtBusy, hdomain, hbusy]))) fun _ _ => if_pos hc,
    fun r w hr => nativeRow (State.stopUnconfirmed r) (fun u _ ⟨hrobot, hone, hconf, hcovers, hnew, hlong⟩ =>
      stopUnconfirmed_of_one hrobot hone hconf hcovers hnew hlong) fun _ _ => if_pos hr⟩
  case held =>
    have hheld : s.stopsAhead.alreadyHeld 2 (u8 c.params 0) (u16 c.params 2) (u8 c.params 1) = true := by
      simp [State.alreadyHeld, hold, hramp]
    rw [show opCrkStop.run c s = s.runCrkStop c from rfl, runCrkStop_of_ok hok, setStop_of_held hheld, stopFormed, putStop_of_held hheld]

end Sys2Proof.Proofs
end

section
/-! The site axes: their opcodes and what the hardware does at the PWM rate (R371 to R377, R380 to R382). -/

namespace Sys2Proof.Proofs

open Sys2Proof.Machine Sys2Proof.Safety Sys2Proof.Laws

/-! ### One axis of the state -/

section
variable {u : State} {n k : Nat} {f : Axis → Axis}

theorem axis_mapAxis_self (hn : n < u.axs.length) : (u.mapAxis n f).axis n = f (u.axis n) := by
  simp [State.axis, State.mapAxis, modAt, hn]

theorem axis_mapAxis_ne (hne : n ≠ k) : (u.mapAxis n f).axis k = u.axis k := by
  simp only [State.axis, State.mapAxis, modAt, List.getD_eq_getElem?_getD, List.getElem?_modify, if_neg hne]
  cases u.axs[k]? <;> rfl

theorem axis_axisRamp_ne {emerg : Bool} {outcome : Nat} (hne : n ≠ k) : (u.axisRamp n emerg outcome).axis k = u.axis k := by
  unfold State.axisRamp
  dsimp only
  split
  · rfl
  · split
    · rfl
    · exact axis_mapAxis_ne hne

theorem axis_of_onlyRaises {s t : State} (h : OnlyRaises s t) : t.axis k = s.axis k := by rw [State.axis, h.axs]; rfl

/-- Position of an axis now, as its motion or its rest gives it. -/
theorem axisNow_fst (u : State) (n : Nat) :
    (axisNow u n).1 = match (u.axis n).motion with | some m => m.posAt (u.now - m.start) | none => (u.axis n).p := by
  unfold axisNow
  cases (u.axis n).motion <;> rfl

end

/-! ### Opcodes -/

section
variable {c : Cmd} {s : State}

/-- An enabled axis passes the check of the commands that name it. -/
theorem axisCheck_of_on {n : Nat} (hn : n < 4) (hon : s.axisOn n = true) : s.axisCheck n = none := by
  rw [State.axisCheck, if_neg (by omega), if_neg (by simp [hon])]

theorem inI32_of_range {v : Int} (hmin : -2147483648 ≤ v) (hmax : v ≤ 2147483647) : State.inI32 v = true := decide_eq_true ⟨hmin, hmax⟩

theorem runAxsMove_of_ready (hlen : c.params.length = 12) (hready : axisReady s (u8 c.params 0)) (hmode : u8 c.params 1 ≤ 2)
    (hres : u16 c.params 2 = 0) (hspeed : 1 ≤ u32 c.params 8 ∧ u32 c.params 8 ≤ u32 (s.axisRec (u8 c.params 0)) 0) {tgt : Int}
    (htgt : State.axisTarget (u8 c.params 1) (s.axis (u8 c.params 0)).p (i32 c.params 4) = tgt) (hmin : -2147483648 ≤ tgt)
    (hmax : tgt ≤ 2147483647) : s.runAxsMove c =
      if u8 c.params 1 ≠ 2 ∧ tgt = (s.axis (u8 c.params 0)).p then
        (s, .fin (Ans.ok (State.moveBody 0 (s.axis (u8 c.params 0)).p)))
      else (s.mapAxis (u8 c.params 0) (fun a => { a with
        wait := some ⟨u8 c.params 1, tgt, u32 c.params 8⟩, cmd := some (c.sess, c.acc) }), .later) := by
  obtain ⟨hn, hon, hrest, hfree⟩ := hready
  rw [State.runAxsMove, if_neg (by omega)]
  simp only [axisCheck_of_on hn hon, htgt]
  rw [if_neg (by simp [inI32_of_range hmin hmax]; omega), if_neg (by simp [hrest]), if_neg (by simp [hfree])]
  rfl

theorem runAxsHalt_of_moving (hlen : c.params.length = 4) (hn : u8 c.params 0 < 4) (hon : s.axisOn (u8 c.params 0) = true)
    (hramp : u8 c.params 1 ≤ 1) (hres : u16 c.params 2 = 0) (hmoving : s.axisMoving (u8 c.params 0) = true) : s.runAxsHalt c =
      (s.mapAxis (u8 c.params 0) (fun a => { a with haltNext := a.haltNext ++ [(u8 c.params 1, c.sess, c.acc)] }), .later) := by
  rw [State.runAxsHalt, if_neg (by omega)]
  simp only [axisCheck_of_on hn hon]
  rw [if_neg (by omega), if_neg (by simp [hmoving])]

theorem runAxsHalt_of_rest (hlen : c.params.length = 4) (hn : u8 c.params 0 < 4) (hon : s.axisOn (u8 c.params 0) = true)
    (hramp : u8 c.params 1 ≤ 1) (hres : u16 c.params 2 = 0) (hrest : s.axisMoving (u8 c.params 0) = false) :
    s.runAxsHalt c = (s, .fin (Ans.bare stOk 1)) := by
  rw [State.runAxsHalt, if_neg (by omega)]
  simp only [axisCheck_of_on hn hon]
  rw [if_neg (by omega), if_pos hrest]
  rfl

theorem runAxsHome_of_ready (hlen : c.params.length = 12) (hready : axisReady s (u8 c.params 0)) (hdir : u8 c.params 1 ≤ 1)
    (hres : u16 c.params 2 = 0) (hspeed : 1 ≤ u32 c.params 4 ∧ u32 c.params 4 ≤ u32 (s.axisRec (u8 c.params 0)) 0)
    (href : (s.axis (u8 c.params 0)).refActive = false) : s.runAxsHome c =
      (s.mapAxis (u8 c.params 0) (fun a => { a with
        wait := some ⟨3, if u8 c.params 1 = 1 then -2147483648 else 2147483647, u32 c.params 4⟩
        cmd := some (c.sess, c.acc), offset := i32 c.params 8 }), .later) := by
  obtain ⟨hn, hon, hrest, hfree⟩ := hready
  rw [State.runAxsHome, if_neg (by omega)]
  simp only [axisCheck_of_on hn hon]
  rw [if_neg (by omega), if_neg (by simp [hrest]), if_neg (by simp [hfree]), if_neg (by simp [href])]

theorem runAxsSetPos_of_rest (hlen : c.params.length = 8) (hn : u8 c.params 0 < 4) (hon : s.axisOn (u8 c.params 0) = true)
    (hres : rd c.params 1 3 = 0) (hrest : s.axisMoving (u8 c.params 0) = false) : s.runAxsSetPos c =
      (s.mapAxis (u8 c.params 0) (fun a => { a with p := i32 c.params 4, suspended := false }), .fin (Ans.ok [])) := by
  rw [State.runAxsSetPos, if_neg (by omega)]
  simp only [axisCheck_of_on hn hon]
  rw [if_neg (by omega), if_neg (by simp [hrest])]
  rfl

theorem runAxsStateRead_of_empty (hlen : c.params = []) : s.runAxsStateRead c = (s, .fin (Ans.ok ((List.range 4).flatMap (fun n =>
      let x := s.axis n
      let z := axisNow s n
      let st := if s.axisOn n = false then 0 else match x.motion with
        | some m => if m.ramp then 3 else if m.homing then 4 else 2
        | none => 1
      le 1 n ++ le 1 st ++ le 1 (b2n (decide (u8 (s.axisRec n) 44 ≤ x.stallRun)) + 2 * b2n x.devRun.isSome + 4 * b2n x.suspended +
        8 * b2n (decide (8 ≤ x.fullRun))) ++ [0] ++ leS 4 z.1 ++ leS 4 z.2 ++ leS 4 x.count ++ leS 4 x.d ++ le 4 x.delta ++
        leS 4 x.refP ++ leS 4 x.refCount ++ leS 4 x.auxP ++ leS 4 x.zCount)))) := by
  refine (if_neg (not_not_intro (congrArg List.length hlen))).trans (congrArg (fun f => (s, CmdRes.fin (Ans.ok ((List.range 4).flatMap f)))) ?_)
  funext n
  dsimp only [axisNow]
  cases s.axisOn n <;> cases (s.axis n).motion <;> rfl

end

/-! ### Events -/

section
variable {u : State} {n : Nat}

/-- Events that a period may raise leave the axes as its change left them. -/
theorem onlyRaises_ite_raise {s : State} (p q : Prop) [Decidable p] [Decidable q] (lvl : Nat) : OnlyRaises s
    (if q then (if p then s.raise 0x0A04 .notice 1 5 n else s).raise 0x0A02 .warning lvl 5 n else if p then s.raise 0x0A04 .notice 1 5 n else s) := by
  have hfirst : OnlyRaises s (if p then s.raise 0x0A04 .notice 1 5 n else s) := by
    split
    · exact onlyRaises_raise ..
    · exact .refl s
  split
  · exact hfirst.trans (onlyRaises_raise ..)
  · exact hfirst

theorem axisPwm_of_on {vbus : Nat} {edges : Int} (hn : n < u.axs.length) (hon : u.axisOn n = true) :
    let x := u.axis n
    let b := u.axisRec n
    let z := axisNow u n
    let y := (u.axisPwm n vbus edges).axis n
    let v := match x.motion with | some m => m.speedAt (u.now - m.start) | none => 0
    let w := if v = 0 then u16 b 20 else u16 b 22 + u16 b 24 * v / 2000000000000000
    let k := toSigned 32 (ofSigned 32 (x.count + (if bit (u8 b 45) 1 then -edges else edges)))
    y.p = z.1 ∧ y.count = k ∧ y.uMv = w ∧ y.duty = (if vbus = 0 then 1000000 else min 1000000 (w * 1000000 / vbus)) ∧
    y.d = (if u16 b 30 ≠ 0 ∧ x.suspended = false ∧ u.agrees 166 = true then z.1 - (k * 256).tdiv (u16 b 30) else 0) := by
  intro x b z y v w k
  obtain ⟨f, hraised, hf⟩ : ∃ f, OnlyRaises (u.mapAxis n f) (u.axisPwm n vbus edges) ∧
      ((f x).p = z.1 ∧ (f x).count = k ∧ (f x).uMv = w ∧ (f x).duty = (if vbus = 0 then 1000000 else min 1000000 (w * 1000000 / vbus)) ∧
      (f x).d = (if u16 b 30 ≠ 0 ∧ x.suspended = false ∧ u.agrees 166 = true then z.1 - (k * 256).tdiv (u16 b 30) else 0)) := by
    rw [State.axisPwm, if_neg (by simp [hon])]
    refine ⟨_, onlyRaises_ite_raise _ _ _, ?_⟩
    refine ⟨(axisNow_fst u n).symm, rfl, rfl, rfl, ?_⟩
    rw [axisNow_fst]
    refine if_congr ?_ rfl rfl
    simp [x, b, and_assoc]
  have hy : y = f x := (axis_of_onlyRaises hraised).trans (axis_mapAxis_self hn)
  rw [hy]
  exact hf

theorem axisMoveDone_of_ended {m : Motion} (hm : (u.axis n).motion = some m) (hend : m.total ≤ u.now - m.start) :
    u.axisMoveDone n = u.axisEnd n := by
  simp only [State.axisMoveDone, hm]
  exact if_neg (Nat.not_lt.2 hend)

/-- A noted stop acts on one axis by its ON_STOP (R377). -/
def stopRamped (s : State) (n : Nat) : State :=
  match (s.axis n).stopDue with
  | none => s
  | some r =>
    let s := s.mapAxis n (fun a => { a with stopDue := none })
    match u8 (s.axisRec n) 46 with
    | 0 => s
    | 1 => s.axisRamp n (r == 1) 2
    | _ => s.axisRamp n true 2

theorem stopRamped_of_none (h : (u.axis n).stopDue = none) : stopRamped u n = u := by simp only [stopRamped, h]

theorem stopRamped_of_some {r : Nat} (h : (u.axis n).stopDue = some r) : stopRamped u n =
    let t := u.mapAxis n (fun a => { a with stopDue := none })
    if u8 (u.axisRec n) 46 = 0 then t else if u8 (u.axisRec n) 46 = 1 then t.axisRamp n (r == 1) 2 else t.axisRamp n true 2 := by
  simp only [stopRamped, h]
  change (match u8 (u.axisRec n) 46 with | 0 => _ | 1 => _ | _ => _) = _
  split
  · next h0 => rw [if_pos h0]
  · next h1 => rw [if_neg (by omega), if_pos h1]
  · next h0 h1 => rw [if_neg h0, if_neg h1]

theorem axis_stopRamped_ne {k : Nat} (hne : n ≠ k) : (stopRamped u n).axis k = u.axis k := by
  unfold stopRamped
  split
  · rfl
  · dsimp only
    split
    · exact axis_mapAxis_ne hne
    · exact (axis_axisRamp_ne hne).trans (axis_mapAxis_ne hne)
    · exact (axis_axisRamp_ne hne).trans (axis_mapAxis_ne hne)

theorem axisStopRamp_eq (u : State) : u.axisStopRamp = stopRamped (stopRamped (stopRamped (stopRamped u 0) 1) 2) 3 := rfl

theorem axisStopRamp_of_first (h : ∀ k, 1 ≤ k → k < 4 → (u.axis k).stopDue = none) : u.axisStopRamp = stopRamped u 0 := by
  have hrest : ∀ k, 1 ≤ k → k < 4 → stopRamped (stopRamped u 0) k = stopRamped u 0 := fun k hmin hmax =>
    stopRamped_of_none ((congrArg Axis.stopDue (axis_stopRamped_ne (by omega))).trans (h k hmin hmax))
  rw [axisStopRamp_eq, hrest 1 (by omega) (by omega), hrest 2 (by omega) (by omega), hrest 3 (by omega) (by omega)]

/-- An estimate of a moving axis counts above STALL_ANGLE and ends the run below it (R373). -/
theorem axisStall_of_moving {delta : Nat} (hon : u.axisOn n = true) (hest : u.estimates = true) (hfast : u32 (u.axisRec n) 40 ≤ u.axisSpeed n)
    (hmoves : u.axisSpeed n ≠ 0) : u.axisStall n delta =
      let run := if u32 (u.axisRec n) 36 < delta then (u.axis n).stallRun + 1 else 0
      if run = u8 (u.axisRec n) 44 then
        (u.mapAxis n (fun a => { a with delta := delta, stallRun := run })).raise 0x0A01 .warning (min 255 (delta / 10000)) 5 n
      else u.mapAxis n (fun a => { a with delta := delta, stallRun := run }) := by
  rw [State.axisStall, if_neg (by simp [hon, hest]), if_neg (by omega), if_neg hmoves]

theorem axisStall_of_last {delta : Nat} (hon : u.axisOn n = true) (hest : u.estimates = true) (hfast : u32 (u.axisRec n) 40 ≤ u.axisSpeed n)
    (hmoves : u.axisSpeed n ≠ 0) (hangle : u32 (u.axisRec n) 36 < delta) (hrun : (u.axis n).stallRun + 1 = u8 (u.axisRec n) 44) :
    u.axisStall n delta = (u.mapAxis n (fun a => { a with delta := delta, stallRun := (u.axis n).stallRun + 1 })).raise
      0x0A01 .warning (min 255 (delta / 10000)) 5 n := by
  rw [axisStall_of_moving hon hest hfast hmoves]
  simp only [if_pos hangle, if_pos hrun]

theorem axisStall_of_below {delta : Nat} (hon : u.axisOn n = true) (hest : u.estimates = true) (hfast : u32 (u.axisRec n) 40 ≤ u.axisSpeed n)
    (hmoves : u.axisSpeed n ≠ 0) (hangle : delta ≤ u32 (u.axisRec n) 36) (hrun : u8 (u.axisRec n) 44 ≠ 0) :
    u.axisStall n delta = u.mapAxis n (fun a => { a with delta := delta, stallRun := 0 }) := by
  rw [axisStall_of_moving hon hest hfast hmoves]
  simp only [if_neg (Nat.not_lt.2 hangle), if_neg hrun.symm]

theorem axisRefEdge_of_plain (hplain : ∀ m, (u.axis n).motion = some m → m.homing = false) : u.axisRefEdge n false true =
    u.mapAxis n (fun a => { a with refActive := true, refP := (axisNow u n).1, refCount := a.count }) := by
  simp only [State.axisRefEdge, axisNow_fst]
  cases hm : (u.axis n).motion with
  | none => rfl
  | some m => simp [hplain m hm]

theorem axisRefEdge_of_search {m : Motion} (hm : (u.axis n).motion = some m) (hhoming : m.homing = true) (hramp : m.ramp = false) :
    u.axisRefEdge n false true =
      ((u.mapAxis n (fun a => { a with refActive := true, refP := (axisNow u n).1, refCount := a.count })).mapAxis n
        (fun a => { a with suspended := false, offset := a.offset - (axisNow u n).1 })).axisRamp n false 0 := by
  simp only [State.axisRefEdge, axisNow_fst, hm]
  simp [hhoming, hramp]

theorem axisRefEdge_of_aux (hon : u.axisOn n = true) (haux : u8 (u.axisRec n) 48 ≠ 0xFF) :
    u.axisRefEdge n true true = u.mapAxis n (fun a => { a with auxP := (axisNow u n).1, auxCount := a.count }) := by
  simp only [State.axisRefEdge, axisNow_fst, if_true]
  exact if_neg (by simp [hon, haux])

end

/-- Settles O13: the axes' opcodes and events meet their conditions and act as stated. -/
theorem axisRowsAct : Obligations.AxisRowsAct := by
  unfold Obligations.AxisRowsAct
  refine ⟨fun tgt => workRow fun c s _ ⟨hlen, hready, hmode, hres, hspeed, hspeed', htgt, hmin, hmax, hgo⟩ =>
      (runAxsMove_of_ready hlen hready hmode hres ⟨hspeed, hspeed'⟩ htgt.symm hmin hmax).trans (if_neg fun h => hgo.elim h.1 fun hne => hne h.2),
    workRow fun c s _ ⟨hlen, hready, hres, hspeed, hspeed', hmin, hmax, hhere⟩ => ?here,
    workRow fun c s _ ⟨hlen, hn, hon, hramp, hres, hmoving⟩ => runAxsHalt_of_moving hlen hn hon hramp hres hmoving,
    controlRow_later fun c s _ ⟨hlen, hn, hon, hramp, hres, hmoving⟩ => runAxsHalt_of_moving hlen hn hon hramp hres hmoving,
    workRow fun c s _ ⟨hlen, hn, hon, hramp, hres, hrest⟩ => runAxsHalt_of_rest hlen hn hon hramp hres hrest,
    workRow fun c s _ ⟨hlen, hready, hdir, hres, hspeed, hspeed', href⟩ => runAxsHome_of_ready hlen hready hdir hres ⟨hspeed, hspeed'⟩ href,
    workRow fun c s _ ⟨hlen, hn, hon, hres, hrest⟩ => runAxsSetPos_of_rest hlen hn hon hres hrest,
    queryRow fun c s hlen => runAxsStateRead_of_empty hlen,
    fun n vbus edges hn => eventActs (State.nativeHw (State.axisPwm n vbus edges)) (fun _ _ => if_pos hn)
      fun u ⟨hrun, _⟩ => nativeHw_of hrun.power hrun.native,
    fun u n vbus edges hn hon => axisPwm_of_on hn hon,
    fun n m hn => nativeHwRow (State.axisMoveDone n) (fun u _ ⟨hm, hend⟩ => axisMoveDone_of_ended hm hend) fun _ _ => if_pos hn,
    nativeHwRow State.axisStopRamp fun u _ hnone =>
      (axisStopRamp_of_first fun k _ hk => hnone k hk).trans (stopRamped_of_none (hnone 0 (by omega))),
    fun r => nativeHwRow State.axisStopRamp fun u _ ⟨hr, hrest⟩ => (axisStopRamp_of_first hrest).trans (stopRamped_of_some hr),
    fun n delta hn => nativeHwRow (State.axisStall n delta) (fun u _ ⟨hon, hest, hfast, hmoves, hangle, hrun⟩ =>
      axisStall_of_last hon hest hfast hmoves hangle hrun) fun _ _ => if_pos hn,
    fun n delta hn => nativeHwRow (State.axisStall n delta) (fun u _ ⟨hon, hest, hfast, hmoves, hangle, hrun⟩ =>
      axisStall_of_below hon hest hfast hmoves hangle hrun) fun _ _ => if_pos hn,
    fun n hn => nativeHwRow (State.axisRefEdge n false true) (fun u _ hplain => axisRefEdge_of_plain hplain) fun _ _ => if_pos hn,
    fun n m hn => nativeHwRow (State.axisRefEdge n false true) (fun u _ ⟨hm, hhoming, hramp⟩ => axisRefEdge_of_search hm hhoming hramp)
      fun _ _ => if_pos hn,
    fun n hn => nativeHwRow (State.axisRefEdge n true true) (fun u _ ⟨hon, haux⟩ => axisRefEdge_of_aux hon haux) fun _ _ => if_pos hn,
    fun n hn => eventActs (State.nativeHw (State.encIndexEdge n)) (fun _ _ => if_pos hn) fun u hrun => nativeHw_of hrun.power hrun.native,
    fun n level hn => nativeHwRow (State.encError n level) (fun u _ hon => if_pos hon) fun _ _ => if_pos hn⟩
  case here =>
    have htgt : State.axisTarget (u8 c.params 1) (s.axis (u8 c.params 0)).p (i32 c.params 4) = (s.axis (u8 c.params 0)).p := by
      rcases hhere with ⟨hmode, hpos⟩ | ⟨hmode, hpos⟩ <;> simp [State.axisTarget, hmode, hpos]
    exact (runAxsMove_of_ready hlen hready (by omega) hres ⟨hspeed, hspeed'⟩ htgt hmin hmax).trans (if_pos ⟨by omega, rfl⟩)

end Sys2Proof.Proofs
end

section
/-! The Ethernet ports: reception with its counters, sending, links, probes and PTP (R387 to R398). -/

namespace Sys2Proof.Proofs

open Sys2Proof.Machine Sys2Proof.Safety Sys2Proof.Laws

/-! ### Opcodes -/

theorem runEthProbe_of_ok {c : Cmd} {s : State} (hlen : c.params.length = 12) (hport : u8 c.params 0 ≤ 2)
    (hbits : u8 c.params 0 = 0 ∨ bit c.agreed 192 = true) (hcount : 1 ≤ u8 c.params 1 ∧ u8 c.params 1 ≤ 64) (hsize : 64 ≤ u16 c.params 2)
    (hfits : u16 c.params 2 ≤ s.ethM (u8 c.params 0) + 18) (hres : u16 c.params 10 = 0) (hup : s.ethUp (u8 c.params 0) = true) :
    s.runEthProbe c = (s.mapEth (fun e => { e with probes := e.probes ++ [{
      port := u8 c.params 0, count := u8 c.params 1, len := u16 c.params 2, dst := rdBe c.params 4 6, sess := c.sess, acc := c.acc
      started := false, res := [] }] }), .later) := by
  rw [State.runEthProbe, if_neg (by omega), if_neg (by omega), if_neg (fun h => hbits.elim h.1 fun hb => by simp [hb] at h), if_neg (by omega),
    if_neg (by simp [hup])]

/-! ### Receiving -/

section
variable {host : State.ToHost} {u : State} {n : Nat} {b : Bytes} {fcs : Bool}

theorem captureFrame_of_none {len flags : Nat} {accepted : Bool} (h : u.sys.ethCap = none) : u.captureFrame n len flags accepted b = u := by
  simp only [State.captureFrame, h]

/-- Counting on a port starts no capture. -/
theorem ethCount_ethCap (k : Nat) : (u.ethCount n k).sys.ethCap = u.sys.ethCap := rfl

theorem ethReceive_of_runt (hup : portUp n u) (hlen : b.length < 64) : u.ethReceive host n b fcs = u.ethCount n 2 := by
  obtain ⟨-, hlink, hcap⟩ := hup
  rw [State.ethReceive, if_neg (by simp [hlink])]
  exact (if_pos hlen).trans (captureFrame_of_none hcap)

theorem ethReceive_of_oversize (hup : portUp n u) (hlen : 64 ≤ b.length) (hbig : u.ethM n + 18 < b.length) :
    u.ethReceive host n b fcs = u.ethCount n 3 := by
  obtain ⟨-, hlink, hcap⟩ := hup
  rw [State.ethReceive, if_neg (by simp [hlink])]
  exact (if_neg (by omega)).trans ((if_pos hbig).trans (captureFrame_of_none hcap))

theorem ethReceive_of_badFcs (hup : portUp n u) (hlen : 64 ≤ b.length) (hfits : b.length ≤ u.ethM n + 18) :
    u.ethReceive host n b false = u.ethCount n 4 := by
  obtain ⟨-, hlink, hcap⟩ := hup
  rw [State.ethReceive, if_neg (by simp [hlink])]
  exact (if_neg (by omega)).trans ((if_neg (by omega)).trans ((if_pos rfl).trans (captureFrame_of_none hcap)))

theorem ethReceive_of_filtered (hup : portUp n u) (hlen : 64 ≤ b.length) (hfits : b.length ≤ u.ethM n + 18)
    (hout : u.ethDstOk n (rdBe b 0 6) = false ∨ State.ethTypeOk n (rdBe b 12 2) = false) : u.ethReceive host n b true = u.ethCount n 5 := by
  obtain ⟨-, hlink, hcap⟩ := hup
  rw [State.ethReceive, if_neg (by simp [hlink])]
  exact (if_neg (by omega)).trans ((if_neg (by omega)).trans ((if_neg (by simp)).trans ((if_pos hout).trans (captureFrame_of_none hcap))))

/-- An accepted frame is counted and goes to the protocol of its EtherType (R389). -/
theorem ethReceive_of_ok (hup : portUp n u) (hok : ethOk n b u) : u.ethReceive host n b true =
    if rdBe b 12 2 = 0x0800 then (u.ethCount n 1).ipIn host (rdBe b 6 6) (slice b 14 (b.length - 18))
    else if rdBe b 12 2 = 0x88F7 then (if u.ptpOn n then (u.ethCount n 1).ptpIn n (slice b 14 (b.length - 18)) else u.ethCount n 1)
    else if rdBe b 12 2 = 0x88B5 then u.ethCount n 1
    else (u.ethCount n 1).emit (.ethUp n (rdBe b 12 2) 0 (slice b 14 (b.length - 18))) := by
  obtain ⟨-, hlink, hcap⟩ := hup
  obtain ⟨hlen, hfits, hdst, htype⟩ := hok
  rw [State.ethReceive, if_neg (by simp [hlink])]
  dsimp only
  rw [if_neg (by omega), if_neg (by omega), if_neg (by simp), if_neg (by simp [hdst, htype]), captureFrame_of_none (u := u.ethCount n 1) hcap]
  rfl

theorem drop_slice (b : Bytes) (o m k : Nat) : (slice b o m).drop k = slice b (o + k) (m - k) := by
  rw [slice, slice, List.drop_take, List.drop_drop]

theorem rdBe_slice {b : Bytes} {o m i w : Nat} (h : i + w ≤ m) : rdBe (slice b o m) i w = rdBe b (o + i) w := by
  rw [rdBe, rdBe, slice, drop_slice, slice, slice, List.take_take, Nat.min_eq_left (by omega)]

/-- A sound datagram for SYS_UDP_PORT goes to the host's side (R106, R390). -/
theorem ipIn_of_udp {mac : Nat} {ip : Bytes} (h : udpOk ip u) : u.ipIn host mac ip =
    host mac (rdBe ip 12 4) (rdBe ip 20 2) (slice ip 28 (rdBe ip 2 2 - 28)) u := by
  obtain ⟨hip, hver, hlen, htl, hwhole, hmax, hsum, hmine, hfrag, hproto, hudp, hsize, hport, hck⟩ := h
  have hlong : 28 ≤ rdBe ip 2 2 := by
    simp only [slice, List.length_take, List.length_drop] at hudp
    omega
  rw [State.ipIn, if_neg hip, if_neg (by omega), if_neg (by omega), hfrag]
  refine (if_pos ⟨rfl, rfl⟩).trans ((if_neg (by omega)).trans ?_)
  rw [State.ipDatagram, if_pos hproto]
  refine (if_neg (by omega)).trans ((if_pos hport).trans ?_)
  rw [rdBe_slice (by omega), drop_slice]
  rfl

end

/-! ### Answers, links and collisions -/

section
variable {u : State} {n : Nat}

theorem arpAnswer_of_mine {mac ip target : Nat} (hup : u.ethUp 0 = true) (hout : u.wiredOut = true) (hip : u.prm 0x0B06 ≠ 0)
    (htarget : target = u.prm 0x0B06) : u.arpAnswer mac ip target = u.ethSend 0 {
      cls := clsUrgent, dst := mac, len := 64, kind := .arp,
      data := be 2 1 ++ be 2 0x0800 ++ [6, 4] ++ be 2 2 ++ be 6 u.fac.mac ++ be 4 target ++ be 6 mac ++ be 4 ip } :=
  if_neg (by simp [hup, hout, hip, htarget])

theorem icmpEcho_of_request {mac ip : Nat} {d : Bytes} (htype : u8 d 0 = 8) (hsum : sum16 d = 0xFFFF) (hup : u.ethUp 0 = true)
    (hout : u.wiredOut = true) (hip : u.prm 0x0B06 ≠ 0) : u.icmpEcho mac ip d = u.ethSend 0 {
      cls := clsUrgent, dst := mac, len := max 64 (38 + d.length), kind := .icmp,
      data := be 4 ip ++ [0, 0] ++ be 2 (0xFFFF - sum16 ([0, 0, 0, 0] ++ d.drop 4)) ++ d.drop 4 } := by
  rw [State.icmpEcho, if_neg (by simp [hup, hout, hip, htype, hsum])]
  simp only [frameLen, ← Nat.add_assoc]
  rfl

theorem portCaptureEnd_of_none (h : u.sys.ethCap = none) : u.portCaptureEnd n = u := by simp only [State.portCaptureEnd, h]

theorem ethCap_of_onlyRaises {s t : State} (h : OnlyRaises s t) : t.sys.ethCap = s.sys.ethCap := by rw [h]

theorem setLink_of_new {mode : Nat} (hon : u.ethOn n = true) (hnew : (u.port n).seen ≠ mode) (hcap : u.sys.ethCap = none) :
    u.setLink n mode = ((u.mapPort n (fun p => { p with
      seen := mode, link := if mode = 3 then 0 else if mode = 4 then 3 else mode })).raise0 0x0B01 .notice mode n).ethKick n := by
  have hquiet := portCaptureEnd_of_none (n := n) ((ethCap_of_onlyRaises (onlyRaises_raise0 0x0B01 .notice mode n (u.mapPort n (fun p => { p with
    seen := mode, link := if mode = 3 then 0 else if mode = 4 then 3 else mode })))).trans hcap)
  rw [State.setLink, if_neg (by simp [hon, hnew])]
  dsimp only
  rw [hquiet, ite_self]

theorem ethCollisions_of_reply {f : EthFrame} {a b : Nat} (hn : 1 ≤ n) (hkind : f.kind = .reply a b) (hbusy : (u.port n).busy = some f)
    (hfirst : (u.port n).collRun = false) : u.ethCollisions n =
      ((((u.mapPort n (fun p => { p with
        busy := none, collRun := true, stamps := p.stamps.filter (fun x => x.1 != f.kind || f.kind.stamped == false) })).ethCount n 6).raise0
        0x0B03 .warning 1 n).ethRefill n).ethKick n := by
  rw [State.ethCollisions, if_neg (by omega)]
  simp only [hbusy, hkind, hfirst]
  rfl

theorem plcaStatus_lost (h : (u.port n).plca = 1) :
    u.plcaStatus n false = (u.mapPort n (fun p => { p with plca := 2 })).raise0 0x0B04 .warning 1 n := by
  simp only [State.plcaStatus, h]
  rfl

theorem plcaStatus_back (h : (u.port n).plca = 2) :
    u.plcaStatus n true = (u.mapPort n (fun p => { p with plca := 1 })).raise0 0x0B04 .warning 0 n := by
  simp only [State.plcaStatus, h]
  rfl

theorem ethFrameSent_of_busy {f : EthFrame} (h : (u.port n).busy = some f) : u.ethFrameSent n =
    (((u.mapPort n (fun p => { p with busy := none, collRun := false })).ethCount n 0).ethRefill n).ethKick n := if_neg (by simp [h])

end

/-! ### PTP -/

section
variable {u : State} {n : Nat}

theorem ptpSync_of_master {ident t err : Nat} {i delta : Int} (hmaster : u.eth.master = some (ident, t, i)) (hport : u.prm 0x0400 = n + 1)
    (hup : u.ethUp n = true) (hdelay : u.eth.delayLost = false) (hsync : u.eth.sync = none) :
    u.ptpSync n ident delta err = (u.mapClk (fun c => { c with ptpLost := false })).discInput delta err := by
  simp only [State.ptpSync, hmaster]
  rw [if_neg (by simp [hport, hup, hsync]), if_neg (by simp [hdelay])]

theorem ptpAnnounceTimeout_next {m t next : Nat} (hother : m ≠ next) (hslave : u.prm 0x0400 ≠ 0) (hmaster : u.eth.master = some (m, t, 0))
    (hlong : 3000000000 ≤ u.now - t) : u.ptpAnnounceTimeout (some next) =
      (u.mapEth (fun e => { e with master := some (next, u.now, 0), masterGone := false, sync := none, syncSeq := none })).raise0
        0x0B05 .notice 1 (u.prm 0x0400 - 1 + 256 * (next / 65536 % 2 ^ 56)) := by
  simp only [State.ptpAnnounceTimeout, hmaster]
  rw [if_neg (by simp [hslave, hother.symm]; omega)]
  rfl

theorem ptpAnnounceTimeout_none {m t : Nat} (hslave : u.prm 0x0400 ≠ 0) (hmaster : u.eth.master = some (m, t, 0))
    (hlong : 3000000000 ≤ u.now - t) : u.ptpAnnounceTimeout none =
      ((u.mapEth (fun e => { e with master := none, masterGone := true, sync := none })).mapClk (fun c => { c with
        ptpLost := true })).discMissing 5 := by
  simp only [State.ptpAnnounceTimeout, hmaster]
  rw [if_neg (by simp [hslave]; omega)]

theorem ptpMasterSend_of_sync {t : Nat} (hlocked : u.clk.state = .locked) (hmaster : bit (u.prm 0x0B0B) n = true) (hon : u.ethOn n = true)
    (hsync : (u.port n).syncAt = none) (hann : (u.port n).annAt = some t) (hsoon : u.now - t < 1000000000) : u.ptpMasterSend n =
      (u.mapPort n (fun p => { p with syncAt := some u.now, ptpSeq := (p.ptpSeq + 1) % 65536 })).ptpSend
        n 0 (u.port n).ptpSeq State.ptpGroup [] (zeros 10) := by
  simp only [State.ptpMasterSend, State.clockClass, hlocked]
  rw [if_neg (by simp [hmaster, hon])]
  simp only [hsync, hann, if_true, decide_eq_true_eq]
  rw [if_neg (by omega)]

theorem ptpDelayReq_of_master {mac : Nat} {req : Bytes} (hmaster : bit (u.prm 0x0B0B) n = true) (hup : u.ethUp n = true)
    (hlen : 34 ≤ req.length) (hdomain : u8 req 4 = u.prm 0x0B0A) : u.ptpDelayReq n mac req =
      u.ptpSend n 9 (rdBe req 30 2) mac (slice req 8 8) (State.ptpStamp (u.rxStamp n) ++ slice req 20 10) :=
  if_neg (by simp [hmaster, hup, hdomain]; omega)

theorem followUpTimeout_of_due {q t : Nat} (hsync : u.eth.sync = some (q, t)) (hlong : 1000000000 ≤ u.now - t) :
    u.followUpTimeout = (u.mapEth (fun e => { e with sync := none })).mapClk (fun c => { c with consec := 0 }) := by
  simp only [State.followUpTimeout, hsync]
  exact if_pos hlong

end

/-- Settles O14: frames are counted and passed on as stated, and the ports' opcodes and events act as stated. -/
theorem ethernetRowsAct : Obligations.EthernetRowsAct := by
  unfold Obligations.EthernetRowsAct
  refine ⟨queryRow fun c s hlen => if_neg (not_not_intro (congrArg List.length hlen)),
    workRow fun c s _ ⟨hlen, hport, hbits, hmin, hmax, hsize, hfits, hres, hup⟩ =>
      runEthProbe_of_ok hlen hport hbits ⟨hmin, hmax⟩ hsize hfits hres hup,
    fun n b fcs hn hlen => eventActs (State.nativeHw (State.ethReceive State.takeDatagram n b fcs)) (fun _ _ => if_pos hn)
      fun u hup => (nativeHw_of hup.1.power hup.1.native).trans (ethReceive_of_runt hup hlen),
    fun n b fcs hn hlen => eventActs (State.nativeHw (State.ethReceive State.takeDatagram n b fcs)) (fun _ _ => if_pos hn)
      fun u ⟨hup, hbig⟩ => (nativeHw_of hup.1.power hup.1.native).trans (ethReceive_of_oversize hup hlen hbig),
    fun n b hn hlen => eventActs (State.nativeHw (State.ethReceive State.takeDatagram n b false)) (fun _ _ => if_pos hn)
      fun u ⟨hup, hfits⟩ => (nativeHw_of hup.1.power hup.1.native).trans (ethReceive_of_badFcs hup hlen hfits),
    fun n b hn hlen => eventActs (State.nativeHw (State.ethReceive State.takeDatagram n b true)) (fun _ _ => if_pos hn)
      fun u ⟨hup, hfits, hout⟩ => (nativeHw_of hup.1.power hup.1.native).trans (ethReceive_of_filtered hup hlen hfits hout),
    fun n b hn htype => eventActs (State.nativeHw (State.ethReceive State.takeDatagram n b true)) (fun _ _ => if_pos hn)
      fun u ⟨hup, hok⟩ => (nativeHw_of hup.1.power hup.1.native).trans ((ethReceive_of_ok hup hok).trans (by simp [htype])),
    fun n b hn htype => eventActs (State.nativeHw (State.ethReceive State.takeDatagram n b true)) (fun _ _ => if_pos hn)
      fun u ⟨hup, hok, hptp⟩ => (nativeHw_of hup.1.power hup.1.native).trans ((ethReceive_of_ok hup hok).trans (by simp [htype, hptp])),
    fun b htype => eventActs (State.nativeHw (State.ethReceive State.takeDatagram 0 b true)) (fun _ _ => rfl)
      fun u ⟨hup, hok, hudp⟩ => (nativeHw_of hup.1.power hup.1.native).trans ((ethReceive_of_ok hup hok).trans
        ((if_pos htype).trans (ipIn_of_udp (u := u.ethCount 0 1) hudp))),
    fun mac ip target => nativeHwRow (State.arpAnswer mac ip target) fun u _ ⟨hup, hout, hip, htarget⟩ => arpAnswer_of_mine hup hout hip htarget,
    fun mac ip d htype hsum => nativeHwRow (State.icmpEcho mac ip d) fun u _ ⟨hup, hout, hip⟩ => icmpEcho_of_request htype hsum hup hout hip,
    eventActs _ (fun _ _ => rfl) fun u hrun => nativeHw_of hrun.power hrun.native,
    fun mode hmode => nativeHwRow (State.phyPoll mode) fun u _ ⟨hphy, hon, hnew, hcap⟩ =>
      (if_pos hphy).trans ((setLink_of_new hon hnew hcap).trans (by rw [if_neg (by omega), if_neg (by omega)])),
    fun n mode hn => nativeHwRow (State.setLink n mode) (fun u _ ⟨hon, hnew, hcap⟩ => setLink_of_new hon hnew hcap) fun _ _ => if_pos hn,
    fun n f a b hmin hn hkind => nativeHwRow (State.ethCollisions n) (fun u _ ⟨hbusy, hfirst⟩ =>
      ethCollisions_of_reply hmin hkind hbusy hfirst) fun _ _ => if_pos hn,
    fun n hn => nativeHwRow (State.plcaStatus n false) (fun u _ h => plcaStatus_lost h) fun _ _ => if_pos hn,
    fun n hn => nativeHwRow (State.plcaStatus n true) (fun u _ h => plcaStatus_back h) fun _ _ => if_pos hn,
    fun n ident delta err t i hn => nativeRow (State.ptpSync n ident delta err) (fun u _ ⟨hmaster, hport, hup, hdelay, hsync⟩ =>
      ptpSync_of_master hmaster hport hup hdelay hsync) fun _ _ => if_pos hn,
    fun m t next hother => nativeRow (State.ptpAnnounceTimeout (some next)) fun u _ ⟨hslave, hmaster, hlong⟩ =>
      ptpAnnounceTimeout_next hother hslave hmaster hlong,
    fun m t => nativeRow (State.ptpAnnounceTimeout none) fun u _ ⟨hslave, hmaster, hlong⟩ => ptpAnnounceTimeout_none hslave hmaster hlong,
    fun n t hn => nativeRow (State.ptpMasterSend n) (fun u _ ⟨hlocked, hmaster, hon, hsync, hann, hsoon⟩ =>
      ptpMasterSend_of_sync hlocked hmaster hon hsync hann hsoon) fun _ _ => if_pos hn,
    fun n mac req hn => nativeRow (State.ptpDelayReq n mac req) (fun u _ ⟨hmaster, hup, hlen, hdomain⟩ =>
      ptpDelayReq_of_master hmaster hup hlen hdomain) fun _ _ => if_pos hn,
    fun n f hn => nativeHwRow (State.ethFrameSent n) (fun u _ h => ethFrameSent_of_busy h) fun _ _ => if_pos hn,
    fun q t => nativeRow State.followUpTimeout fun u _ ⟨hsync, hlong⟩ => followUpTimeout_of_due hsync hlong⟩

end Sys2Proof.Proofs
end

section
/-! The CAN controllers and the serial link of the site devices (R402 to R416). -/

namespace Sys2Proof.Proofs

open Sys2Proof.Machine Sys2Proof.Safety Sys2Proof.Laws

/-! ### Controllers and their buffers -/

section
variable {s : State} {n k : Nat} {f : CanPort → CanPort}

/-- A change of one controller is not seen on another. -/
theorem canPort_mapCanPort_ne (h : n ≠ k) : (s.mapCanPort n f).canPort k = s.canPort k :=
  congrArg (Option.getD · CanPort.fresh) (List.getElem?_modify_ne f _ h)

/-- A change that leaves the buffers leaves each of them. -/
theorem canMb_mapCanPort (h : ∀ p, (f p).mbs = p.mbs) (m : Nat) : (s.mapCanPort n f).canMb k m = s.canMb k m := by
  have hport : ((s.mapCanPort n f).canPort k).mbs = (s.canPort k).mbs := by
    simp only [State.canPort, State.mapCanPort, State.mapCan, modAt, List.getElem?_modify]
    cases s.can.ports[k]? with
    | none => rfl
    | some p =>
      by_cases hn : n = k
      · simp [hn, h]
      · simp [hn]
  rw [State.canMb, hport, State.canMb]

/-- What a port drives beside frames changes the outputs alone. -/
theorem canDrive_eq (o : Output) (s : State) : s.canDrive n o = { s with out := (s.canDrive n o).out } := by
  unfold State.canDrive
  dsimp only
  split <;> rfl

/-- The port has acknowledged and counted a frame that it takes (R402, R413). -/
def canHeard (n : Nat) (s : State) : State :=
  ((s.canDrive n (.canAck n)).mapCanPort n (fun p => { p with rcv := if 128 ≤ p.rcv then 127 else p.rcv - 1 })).canCount n 1

theorem canHeard_mb (m : Nat) : (canHeard n s).canMb k m = s.canMb k m := by
  rw [canHeard, State.canCount, canMb_mapCanPort, canMb_mapCanPort, canDrive_eq]
  · rfl
  · exact fun _ => rfl
  · exact fun _ => rfl

theorem canHeard_cfg : (canHeard n s).cfg = s.cfg := by
  rw [canHeard, canDrive_eq]
  rfl

theorem canHeard_clk : (canHeard n s).clk = s.clk := by
  rw [canHeard, canDrive_eq]
  rfl

theorem canHeard_mbRec (m : Nat) : (canHeard n s).mbRec k m = s.mbRec k m := by
  simp only [State.mbRec, State.prmRec, State.prm, canHeard_cfg]

theorem canHeard_canCfg : (canHeard n s).canCfg k = s.canCfg k := by
  simp only [State.canCfg, State.prmRec, State.prm, canHeard_cfg]

end

/-! ### Opcodes -/

section
variable {c : Cmd} {s : State}

theorem runCanTx_of_ok (h : canTxOk c s) : s.runCanTx c =
    (s.putMb (u8 c.params 0) (u8 c.params 1) { s.canMb (u8 c.params 0) (u8 c.params 1) with tx := some {
      frame := canTxFrame c, sess := c.sess, acc := c.acc, loaded := false, attempts := 0, noAck := 0, aborts := [] } }, .later) := by
  obtain ⟨⟨hport, hmb, hon⟩, hlen, hfl, hlens, hshort, hrtr, hbrs, hfd, hid, hrec, hmode, htx⟩ := h
  have hranges : ¬ (1 < u8 c.params 0 ∨ 63 < u8 c.params 1 ∨ 16 ≤ u8 c.params 2 ∨ canLens.contains (u8 c.params 3) = false ∨
      (bit (u8 c.params 2) 1 = false ∧ 8 < u8 c.params 3) ∨ (bit (u8 c.params 2) 3 = true ∧ u8 c.params 3 ≠ 0) ∨
      (bit (u8 c.params 2) 2 = true ∧ bit (u8 c.params 2) 1 = false) ∨ (bit (u8 c.params 2) 3 = true ∧ bit (u8 c.params 2) 1 = true) ∨
      2 ^ 29 ≤ u32 c.params 4) := by
    rintro (h | h | h | h | ⟨h, h'⟩ | ⟨h, h'⟩ | ⟨h, h'⟩ | ⟨h, h'⟩ | h)
    · omega
    · omega
    · omega
    · simp [hlens] at h
    · exact absurd (hshort h) (by omega)
    · exact h' (hrtr h)
    · simp [hbrs h] at h'
    · simp [hfd h] at h'
    · omega
  rw [State.runCanTx, if_neg (by omega), if_neg hranges, if_neg (by omega), if_neg (by simp [hon]), if_neg (by simp [hrec]), if_neg (by simp [hmode])]
  exact if_neg (by simp [htx])

/-- The checks of CAN_TX_ABORT passed, its buffer decides (R411). -/
theorem runCanTxAbort_of_ok (h : canAbortOk c s) : s.runCanTxAbort c =
    match (s.canMb (u8 c.params 0) (u8 c.params 1)).tx with
    | none => (s, finD 1)
    | some t =>
      if (s.canPort (u8 c.params 0)).onBus = some (u8 c.params 1) then
        (s.putMb (u8 c.params 0) (u8 c.params 1) { s.canMb (u8 c.params 0) (u8 c.params 1) with tx := some { t with
          aborts := t.aborts ++ [if c.acc = 0 then none else some (c.sess, c.acc)] } }, if c.acc = 0 then fin [] else .later)
      else (s.canTxEnd (u8 c.params 0) (u8 c.params 1) 1 0, fin []) := by
  obtain ⟨hlen, hres, ⟨hport, hmb, hon⟩, hrec⟩ := h
  rw [State.runCanTxAbort, if_neg (by omega), if_neg (by omega), if_neg (by simp [hon])]
  refine (if_neg (by simp [hrec])).trans ?_
  cases (s.canMb (u8 c.params 0) (u8 c.params 1)).tx <;> rfl

theorem runCanMbRead_of_frame {f : CanFrame} {time : Nat} (hlen : c.params.length = 4) (hat : canAt c s)
    (hfirst : u8 c.params 2 ≤ 19) (hcount : 1 ≤ u8 c.params 3 ∧ u8 c.params 2 + u8 c.params 3 ≤ 20)
    (hrec : u8 (s.mbRec (u8 c.params 0) (u8 c.params 1)) 0 = 1) (hframe : (s.canMb (u8 c.params 0) (u8 c.params 1)).frame = some (f, time)) :
    s.runCanMbRead c =
      let x := s.canMb (u8 c.params 0) (u8 c.params 1)
      let lock := if u8 c.params 2 = 0 then some (x.lock.getD s.now) else x.lock
      let last := 3 + ceilDiv f.data.length 4
      (s.putMb (u8 c.params 0) (u8 c.params 1)
        (if u8 c.params 2 ≤ last ∧ last < u8 c.params 2 + u8 c.params 3 then { x with lock := none, isNew := false, overrun := false }
          else { x with lock := lock }),
       .fin (Ans.ok (slice (le 8 (canHead x.isNew lock.isSome x.overrun f) ++ le 8 time ++ padTo 64 0 f.data)
         (4 * u8 c.params 2) (4 * u8 c.params 3)))) := by
  obtain ⟨hport, hmb, hon⟩ := hat
  rw [State.runCanMbRead, if_neg (by omega), if_neg (by omega), if_neg (by simp [hon]), if_neg (by simp [hrec])]
  generalize s.canMb (u8 c.params 0) (u8 c.params 1) = x at hframe ⊢
  obtain ⟨isNew, overrun, lock, frame, tx⟩ := x
  obtain rfl : frame = some (f, time) := hframe
  by_cases hzero : u8 c.params 2 = 0
  · simp only [hzero, if_true, State.mbWords, canLastWord, fin]
  · simp only [hzero, if_false, State.mbWords, canLastWord, fin]

theorem runCanRecover_of_ok (hlen : c.params.length = 4) (hport : u8 c.params 0 ≤ 1) (hres : rd c.params 1 3 = 0)
    (hon : s.canOn (u8 c.params 0) = true) : s.runCanRecover c =
      if (s.canPort (u8 c.params 0)).state ≠ .busOff then (s, finD 1)
      else (s.mapCanPort (u8 c.params 0) (fun p => { p with counting := true }), fin []) := by
  rw [State.runCanRecover, if_neg (by omega), if_neg (by omega), if_neg (by simp [hon])]

theorem runCanSerialTx_of_ok (h : serialTxOk c s) : s.runCanSerialTx c =
    (let t := s.mapCan (fun k => { k with serTx := k.serTx ++ [(c.sess, c.acc, slice c.params 4 (u16 c.params 0))] })
     if s.can.serTx.isEmpty then t.serSend else t, .later) := by
  obtain ⟨hmin, hmax, hres, hlen, hrec, hroom⟩ := h
  rw [State.runCanSerialTx, if_neg (by omega), if_neg (by omega), if_neg (by omega), if_neg (by omega), if_neg (by omega), if_neg hrec]

end

/-! ### Reception -/

section
variable {s : State} {n : Nat} {f : CanFrame}

/-- A valid frame is acknowledged, counted, put where R407 says, and judged. -/
theorem canFrameIn_of_takes {age : Nat} (h : canTakes n s) (hfdf : f.fdf = false) :
    s.canFrameIn n f age 0 = (((canHeard n s).canStore n f (s.clk.count - age)).canJudge n).canOffer n := by
  obtain ⟨hrun, hfold, hon, hstate⟩ := h
  rw [State.canFrameIn, if_neg (by simp [hrun.native]), if_neg (by simp [hfold]), State.canReceive, if_neg (by simp [hon])]
  simp only [hstate]
  rw [if_neg (by simp), if_neg (by simp [hfdf]), ← canHeard, canDrive_eq]
  rfl

theorem canStore_of_filtered (time : Nat) (h : ∀ m < 64, mbMatches (s.mbRec n m) f = false) :
    s.canStore n f time = s.mapCanPort n (fun p => { p with filtered := inc32 p.filtered }) := by
  have hits : (List.range 64).filter (fun m => mbMatches (s.mbRec n m) f) = [] := by
    simpa [List.filter_eq_nil_iff] using h
  simp only [State.canStore, hits]

/-- The first free buffer that matches takes the frame (R407). -/
theorem canStore_of_free {m : Nat} (time : Nat) (hm : m < 64) (hmatch : mbMatches (s.mbRec n m) f = true) (hnew : (s.canMb n m).isNew = false)
    (hlock : (s.canMb n m).lock = none) (hqueue : u8 (s.canCfg n) 14 = 0)
    (hbefore : ∀ k < m, mbMatches (s.mbRec n k) f = false ∨ (s.canMb n k).isNew = true ∨ (s.canMb n k).lock.isSome = true) :
    s.canStore n f time =
      (s.putMb n m { s.canMb n m with isNew := true, overrun := false, frame := some (f, time) }).mapCanPort n (fun p => { p with
        overRun := false }) := by
  have hfree : ((List.range 64).filter (fun m => mbMatches (s.mbRec n m) f)).find? (fun m =>
      !(s.canMb n m).isNew && (s.canMb n m).lock.isNone) = some m := by
    rw [List.find?_filter, List.find?_range_eq_some]
    refine ⟨by simp [hmatch, hnew, hlock], List.mem_range.2 hm, fun k hk => ?_⟩
    rcases hbefore k hk with h | h | h
    · simp [h]
    · simp [h]
    · simp [Option.isSome_iff_ne_none.1 h]
  cases hhits : (List.range 64).filter (fun m => mbMatches (s.mbRec n m) f) with
  | nil => simp [hhits] at hfree
  | cons h t =>
    rw [hhits] at hfree
    simp only [State.canStore, hhits, hfree]
    exact if_pos hqueue

end

/-! ### Sending and the bus state -/

section
variable {s : State} {n m : Nat}

theorem canAttempt_of_sent {t : CanTx} {age : Nat} (hcx : s.sys.cx = false) (hbus : (s.canPort n).onBus = some m)
    (htx : (s.canMb n m).tx = some t) : s.canAttempt n 0 age =
      ((((((s.mapCanPort n (fun p => { p with onBus := none })).mapCanPort n (fun p => { p with tec := p.tec - 1 })).canCount n 0).canTxEnd
        n m 0 (s.clk.count - age)).canJudge n).canOffer n) := by
  rw [State.canAttempt, if_neg (by simp [hcx]), State.canAttemptEnd]
  simp only [hbus, htx, if_true]
  rfl

theorem canBusOff_of_idle (hstate : (s.canPort n).state = .active) (hbus : (s.canPort n).onBus = none) :
    s.canBusOff n = (s.mapCanPort n (fun p => { p with tec := 256 })).canJudge n := by
  rw [State.canBusOff, if_neg (by simp [hstate])]
  simp only [hbus]

theorem canBusOn_of_last {k : Nat} (hstate : (s.canPort n).state = .busOff) (hcount : (s.canPort n).counting = true)
    (hlast : 128 ≤ (s.canPort n).seqs + k) : s.canBusOn n k =
      ((s.mapCanPort n (fun p => { p with state := .active, tec := 0, rcv := 0, seqs := 0, counting := false })).raise0
        0x0C03 .notice 1 n).canOffer n := by
  simp only [State.canBusOn, hstate]
  rw [if_neg (by simp [hcount]), if_neg (by omega)]

theorem canLockTimeout_of_one {b : CanMb} {t : Nat} (hone : (s.canPort 0).mbs = [(m, b)]) (hnone : (s.canPort 1).mbs = [])
    (hlock : b.lock = some t) (hlong : 1000000000 ≤ s.now - t) : s.canLockTimeout =
      (s.putMb 0 m { b with lock := none }).mapCanPort 0 (fun p => { p with lockDrops := inc32 p.lockDrops }) := by
  have hother : (((s.putMb 0 m { b with lock := none }).mapCanPort 0 (fun p => { p with lockDrops := inc32 p.lockDrops })).canPort 1).mbs = [] := by
    rw [canPort_mapCanPort_ne (by decide), State.putMb, canPort_mapCanPort_ne (by decide), hnone]
  rw [State.canLockTimeout, show List.range 2 = [0, 1] from rfl]
  simp only [List.foldl_cons, List.foldl_nil, hone, hlock, if_pos hlong, hother]

end

/-! ### The serial link -/

section
variable {s : State}

theorem serSend_of_inControl {ss a : Nat} {d : Bytes} {l : List (Nat × Nat × Bytes)} (h : s.can.serTx = (ss, a, d) :: l)
    (hin : s.inControl = true) : s.serSend = s.emit (.serial s.uartTx d) := by
  simp only [State.serSend, h]
  exact if_pos hin

theorem serialTxDone_of_last {ss a : Nat} {d : Bytes} (h : s.can.serTx = [(ss, a, d)]) :
    s.serialTxDone = ((s.mapCan (fun c => { c with serTx := [] })).completeOk ss a (le 8 s.clk.count)).serSend := by
  simp only [State.serialTxDone, h]

/-- A packet of the receiver's own line, while nothing is sent, goes to its queue or is counted (R415). -/
theorem serialPacket_of_heard {pad : Option Nat} {d : Bytes} {age : Nat} {err : Bool} (hd : d ≠ []) (hpad : s.uartRx = pad)
    (hbaud : u32 s.serRec 0 ≠ 0) (hdrive : s.serDrive = false) : s.serialPacket pad d age err =
      if u8 s.serRec 6 = 0 then s.mapCan (fun c => { c with serDropped := c.serDropped + d.length })
      else s.publish (u8 s.serRec 6) (le 8 ((s.clk.count - age) % 2 ^ 63 + b2n err * 2 ^ 63) ++ d) id :=
  if_neg (by simp [hpad, hbaud, hdrive, hd])

/-- On an idle line of the unit in control the bytes go out at once. -/
theorem runCanSerialTx_of_idle {c : Cmd} (h : serialTxOk c s) (hidle : s.can.serTx = []) (hin : s.inControl = true) : s.runCanSerialTx c =
    ((s.mapCan (fun k => { k with serTx := [(c.sess, c.acc, slice c.params 4 (u16 c.params 0))] })).emit
      (.serial s.uartTx (slice c.params 4 (u16 c.params 0))), .later) := by
  have hfirst : s.mapCan (fun k => { k with serTx := k.serTx ++ [(c.sess, c.acc, slice c.params 4 (u16 c.params 0))] }) =
      s.mapCan (fun k => { k with serTx := [(c.sess, c.acc, slice c.params 4 (u16 c.params 0))] }) := by simp [State.mapCan, hidle]
  rw [runCanSerialTx_of_ok h, hfirst]
  exact congrArg (·, CmdRes.later) ((if_pos (by simp [hidle])).trans (serSend_of_inControl rfl hin))

end

/-- Settles O15: CAN frames are loaded, taken, sent and aborted as stated, and the ports and the serial link act as stated. -/
theorem canRowsAct : Obligations.CanRowsAct := by
  unfold Obligations.CanRowsAct
  refine ⟨workRow fun c s _ h => runCanTx_of_ok h,
    workRow fun c s _ ⟨h, htx⟩ => (runCanTxAbort_of_ok h).trans (by simp only [htx]; rfl),
    fun t => workRow fun c s _ ⟨h, htx, hbus⟩ => (runCanTxAbort_of_ok h).trans (by simp only [htx]; exact if_neg hbus),
    fun t => workRow fun c s _ ⟨h, hacc, htx, hbus⟩ => (runCanTxAbort_of_ok h).trans (by simp only [htx, hbus, hacc, if_true, if_false]),
    fun f time => workRow fun c s _ ⟨hlen, hat, hfirst, hmin, hmax, hrec, hframe⟩ =>
      runCanMbRead_of_frame hlen hat hfirst ⟨hmin, hmax⟩ hrec hframe,
    queryRow fun c s hlen => if_neg (not_not_intro (congrArg List.length hlen)),
    workRow fun c s _ ⟨hlen, hport, hres, hon, hstate⟩ => (runCanRecover_of_ok hlen hport hres hon).trans (if_neg (not_not_intro hstate)),
    workRow fun c s _ ⟨hlen, hport, hres, hon, hstate⟩ => (runCanRecover_of_ok hlen hport hres hon).trans (if_pos hstate),
    workRow fun c s _ ⟨h, hbusy⟩ => (runCanSerialTx_of_ok h).trans (congrArg (·, CmdRes.later) (if_neg (by simpa using hbusy))),
    workRow fun c s _ ⟨h, hidle, hin⟩ => runCanSerialTx_of_idle h hidle hin,
    fun ss a d => nativeRow State.serialTxDone fun u _ h => serialTxDone_of_last h,
    fun pad d age err hd => nativeRow (State.serialPacket pad d age err) fun u _ ⟨hpad, hbaud, hdrive, hq⟩ =>
      (serialPacket_of_heard hd hpad hbaud hdrive).trans (if_neg hq),
    fun pad d age err hd => nativeRow (State.serialPacket pad d age err) fun u _ ⟨hpad, hbaud, hdrive, hq⟩ =>
      (serialPacket_of_heard hd hpad hbaud hdrive).trans (if_pos hq),
    fun n f age hn hfdf => eventActs (State.inRun (State.canFrameIn n f age 0)) (fun _ _ => if_pos hn) fun u ⟨htakes, hnone⟩ =>
      (inRun_of htakes.1.power htakes.1.running).trans ((canFrameIn_of_takes htakes hfdf).trans (by
        rw [canStore_of_filtered _ (fun m hm => (congrArg (mbMatches · f) (canHeard_mbRec m)).trans (hnone m hm))]
        rfl)),
    fun n f age m hn hfdf hm => eventActs (State.inRun (State.canFrameIn n f age 0)) (fun _ _ => if_pos hn)
      fun u ⟨htakes, hmatch, hnew, hlock, hqueue, hbefore⟩ =>
      (inRun_of htakes.1.power htakes.1.running).trans ((canFrameIn_of_takes htakes hfdf).trans (by
        rw [canStore_of_free _ hm (by rwa [canHeard_mbRec]) (by rwa [canHeard_mb]) (by rwa [canHeard_mb]) (by rwa [canHeard_canCfg])
          (by simpa only [canHeard_mbRec, canHeard_mb] using hbefore)]
        rfl)),
    fun n m t age hn => nativeInRunRow (State.canAttempt n 0 age) (fun u hrun ⟨hbus, htx⟩ => canAttempt_of_sent hrun.native hbus htx)
      fun _ _ => if_pos hn,
    fun n hn => nativeInRunRow (State.canBusOff n) (fun u _ ⟨hstate, hbus⟩ => canBusOff_of_idle hstate hbus) fun _ _ => if_pos hn,
    fun n k hn => nativeInRunRow (State.canBusOn n k) (fun u _ ⟨hstate, hcount, hlast⟩ => canBusOn_of_last hstate hcount hlast)
      fun _ _ => if_pos hn,
    fun m b t => nativeRow State.canLockTimeout fun u _ ⟨hone, hnone, hlock, hlong⟩ => canLockTimeout_of_one hone hnone hlock hlong⟩

end Sys2Proof.Proofs
end

section
/-! Hardware queues and on-chip memory: reading and releasing, errors, the spare bank and the scrubbers (R424 to R443). -/

namespace Sys2Proof.Proofs

open Sys2Proof.Machine Sys2Proof.Safety Sys2Proof.Laws

/-! ### Opcodes -/

section
variable {c : Cmd} {s : State} {q : Queue}

theorem queueCheck_of_held {i : Nat} (hmin : 16 ≤ i) (hmax : i ≤ 63) (hfind : Tab.find? i s.mem.queues = some q) : s.queueCheck i = none := by
  rw [State.queueCheck, if_neg (by omega), if_neg (by omega), if_pos (by rw [Tab.has, hfind]; rfl)]

theorem getD_of_find {α : Type} {t : Tab α} {k : Nat} {a d : α} (h : Tab.find? k t = some a) : Tab.getD k d t = a := by
  rw [Tab.getD, h]
  rfl

/-- QUE_READ from the oldest packet, whether it is asked for by its number or by 0 (R436). -/
theorem runQueRead_of_oldest {n : Nat} {d : Bytes} {t : List (Nat × Bytes)} (hlen : c.params.length = 12) (hres : u8 c.params 1 = 0)
    (hmin : 4 ≤ u16 c.params 2) (hmax : u16 c.params 2 ≤ 4056) (hmod : u16 c.params 2 % 4 = 0) (hoff : u32 c.params 8 = 0)
    (hcheck : s.queueCheck (u8 c.params 0) = none) (hfind : Tab.find? (u8 c.params 0) s.mem.queues = some q)
    (hup : q.disabled = false) (hpackets : q.packets = (n, d) :: t) (hseq : u32 c.params 4 = 0 ∨ u32 c.params 4 = n) :
    s.runQueRead c =
      let r := State.takePackets (u16 c.params 2) 0 q.packets q.nextSeq
      (s, .fin (if s.ringPoisoned q q.rp (min r.1.length 4) ∨ s.ringPoisoned q (q.rp + 4) (r.1.length - 4) then Ans.bare stFault 0
        else Ans.ok (le 4 n ++ le 2 r.2.1 ++ le 2 (b2n r.2.2.2.2) ++ le 4 r.2.2.1 ++ le 4 r.2.2.2.1 ++ r.1))) := by
  have hheld {p : Prop} : ¬ (u32 c.params 4 ≠ 0 ∧ List.any ((n, d) :: t) (fun e => e.1 == u32 c.params 4) = false ∧ p) := by
    rintro ⟨hnz, hany, -⟩
    simp [hseq.resolve_left hnz] at hany
  have hfrom : (if u32 c.params 4 = 0 then n else u32 c.params 4) = n := by
    rcases hseq with h | h
    · exact if_pos h
    · rw [h, ite_self]
  rw [State.runQueRead, if_neg (by omega)]
  dsimp only
  rw [if_neg (by omega), hcheck]
  simp only [getD_of_find hfind, hup, hpackets, hoff]
  simp only [hheld, if_false, or_false, hfrom, List.dropWhile_cons, List.takeWhile_cons, bne_self_eq_false, Bool.false_eq_true,
    List.map_nil, List.sum_nil, Nat.add_zero, Bool.false_and, ne_eq, not_true_eq_false, decide_false]
  split <;> rfl

theorem runQueStateRead_of_empty (h : c.params = []) : s.runQueStateRead c = (s, .fin (Ans.ok ((List.range 64).flatMap s.queueRecord))) := by
  rw [State.runQueStateRead, if_neg (by simp [h]), fin]

theorem runMemStateRead_of_empty (h : c.params = []) : s.runMemStateRead c = (s, .fin (Ans.ok ((List.range 48).flatMap (bankRecord s) ++
    le 4 s.mem.mramCe ++ le 4 s.mem.mramUe ++ le 4 s.mem.scrubPasses ++ le 4 s.mem.scrubLastMs))) := by
  rw [State.runMemStateRead, if_neg (by simp [h])]
  rfl

theorem runQueRelease_of_ok (hlen : c.params.length = 8) (hclear : u8 c.params 1 ≤ 1) (hres : u16 c.params 2 = 0)
    (hcheck : s.queueCheck (u8 c.params 0) = none) (hfind : Tab.find? (u8 c.params 0) s.mem.queues = some q) (hupto : u32 c.params 4 ≠ 0)
    (hold : accPrecedes (u32 c.params 4) q.nextSeq = true) : s.runQueRelease c =
      let gone := q.packets.filter (fun e => accLe e.1 (u32 c.params 4))
      let q' := { q with
        rp := (q.rp + (gone.map (fun e => State.slotBytes e.2.length)).sum) % (2 * q.size)
        packets := q.packets.filter (fun e => !accLe e.1 (u32 c.params 4))
        winOff := q.winOff - (gone.map (fun e => State.slotBytes e.2.length)).sum
        underrun := if u8 c.params 1 = 1 then false else q.underrun
        dropped := if u8 c.params 1 = 1 then false else q.dropped }
      (s.mapMem (fun m => { m with queues := Tab.put (u8 c.params 0) q' m.queues }),
        .fin ⟨stOk, if gone.isEmpty then 1 else 0, []⟩) := by
  have hfrees : (u32 c.params 4 != 0) = true := by simpa using hupto
  rw [State.runQueRelease, if_neg (by omega), if_neg (by omega), hcheck]
  simp only [getD_of_find hfind, hfrees, Bool.true_and]
  exact if_neg (by simp [hold])

end

/-! ### Queues and their read windows -/

section
variable {s : State}

theorem publish_of_room {n : Nat} {q : Queue} {d : Bytes} {full : State → State} (hfind : Tab.find? n s.mem.queues = some q) (hup : q.disabled = false)
    (hroom : State.slotBytes d.length ≤ q.size - State.queueFill q) (hlen : d.length ≤ 65532) : s.publish n d full = s.mapMem (fun m => { m with
      banks := State.ringCleanse q q.wp (State.slotBytes d.length) m.banks
      queues := Tab.put n { q with
        wp := (q.wp + State.slotBytes d.length) % (2 * q.size), packets := q.packets ++ [(q.nextSeq, d)]
        nextSeq := if q.nextSeq = 0xFFFFFFFF then 1 else q.nextSeq + 1, dropRun := false } m.queues }) := by
  simp only [State.publish, hfind]
  exact if_pos ⟨hup, hroom, hlen⟩

/-- A transport whose queue is out of service brings nothing in (R429). -/
theorem hostPacket_of_down {version op : Nat} {p : Pkt} (h : s.fixedDown (State.intakeQueue p.via) = true) :
    s.hostPacket version op p = s.dropFixed (State.intakeQueue p.via) := by
  rw [State.hostPacket, if_pos (by simp [State.hearsHost, h]), if_pos h]

theorem sendPacket_of_down {r : Reply} (hout : s.wiredOut = true) (h : s.fixedDown 3 = true) : s.sendPacket .spi r = s.dropFixed 3 := by
  rw [State.sendPacket, if_neg (by simp [hout]), if_pos ⟨rfl, h⟩]

theorem airIn_of_down {kind : Nat} {f : AirRx} {act : AirRx → State → State} (h : s.fixedDown (4 + f.chain) = true) :
    s.airIn kind f act = s.dropFixed (4 + f.chain) := if_pos h

/-- A read of a queue's window (R435): its next word, or the last one again with UNDERRUN. -/
theorem windowRead_of_queue {q : Nat} {x : Queue} (hq : 15 < q) (hfind : Tab.find? q s.mem.queues = some x) :
    s.windowRead q =
      let ok := decide (x.winOff < (s.queueBytes q).length)
      let t := s.mapMem (fun m => { m with queues := Tab.put q { x with
        winOff := if ok then x.winOff + 4 else x.winOff, winLast := if ok then u32 (s.queueBytes q) x.winOff else x.winLast
        underrun := x.underrun || !ok, underruns := if ok then x.underruns else inc32 x.underruns } m.queues })
      (if ok then u32 (s.queueBytes q) x.winOff else x.winLast, if ok then t else t.raise0 0x0D04 .warning 1 q) := by
  have hwindow : s.windowOf q = (x.winOff, x.winLast) := by
    rw [State.windowOf, if_neg (by omega), hfind]
  have hhas : Tab.has q s.mem.queues = true := by
    rw [Tab.has, hfind]
    rfl
  rw [State.windowRead, if_neg (by simp [hhas])]
  simp only [hwindow, State.mapMem, if_neg (Nat.not_le_of_lt hq), hfind]

end

/-! ### Words in error -/

section
variable {s : State} {b addr : Nat} {w : List Nat}

theorem mapBank_mapBank (f g : Bank → Bank) : (s.mapBank b f).mapBank b g = s.mapBank b (g ∘ f) := by
  simp only [State.mapBank, State.mapMem, modAt, List.modify_modify_eq]

/-- A corrected word is counted and written back where no threshold retires its bank (R424, R428). -/
theorem writeBack_correctWord (hoff : s.prm 0x0D81 = 0) (newer : Option (List Nat)) :
    (s.correctWord b addr).writeBack b addr w newer = s.mapBank b (fun k => { k with
      correctable := inc32 k.correctable, ceWords := if k.ceWords.contains addr then k.ceWords else addr :: k.ceWords
      words := Tab.put addr (newer.getD (rsFix w)) k.words }) := by
  rw [State.correctWord, if_neg fun h => h.1 hoff, State.writeBack, mapBank_mapBank]
  rfl

theorem readWord_of_corrected (hread : rsRead w = .corrected) (hoff : s.prm 0x0D81 = 0) :
    s.readWord b addr w = s.mapBank b (fun k => { k with
      correctable := inc32 k.correctable, ceWords := if k.ceWords.contains addr then k.ceWords else addr :: k.ceWords
      words := Tab.put addr (rsFix w) k.words }) := by
  simp only [State.readWord, hread]
  exact writeBack_correctWord hoff none

theorem scrubWord_of_newer {x : List Nat} (hread : rsRead w = .corrected) (hoff : s.prm 0x0D81 = 0) :
    s.scrubWord b addr w (some x) = s.mapBank b (fun k => { k with
      correctable := inc32 k.correctable, ceWords := if k.ceWords.contains addr then k.ceWords else addr :: k.ceWords
      words := Tab.put addr x k.words }) := by
  simp only [State.scrubWord, hread]
  exact writeBack_correctWord hoff (some x)

/-- An uncorrectable word that is not known yet retires its bank (R425, R428). -/
theorem readWord_of_lost (hread : rsRead w = .uncorrectable) :
    s.readWord b addr w = if (s.bank b).poisoned.contains addr then wordLost b addr s else (wordLost b addr s).retireBank b := by
  simp only [State.readWord, hread]
  rfl

/-- A bank in service is copied onto a free spare (R428). -/
theorem retireBank_of_free (hb : b < 47) (hin : (s.bank b).state = .inService) (hfor : s.mem.spareFor = none) (hcopy : s.mem.copying = none)
    (hspare : (s.bank 47).state = .inService) :
    s.retireBank b = (s.mapMem (fun m => { m with copying := some b })).raise 0x0D02 .fault 1 7 b := by
  rw [State.retireBank, if_neg (by simp [hin]), if_neg (by simp [hin, hcopy]), if_neg (by omega)]
  simp only [hfor, hcopy, hspare]

/-- With the spare taken a bank goes out of service, and a working bank's loss is reported (R429). -/
theorem retireBank_of_taken {x : Nat} (hmin : 8 ≤ b) (hmax : b < 32) (hin : (s.bank b).state = .inService) (hfor : s.mem.spareFor = some x)
    (hcopy : s.mem.copying = none) : s.retireBank b =
      ((s.mapBank b (fun k => { k with state := .outOfService })).raise 0x0D02 .fault 2 7 b).raise 0x008A .warning 5 7 b := by
  have hregion : regionOf b = .working := by rw [regionOf, if_neg (by omega), if_pos (by omega)]
  rw [State.retireBank, if_neg (by simp [hin]), if_neg (by simp [hin, hcopy]), if_neg (by omega)]
  simp only [hfor, hcopy, State.bankOut, State.bankLost, hregion]

theorem bankCopyDone_of_free (hcopy : s.mem.copying = some b) (hspare : (s.bank 47).state = .inService) :
    s.bankCopyDone = ((s.mapMem (fun m => { m with copying := none, spareFor := some b })).mapBank 47 (fun k => { k with
      state := .spareInUse, poisoned := (s.bank b).poisoned, words := (s.bank b).words })).mapBank b (fun k => { k with state := .onSpare }) := by
  simp only [State.bankCopyDone, hcopy]
  exact if_neg (not_not_intro hspare)

end

/-! ### The scrubbers -/

section
variable {s : State}

/-- A pass that goes on in time reports nothing (R426). -/
theorem scrubPassEnd_of_going {b addr : Nat} {w x : List Nat} (hread : rsRead w = .corrected) (hoff : s.prm 0x0D81 = 0)
    (htime : s.now - s.mem.scrubStart < s.prm 0x0D80 * 1000000000) :
    s.scrubPassEnd false [(b, addr, w, some x)] = s.mapBank b (fun k => { k with
      correctable := inc32 k.correctable, ceWords := if k.ceWords.contains addr then k.ceWords else addr :: k.ceWords
      words := Tab.put addr x k.words }) := by
  simp only [State.scrubPassEnd, List.foldl_cons, List.foldl_nil, scrubWord_of_newer hread hoff]
  refine (if_neg (by simp)).trans (if_neg fun h => ?_)
  exact absurd (of_decide_eq_true h.1) (Nat.not_le_of_lt htime)

theorem scrubPassEnd_of_ended (htime : s.now - s.mem.scrubStart ≤ s.prm 0x0D80 * 1000000000) :
    s.scrubPassEnd true [] = s.mapMem (fun m => { m with
      scrubPasses := inc32 m.scrubPasses, scrubLastMs := (s.now - s.mem.scrubStart) / 1000000, scrubStart := s.now, scrubLate := false
      banks := m.banks.map (fun k => { k with ceWords := [] }) }) := by
  have hquiet : ¬ (decide (s.prm 0x0D80 * 1000000000 ≤ s.now - s.mem.scrubStart) = true ∧ s.mem.scrubLate = false ∧
      (true = false ∨ s.prm 0x0D80 * 1000000000 < s.now - s.mem.scrubStart)) := by
    rintro ⟨-, -, h | h⟩
    · cases h
    · omega
  rw [State.scrubPassEnd, List.foldl_nil, if_neg hquiet, if_pos rfl]

theorem scrubPassEnd_of_late (htime : s.prm 0x0D80 * 1000000000 ≤ s.now - s.mem.scrubStart) (hfirst : s.mem.scrubLate = false) :
    s.scrubPassEnd false [] = (s.mapMem (fun m => { m with scrubLate := true })).raise0 0x0D03 .notice 1 0 := by
  rw [State.scrubPassEnd, List.foldl_nil, if_neg Bool.false_ne_true]
  exact if_pos ⟨decide_eq_true htime, hfirst, .inl rfl⟩

/-- Without a corrected word the count of them stays. -/
theorem mramScrub_of_bad {a off : Nat} {both : Bool} (hcount : s.mem.mramCe ≤ 0xFFFFFFFF) :
    s.mramScrub [] [(a, off, both)] = s.mramBad a off both := by
  have hsame : s.mapMem (fun m => { m with mramCe := min 0xFFFFFFFF (m.mramCe + 0) }) = s := by
    simp only [State.mapMem, Nat.add_zero, Nat.min_eq_right hcount]
  exact congrArg (State.mramBad a off both) hsame

/-- One copy of a configuration record is lost: the other restores it (R441). -/
theorem mramBad_config (off : Nat) : s.mramBad 2 off false =
    ((s.mapMem (fun m => { m with mramUe := inc32 m.mramUe })).raiseD 0x0D06 .fault 2 0 0 (2 + 256 * off)).raise0 0x0D05 .notice 2 0 := by
  rw [State.mramBad, if_pos ⟨rfl, rfl⟩]

/-- A lost word of the journal is reported, and the journal with it (R441). -/
theorem mramBad_journal (off : Nat) (both : Bool) : s.mramBad 1 off both =
    (((s.mapMem (fun m => { m with mramUe := inc32 m.mramUe })).raiseD 0x0D06 .fault 1 0 0 (1 + 256 * off)).mapSes (fun z => { z with
      journalFault := true })).raise0 0x0096 .fault 1 0 := by
  rw [State.mramBad, if_neg (by omega), if_pos rfl]

end

/-- Settles O16: queues are read and released, and errors of SRAM and MRAM act, as stated. -/
theorem memoryRowsAct : Obligations.MemoryRowsAct := by
  unfold Obligations.MemoryRowsAct
  refine ⟨fun q n d t => queryRow fun c s ⟨hlen, hres, hmin, hmax, hmod, hoff, hlow, hhigh, hfind, hup, hpackets, hseq⟩ =>
      runQueRead_of_oldest hlen hres hmin hmax hmod hoff (queueCheck_of_held hlow hhigh hfind) hfind hup hpackets hseq,
    fun s q n d full hfind hup hroom hlen => publish_of_room hfind hup hroom hlen,
    fun u version op p h => hostPacket_of_down h,
    fun u r hout h => sendPacket_of_down hout h,
    fun f hchain => nativeRow (State.airIn 0 f State.uplinkFrame) (fun u _ h => airIn_of_down h) fun _ _ => if_pos hchain,
    fun off => runRow (State.mramScrub [] [(2, off, false)]) fun u _ hcount => (mramScrub_of_bad hcount).trans (mramBad_config off),
    fun q => workRow fun c s _ ⟨hlen, hclear, hres, hlow, hhigh, hfind, hupto, hold⟩ =>
      runQueRelease_of_ok hlen hclear hres (queueCheck_of_held hlow hhigh hfind) hfind hupto hold,
    queryRow fun c s hlen => runQueStateRead_of_empty hlen,
    queryRow fun c s hlen => runMemStateRead_of_empty hlen,
    fun s q x hq hfind hend => (windowRead_of_queue hq hfind).trans (by simp [Nat.not_lt_of_le hend]),
    fun s q x hq hfind hmore => (windowRead_of_queue hq hfind).trans (by simp [hmore]),
    fun b addr w hb hread => runRow (State.readWord b addr w) (fun u _ hoff => readWord_of_corrected hread hoff) fun _ _ => if_pos hb,
    fun b addr w x hb hread => runRow (State.scrubPassEnd false [(b, addr, w, some x)]) fun u _ ⟨hoff, htime⟩ =>
      scrubPassEnd_of_going hread hoff htime,
    fun b addr w hb hread => runRow (State.readWord b addr w) (fun u _ ⟨hnew, hin, hfor, hcopy, hspare⟩ =>
      (readWord_of_lost hread).trans ((if_neg (ne_true_of_eq_false hnew)).trans (retireBank_of_free hb hin hfor hcopy hspare)))
      fun _ _ => if_pos (by omega),
    fun b addr w x hmax hmin hread => runRow (State.readWord b addr w) (fun u _ ⟨hnew, hin, hfor, hcopy⟩ =>
      (readWord_of_lost hread).trans ((if_neg (ne_true_of_eq_false hnew)).trans (retireBank_of_taken hmin hmax hin hfor hcopy)))
      fun _ _ => if_pos (by omega),
    fun b addr w hb hread => runRow (State.readWord b addr w) (fun u _ hknown => (readWord_of_lost hread).trans (if_pos hknown))
      fun _ _ => if_pos hb,
    fun b => runRow State.bankCopyDone fun u _ ⟨hcopy, hspare⟩ => bankCopyDone_of_free hcopy hspare,
    runRow (State.scrubPassEnd true []) fun u _ htime => scrubPassEnd_of_ended htime,
    runRow (State.scrubPassEnd false []) fun u _ ⟨htime, hfirst⟩ => scrubPassEnd_of_late htime hfirst,
    fun a => eventActs _ (fun _ _ => rfl) fun u hrun => inRun_of hrun.power hrun.running,
    fun off both => runRow (State.mramScrub [] [(1, off, both)]) fun u _ hcount => (mramScrub_of_bad hcount).trans (mramBad_journal off both)⟩

end Sys2Proof.Proofs
end

section
/-! The folds: reception, membership, heartbeats, stops, routing and relayed messages (R447 to R472). -/

namespace Sys2Proof.Proofs

open Sys2Proof.Machine Sys2Proof.Safety Sys2Proof.Laws

/-! ### What a sent message leaves -/

/-- The fold's and the link's parts are the same. -/
structure KeepsFold (s t : State) : Prop where
  fld : t.fld = s.fld
  lnk : t.lnk = s.lnk

section
variable {s t u : State}

theorem KeepsFold.trans (h : KeepsFold s t) (k : KeepsFold t u) : KeepsFold s u := ⟨k.fld.trans h.fld, k.lnk.trans h.lnk⟩

theorem keepsFold_of_onlyRaises (h : OnlyRaises s t) : KeepsFold s t := ⟨by rw [h], by rw [h]⟩

theorem keepsFold_mapPort (n : Nat) (f : EthPort → EthPort) : KeepsFold s (s.mapPort n f) := ⟨rfl, rfl⟩

theorem keepsFold_egressStamp (n : Nat) (k : EthKind) : KeepsFold s (s.egressStamp n k) := by
  rw [State.egressStamp]
  dsimp only
  split
  · exact keepsFold_mapPort ..
  · have hcount : KeepsFold s ((s.mapPort n (fun p => { p with stamps := p.stamps ++ [(k, none)], tsRun := true })).ethCount n 7) := ⟨rfl, rfl⟩
    split
    · exact hcount
    · exact hcount.trans (keepsFold_of_onlyRaises (onlyRaises_raise0 ..))

theorem keepsFold_ethKick (n : Nat) : KeepsFold s (s.ethKick n) := by
  rw [State.ethKick]
  dsimp only
  split
  · exact ⟨rfl, rfl⟩
  · split
    · exact ⟨rfl, rfl⟩
    · split
      · exact ⟨rfl, rfl⟩
      · next q _ _ f rest _ =>
        refine KeepsFold.trans (keepsFold_mapPort n (fun p => { p with busy := some f, queues := modAt q (fun _ => rest) p.queues })) ?_
        split
        · exact (keepsFold_egressStamp ..).trans ⟨rfl, rfl⟩
        · exact ⟨rfl, rfl⟩

theorem keepsFold_ethSend (n : Nat) (f : EthFrame) : KeepsFold s (s.ethSend n f) := by
  rw [State.ethSend]
  dsimp only
  split
  · exact ⟨rfl, rfl⟩
  · split
    · exact ⟨rfl, rfl⟩
    · split
      · exact ⟨rfl, rfl⟩
      · exact (keepsFold_mapPort ..).trans (keepsFold_ethKick n)

theorem keepsFold_emits (l : List Output) : KeepsFold s (l.foldl (fun s o => s.emit o) s) := by
  induction l generalizing s with
  | nil => exact ⟨rfl, rfl⟩
  | cons o l ih => exact KeepsFold.trans (t := s.emit o) ⟨rfl, rfl⟩ ih

/-- A sent message changes of the fold's part only the sequence numbers. -/
theorem keepsFold_foldSend (k typ : Nat) (dst : Option Nat) (body : Bytes) :
    KeepsFold (s.mapFld (fun f => { f with seqs := Tab.put (s.tier k).fold (Tab.getD (s.tier k).fold 0 s.fld.seqs + 1) f.seqs }))
      (s.foldSend k typ dst body) := by
  rw [State.foldSend]
  dsimp only
  split
  · exact ⟨rfl, rfl⟩
  · split
    · exact keepsFold_ethSend ..
    · exact keepsFold_emits _

theorem foldSend_relays (k typ : Nat) (dst : Option Nat) (body : Bytes) : (s.foldSend k typ dst body).fld.relays = s.fld.relays := by
  rw [(keepsFold_foldSend k typ dst body).fld]
  rfl

theorem foldSend_robots (k typ : Nat) (dst : Option Nat) (body : Bytes) : (s.foldSend k typ dst body).lnk.robots = s.lnk.robots := by
  rw [(keepsFold_foldSend k typ dst body).lnk]
  rfl

end

/-! ### Opcodes -/

section
variable {c : Cmd} {s : State} {fold m : Nat}

/-- The bellwether of the fold that is named refuses no index in range (R472). -/
theorem rosterRefusal_of_ok (h : rosterOk s fold m) : s.rosterRefusal fold m = none := by
  obtain ⟨hmin, hmax, hfold, k, hk, htier, hmember⟩ := h
  have hsome : (s.bellTierOf fold).isSome = true := by
    rw [State.bellTierOf, List.find?_isSome]
    exact ⟨k, List.mem_range.2 hk, by simp [htier, hmember, hfold]⟩
  have hbell : ¬ (List.range 15).all (fun k => (s.tier k).fold == 0xFFFF || (s.tier k).member != 0) = true := by
    intro hall
    have := List.all_eq_true.1 hall k (List.mem_range.2 hk)
    simp [htier, hmember, hfold] at this
  rw [State.rosterRefusal, if_neg hbell]
  refine if_neg ?_
  rintro (h | h | h)
  · simp [Option.isNone_iff_eq_none.1 h] at hsome
  · omega
  · omega

theorem runFldMemberAdd_of_ok (hlen : c.params.length = 12) (h : rosterOk s (u16 c.params 0) (u16 c.params 2)) :
    s.runFldMemberAdd c = (s.mapShadow c.sess (fun x => { x with
      roster := Tab.put (u16 c.params 0 * 4096 + u16 c.params 2) (u64 c.params 4 + 1) x.roster }), fin []) := by
  rw [State.runFldMemberAdd, if_neg (by omega), rosterRefusal_of_ok h]

theorem runFldMemberRemove_of_ok (hlen : c.params.length = 4) (h : rosterOk s (u16 c.params 0) (u16 c.params 2)) :
    s.runFldMemberRemove c = (s.mapShadow c.sess (fun x => { x with
      roster := Tab.put (u16 c.params 0 * 4096 + u16 c.params 2) 0 x.roster }), fin []) := by
  rw [State.runFldMemberRemove, if_neg (by omega), rosterRefusal_of_ok h]

theorem runFldStateRead_of_empty (h : c.params = []) : s.runFldStateRead c =
    let ms := s.membersBelow s.tiers
    (s, fin (le 1 s.tiers ++ le 1 (match s.bellTiers.getLast? with | some k => s.levelOf k | none => 0) ++ le 2 0 ++
      le 4 s.hierDevices ++ le 32 s.hierCat ++ le 2 s.stopSet.length ++ le 2 (ms.filter (fun e => e.2.absent)).length ++
      le 2 (ms.filter (fun e => e.2.reason != 0)).length ++ le 2 0 ++ le 4 s.fld.stopResends ++ le 4 s.fld.discarded ++
      le 4 s.fld.relayFwd ++ le 4 s.fld.relayDisc)) := by
  rw [State.runFldStateRead]
  exact if_neg (by simp [h])

/-- What FLD_MEMBERS_READ tells of one index of tier `k`'s roster (R472). -/
def memberRow (s : State) (k m : Nat) : Bytes :=
  if m = 0 then
    le 2 0 ++ le 1 (b2n (s.fld.ownReason != 0)) ++ le 1 s.fld.ownReason ++ le 8 s.fac.eui ++ le 4 (s.subDevices k)
  else match s.rosterEui k m, Tab.find? (s.memberKey k m) s.fld.members with
  | none, _ => le 2 m ++ le 1 3 ++ zeros 13
  | some e, none => le 2 m ++ le 1 2 ++ le 1 0 ++ le 8 e ++ le 4 0
  | some e, some x =>
    le 2 m ++ le 1 (if x.absent then 2 else b2n (x.reason != 0)) ++ le 1 x.reason ++ le 8 e ++ le 4 x.devices

theorem runFldMembersRead_of_tier {k : Nat} (hlen : c.params.length = 8) (hcount : 1 ≤ u16 c.params 4 ∧ u16 c.params 4 ≤ 254)
    (hend : u16 c.params 2 + u16 c.params 4 ≤ 4096) (hres : u16 c.params 6 = 0) (htier : s.bellTierOf (u16 c.params 0) = some k) :
    s.runFldMembersRead c = (s, fin ((List.range (u16 c.params 4)).flatMap (fun i => memberRow s k (u16 c.params 2 + i)))) := by
  rw [State.runFldMembersRead, if_neg (by omega), if_neg (by omega), htier]
  exact rfl

end

/-! ### Reception -/

/-- What a message of a known sender does at tier `k` (R452). -/
def foldAct (typ k : Nat) (bell : Bool) (f : FoldRx) (s : State) : State :=
  let b := f.body
  let n := b.length
  match typ with
  | 0x01 => if bell then (if n = 568 then s.joinMsg k f.src b else s.foldDiscard) else s
  | 0x02 => if n = 8 ∧ f.src = 0 then s.joinAnswer k b else s.foldDiscard
  | 0x03 => if bell ∧ n = 584 then s.heartbeat k f.src f.stamp b else s.foldDiscard
  | 0x04 => if n = 48 ∧ f.src = 0 then s.hbAnswer k b else s.foldDiscard
  | 0x05 => s.routedMsg k f.fold f.src b
  | 0x06 => if n = 16 then s.stopMsg k f.src b else s.foldDiscard
  | 0x07 => if n = 12 then s.stopAck k f.src b else s.foldDiscard
  | 0x08 => if f.src = 0 then s.stopSetMsg k b else s.foldDiscard
  | 0x14 => s.relayMsg k b
  | _ => s.foldDiscard

section
variable {typ k : Nat} {f : FoldRx} {u : State}

/-- A message that passes the checks keeps its sender's address and acts (R450, R451). -/
theorem foldIn_of_heard (h : FoldHeard typ k f u) : u.foldIn typ f = foldAct typ k ((u.tier k).member == 0) f (foldFrom f u) := by
  obtain ⟨-, hmerge, hqueue, htier, hver, hcrc, hdst, ⟨hself, hsrc⟩, hmember⟩ := h
  have hheader : ¬ (f.ver ≠ 1 ∨ f.crc ≠ crc32c (foldHeader f.ver typ f.fold f.src f.dst f.seq f.body.length ++ f.body) ∨
      (f.dst ≠ (u.tier k).member ∧ f.dst ≠ 0xFFFF) ∨ f.src = (u.tier k).member ∨ 4096 ≤ f.src) := by
    rintro (h | h | h | h | h)
    · exact h hver
    · exact h hcrc
    · exact hdst.elim h.1 h.2
    · exact hself h
    · omega
  have hknown : ¬ (((u.tier k).member == 0) = true ∧ typ ≠ msgJoin ∧ Tab.has (f.fold * 4096 + f.src) u.fld.members = false) := by
    rintro ⟨hbell, htyp, hhas⟩
    rcases hmember (by simpa using hbell) with h | h
    · exact htyp h
    · simp [h] at hhas
  rw [State.foldIn, pairInput_alone hmerge, State.foldTake, if_neg (by simp [hqueue]), htier]
  refine (if_neg hheader).trans ((if_neg hknown).trans ?_)
  exact rfl

/-- The row of a fold message that the device takes acts as its type does. -/
theorem foldRow {row : Nat → Instr} {ok : State → Prop} {eff : State → State} (typ k : Nat) (f : FoldRx)
    (h : ∀ u, FoldHeard typ k f u → ok u → foldAct typ k ((u.tier k).member == 0) f (foldFrom f u) = eff u)
    (hx : ∀ s dt, exec (row dt) s = .next (s.act dt (State.native (State.foldIn typ f))) := by exact fun _ _ => rfl) :
    EventActs row (fun u => FoldHeard typ k f u ∧ ok u) eff :=
  eventActs _ hx fun u ⟨hheard, hok⟩ => (native_of hheard.run.power hheard.run.native hheard.run.running).trans
    ((foldIn_of_heard hheard).trans (h u hheard hok))

theorem tiers_of_tierOf (h : u.tierOf f.fold = some k) : u.tiers ≠ 0 := by
  intro hz
  simp [State.tierOf, hz] at h

end

/-! ### Membership and heartbeats -/

section
variable {s : State} {k src : Nat} {b : Bytes}

theorem joinMsg_of_stranger (h : s.rosterEui k src ≠ some (u64 b 0) ∨ u16 b 8 ≠ src) : s.joinMsg k src b =
    s.foldSend k msgJoinAnswer (some src) (le 1 1 ++ le 1 (s.levelOf k) ++ le 2 0 ++ le 4 (s.prm 0x0E10)) := by
  have hres : s.joinResult k src b = 1 := by
    rw [State.joinResult]
    exact if_pos h
  rw [State.joinMsg, hres]
  exact rfl

theorem joinMsg_of_admitted (h : s.joinResult k src b = 0) : s.joinMsg k src b =
    (s.admitMember k src b).foldSend k msgJoinAnswer (some src)
      (le 1 0 ++ le 1 ((s.admitMember k src b).levelOf k) ++ le 2 0 ++ le 4 ((s.admitMember k src b).prm 0x0E10)) := by
  rw [State.joinMsg, h]
  exact rfl

theorem joinAnswer_of_yes (hup : s.upTier = some k) (hout : s.fld.admitted = false) (hyes : u8 b 0 = 0) : s.joinAnswer k b =
    s.mapFld (fun x => { x with admitted := true, upLevel := u8 b 1, upState := 0, upReason := 0, seen := true, missSf := 0 }) := by
  rw [State.joinAnswer, if_neg (by simp [hup, hout]), if_pos hyes]

theorem joinAnswer_of_no (hup : s.upTier = some k) (hout : s.fld.admitted = false) (hno : u8 b 0 ≠ 0) : s.joinAnswer k b =
    s.raise0 0x0E05 .notice (u8 b 0) ((s.tier k).fold + 65536 * (s.tier k).member) := by
  rw [State.joinAnswer, if_neg (by simp [hup, hout]), if_neg hno, State.foldEvent]

/-- A heartbeat of a member in step, where this device answers to a bellwether itself (R458, R462). -/
theorem heartbeat_of_inStep {stamp : Nat} {m : FldMember} (hfind : Tab.find? (s.memberKey k src) s.fld.members = some m)
    (hup : s.upTier.isSome = true) (hdiff : m.stopDiff = 0) (hreason : m.reason = 0)
    (hfails : (s.mapFld (fun x => { x with members := Tab.put (s.memberKey k src) (s.hbMember stamp b m) x.members })).hbFails
      (s.memberKey k src) b (s.hbMember stamp b m) = []) :
    s.heartbeat k src stamp b =
      let x := s.hbMember stamp b m
      let t := s.mapFld (fun z => { z with
        members := Tab.put (s.memberKey k src) { x with reason := 0, passes := m.passes + 1 } (Tab.put (s.memberKey k src) x z.members) })
      t.foldSend k msgHbAnswer (some src) (t.hbAnswerBody k 0) := by
  have hsize : (s.mapFld (fun x => { x with members := Tab.put (s.memberKey k src) (s.hbMember stamp b m) x.members })).judgeSize =
      s.mapFld (fun x => { x with members := Tab.put (s.memberKey k src) (s.hbMember stamp b m) x.members }) := by
    rw [State.judgeSize]
    exact if_pos (.inl hup)
  have hput : Tab.find? (s.memberKey k src)
      (s.mapFld (fun x => { x with members := Tab.put (s.memberKey k src) (s.hbMember stamp b m) x.members })).fld.members =
      some (s.hbMember stamp b m) := by
    rw [State.mapFld, Tab.find?_put, if_pos rfl]
  have hstops : (s.hbMember stamp b m).stopDiff ≠ 2 := by
    simp only [State.hbMember, hdiff]
    split <;> omega
  have hjudge (fold : Nat) (t : State) : t.stepJudge fold src (s.hbMember stamp b m).reason (s.hbMember stamp b m).passes [] =
      (t, 0, m.passes + 1) := if_pos hreason
  simp only [State.heartbeat, hfind, hsize, hput, Option.getD_some, hfails]
  rw [hjudge]
  exact if_neg hstops

theorem hbAnswer_of_admitted (hup : s.upTier = some k) (hin : s.fld.admitted = true) : s.hbAnswer k b =
    s.mapFld (fun x => { x with
      upState := u8 b 0, upReason := u8 b 1, upLevel := u8 b 2, hierDevices := u32 b 4, hierCat := rd b 8 32
      seen := true, missSf := 0 }) := by
  rw [State.hbAnswer, if_neg (by simp [hup, hin])]

/-- A device that heads no fold judges nothing of itself. -/
theorem judgeSelf_of_member (hbell : s.bellTiers = []) (hreason : s.fld.ownReason = 0) (hpasses : s.fld.ownPasses = 0) : s.judgeSelf = s := by
  have hown (x : Fld) (hr : x.ownReason = 0) (hp : x.ownPasses = 0) : { x with ownReason := 0, ownPasses := 0 } = x := by
    cases x
    cases hr
    cases hp
    rfl
  rw [State.judgeSelf, hbell]
  exact congrArg (fun x : Fld => { s with fld := x }) (hown s.fld hreason hpasses)

/-- A member with nothing to resend sends its HEARTBEAT, or asks to join (R458). -/
theorem foldPeriodic_of_member (htiers : s.tiers ≠ 0) (hbell : s.bellTiers = []) (hup : s.upTier = some k) (hrelays : s.fld.relays = [])
    (hrobots : s.lnk.robots = []) (hreason : s.fld.ownReason = 0) (hpasses : s.fld.ownPasses = 0) : s.foldPeriodic =
      if s.fld.admitted then s.foldSend k msgHeartbeat (some 0) (s.heartbeatBody k) else s.foldSend k msgJoin none (s.joinBody k) := by
  rw [State.foldPeriodic, if_neg htiers, judgeSelf_of_member hbell hreason hpasses]
  simp only [hup]
  split <;> simp only [foldSend_relays, foldSend_robots, hrelays, hrobots, State.roamWaits, List.foldl_nil]

theorem memberAbsent_of_missed {fold m : Nat} {x : FldMember} (hfind : Tab.find? (fold * 4096 + m) s.fld.members = some x)
    (hin : x.absent = false) (hmiss : s.prm 0x0E12 ≤ x.missSf) : s.memberAbsent fold m =
      (s.mapFld (fun f => { f with members := Tab.put (fold * 4096 + m) { x with absent := true } f.members })).raise0
        0x0E02 .warning 1 (fold + 65536 * m) := by
  simp only [State.memberAbsent, hfind]
  exact if_pos ⟨hin, hmiss⟩

theorem foldLost_of_missed (hup : s.upTier = some k) (hin : s.fld.admitted = true) (hmiss : s.prm 0x0E12 ≤ s.fld.missSf) : s.foldLost =
    (s.mapFld (fun f => { f with admitted := false, upState := 0, upReason := 0 })).raise0
      0x0E06 .warning 1 ((s.tier k).fold + 65536 * (s.tier k).member) := by
  simp only [State.foldLost, hup]
  exact if_pos ⟨hin, hmiss⟩

end

/-! ### Routing -/

section
variable {s : State} {k : Nat} {f : FoldRx}

theorem headFault_of_whole {b : Bytes} (h : wholeHeader b) : headFault b = none := by
  obtain ⟨hlen, hsync, hsync', hcrc⟩ := h
  rw [headFault, if_neg (by simp [hsync, hsync']; omega), if_neg (by simp [hcrc])]

/-- A command that names this device waits for the tick boundary (R465). -/
theorem routedMsg_of_here (hwhole : wholeHeader f.body) (hreply : bit (u8 f.body 3) 0 = false) (hfrag : bit (u8 f.body 3) 4 = false)
    (hcheck : State.headCheck (routedPkt f) = none) (hhop : u8 (routedPkt f).payload 1 = (routedPkt f).depth) :
    s.routedMsg 0 f.fold f.src f.body = s.mapFld (fun x => { x with
      routedIn := x.routedIn ++ [(u8 f.body 2, u16 f.body 4, withHop (routedPkt f).depth (routedPkt f))] }) := by
  rw [State.routedMsg, headFault_of_whole hwhole]
  refine (if_neg (ne_true_of_eq_false hreply)).trans ((if_neg (ne_true_of_eq_false hfrag)).trans ?_)
  rw [show pktOf (.fold f.fold f.src) f.body = routedPkt f from rfl, hcheck]
  simp only [hhop, if_true, State.hopAct]

/-- A reply goes to the host that the entry device remembers (R467). -/
theorem routedMsg_of_reply {v : (Bytes × Nat) × Via} (hwhole : wholeHeader f.body) (hreply : bit (u8 f.body 3) 0 = true)
    (hpath : s.fld.paths.find? (fun e => e.1 == (le 1 (u8 (replyOf f.body).pre 0) ++ slice (replyOf f.body).pre 2 (2 * u8 (replyOf f.body).pre 0),
      (replyOf f.body).sess)) = some v) : s.routedMsg k f.fold f.src f.body = s.sendPacket v.2 (replyOf f.body) := by
  rw [State.routedMsg, headFault_of_whole hwhole]
  refine (if_pos hreply).trans ?_
  rw [State.routeReply]
  simp only [hpath, Option.some_or]

end

/-! ### Stops -/

section
variable {s : State} {k src : Nat} {b : Bytes}

theorem stopMsg_of_new (horigin : u64 b 0 ≠ s.fac.eui) (hstate : u8 b 8 ≤ 2) (hnew : Tab.find? (u64 b 0) s.fld.stops = none)
    (hin : s.fld.stopIn = []) : s.stopMsg k src b =
      ((((List.range s.tiers).filter (fun j => j != k)).foldl (fun s j => s.sendStop j (u64 b 0) (u8 b 8) (u32 b 12)) s).mapFld (fun x => { x with
        stopIn := x.stopIn ++ [(u64 b 0, u8 b 8, u32 b 12)] })).foldSend k msgStopAck (some src) (le 8 (u64 b 0) ++ le 4 (u32 b 12)) := by
  simp only [State.stopMsg, hnew, hin, List.any_nil]
  rw [if_pos (by simp [hstate, horigin])]

theorem stopMsg_of_old {e : Nat × Nat} (hheld : Tab.find? (u64 b 0) s.fld.stops = some e) (hold : u32 b 12 ≤ e.2) :
    s.stopMsg k src b = s.foldSend k msgStopAck (some src) (le 8 (u64 b 0) ++ le 4 (u32 b 12)) := by
  simp only [State.stopMsg, hheld]
  rw [if_neg fun h => absurd (of_decide_eq_true h.1) (Nat.not_lt_of_le hold)]

/-- The last acknowledgement that a STOP waits for ends it. -/
theorem stopAck_of_last {st : Nat} (h : s.fld.stopSends = [⟨k, u64 b 0, st, u32 b 8, [src]⟩]) :
    s.stopAck k src b = s.mapFld (fun x => { x with stopSends := [] }) := by
  simp [State.stopAck, State.mapFld, h]

theorem stopSetMsg_of_last (hup : s.upTier = some k) (hmax : u16 b 0 ≤ 448) (hlen : b.length = 4 + 9 * u16 b 0) (hlast : bit (u8 b 2) 0 = true) :
    s.stopSetMsg k b = s.mapFld (fun x => { x with
      setParts := []
      setIn := some ((List.range (u16 b 0)).foldl (fun (t : Tab Nat) i =>
        Tab.put (u64 b (4 + 9 * i)) (u8 b (12 + 9 * i)) t) x.setParts) }) := by
  rw [State.stopSetMsg, if_neg (by simp [hup, hlen]; omega)]
  simp only [hlast, if_true]
  exact rfl

end

/-! ### Relayed messages -/

section
variable {s : State} {k : Nat} {b : Bytes}

theorem relayTake_of_ok {dev typ : Nat} (htiers : s.tiers ≠ 0) (hlen : State.relayLenOk typ b = true) :
    s.relayTake dev typ b = s.mapFld (fun x => { x with inbox := x.inbox ++ [(dev, typ, b)] }) :=
  if_neg (by simp [htiers, hlen])

theorem relayMsg_of_here (hdev : u16 b 0 = s.deviceNo) (hmin : 28 ≤ b.length) (hinner : (b.drop 8).length = 20 + u16 (b.drop 8) 12)
    (hver : u8 (b.drop 8) 0 = 1)
    (hcrc : crc32c ((b.drop 8).take (16 + u16 (b.drop 8) 12)) = u32 (b.drop 8) (16 + u16 (b.drop 8) 12))
    (htyp : 9 ≤ u8 (b.drop 8) 1 ∧ u8 (b.drop 8) 1 ≤ 0x13) (htiers : s.tiers ≠ 0)
    (hlen : State.relayLenOk (u8 (b.drop 8) 1) (slice (b.drop 8) 16 (u16 (b.drop 8) 12)) = true) : s.relayMsg k b =
      s.mapFld (fun x => { x with
        inbox := x.inbox ++ [(u16 b 2, u8 (b.drop 8) 1, slice (b.drop 8) 16 (u16 (b.drop 8) 12))] }) := by
  rw [State.relayMsg]
  refine (if_pos hdev).trans ((if_pos ?_).trans (relayTake_of_ok htiers hlen))
  rw [hinner, hver, hcrc]
  simp [hmin, htyp]

/-- A message for another device goes up from a member that heads no fold (R455). -/
theorem relayMsg_of_onwards {j : Nat} (hdev : u16 b 0 ≠ s.deviceNo) (hone : u16 b 0 ≠ toAll) (hhops : u8 b 4 < 30) (hbell : s.bellTiers = [])
    (hup : s.upTier = some j) : s.relayMsg k b =
      (s.mapFld (fun x => { x with relayFwd := inc32 x.relayFwd })).foldSend j msgRelay (some 0)
        (le 2 (u16 b 0) ++ le 2 (u16 b 2) ++ le 1 (u8 b 4 + 1) ++ zeros 3 ++ b.drop 8) := by
  rw [State.relayMsg]
  refine (if_neg hdev).trans ((if_neg (by omega)).trans ((if_neg hone).trans ?_))
  rw [State.relayRoute]
  refine (if_neg hone).trans ?_
  simp only [hbell, List.findSome?_nil, hup, Option.isSome_some, if_true]

/-- A relayed message's row puts it in the intake. -/
theorem relayRow {row : Nat → Nat → Bytes → Instr} {typ : Nat}
    (hx : ∀ dev b s dt, exec (row dt dev b) s = .next (s.act dt (State.native (State.relayTake dev typ b))) := by exact fun _ _ _ _ => rfl) :
    RelayTaken row typ := fun dev b hlen =>
  nativeRow (State.relayTake dev typ b) (fun _ _ htiers => relayTake_of_ok htiers hlen) (hx dev b)

theorem foldPartTimeout_eq : s.foldPartTimeout = s.mapFld (fun x => { x with
    canMsgs := x.canMsgs.filter (fun m => decide (s.now - m.since < 100000000))
    discarded := min 0xFFFFFFFF (x.discarded + (s.fld.canMsgs.filter (fun m => decide (100000000 ≤ s.now - m.since))).length) }) := by
  have hyoung : (fun m : CanMsg => !decide (100000000 ≤ s.now - m.since)) = fun m => decide (s.now - m.since < 100000000) := by
    funext m
    rw [← decide_not]
    exact decide_eq_decide.2 Nat.not_le
  rw [State.foldPartTimeout]
  simp only [hyoung, satAdd]

end

/-- Settles O17: the fold's opcodes, messages and absences act as stated. -/
theorem foldRowsAct : Obligations.FoldRowsAct := by
  unfold Obligations.FoldRowsAct
  refine ⟨queryRow fun c s h => runFldStateRead_of_empty h,
    workRow fun c s _ ⟨hlen, h⟩ => runFldMemberAdd_of_ok hlen h,
    workRow fun c s _ ⟨hlen, h⟩ => runFldMemberRemove_of_ok hlen h,
    fun k => queryRow fun c s ⟨hlen, hmin, hmax, hend, hres, htier⟩ => runFldMembersRead_of_tier hlen ⟨hmin, hmax⟩ hend hres htier,
    fun f k => foldRow 1 k f fun u _ ⟨hbell, hlen, hout⟩ =>
      (if_pos (by simp [hbell])).trans ((if_pos hlen).trans (joinMsg_of_stranger (s := foldFrom f u) hout)),
    fun f k => foldRow 1 k f fun u _ ⟨hbell, hlen, hres⟩ =>
      (if_pos (by simp [hbell])).trans ((if_pos hlen).trans (joinMsg_of_admitted hres)),
    fun f k => foldRow 2 k f fun u _ ⟨hlen, hsrc, hup, hout, hyes⟩ => (if_pos ⟨hlen, hsrc⟩).trans (joinAnswer_of_yes hup hout hyes),
    fun f k => foldRow 2 k f fun u _ ⟨hlen, hsrc, hup, hout, hno⟩ => (if_pos ⟨hlen, hsrc⟩).trans (joinAnswer_of_no hup hout hno),
    fun f k m => foldRow 3 k f fun u _ ⟨hbell, hlen, hfind, hup, hdiff, hreason, hfails⟩ =>
      (if_pos ⟨by simp [hbell], hlen⟩).trans (heartbeat_of_inStep hfind hup hdiff hreason hfails),
    fun f k => foldRow 4 k f fun u _ ⟨hlen, hsrc, hup, hin⟩ => (if_pos ⟨hlen, hsrc⟩).trans (hbAnswer_of_admitted hup hin),
    fun k => nativeRow State.foldPeriodic fun u _ ⟨htiers, hbell, hup, hin, hrelays, hrobots, hreason, hpasses⟩ =>
      (foldPeriodic_of_member htiers hbell hup hrelays hrobots hreason hpasses).trans (if_pos hin),
    fun k => nativeRow State.foldPeriodic fun u _ ⟨htiers, hbell, hup, hout, hrelays, hrobots, hreason, hpasses⟩ =>
      (foldPeriodic_of_member htiers hbell hup hrelays hrobots hreason hpasses).trans (if_neg (ne_true_of_eq_false hout)),
    fun fold m x => nativeRow (State.memberAbsent fold m) fun u _ ⟨hfind, hin, hmiss⟩ => memberAbsent_of_missed hfind hin hmiss,
    fun k => nativeRow State.foldLost fun u _ ⟨hup, hin, hmiss⟩ => foldLost_of_missed hup hin hmiss,
    fun f => foldRow 5 0 f fun u _ ⟨hwhole, hreply, hfrag, hcheck, hhop⟩ => routedMsg_of_here hwhole hreply hfrag hcheck hhop,
    fun f k v => foldRow 5 k f fun u _ ⟨hwhole, hreply, hpath⟩ => routedMsg_of_reply (s := foldFrom f u) hwhole hreply hpath,
    fun f k => foldRow 6 k f fun u _ ⟨hlen, horigin, hstate, hnew, hin⟩ =>
      (if_pos hlen).trans (stopMsg_of_new (s := foldFrom f u) horigin hstate hnew hin),
    fun f k e => foldRow 6 k f fun u _ ⟨hlen, hheld, hold⟩ => (if_pos hlen).trans (stopMsg_of_old (s := foldFrom f u) hheld hold),
    fun f k st => foldRow 7 k f fun u _ ⟨hlen, hsends⟩ => (if_pos hlen).trans (stopAck_of_last (s := foldFrom f u) hsends),
    fun f k => foldRow 8 k f fun u _ ⟨hsrc, hup, hmax, hlen, hlast⟩ =>
      (if_pos hsrc).trans (stopSetMsg_of_last (s := foldFrom f u) hup hmax hlen hlast),
    fun f k => eventActs (State.native (State.foldIn 0x14 f)) (fun _ _ => rfl) fun u ⟨hheard, hdev, hmin, hinner, hver, hcrc, hlow, hhigh, hlen⟩ =>
      (native_of hheard.run.power hheard.run.native hheard.run.running).trans ((foldIn_of_heard hheard).trans
        (relayMsg_of_here (s := foldFrom f u) hdev hmin hinner hver hcrc ⟨hlow, hhigh⟩ (tiers_of_tierOf hheard.tier) hlen)),
    fun f k j => foldRow 0x14 k f fun u _ ⟨hdev, hone, hhops, hbell, hup⟩ =>
      relayMsg_of_onwards (s := foldFrom f u) hdev hone hhops hbell hup,
    eventActs (State.native State.foldPartTimeout) (fun _ _ => rfl) fun u hrun =>
      (native_of hrun.power hrun.native hrun.running).trans foldPartTimeout_eq,
    relayRow, relayRow, relayRow, relayRow, relayRow, relayRow, relayRow, relayRow, relayRow, relayRow, relayRow⟩

end Sys2Proof.Proofs
end

section
/-! The reading opcodes of CX mode (R567, R576, R577). -/

namespace Sys2Proof.Proofs

open Sys2Proof.Machine Sys2Proof.Safety Sys2Proof.Laws

section
variable {row : Nat → Bool → Bytes → Instr} {op : Nat} {run : Bytes → State → State × Nat × Bytes}

/-- A CX command without data completes where its meaning answers status 0. -/
theorem cxDoes_of_empty {ok : State → Prop} {res : Bytes → State → State × Bytes}
    (hrun : ∀ b s, ok s → run b s = ((res b s).1, 0, (res b s).2))
    (hx : ∀ dt spi data s, exec (row dt spi data) s = .next (s.act dt (State.cxTake op (fun n => n == 0) run spi data)) := by
      exact fun _ _ _ _ => rfl) : CxDoes row op (fun b s => b = [] ∧ ok s) res :=
  cxDoes_of_run hx (fun _ _ h => by rw [h.1]; rfl) fun b s h => hrun b s h.2

/-- A CX command without data reads where its meaning answers from the state. -/
theorem cxReads_of_run {body : State → Bytes} (hrun : ∀ b s, run b s = (s, 0, body s))
    (hx : ∀ dt spi data s, exec (row dt spi data) s = .next (s.act dt (State.cxTake op (fun n => n == 0) run spi data)) := by
      exact fun _ _ _ _ => rfl) : CxReads row op body :=
  cxDoes_of_run hx (fun _ _ h => by rw [h]; rfl) fun b s _ => hrun b s

/-- A CX command with `n` bytes of data completes where its meaning answers status 0. -/
theorem cxDoes_of_length {n : Nat} {ok : Bytes → State → Prop} {res : Bytes → State → State × Bytes}
    (hrun : ∀ b s, ok b s → run b s = ((res b s).1, 0, (res b s).2))
    (hx : ∀ dt spi data s, exec (row dt spi data) s = .next (s.act dt (State.cxTake op (fun k => k == n) run spi data)) := by
      exact fun _ _ _ _ => rfl) : CxDoes row op (fun b s => b.length = n ∧ ok b s) res :=
  cxDoes_of_run hx (fun _ _ h => beq_iff_eq.mpr h.1) fun b s h => hrun b s h.2

end

section
variable {s : State} {b : Bytes}

theorem cxWith_of_find {a : Nat} {r : CxRobot} {f : CxRobot → State × Nat × Bytes} (h : Tab.find? a s.cx.robots = some r) :
    State.cxWith a s f = f r := by
  rw [State.cxWith, h]

/-- The flags of GET_STATUS, each at its place (R567). -/
theorem cxStatusRead_eq : s.cxStatusRead b = (s, 0,
    le 1 (b2n s.timeValid + (2 * b2n s.basePos.isSome + (4 * b2n s.cx.survey.isSome + (8 * b2n (s.cxAllStop ||
      s.cx.robots.any (fun (e : Nat × CxRobot) => e.2.stop)) + (16 * b2n s.cx.conf.radio.isSome +
      (32 * b2n ((s.canPort 0).state == .busOff) + (64 * b2n (s.vit.tamper != 0) + 128 * b2n s.faultCondition))))))) ++
    le 1 (s.cxSats.filter (fun r => r.2.1.lock)).length ++ le 1 s.cx.robots.length ++
    le 1 (s.cx.robots.filter (fun (e : Nat × CxRobot) => e.2.joined && !e.2.lost)).length) := by
  simp only [State.cxStatusRead, State.cxOk, List.zipIdx_cons, List.zipIdx_nil, List.map_cons, List.map_nil, List.sum_cons, List.sum_nil]
  simp [Nat.mul_comm]

theorem cxListRobots_of_ok (hmin : 1 ≤ u8 b 0) (hmax : u8 b 0 ≤ 48) : s.cxListRobots b =
    let l := (s.cx.robots.filter (fun (e : Nat × CxRobot) => decide (u8 b 0 ≤ e.1))).take 27
    (s, 0, le 1 l.length ++ l.flatMap (fun (e : Nat × CxRobot) => le 1 e.1 ++ le 8 e.2.eui)) := by
  rw [State.cxListRobots]
  exact if_neg (by omega)

theorem cxReadRtcm_of_ok (hmin : 1 ≤ u8 b 0) (hmax : u8 b 0 ≤ 240) : s.cxReadRtcm b =
    (s.mapCx (fun x => { x with host := x.host.drop (u8 b 0) }), 0, le 1 (s.cx.host.take (u8 b 0)).length ++ s.cx.host.take (u8 b 0)) := by
  rw [State.cxReadRtcm]
  exact if_neg (by omega)

/-- What GET_ROBOT answers of a registered robot (R567). -/
theorem cxGetRobot_of_find {r : CxRobot} (h : Tab.find? (u8 b 0) s.cx.robots = some r) : s.cxGetRobot b =
    (let st := if r.lost then 2 else if r.joined then 1 else 0
     let (e, n, u, age) := match r.report with
       | some (e, n, u, t) => (e, n, u, min 255 ((s.now - t) / 50000000))
       | none => (0, 0, 0, 255)
     (s, 0, le 1 st ++ leS 4 e ++ leS 4 n ++ leS 2 u ++ le 1 r.fix ++ le 1 age ++ le 1 r.battery ++ leS 1 (clampS 8 r.rssi))) := by
  refine (cxWith_of_find h).trans ?_
  cases r.report <;> rfl

end

/-- Settles O18: each reading opcode answers OK with the fields of its row. -/
theorem cxReadsComplete : Obligations.CxReadsComplete := by
  unfold Obligations.CxReadsComplete
  refine ⟨cxReads_of_run (run := State.cxPing) fun _ _ => rfl,
    cxReads_of_run (run := State.cxVersion) fun _ _ => rfl,
    cxReads_of_run (run := State.cxStatusRead) fun _ _ => cxStatusRead_eq,
    cxReads_of_run (run := State.cxTime) fun _ _ => rfl,
    fun x y z k => cxDoes_of_empty (run := State.cxGetBase) fun b s h => by rw [State.cxGetBase, h]; exact rfl,
    cxDoes_of_empty (run := State.cxGetBase) fun b s h => by rw [State.cxGetBase, h]; exact rfl,
    fun t n => cxDoes_of_empty (run := State.cxGetSurvey) fun b s h => by rw [State.cxGetSurvey, h]; exact rfl,
    cxDoes_of_empty (run := State.cxGetSurvey) fun b s h => by rw [State.cxGetSurvey, h]; exact rfl,
    cxReads_of_run (run := State.cxSatInfo) fun _ _ => rfl,
    cxReads_of_run (run := State.cxGetRadio) fun _ _ => rfl,
    cxDoes_of_length (run := State.cxListRobots) fun b s ⟨hmin, hmax⟩ => cxListRobots_of_ok hmin hmax,
    fun r e n u t => cxDoes_of_length (run := State.cxGetRobot) fun b s ⟨hfind, hreport⟩ =>
      (cxGetRobot_of_find hfind).trans (by rw [hreport]),
    fun r => cxDoes_of_length (run := State.cxGetRobot) fun b s ⟨hfind, hreport⟩ =>
      (cxGetRobot_of_find hfind).trans (by rw [hreport]),
    fun r => cxDoes_of_length (run := State.cxGetTask) fun b s hfind => cxWith_of_find hfind,
    cxReads_of_run (run := State.cxGetStop) fun _ _ => rfl,
    cxDoes_of_length (run := State.cxReadRtcm) fun b s ⟨hmin, hmax⟩ => cxReadRtcm_of_ok hmin hmax,
    cxDoes_of_empty (run := State.cxReadMsg) fun b s h => by rw [State.cxReadMsg, h]; exact rfl,
    fun a m t => cxDoes_of_empty (run := State.cxReadMsg) fun b s h => by rw [State.cxReadMsg, h],
    cxDoes_of_empty (run := State.cxCanRead) fun b s h => by rw [State.cxCanRead, h]; exact rfl,
    fun f t l => cxDoes_of_empty (run := State.cxCanRead) fun b s h => by rw [State.cxCanRead, h]; exact rfl,
    cxDoes_of_empty (run := State.cxGetEvent) fun b s h => by rw [State.cxGetEvent, h]; exact rfl,
    fun c t l => cxDoes_of_empty (run := State.cxGetEvent) fun b s h => by rw [State.cxGetEvent, h],
    cxReads_of_run (run := State.cxCounters) fun _ _ => rfl⟩

end Sys2Proof.Proofs
end

section
/-! LOAD_DEFAULTS in CX mode (R110, R567): where the configuration had the antenna's bias on, the bias that a short has cut is restored. -/

namespace Sys2Proof.Proofs

open Sys2Proof.Machine Sys2Proof.Safety Sys2Proof.Laws

/-- CX mode with the bias of antenna A configured on, and cut after a short. -/
def cxBiasCut : State :=
  ((State.reset.mapSys (fun y => { y with power := .run, fw := .running, cx := true })).mapCxConf (fun c => { c with ant := true })).mapGns
    (fun g => { g with antCut := (true, false) })

theorem cxBiasCut_ready : CxReady (cxBiasCut.before 0) := by
  constructor
  case ready => decide +kernel
  case run => constructor <;> decide +kernel

/-- LOAD_DEFAULTS over UART restores the bias. -/
theorem antCut_of_loadDefaults : ∃ t, exec (.loadDefaults 0 false []) cxBiasCut = .next t ∧ t.gns.antCut = (false, false) :=
  ⟨_, rfl, by decide +kernel⟩

/-- The effect that O19 states of LOAD_DEFAULTS leaves the bias cut. -/
theorem antCut_of_stated : (cxBiasCut.act 0 (fun u =>
    ((((u.cxUnread false).mapCx (fun x => { x with conf := CxConf.fresh, robots := [], joinReq := [], joining := [] })).cxSync,
      ([] : Bytes)).1.cxAnswer false 0x24 (le 1 0 ++ [])))).gns.antCut = (true, false) := by
  decide +kernel

/-- Refutes O19: with the antenna's bias configured on and cut, LOAD_DEFAULTS restores the bias, which the stated effect leaves cut. -/
theorem not_cxCommandsComplete : ¬ Obligations.CxCommandsComplete := by
  unfold Obligations.CxCommandsComplete
  intro h
  obtain ⟨-, -, -, -, -, -, -, -, -, -, -, -, -, -, -, -, -, -, -, hdefaults⟩ := h
  obtain ⟨t, hran, hrestored⟩ := antCut_of_loadDefaults
  have hstated := hdefaults cxBiasCut 0 false [] cxBiasCut_ready (by decide) rfl
  have hsame := hran.symm.trans hstated
  injection hsame with hsame
  rw [hsame, antCut_of_stated] at hrestored
  cases hrestored

end Sys2Proof.Proofs
end

section
/-! CX mode's frames, tick, robots and stop line, and legacy members (R564 to R581). -/

namespace Sys2Proof.Proofs

open Sys2Proof.Machine Sys2Proof.Safety Sys2Proof.Laws

/-! ### Bad frames -/

section
variable {u : State}

theorem cxBadFrame_of_run (h : CxRun u) : u.cxBadFrame = u.cxCount 2 := if_pos (cxRuns_of_cxRun h)

theorem cxUnknown_of_badCheck (h : CxRun u) (spi : Bool) (op : Nat) :
    u.cxUnknown spi op false = ((u.cxUnread spi).cxCount 0).cxAnswer spi op [1] := by
  rw [State.cxUnknown, if_neg (by simp [cxRuns_of_cxRun h])]
  exact if_neg Bool.false_ne_true

theorem cxUnknown_of_outside (h : CxRun u) (spi : Bool) {op : Nat} (hop : op = 0 ∨ 0x25 < op ∧ op ≠ 0xF0) :
    u.cxUnknown spi op true = ((u.cxUnread spi).cxCount 1).cxAnswer spi op [2] := by
  rw [State.cxUnknown, if_neg (by simp [cxRuns_of_cxRun h]; omega)]
  exact if_pos rfl

end

/-! ### The tick -/

section
variable {u : State}

theorem mapCxRobot_of_find {a : Nat} {r : CxRobot} {f : CxRobot → CxRobot} (h : Tab.find? a u.cx.robots = some r) :
    u.mapCxRobot a f = u.mapCx (fun x => { x with robots := Tab.put a (f r) x.robots }) := by
  rw [State.mapCxRobot, h]

/-- A robot is covered by the all-stop or by a stop of its own (R575). -/
theorem cxCovered_of_find {a : Nat} {r : CxRobot} (h : Tab.find? a u.cx.robots = some r) : u.cxCovered a = (u.cxAllStop || r.stop) := by
  rw [State.cxCovered, h]

/-- With one robot joined and nothing else to send, a tick is a beacon and that robot's poll (R570, R571). -/
theorem cxTick_of_one {p : Int} {pan a : Nat} {r : CxRobot} (h : CxRun u) (hradio : u.cx.conf.radio = some (p, pan)) (hon : u.cxRadioOn = true)
    (hjoining : u.cx.joining = []) (hjoin : u.cx.joinReq = []) (hair : u.cx.onAir = []) (hnext : u.cxNext = [a])
    (hfind : Tab.find? a u.cx.robots = some r) : u.cxTick = cxPollTick (cxTickNo u) pan a r u := by
  have hnoRtcm (s : State) (hs : s.cx.onAir = []) : s.mapCx (fun x => { x with onAir := [] }) = s := by
    simp only [State.mapCx, ← hs]
  obtain ⟨k, hk⟩ : ∃ k, (u.clk.count + 25000000) / 50000000 = k := ⟨_, rfl⟩
  rw [State.cxTick, if_neg (by simp [cxRuns_of_cxRun h])]
  simp only [hjoining, List.foldl_nil, cxTickNo, hk]
  generalize hopened : u.mapCx (fun x => { x with k := k, polled := [], joining := [] }) = s
  have hradio' : s.cx.conf.radio = some (p, pan) := by rw [← hopened]; exact hradio
  have hon' : s.cxRadioOn = true := by rw [← hopened]; exact hon
  have hair' : s.cx.onAir = [] := by rw [← hopened]; exact hair
  simp only [hradio', hon', hair', List.take_nil, List.drop_nil, if_true]
  generalize hbeacon : s.cxSend (cxChannel k pan) 0 65535
    (cxPayload 16 s.cxAllStop (le 2 k ++ padTo 6 0 [])) = t
  rw [hnoRtcm t (by rw [← hbeacon]; exact hair')]
  have hnext' : t.cxNext = [a] := by rw [← hbeacon, ← hopened]; exact hnext
  have hfind' : Tab.find? a t.cx.robots = some r := by rw [← hbeacon, ← hopened]; exact hfind
  have hjoin' : t.cx.joinReq = [] := by rw [← hbeacon, ← hopened]; exact hjoin
  simp only [hnext', List.zipIdx_cons, List.zipIdx_nil, List.foldl_cons, List.foldl_nil, hfind', mapCxRobot_of_find hfind']
  rw [cxCovered_of_find (r := { r with due := (cxItem r).1, polls := r.polls + 1 }) (by rw [State.mapCx, Tab.find?_put, if_pos rfl])]
  split
  · next b l hrest => exact absurd (hrest.symm.trans hjoin') (by simp)
  · rw [← hbeacon, ← hopened]
    exact rfl

end

/-! ### Robots' frames -/

section
variable {u : State} {f : CxRx} {j : Nat} {r : CxRobot}

/-- A frame in the slot of its poll is judged by its MIC and its TYPE (R571, R572). -/
theorem memberFrame_of_uplink (typ : Nat) (h : CxUplink u f j r) : u.memberFrame typ f =
    if f.micOk = false then u.cxCount 4
    else if u8 f.payload 0 % 128 ≠ typ then u
    else
      let s := cxReceived f.src (cxUplink u.now f r) u
      if typ = 0x22 then s.mapCx (fun x => { x with inbox := x.inbox ++ [(f.src, slice f.payload 2 (min 6 (u8 f.payload 1)))] }) else s := by
  obtain ⟨hrun, hradio, hslot, hpolled, hwhole, hfind⟩ := h
  have hj : (f.slot - 6) / 4 = j := by omega
  rw [State.memberFrame, if_pos hrun.cx, State.cxFrameIn]
  refine (if_neg ?_).trans ?_
  · simp [cxRuns_of_cxRun hrun, hradio, hj, hpolled, hwhole]
    omega
  · rw [mapCxRobot_of_find (u := u.mapCx (fun x => { x with rcvd := inc32 x.rcvd })) hfind]
    exact rfl

theorem memberFrame_of_badMic (typ : Nat) (h : CxUplink u f j r) (hmic : f.micOk = false) : u.memberFrame typ f = u.cxCount 4 :=
  (memberFrame_of_uplink typ h).trans (if_pos hmic)

theorem memberFrame_of_report (h : CxUplink u f j r) (hmic : f.micOk = true) (htyp : u8 f.payload 0 % 128 = 0x20) :
    u.memberFrame 0x20 f = cxReceived f.src { r with
      polls := 0, lost := false, rssi := f.rssi, report := some (i24 f.payload 1, i24 f.payload 4, i16 f.payload 7, u.now) } u := by
  rw [memberFrame_of_uplink 0x20 h, if_neg (by simp [hmic]), if_neg (not_not_intro htyp), if_neg (by decide)]
  simp only [cxUplink, htyp]
  exact rfl

theorem memberFrame_of_message (h : CxUplink u f j r) (hmic : f.micOk = true) (htyp : u8 f.payload 0 % 128 = 0x22) :
    u.memberFrame 0x22 f = (cxReceived f.src { r with polls := 0, lost := false, rssi := f.rssi, ack := true } u).mapCx (fun x => { x with
      inbox := x.inbox ++ [(f.src, slice f.payload 2 (min 6 (u8 f.payload 1)))] }) := by
  rw [memberFrame_of_uplink 0x22 h, if_neg (by simp [hmic]), if_neg (not_not_intro htyp), if_pos rfl]
  simp only [cxUplink, htyp]
  exact rfl

theorem memberFrame_of_status (h : CxUplink u f j r) (hmic : f.micOk = true) (htyp : u8 f.payload 0 % 128 = 0x23) :
    u.memberFrame 0x23 f = cxReceived f.src (cxStatus f.payload { r with polls := 0, lost := false, rssi := f.rssi }) u := by
  rw [memberFrame_of_uplink 0x23 h, if_neg (by simp [hmic]), if_neg (not_not_intro htyp), if_neg (by decide)]
  simp only [cxUplink, htyp]
  exact rfl

theorem joinIn_of_registered {a : Nat} (h : CxRun u) (hradio : u.cxRadioOn = true) (hslot : f.slot = 38) (hodd : u.cx.k % 2 = 0)
    (hwhole : f.payload.length = 9) (hmic : f.micOk = true) (htyp : u8 f.payload 0 % 128 = 0x21)
    (hfind : List.find? (fun (e : Nat × CxRobot) => e.2.eui == u64 f.payload 1) u.cx.robots = some (a, r)) (hnew : a ∉ u.cx.joinReq) :
    u.joinIn f = u.mapCx (fun x => { x with rcvd := inc32 x.rcvd, joinReq := x.joinReq ++ [a] }) := by
  rw [State.joinIn, if_pos h.cx, State.cxJoin, if_neg (by simp [cxRuns_of_cxRun h, hradio, hslot, hodd, hwhole]), if_neg (by simp [hmic]),
    if_neg (not_not_intro htyp)]
  simp only [State.mapCx, hfind]
  exact if_neg (by simpa using hnew)

/-- A frame heard on a chain changes the air's part alone. -/
theorem legacyHeard_eq (r : Nat) (u : State) : u.legacyHeard r = { u with air := (u.legacyHeard r).air } := by
  rw [State.legacyHeard]
  split <;> rfl

theorem joinIn_of_legacy {r : Nat} (hcx : u.sys.cx = false) (hopen : u.legacyOpen = some r) (hkeys : u.rootKeys = true)
    (hkey : u.legacyKey (u.prm 0x1300) = true) (hwhole : f.payload.length = 9) (heui : u64 f.payload 1 = (u.legacyOf r).eui)
    (htyp : u8 f.payload 0 % 128 = 0x21) (hmic : f.micOk = true) :
    u.joinIn f = (u.legacyHeard r).mapLegacy r (fun x => { x with answer := true }) := by
  have hkeys' : (u.legacyHeard r).rootKeys = true := by rw [legacyHeard_eq]; exact hkeys
  have hkey' : (u.legacyHeard r).legacyKey ((u.legacyHeard r).prm 0x1300) = true := by rw [legacyHeard_eq]; exact hkey
  have heui' : u64 f.payload 1 = ((u.legacyHeard r).legacyOf r).eui := by rw [legacyHeard_eq]; exact heui
  rw [State.joinIn, if_neg (by simp [hcx]), State.legacyJoin, hopen]
  refine (if_neg ?_).trans (if_neg (by simp [hmic]))
  rintro (h | h | h | h | h)
  · simp [hkeys'] at h
  · simp [hkey'] at h
  · exact h hwhole
  · exact h heui'
  · exact h htyp

end

/-! ### Loss of a robot, the stop line and legacy corrections -/

section
variable {u : State}

theorem memberLost_of_polled {a : Nat} {r : CxRobot} (h : CxRun u) (hfind : Tab.find? a u.cx.robots = some r) (hjoined : r.joined = true)
    (hlost : r.lost = false) (hpolls : 20 ≤ r.polls) : u.memberLost a =
      ((u.mapCx (fun x => { x with robots := Tab.put a { r with lost := true } x.robots })).cxCount 6).raise 0x0505 .warning 1 1 a := by
  rw [State.memberLost, if_pos h.cx, State.cxLost, hfind, mapCxRobot_of_find hfind]
  exact if_pos ⟨hjoined, hlost, hpolls⟩

/-- The line's holder of the all-stop comes or goes with a change of the line. -/
theorem cxStopLine_of_change {isOpen : Bool} (hpower : u.sys.power = .run) (hcx : u.sys.cx = true) (hline : u.cx.lineOpen ≠ isOpen) :
    u.cxStopLine isOpen = (u.mapCx (fun x => { x with lineOpen := isOpen })).cxHold 1 isOpen :=
  if_neg (by simp [hpower, hcx, hline])

theorem legacyDropped_of_due {r : Nat} {x : CxRobot} (hfind : Tab.find? r u.cx.legacy = some x) (hdue : x.dropDue = true) :
    u.legacyDropped r =
      let t := u.mapCx (fun c => { c with legacy := Tab.put r { x with dropDue := false, dropRun := true } c.legacy })
      if x.dropRun then t else t.raise 0x1301 .warning 1 1 r := by
  have hmine : u.legacyOf r = x := by rw [State.legacyOf, hfind]
  rw [State.legacyDropped, hfind, State.mapLegacy, hmine]
  exact if_neg (by simp [hdue])

end

/-- Settles O21: CX frames, ticks and events act as stated. -/
theorem cxEventsAct : Obligations.CxEventsAct := by
  unfold Obligations.CxEventsAct
  refine ⟨eventActs State.cxBadFrame (fun _ _ => rfl) fun u h => cxBadFrame_of_run h,
    fun spi op => eventActs (State.cxUnknown spi op false) (fun _ _ => rfl) fun u h => cxUnknown_of_badCheck h spi op,
    fun spi op hop => eventActs (State.cxUnknown spi op true) (fun _ _ => rfl) fun u h => cxUnknown_of_outside h spi hop,
    fun p pan a r => eventActs (State.inCx State.cxTick) (fun _ _ => rfl)
      fun u ⟨hrun, hradio, hon, hjoining, hjoin, hair, hnext, hfind⟩ =>
        (inCx_of hrun.power hrun.cx).trans (cxTick_of_one hrun hradio hon hjoining hjoin hair hnext hfind),
    fun f a r => eventActs (State.inRun (State.joinIn f)) (fun _ _ => rfl)
      fun u ⟨hrun, hradio, hslot, hodd, hwhole, hmic, htyp, hfind, hnew⟩ =>
        (inRun_of hrun.power hrun.running).trans (joinIn_of_registered hrun hradio hslot hodd hwhole hmic htyp hfind hnew),
    fun f r => runRow (State.joinIn f) fun u _ ⟨hcx, hopen, hkeys, hkey, hwhole, heui, htyp, hmic⟩ =>
      joinIn_of_legacy hcx hopen hkeys hkey hwhole heui htyp hmic,
    fun f j r => eventActs (State.inRun (State.memberFrame 0x20 f)) (fun _ _ => rfl) fun u ⟨h, hmic, htyp⟩ =>
      (inRun_of h.run.power h.run.running).trans (memberFrame_of_report h hmic htyp),
    fun f j r => eventActs (State.inRun (State.memberFrame 0x20 f)) (fun _ _ => rfl) fun u ⟨h, hmic⟩ =>
      (inRun_of h.run.power h.run.running).trans (memberFrame_of_badMic 0x20 h hmic),
    fun f j r => eventActs (State.inRun (State.memberFrame 0x22 f)) (fun _ _ => rfl) fun u ⟨h, hmic, htyp⟩ =>
      (inRun_of h.run.power h.run.running).trans (memberFrame_of_message h hmic htyp),
    fun f j r => eventActs (State.inRun (State.memberFrame 0x23 f)) (fun _ _ => rfl) fun u ⟨h, hmic, htyp⟩ =>
      (inRun_of h.run.power h.run.running).trans (memberFrame_of_status h hmic htyp),
    fun a r ha => eventActs (State.inRun (State.memberLost a)) (fun _ _ => if_pos ha) fun u ⟨hrun, hfind, hjoined, hlost, hpolls⟩ =>
      (inRun_of hrun.power hrun.running).trans (memberLost_of_polled hrun hfind hjoined hlost hpolls),
    eventActs (State.cxStopLine true) (fun _ _ => rfl) fun u ⟨hpower, hcx, hline⟩ => cxStopLine_of_change hpower hcx (by simp [hline]),
    fun t => eventActs (State.cxStopLine false) (fun _ _ => rfl) fun u ⟨hpower, hcx, hline, hrelease⟩ =>
      (cxStopLine_of_change hpower hcx (by simp [hline])).trans (congrArg (Option.getD · (u.mapCx (fun x => { x with lineOpen := false }))) hrelease),
    fun r x hr => nativeRow (State.legacyDropped r) (fun u _ ⟨hfind, hdue, hrun⟩ =>
      (legacyDropped_of_due hfind hdue).trans (if_neg (ne_true_of_eq_false hrun))) fun _ _ => if_pos hr,
    fun r x hr => nativeRow (State.legacyDropped r) (fun u _ ⟨hfind, hdue, hrun⟩ =>
      (legacyDropped_of_due hfind hdue).trans (if_pos hrun)) fun _ _ => if_pos hr⟩

end Sys2Proof.Proofs
end

section
/-! Power states, resets and the commands that end in them (R56 to R68, R397, R598 to R601). -/

namespace Sys2Proof.Proofs

open Sys2Proof.Machine Sys2Proof.Safety Sys2Proof.Laws

section
variable {u : State} {o : BootObs}

/-! ### Supplies and the reset pin -/

theorem powerOn_of_off (h : u.sys.power = .off) : u.powerOn o = u.boot 1 true false [] o := by rw [State.powerOn, h]

theorem powerOn_of_backup (h : u.sys.power = .backup) : u.powerOn o = u.boot 2 false false [] o := by rw [State.powerOn, h]

theorem externalReset_of_run (h : u.sys.power = .run) : u.externalReset o = u.pairStops.boot 3 false false [] o := by rw [State.externalReset, h]

theorem externalReset_of_standby (h : u.sys.power = .standby) : u.externalReset o = u.boot 3 false false [] o := by rw [State.externalReset, h]

theorem vinFall_of_run (h : u.sys.power = .run) : u.vinFall = u.pairStops.mapSys (fun y => { y with power := .backup, fw := .none }) := by
  rw [State.vinFall, h]

theorem vinFall_of_standby (h : u.sys.power = .standby) : u.vinFall = u.mapSys (fun y => { y with power := .backup }) := by rw [State.vinFall, h]

theorem vbatLoss_of_backup (h : u.sys.power = .backup) : u.vbatLoss = u.mapSys (fun y => { y with power := .off }) := by rw [State.vbatLoss, h]

/-! ### Resets that the device chooses -/

/-- A pending reset waits for its own answer to leave the port, and then has its own cause (R58). -/
theorem resetExecute_of_pending {p : PendReset} (hpower : u.sys.power = .run) (hcx : u.sys.cx = false) (hpend : u.sys.pendReset = some p)
    (hsent : u.replyWaits p.reply = false) :
    u.resetExecute o = u.arcFlush.arcEndInterval.pairStops.boot p.cause false p.recovery [] o := by
  rw [State.resetExecute, if_neg (not_not_intro hpower), if_neg (by simp [hcx]), hpend]
  exact if_neg (ne_true_of_eq_false hsent)

theorem resetExecute_of_cx {t : Nat} (hpower : u.sys.power = .run) (hcx : u.sys.cx = true) (hreset : u.cx.resetAt = some t) (hdue : t ≤ u.now) :
    u.resetExecute o = u.arcFlush.arcEndInterval.pairStops.boot 4 false false [] o := by
  rw [State.resetExecute, if_neg (not_not_intro hpower), if_pos hcx, hreset]
  exact if_pos hdue

theorem watchdogHwReset_of_late {n : Nat} (hpower : u.sys.power = .run) (hwait : u.sys.wdtWait = some n) (hlate : u.prm 0x0015 ≤ n) :
    u.watchdogHwReset o = u.pairStops.boot 6 false false (u.arc.block.filter (fun x => x.1.code == 0x0090)) o := by
  rw [State.watchdogHwReset, hpower, hwait]
  exact if_pos hlate

/-! ### Standby -/

theorem standbyEntry_of_pending {p : PendStandby} (hrun : FwRun u) (hpend : u.sys.pendStandby = some p)
    (hsent : u.replyWaits (some p.reply) = false) : u.standbyEntry =
      let v := (u.raise0 0x0094 .notice 1 0).arcEndInterval.arcFlush
      v.mapSys (fun y => { y with
        power := .standby, fw := .none, pendStandby := none, wakeMask := p.mask, snapFails := 0, snapLast := v.now }) := by
  rw [State.standbyEntry, hpend]
  exact if_pos ⟨hrun.power, by simp [State.fwRuns, hrun.running], hsent⟩

theorem wakePattern_of_match {port : Nat} {frame : Bytes} {fcs : Bool} (hpower : u.sys.power = .standby) (hmask : bit u.sys.wakeMask port = true)
    (hmatch : u.wakeMatch port frame fcs = true) : u.wakePattern port frame fcs o = u.boot 7 false false [] o :=
  if_pos ⟨hpower, hmask, hmatch⟩

/-- A snapshot in Standby sets the calendar, or its failure is counted (R68). -/
theorem standbySnapshot_of_due {solved : Option (Nat × Nat)} (hpower : u.sys.power = .standby) (hon : u.prm 0x0016 ≠ 0)
    (hdue : u.prm 0x0016 * 1000000000 ≤ u.now - u.sys.snapLast) : u.standbySnapshot solved =
      match solved with
      | some (t, sg) => (u.mapSys (fun y => { y with snapLast := u.now })).calendarCopy t sg
      | none => u.mapSys (fun y => { y with snapLast := u.now, snapFails := y.snapFails + 1 }) := by
  rw [State.standbySnapshot]
  refine (if_neg (by simp [hpower, hon]; omega)).trans ?_
  cases solved <;> rfl

end

/-- Settles O22: each event of power, reset, wake and snapshot changes the power state, or boots, as stated. -/
theorem powerAndResetRowsAct : Obligations.PowerAndResetRowsAct := by
  unfold Obligations.PowerAndResetRowsAct
  exact ⟨fun o => eventActs (State.powerOn o) (fun _ _ => rfl) fun u h => powerOn_of_off h,
    fun o => eventActs (State.powerOn o) (fun _ _ => rfl) fun u h => powerOn_of_backup h,
    fun o => eventActs (State.externalReset o) (fun _ _ => rfl) fun u h => externalReset_of_run h,
    fun o => eventActs (State.externalReset o) (fun _ _ => rfl) fun u h => externalReset_of_standby h,
    eventActs State.vinFall (fun _ _ => rfl) fun u h => vinFall_of_run h,
    eventActs State.vinFall (fun _ _ => rfl) fun u h => vinFall_of_standby h,
    eventActs State.vbatLoss (fun _ _ => rfl) fun u h => vbatLoss_of_backup h,
    fun o p => eventActs (State.resetExecute o) (fun _ _ => rfl) fun u ⟨hpower, hcx, hpend, hsent⟩ =>
      resetExecute_of_pending hpower hcx hpend hsent,
    fun o t => eventActs (State.resetExecute o) (fun _ _ => rfl) fun u ⟨hpower, hcx, hreset, hdue⟩ => resetExecute_of_cx hpower hcx hreset hdue,
    fun o n => eventActs (State.watchdogHwReset o) (fun _ _ => rfl) fun u ⟨hpower, hwait, hlate⟩ => watchdogHwReset_of_late hpower hwait hlate,
    fun p => eventActs State.standbyEntry (fun _ _ => rfl) fun u ⟨hrun, hpend, hsent⟩ => standbyEntry_of_pending hrun hpend hsent,
    fun port frame fcs o hport => eventActs (State.wakePattern port frame fcs o) (fun _ _ => if_pos hport) fun u ⟨hpower, hmask, hmatch⟩ =>
      wakePattern_of_match hpower hmask hmatch,
    fun t sg => eventActs (State.standbySnapshot (some (t, sg))) (fun _ _ => rfl) fun u ⟨hpower, hon, hdue⟩ =>
      (standbySnapshot_of_due hpower hon hdue).trans rfl,
    eventActs (State.standbySnapshot none) (fun _ _ => rfl) fun u ⟨hpower, hon, hdue⟩ => standbySnapshot_of_due hpower hon hdue⟩

end Sys2Proof.Proofs
end

section
/-! Tick boundaries, window overruns, commit domains, the tick length and the watchdog (R13, R35 to R39, R54, R63, R542). -/

namespace Sys2Proof.Proofs

open Sys2Proof.Machine Sys2Proof.Safety Sys2Proof.Laws

section
variable {u : State} {o : TickObs}

/-! ### Tick boundaries -/

theorem tickOpens_of_native (h : NativeRun u) : u.tickOpens o = u.nativeTick o := by
  rw [State.tickOpens, if_neg (not_not_intro h.power), h.running]
  exact if_neg (by simp [h.native])

theorem tickOpens_of_cx (h : CxRun u) : u.tickOpens o = u.cxTickOpens o := by
  rw [State.tickOpens, if_neg (not_not_intro h.power), h.running]
  exact if_pos h.cx

theorem tickOpens_of_rom (hpower : u.sys.power = .run) (hrom : u.sys.fw = .recovery) : u.tickOpens o = u.romTick := by
  rw [State.tickOpens, if_neg (not_not_intro hpower), hrom]

/-- With the unit's inputs at hand the phases follow the domains that are due (R39, R483). -/
theorem nativeTick_of_inputs (hrun : (tickOpened o u).sys.fw = .running) (hinputs : (tickOpened o u).boundaryDomains.merging = false) :
    u.nativeTick o = (tickOpened o u).boundaryDomains.phases o := by
  rw [State.nativeTick]
  exact (if_neg (fun h => absurd (hrun.symm.trans h) (by decide))).trans (if_neg (by simp only [tickOpened] at hinputs; simp [hinputs]))

theorem cxTickOpens_of_epoch {m : MeasSet} (hepoch : u.openTick.epochDue = true) (hset : (u.openTick.epochMeasure o).newSet = some m) :
    u.cxTickOpens o = ((u.openTick.epochMeasure o).cxRtcmPhase m).arcClose o.dieTemp o.vinMv 0 0 := by
  simp only [State.cxTickOpens, hepoch, if_true, hset]

/-! ### Overruns -/

/-- The first overrun of a step's line in its tick is counted and reported (R54). -/
theorem windowOverrun_of_step {line : Nat} (hline : line = 1 ∨ line = 3 ∨ line = 5 ∨ line = 10)
    (hfirst : Tab.has (16 + line) u.sys.runs = false) : u.windowOverrun line =
      (overrunCounted line u).raise (overrunCode line) .fault (min 255 (Tab.getD line 0 u.sys.runs + 1)) 0 0 := by
  rcases hline with rfl | rfl | rfl | rfl
  · exact if_neg (ne_true_of_eq_false hfirst)
  · exact if_neg (ne_true_of_eq_false hfirst)
  · exact if_neg (ne_true_of_eq_false hfirst)
  · exact if_neg (ne_true_of_eq_false hfirst)

/-- A chain's overrun leaves its plan late. -/
theorem windowOverrun_of_chain {c : Nat} (hc : c < 4) (hfirst : Tab.has (22 + c) u.sys.runs = false) : u.windowOverrun (6 + c) =
    ((overrunCounted (6 + c) u).mapChain c (fun k => { k with planLate := true })).raise 0x0088 .fault
      (min 255 (Tab.getD (6 + c) 0 u.sys.runs + 1)) 4 c := by
  obtain rfl | rfl | rfl | rfl : c = 0 ∨ c = 1 ∨ c = 2 ∨ c = 3 := by omega
  · exact if_neg (ne_true_of_eq_false hfirst)
  · exact if_neg (ne_true_of_eq_false hfirst)
  · exact if_neg (ne_true_of_eq_false hfirst)
  · exact if_neg (ne_true_of_eq_false hfirst)

/-! ### Commits -/

/-- The one COMMIT that waits has its domain in effect, and completes where it was the last (R542). -/
theorem domainTakesEffect_of_one {n : Nat} {d : Domain} {p : PendCommit} (hdomain : domainList[n]? = some d) (hpend : u.cfg.pend = [p])
    (hdue : u.domainDue d p = true) : u.domainTakesEffect n = (u.takeDomain d p).completeCommits (u.sys.tick + 1) := by
  have hfirst : u.cfg.pend.takeWhile (fun q => q.gen != p.gen) = [] := by simp [hpend]
  have htaken : (if u.domainDue d p = true ∧ State.heldBack (u.cfg.pend.takeWhile (fun q => q.gen != p.gen)) d = false then u.takeDomain d p else u) =
      u.takeDomain d p := if_pos ⟨hdue, by rw [hfirst]; rfl⟩
  rw [State.domainTakesEffect, hdomain]
  simp only [State.takeDomains, hpend, List.foldl_cons, List.foldl_nil]
  rw [← hpend, htaken]

/-- The tick's length changes with the map that is placed for it (R37, R205, R206). -/
theorem tickLengthChange_of_placed {p : PendCommit} {n t : Nat} {m : SlotMap} (hpend : u.cfg.pend = [p]) (hat : p.tickAt = some (n, t))
    (hsf : u.sys.sfTick = 10) (hcount : t ≤ u.clk.count)
    (hmap : placeMap (((u.mapCfg (fun c => { c with
      eff := { c.eff with params := putParam 0x0010 n c.eff.params }, pend := [{ p with tickAt := none }] })).mapSys (fun y => { y with
        slots := n })).siteMap) = .ok m) : u.tickLengthChange =
      let v := State.raise0 0x008D .notice n 0 (State.replan { (u.mapCfg (fun c => { c with
        eff := { c.eff with params := putParam 0x0010 n c.eff.params }, pend := [{ p with tickAt := none }] })).mapSys (fun y => { y with
          slots := n }) with air := { u.air with map := m, next := [], tickMap := none } })
      (v.refreshClaims p.gen).completeCommits (v.sys.tick + 1) := by
  have hone : u.mapCfg (fun c => { c with
      eff := { c.eff with params := putParam 0x0010 n c.eff.params }
      pend := c.pend.map (fun q => if q.gen = p.gen then { q with tickAt := none } else q) }) =
      u.mapCfg (fun c => { c with eff := { c.eff with params := putParam 0x0010 n c.eff.params }, pend := [{ p with tickAt := none }] }) := by
    simp [State.mapCfg, hpend]
  have hfind : u.cfg.pend.find? (fun p => p.tickAt.isSome) = some p := by simp [hpend, hat]
  simp only [State.tickLengthChange, hfind, hat]
  refine (if_neg (by simp [hsf]; omega)).trans ?_
  rw [hone, hmap]
  exact rfl

/-! ### The watchdog -/

/-- A core that its watchdog halts, where no DEVICE_RESET is armed for it (R63). -/
theorem watchdog_of_unarmed {core : Nat} (hcore : core ∉ u.sys.halted) (horders : u.sys.wdtOrders = []) : u.watchdog core =
    ((if 2 ≤ core then (coreHalted core false u).returnStaged core else coreHalted core false u).budgetShort 5 0 0) := by
  rw [State.watchdog, if_neg (by simpa using hcore)]
  simp only [State.mapSys, horders, List.any_nil, Bool.false_eq_true, false_and, if_false, List.length_append, List.length_singleton, coreHalted]

theorem watchdog_of_armed {core i e : Nat} (hlow : core < 2) (hcore : core ∉ u.sys.halted) (horders : u.sys.wdtOrders = [(i, e)])
    (hkind : soKind e = 0) (hlevel : soLevel e ≤ u.sys.halted.length + 1) (hwait : u.sys.wdtWait = none) :
    u.watchdog core = (coreHalted core true u).budgetShort 5 0 0 := by
  rw [State.watchdog, if_neg (by simpa using hcore)]
  simp [State.mapSys, horders, hkind, hlevel, hwait, coreHalted, Nat.not_le_of_lt hlow]

end

/-- Settles O23: ticks, overruns, domains, the tick length and the watchdog act as stated. -/
theorem tickRowsAct : Obligations.TickRowsAct := by
  unfold Obligations.TickRowsAct
  refine ⟨fun o => eventActs (State.tickOpens o) (fun _ _ => rfl) fun u ⟨hrun, hfw, hinputs⟩ =>
      (tickOpens_of_native hrun).trans (nativeTick_of_inputs hfw hinputs),
    fun o m => eventActs (State.tickOpens o) (fun _ _ => rfl) fun u ⟨hrun, hepoch, hset⟩ =>
      (tickOpens_of_cx hrun).trans (cxTickOpens_of_epoch hepoch hset),
    fun o => eventActs (State.tickOpens o) (fun _ _ => rfl) fun u ⟨hpower, hrom⟩ => tickOpens_of_rom hpower hrom,
    fun line hline => nativeRow (State.windowOverrun line) (fun u _ hfirst => windowOverrun_of_step hline hfirst)
      fun _ _ => if_pos (by rcases hline with rfl | rfl | rfl | rfl <;> decide),
    nativeRow (State.windowOverrun 4) fun u _ hfirst => if_neg (ne_true_of_eq_false hfirst),
    fun c hc => nativeRow (State.windowOverrun (6 + c)) (fun u _ hfirst => windowOverrun_of_chain hc hfirst)
      fun _ _ => if_pos (by simp; omega),
    fun n d p hn => nativeRow (State.domainTakesEffect n) (fun u _ ⟨hdomain, hpend, hdue⟩ => domainTakesEffect_of_one hdomain hpend hdue)
      fun _ _ => if_pos hn,
    fun p n t m => nativeRow State.tickLengthChange fun u _ ⟨hpend, hat, hsf, hcount, hmap⟩ => tickLengthChange_of_placed hpend hat hsf hcount hmap,
    fun core hcore hhigh => runRow (State.watchdog core) (fun u _ ⟨hnew, horders⟩ => (watchdog_of_unarmed hnew horders).trans
      (by rw [if_pos hhigh])) fun _ _ => if_pos hcore,
    fun core hlow => runRow (State.watchdog core) (fun u _ ⟨hnew, horders⟩ => (watchdog_of_unarmed hnew horders).trans
      (by rw [if_neg (by omega)])) fun _ _ => if_pos (by omega),
    fun core i e hlow => runRow (State.watchdog core) (fun u _ ⟨hnew, horders, hkind, hlevel, hwait⟩ =>
      watchdog_of_armed hlow hnew horders hkind hlevel hwait) fun _ _ => if_pos (by omega)⟩

end Sys2Proof.Proofs
end

section
/-! What comes over pins and with time at the host interface, and diagnostics (R78 to R107). -/

namespace Sys2Proof.Proofs

open Sys2Proof.Machine Sys2Proof.Safety Sys2Proof.Laws

/-! ### Sessions and packets -/

section
variable {u : State}

theorem sessionExpiry_of_late {n : Nat} {x : Session} (hrun : NativeRun u) (hsession : u.session n = some x)
    (hlate : u.prm 0x0018 * 1000000000 ≤ u.now - x.heard) : u.sessionExpiry n =
      ((u.mapSes (fun z => { z with
        sessions := Tab.del n z.sessions, journal := z.journal.filter (fun e => !(e.sess == n && e.result.isSome)) })).lockSessionEnds n).raise0
        0x0095 .warning 0 (n + 65536 * (u.entriesOf n).length) := by
  have hheard : ¬ (u.now - x.heard < u.prm 0x0018 * 1000000000 ∨ (u.fwRuns = false ∧ u.sys.fw ≠ .recovery)) := by
    rintro (h | h)
    · omega
    · simp [State.fwRuns, hrun.running] at h
  rw [State.sessionExpiry, hsession]
  exact if_neg hheard

theorem badIn_of_heard {via : Via} {k : Nat} (h : u.hearsHost via = true) : u.badIn via (k + 1) =
    u.mapSes (fun z => { z with counts := modAt (State.viaIdx via) (modAt k inc32) z.counts }) := if_pos h

/-! ### SPI -/

/-- An SPI read in native mode puts out the oldest packet, which leaves queue 3 when it is clocked whole (R107). -/
theorem spiRead_of_native (h : NativeRun u) (whole : Bool) : u.spiRead whole =
    if whole then ((u.emit (.spiRead u.ses.spiOut.head?)).mapSes (fun z => { z with spiOut := z.spiOut.drop 1 })).releaseSlot
      (u.ses.spiOut.head?.map State.replyLen)
    else u.emit (.spiRead u.ses.spiOut.head?) := by
  rw [State.spiRead, if_neg (not_not_intro h.power), if_neg (by simp [h.native]), if_neg (by simp [h.running])]

theorem spiRead_of_cx {f : Bytes} (h : CxRun u) (hreply : u.cx.reply = some f) :
    u.spiRead true = (u.mapCx (fun x => { x with reply := none })).emit (.cxReply true f) := by
  rw [State.spiRead, if_neg (not_not_intro h.power), if_pos h.cx, hreply]
  exact if_pos rfl

/-! ### The console and the event output -/

theorem length_hexStr (n v : Nat) : (hexStr n v).length = n := by simp [hexStr]

theorem consoleLineSent_of_whole {l : Bytes} {t : List Bytes} (hlines : u.sys.console = l :: t) (hkept : u.sys.consoleDropped = 0) :
    u.consoleLineSent = (u.emit (.serial u.uartTx l)).mapSys (fun y => { y with console := t }) := by
  simp [State.consoleLineSent, hlines, hkept]

theorem consoleLineSent_of_dropped {l : Bytes} {t : List Bytes} (hlines : u.sys.console = l :: t) (hdropped : 0 < u.sys.consoleDropped)
    (hroom : (t.map List.length).sum + 11 ≤ 4096) : u.consoleLineSent =
      (u.emit (.serial u.uartTx l)).mapSys (fun y => { y with
        console := t ++ [[0x44] ++ hexStr 8 u.sys.consoleDropped ++ [0x0D, 0x0A]], consoleDropped := 0 }) := by
  have hlen : ([0x44] ++ hexStr 8 u.sys.consoleDropped ++ [0x0D, 0x0A] : Bytes).length = 11 := by simp [length_hexStr]
  simp only [State.consoleLineSent, hlines, List.drop_one, List.tail_cons, List.head?_cons, hlen, hroom, hdropped, decide_true, Bool.and_self,
    if_true]

theorem eventOutputFall_of_due {t : Nat} (hhigh : u.sys.evHigh = some t) (hdue : t ≤ u.now) :
    u.eventOutputFall = u.mapSys (fun y => { y with evHigh := none }) := by
  rw [State.eventOutputFall, hhigh]
  exact if_pos hdue

/-! ### Capture and compare -/

/-- An edge that the channel's mode asks for is stored, or lost when the store is full (R101). -/
theorem captureEdge_of_wanted {ch : Nat} {fall : Bool} {k : CcState} (hcc : u.sys.cc[ch]? = some k)
    (hmode : u8 (u.ccRec ch) 1 = 3 ∨ u8 (u.ccRec ch) 1 = 1 ∧ fall = false ∨ u8 (u.ccRec ch) 1 = 2 ∧ fall = true) : u.captureEdge ch fall =
      if 64 ≤ k.stamps.length then
        let s := u.mapSys (fun y => { y with cc := modAt ch (fun k => { k with lost := inc16 k.lost, run := true }) y.cc })
        if k.run then s else s.raise0 0x0097 .warning ch 0
      else u.mapSys (fun y => { y with cc := modAt ch (fun k => { k with
        stamps := k.stamps ++ [(u.clk.count, fall, u.timeValid)], run := false }) y.cc }) := by
  have hwants : ((u8 (u.ccRec ch) 1 == 1 && !fall) || (u8 (u.ccRec ch) 1 == 2 && fall) || u8 (u.ccRec ch) 1 == 3) = true := by
    rcases hmode with h | ⟨h, rfl⟩ | ⟨h, rfl⟩ <;> simp [h]
  rw [State.captureEdge, hcc]
  exact if_neg (by simp only [hwants, Bool.true_eq_false, not_false_eq_true])

theorem compareEdge_of_rise {ch : Nat} {k : CcState} (hmode : u8 (u.ccRec ch) 1 = 4) (hcc : u.sys.cc[ch]? = some k) (hvalid : u.timeValid = true)
    (hmultiple : u.clk.count % (u32 (u.ccRec ch) 4 * 1000) = 0)
    (hsince : ∀ t, k.lastRise = some t → u32 (u.ccRec ch) 4 * 500 ≤ u.now - t) : u.compareEdge ch true =
      u.mapSys (fun y => { y with cc := modAt ch (fun k => { k with level := true, lastRise := some u.now }) y.cc }) := by
  have hready : ¬ (u.timeValid = false ∨ u.clk.count % (u32 (u.ccRec ch) 4 * 1000) ≠ 0 ∨
      (k.lastRise.isSome = true ∧ u.now - k.lastRise.getD 0 < u32 (u.ccRec ch) 4 * 500)) := by
    rintro (h | h | ⟨h, hearly⟩)
    · simp [hvalid] at h
    · exact h hmultiple
    · obtain ⟨t, ht⟩ := Option.isSome_iff_exists.1 h
      rw [ht, Option.getD_some] at hearly
      exact absurd (hsince t ht) (Nat.not_le_of_lt hearly)
  rw [State.compareEdge, if_neg (not_not_intro hmode), hcc]
  exact (if_pos rfl).trans (if_neg hready)

theorem compareEdge_of_fall {ch t : Nat} {k : CcState} (hmode : u8 (u.ccRec ch) 1 = 4) (hcc : u.sys.cc[ch]? = some k) (hrise : k.lastRise = some t)
    (hwidth : u32 (u.ccRec ch) 8 * 1000 ≤ u.now - t) : u.compareEdge ch false =
      u.mapSys (fun y => { y with cc := modAt ch (fun k => { k with level := false }) y.cc }) := by
  rw [State.compareEdge, if_neg (not_not_intro hmode), hcc]
  exact (if_neg Bool.false_ne_true).trans (if_pos (by simpa [hrise] using hwidth))

end

/-! ### Diagnostics -/

section
variable {c : Cmd} {s : State}

theorem runCoreCaptureRead_of_halted (hlen : c.params.length = 4) (hcore : u8 c.params 0 < 8) (hres : u8 c.params 1 = 0)
    (hblock : u16 c.params 2 < 64) (hhalted : s.sys.halted.contains (u8 c.params 0) = true) :
    s.runCoreCaptureRead c = (s, fin (State.coreBytes (u8 c.params 0) (u16 c.params 2))) := by
  rw [State.runCoreCaptureRead, if_neg (by omega), if_neg (by omega), if_neg (ne_false_of_eq_true hhalted)]

theorem runEthCapture_of_ok (hlen : c.params.length = 8) (hport : u8 c.params 0 ≤ 2) (hfilter : u8 c.params 1 ≤ 2) (hres : u16 c.params 2 = 0)
    (htime : 1 ≤ u32 c.params 4 ∧ u32 c.params 4 ≤ 60000) (hon : s.prm 0x7F12 = 1) (hfree : s.sys.ethCap = none)
    (hup : s.ethUp (u8 c.params 0) = true) : s.runEthCapture c = (s.mapSys (fun y => { y with
      capBuf := [], capFrames := 0, capDone := false
      ethCap := some ⟨u8 c.params 0, u8 c.params 1, false, u32 c.params 4 * 1000000, s.now, c.sess, c.acc⟩ }), .later) := by
  rw [State.runEthCapture, if_neg (by omega), if_neg (by omega), if_neg (by omega), if_neg (by simp [hfree]), if_neg (by simp [hup])]

theorem runCaptureRead_of_done (hlen : c.params.length = 6) (hoff : u32 c.params 0 % 16 = 0) (hmod : u16 c.params 4 % 16 = 0)
    (hmin : 16 ≤ u16 c.params 4) (hmax : u16 c.params 4 ≤ 4064) (hfree : s.sys.ethCap = none) (hdone : s.sys.capDone = true)
    (hend : u32 c.params 0 + u16 c.params 4 ≤ s.sys.capBuf.length) : s.runCaptureRead c =
      (s, .fin (if s.poisonedIn (u32 c.params 0) (u32 c.params 0 + u16 c.params 4) then Ans.bare stFault 0
        else Ans.ok (slice s.sys.capBuf (u32 c.params 0) (u16 c.params 4)))) := by
  rw [State.runCaptureRead, if_neg (by omega)]
  dsimp only
  rw [if_neg (by omega), if_neg (by simp [hfree]), if_neg (by simp [hdone]), if_neg (by omega)]
  split <;> rfl

theorem runRfTest_of_start (hlen : c.params.length = 8) (hmode : 1 ≤ u8 c.params 0) (hok : State.rfOk (s.prm 0x0500) (s.prm 0x0502) c.params = true)
    (hchain : s.prm 0x7F13 < 4) (hfree : s.sys.rfTest = none) (hgood : (s.chain (s.prm 0x7F13)).bad = false) : s.runRfTest c =
      (s.mapSys (fun y => { y with rfTest := some {
        mode := u8 c.params 0, channel := u8 c.params 1, power := i8 c.params 2, mcs := u8 c.params 3, started := s.now
        durNs := u32 c.params 4 * 1000000, sess := c.sess, acc := c.acc, stopped := false } }), .later) := by
  rw [State.runRfTest, if_neg (by omega)]
  rw [if_neg (ne_false_of_eq_true hok), if_neg (by omega), if_neg (by omega), if_neg (by simp [hfree]), if_neg (ne_true_of_eq_false hgood)]

/-- MODE 00h stops the test that runs, if there is one (R105). -/
theorem runRfTest_of_stop (hlen : c.params.length = 8) (hmode : u8 c.params 0 = 0) (hok : State.rfOk (s.prm 0x0500) (s.prm 0x0502) c.params = true) :
    s.runRfTest c = (match s.sys.rfTest with
      | none => (s, finD 1)
      | some t => (s.mapSys (fun y => { y with rfTest := some { t with stopped := true } }), fin [])) := by
  rw [State.runRfTest, if_neg (by omega)]
  refine (if_neg (ne_false_of_eq_true hok)).trans ((if_pos hmode).trans ?_)
  cases s.sys.rfTest <;> rfl

theorem captureTimeout_of_due {k : EthCap} (hcap : s.sys.ethCap = some k) (hstarted : k.started = true) (hdue : k.maxNs ≤ s.now - k.since) :
    s.captureTimeout = (s.mapSys (fun y => { y with ethCap := none, capDone := true })).completeOk k.sess k.acc
      (le 4 s.sys.capBuf.length ++ le 4 s.sys.capFrames ++ le 1 0 ++ zeros 3) := by
  rw [State.captureTimeout, hcap]
  refine (if_pos ⟨hstarted, hdue⟩).trans ?_
  rw [State.captureEnd, hcap]
  exact rfl

theorem rfTestEnd_of_receiver {t : RfTest} {mean peak : Int} {good bad : Nat} (htest : s.sys.rfTest = some t) (hmode : t.mode = 3)
    (hgoing : t.stopped = false) (hdue : t.durNs ≤ s.now - t.started) : s.rfTestEnd false mean peak good bad =
      (s.mapSys (fun y => { y with rfTest := none })).completeOk t.sess t.acc
        (le 1 0 ++ leS 1 (clampS 8 mean) ++ leS 1 (clampS 8 peak) ++ le 1 0 ++ le 4 good ++ le 4 bad) := by
  have hsends : t.sends = false := by simp [RfTest.sends, hmode]
  have hspan : s.rfSpan t = t.durNs := by simp [State.rfSpan, hsends]
  rw [State.rfTestEnd, htest]
  simp only [hsends, hspan, hmode, hgoing, Bool.false_and, Bool.and_false, if_true, Bool.false_eq_true, if_false, Nat.lt_irrefl, decide_false]
  exact if_neg fun h => absurd h.2.1 (Nat.not_lt_of_le hdue)

theorem rfTestEnd_of_sensed {t : RfTest} {mean peak : Int} {good bad : Nat} (htest : s.sys.rfTest = some t) (hmode : t.mode = 1 ∨ t.mode = 2)
    (hgoing : t.stopped = false) (hdomain : s.prm 0x0500 = 3) : s.rfTestEnd true mean peak good bad =
      ((s.mapSys (fun y => { y with rfTest := none })).meterAdd (s.prm 0x7F13) t.channel (min (s.now - t.started) (s.rfSpan t))).completeOk
        t.sess t.acc (le 1 1 ++ leS 1 (-128) ++ leS 1 (-128) ++ le 1 0 ++ le 4 0 ++ le 4 0) := by
  have hsends : t.sends = true := by rcases hmode with h | h <;> simp [RfTest.sends, h]
  have hmode3 : t.mode ≠ 3 := by omega
  rw [State.rfTestEnd, htest]
  simp only [hsends, hmode3, hgoing, hdomain, beq_self_eq_true, Bool.and_self, Bool.true_or, Bool.true_eq_false, and_false, if_false, if_true,
    Bool.false_eq_true]
  exact rfl

end

/-- Settles O25: sessions, packets, the console and the pads act as stated. -/
theorem hostPinRowsAct : Obligations.HostPinRowsAct := by
  unfold Obligations.HostPinRowsAct
  refine ⟨fun n x => eventActs (State.nativeHw (State.sessionExpiry n)) (fun _ _ => rfl) fun u ⟨hrun, hsession, hlate⟩ =>
      (nativeHw_of hrun.power hrun.native).trans (sessionExpiry_of_late hrun hsession hlate),
    eventActs (State.nativeHw State.fragmentTimeout) (fun _ _ => rfl) fun u hrun => (nativeHw_of hrun.power hrun.native).trans rfl,
    fun via k hk => eventActs (State.badIn via (k + 1)) (fun _ _ => if_pos (by omega)) fun u h => badIn_of_heard h,
    eventActs (State.spiRead true) (fun _ _ => rfl) fun u h => (spiRead_of_native h true).trans (if_pos rfl),
    eventActs (State.spiRead false) (fun _ _ => rfl) fun u h => (spiRead_of_native h false).trans (if_neg Bool.false_ne_true),
    fun f => eventActs (State.spiRead true) (fun _ _ => rfl) fun u ⟨h, hreply⟩ => spiRead_of_cx h hreply,
    fun l t => nativeHwRow State.consoleLineSent fun u _ ⟨hlines, hkept⟩ => consoleLineSent_of_whole hlines hkept,
    fun l t => nativeHwRow State.consoleLineSent fun u _ ⟨hlines, hdropped, hroom⟩ => consoleLineSent_of_dropped hlines hdropped hroom,
    fun t => nativeHwRow State.eventOutputFall fun u _ ⟨hhigh, hdue⟩ => eventOutputFall_of_due hhigh hdue,
    fun ch fall k hch => nativeRow (State.captureEdge ch fall) (fun u _ ⟨hcc, hroom, hmode⟩ =>
      (captureEdge_of_wanted hcc hmode).trans (if_neg (Nat.not_le_of_lt hroom))) fun _ _ => if_pos hch,
    fun ch fall k hch => nativeRow (State.captureEdge ch fall) (fun u _ ⟨hcc, hfull, hmode, hrun⟩ =>
      (captureEdge_of_wanted hcc (.inl hmode)).trans ((if_pos hfull).trans (if_neg (ne_true_of_eq_false hrun)))) fun _ _ => if_pos hch,
    fun ch fall k hch => nativeRow (State.captureEdge ch fall) (fun u _ ⟨hcc, hfull, hmode, hrun⟩ =>
      (captureEdge_of_wanted hcc (.inl hmode)).trans ((if_pos hfull).trans (if_pos hrun))) fun _ _ => if_pos hch,
    fun ch k hch => nativeRow (State.compareEdge ch true) (fun u _ ⟨hmode, hcc, hvalid, hmultiple, hsince⟩ =>
      compareEdge_of_rise hmode hcc hvalid hmultiple hsince) fun _ _ => if_pos hch,
    fun ch k t hch => nativeRow (State.compareEdge ch false) (fun u _ ⟨hmode, hcc, hrise, hwidth⟩ =>
      compareEdge_of_fall hmode hcc hrise hwidth) fun _ _ => if_pos hch⟩

/-- Settles O26: captures and RF tests start, are read and end as stated. -/
theorem diagnosticsComplete : Obligations.DiagnosticsComplete := by
  unfold Obligations.DiagnosticsComplete
  refine ⟨queryRow fun c s ⟨hlen, hcore, hres, hblock, hhalted⟩ => runCoreCaptureRead_of_halted hlen hcore hres hblock hhalted,
    workRow fun c s _ ⟨hlen, hport, hfilter, hres, hmin, hmax, hon, hfree, hup⟩ =>
      runEthCapture_of_ok hlen hport hfilter hres ⟨hmin, hmax⟩ hon hfree hup,
    queryRow fun c s ⟨hlen, hoff, hmod, hmin, hmax, hfree, hdone, hend⟩ => runCaptureRead_of_done hlen hoff hmod hmin hmax hfree hdone hend,
    workRow fun c s _ ⟨hlen, hmode, hmodes, hchannel, hlow, hhigh, hphy, hmin, hmax, hchain, hfree, hgood⟩ =>
      runRfTest_of_start hlen hmode (by simp [State.rfOk, hmodes, hchannel, hlow, hhigh, hphy, hmin, hmax]) hchain hfree hgood,
    workRow fun c s _ ⟨hlen, hmode, hok, hfree⟩ => (runRfTest_of_stop hlen hmode hok).trans (by rw [hfree]; exact rfl),
    fun t => workRow fun c s _ ⟨hlen, hmode, hok, htest⟩ => (runRfTest_of_stop hlen hmode hok).trans (by rw [htest]; exact rfl),
    fun c => nativeRow State.captureTimeout fun u _ ⟨hcap, hstarted, hdue⟩ => captureTimeout_of_due hcap hstarted hdue,
    fun t mean peak good bad => nativeRow (State.rfTestEnd false mean peak good bad) fun u _ ⟨htest, hmode, hgoing, hdue⟩ =>
      rfTestEnd_of_receiver htest hmode hgoing hdue,
    fun t mean peak good bad => nativeRow (State.rfTestEnd true mean peak good bad) fun u _ ⟨htest, hmode, hgoing, hdomain⟩ =>
      rfTestEnd_of_sensed htest hmode hgoing hdomain⟩

end Sys2Proof.Proofs
end

section
/-! The redundant pair: its opcodes, the messages of its link, the merged intake and the tests. -/

namespace Sys2Proof.Proofs

open Sys2Proof.Machine Sys2Proof.Safety Sys2Proof.Laws

section
variable {s : State} {c : Cmd}

theorem raise0_pai (code : Nat) (cls : Cls) (level data : Nat) (s : State) : (s.raise0 code cls level data).pai = s.pai :=
  (onlyRaises_raise0 code cls level data s).pai

/-! ### Opcodes -/

theorem runPaiStateRead_of_empty (h : c.params = []) : s.runPaiStateRead c =
    (s, .fin (Ans.ok (le 1 s.pai.role ++ le 1 s.pai.mode.code ++ le 1 (b2n s.inControl) ++
      le 1 (b2n s.pai.lane0 + 2 * b2n s.pai.lane1) ++ le 8 s.pai.partner ++ le 4 s.pai.lockTicks ++ le 4 s.pai.mismatches ++
      le 4 s.pai.resent ++ le 4 s.pai.discarded ++ zeros 4))) :=
  if_neg (by simp [h])

/-- PAI_RESYNC at a standby with a trained link that is not in lockstep waits with the others (R496). -/
theorem runPaiResync_of_standby (hlen : c.params.length = 4) (hres : u32 c.params 0 = 0) (hrole : s.pai.role = 2)
    (htrained : s.pai.trained = true) (hmode : s.pai.mode ≠ .lockstep) : s.runPaiResync c =
      (let t := s.mapPai (fun y => { y with syncCmds := y.syncCmds ++ [(c.sess, c.acc)] })
        if t.pai.mode = .resync then t else t.syncReq, .later) := by
  refine (if_neg (not_not_intro hlen)).trans ((if_neg (not_not_intro hres)).trans ((if_neg (by omega)).trans ?_))
  exact (if_neg (by simp [hrole, hmode])).trans (if_neg (by simp [htrained]))

/-- The roles that a unit may be given, while no lockstep and no resynchronisation runs (R496). -/
theorem runPaiRoleSet_same (hlen : c.params.length = 4) (hle : u8 c.params 0 ≤ 2) (hres : rd c.params 1 3 = 0)
    (hlock : s.pai.mode ≠ .lockstep) (hsync : s.pai.mode ≠ .resync) (hrole : s.pai.role = u8 c.params 0) :
    s.runPaiRoleSet c = (s, .fin (Ans.ok [])) :=
  (if_neg (not_not_intro hlen)).trans ((if_neg (by omega)).trans ((if_neg (by simp [hlock, hsync])).trans (if_pos hrole.symm)))

theorem runPaiRoleSet_other (hlen : c.params.length = 4) (hr : u8 c.params 0 = 1 ∨ u8 c.params 0 = 2) (hres : rd c.params 1 3 = 0)
    (hlock : s.pai.mode ≠ .lockstep) (hsync : s.pai.mode ≠ .resync) (hpair : s.pai.role ≠ 0) (hother : s.pai.role ≠ u8 c.params 0) :
    s.runPaiRoleSet c = (s.mapPai (fun y => { y with
      role := u8 c.params 0, mode := if u8 c.params 0 = 2 then .withheld else if y.mode = .yielded then .yielded else .alone }),
      .fin (Ans.ok [])) := by
  refine (if_neg (not_not_intro hlen)).trans ((if_neg (by omega)).trans ((if_neg (by simp [hlock, hsync])).trans
    ((if_neg (Ne.symm hother)).trans ?_)))
  have hplace : ¬((s.pai.role = 0) ≠ (u8 c.params 0 = 0)) := by simp [hpair]; omega
  refine congrArg (·, CmdRes.fin (Ans.ok [])) ((if_neg hplace).trans ?_)
  rcases hr with hr | hr <;> rw [State.mapPai, State.mapPai, hr]
  · cases s.pai.mode <;> rfl
  · rfl

theorem runPaiRoleSet_joins {m : SlotMap} (hlen : c.params.length = 4) (hr : u8 c.params 0 = 2) (hres : rd c.params 1 3 = 0)
    (hlock : s.pai.mode ≠ .lockstep) (hsync : s.pai.mode ≠ .resync) (hnone : s.pai.role = 0)
    (hmap : placeMap ((s.mapPai (fun y => { y with role := 2, mode := .withheld })).siteMap) = .ok m) :
    s.runPaiRoleSet c = ((s.mapPai (fun y => { y with role := 2, mode := .withheld })).acceptMap m, .fin (Ans.ok [])) := by
  refine (if_neg (not_not_intro hlen)).trans ((if_neg (by omega)).trans ((if_neg (by simp [hlock, hsync])).trans
    ((if_neg (by omega)).trans ?_)))
  have hplace : (s.pai.role = 0) ≠ (u8 c.params 0 = 0) := by simp [hnone, hr]
  refine congrArg (·, CmdRes.fin (Ans.ok [])) ((if_pos hplace).trans ?_)
  rw [hr]
  show (match placeMap ((s.mapPai (fun y => { y with role := 2, mode := .withheld })).siteMap) with
    | .ok m => (s.mapPai (fun y => { y with role := 2, mode := .withheld })).acceptMap m
    | .error _ => s.mapPai (fun y => { y with role := 2, mode := .withheld })) = _
  rw [hmap]

/-- PAI_YIELD in lockstep: the unit that it names yields (R489). -/
theorem runPaiYield_of_lockstep (hlen : c.params.length = 4) (hres : rd c.params 1 3 = 0) (hlow : u8 c.params 0 ≠ 0) (hhigh : u8 c.params 0 ≤ 2)
    (hmode : s.pai.mode = .lockstep) : s.runPaiYield c = (if s.pai.role = u8 c.params 0 then s.unitYield 5 else s, .fin (Ans.ok [])) :=
  (if_neg (not_not_intro hlen)).trans ((if_neg (by omega)).trans (if_neg (not_not_intro hmode)))

/-! ### Leaving lockstep -/

theorem unitYield_of_lockstep (reason : Nat) (h : s.pai.mode = .lockstep) : s.unitYield reason = yielded reason s :=
  if_neg (not_not_intro h)

/-- YIELD from the partner is first reported (R491). -/
theorem partnerYields_of_trained (reason : Nat) (hrole : s.pai.role ≠ 0) (htrained : s.pai.trained = true) {t : State}
    (ht : t = (s.mapPai (fun y => { y with yieldSeen := true })).raise0 0x0F03 .warning reason 0) :
    s.partnerYields reason = if s.pai.mode = .lockstep then t.takeUp else if s.pai.mode = .resync then t.syncFail 5 else t := by
  subst ht
  have hmode := congrArg Pai.mode (raise0_pai 0x0F03 .warning reason 0 (s.mapPai (fun y => { y with yieldSeen := true })))
  simp only [State.partnerYields, hrole, htrained, false_or, Bool.true_eq_false, if_false, hmode, State.mapPai_pai]
  cases s.pai.mode <;> rfl

/-- The link is lost: what the unit does then depends on its role and mode (R492). -/
theorem linkLost_of_trained (htrained : s.pai.trained = true) (hrole : s.pai.role = 1 ∨ s.pai.role = 2) {t : State}
    (ht : t = s.mapPai (fun y => { y with trained := false, linkDown := true, lane0 := false, lane1 := false })) :
    s.linkLost = if s.pai.mode = .lockstep then (if s.pai.role = 1 then t.takeUp else t.unitYield 4).raise0 0x0F04 .fault s.pai.role 0
      else if s.pai.mode = .resync then (t.raise0 0x0F04 .fault s.pai.role 0).syncFail 5
      else if s.pai.yieldSeen then t else t.raise0 0x0F04 .fault s.pai.role 0 := by
  have hpai : t.pai.role = s.pai.role ∧ t.pai.mode = s.pai.mode ∧ t.pai.yieldSeen = s.pai.yieldSeen := by rw [ht]; exact ⟨rfl, rfl, rfl⟩
  obtain ⟨hsame, hmode, hyield⟩ := hpai
  refine (if_neg (by simp [htrained])).trans ?_
  rw [← ht]
  simp only [hsame, hmode, hyield]
  clear ht
  rcases hrole with hrole | hrole <;> rw [hrole] <;> cases s.pai.mode <;> simp

/-- Of two lanes in service one is lost, and traffic goes on over the other (R479). -/
theorem laneDown_zero (h0 : s.pai.lane0 = true) (h1 : s.pai.lane1 = true) :
    s.laneDown 0 = (s.mapPai (fun y => { y with lane0 := false })).raise0 0x0F05 .warning 1 0 := by
  refine (if_neg (by simp [h0])).trans (if_neg ?_)
  simp [raise0_pai, h1]

theorem laneDown_one (h0 : s.pai.lane0 = true) (h1 : s.pai.lane1 = true) :
    s.laneDown 1 = (s.mapPai (fun y => { y with lane1 := false })).raise0 0x0F05 .warning 2 0 := by
  refine (if_neg (by simp [h1])).trans (if_neg ?_)
  simp [raise0_pai, h0]

/-! ### The merged intake -/

/-- A numbered packet, an air frame or a fold message comes to the standby, which holds it for MERGE (R482). -/
theorem pairItem_held {run : Nat → Pkt → State → State} {phases : TickObs → State → State} {i : PairIn} (hmerging : s.merging = true)
    (hrole : s.pai.role = 2) (hnumbered : ∀ op p k, i = .cmd op p k → p.acc ≠ 0) {t : State}
    (ht : t = s.mapPai (fun y => { y with
      items := y.items.filter (fun (e : PairItem) => pairIdOf true false e.inp != pairIdOf false false i) ++ [⟨i, s.sys.tick⟩]
      owed := y.owed.filter (fun e => e.1 != pairIdOf false false i) })) :
    s.pairItem run phases i = match s.pai.mergeDue with
      | some m => if t.pai.owed.isEmpty then t.runMerge run phases m else t
      | none => t := by
  subst ht
  have hact : (s.pai.role == 1) = false := by simp [hrole]
  refine (if_neg (ne_false_of_eq_true hmerging)).trans ((if_neg (ne_true_of_eq_false hact)).trans ((if_neg ?_).trans ?_))
  · cases i with
    | cmd op p k => simp [hnumbered op p k rfl]
    | air _ _ _ => exact Bool.false_ne_true
    | fold _ _ => exact Bool.false_ne_true
  · rw [hact]
    simp only [State.mapPai_pai]
    cases s.pai.mergeDue <;> rfl

theorem pairItem_unnumbered {run : Nat → Pkt → State → State} {phases : TickObs → State → State} {op k : Nat} {p : Pkt} (hmerging : s.merging = true)
    (hrole : s.pai.role = 2) (hacc : p.acc = 0) : s.pairItem run phases (.cmd op p k) = run op p s := by
  exact (if_neg (ne_false_of_eq_true hmerging)).trans ((if_neg (by simp [hrole])).trans (if_pos (by simp [hacc])))

/-- At the active: an input that was already taken has no effect (R482). -/
theorem pairItem_again {run : Nat → Pkt → State → State} {phases : TickObs → State → State} {i : PairIn} (hmerging : s.merging = true)
    (hrole : s.pai.role = 1) (htaken : s.pai.taken.contains (pairIdOf false true i) = true) : s.pairItem run phases i = s := by
  have hact : (s.pai.role == 1) = true := by simp [hrole]
  refine (if_neg (ne_false_of_eq_true hmerging)).trans ((if_pos hact).trans (if_pos ?_))
  rw [hact, htaken]
  exact Bool.true_or _

/-- A new input acts at the active at once, and is entered for the next MERGE (R482). -/
theorem pairItem_taken {run : Nat → Pkt → State → State} {phases : TickObs → State → State} {i : PairIn} (hmerging : s.merging = true)
    (hrole : s.pai.role = 1) (htaken : s.pai.taken.contains (pairIdOf false true i) = false)
    (hnew : ∀ op p k, i = .cmd op p k → s.takenBefore p = false) :
    s.pairItem run phases i = (s.mapPai (fun y => { y with taken := y.taken ++ [pairIdOf false true i] })).applyInput run i := by
  have hact : (s.pai.role == 1) = true := by simp [hrole]
  refine (if_neg (ne_false_of_eq_true hmerging)).trans ((if_pos hact).trans ?_)
  rw [hact]
  refine if_neg ?_
  rw [htaken, Bool.false_or]
  cases i with
  | cmd op p k => exact ne_true_of_eq_false (hnew op p k rfl)
  | air _ _ _ => exact Bool.false_ne_true
  | fold _ _ => exact Bool.false_ne_true

theorem takenBefore_of_next {p : Pkt} {x : Session} (hx : s.session p.sess = some x) (hnext : accPrecedes p.acc x.next = false) :
    s.takenBefore p = false := by
  rw [State.takenBefore, hx]
  simp [hnext]

/-- A MERGE of no input ends the wait for it, and runs the tick that was held (R483). -/
theorem runMerge_nil {run : Nat → Pkt → State → State} {phases : TickObs → State → State} {m : MergeMsg} (h : m.ids = []) {t : State}
    (ht : t = s.mapPai (fun y => { y with merged := true, heldTick := none, sealed := [], owed := [], mergeDue := none })) :
    s.runMerge run phases m = match s.pai.heldTick with
      | some o => phases { o with epoch := m.mset } t
      | none => t := by
  subst ht
  rw [State.runMerge, h]
  rfl

/-- A MERGE of the one fold message that the standby holds (R483). -/
theorem runMerge_fold {run : Nat → Pkt → State → State} {phases : TickObs → State → State} {m : MergeMsg} {typ k : Nat} {f : FoldRx}
    (h : m.ids = [.fold f.fold f.src f.seq]) (hitems : s.pai.items = [⟨.fold typ f, k⟩])
    (hheld : ((s.mapPai (fun y => { y with items := [] })).foldTake typ f).pai.heldTick = none) :
    s.runMerge run phases m = ((s.mapPai (fun y => { y with items := [] })).foldTake typ f).mapPai (fun y => { y with
      merged := true, heldTick := none, sealed := [.fold f.fold f.src f.seq], owed := [], mergeDue := none }) := by
  have hfind : s.pai.items.find? (fun x => pairIdOf true false x.inp == .fold f.fold f.src f.seq) = some ⟨.fold typ f, k⟩ := by
    rw [hitems]
    exact List.find?_cons_of_pos (beq_self_eq_true (PairId.fold f.fold f.src f.seq))
  have herase : s.mapPai (fun y => { y with items := y.items.erase ⟨.fold typ f, k⟩ }) = s.mapPai (fun y => { y with items := [] }) := by
    rw [State.mapPai, State.mapPai, hitems, List.erase_cons_head]
  rw [State.runMerge, h]
  simp only [List.foldl_cons, List.foldl_nil, hfind, herase, State.applyInput, hheld]

theorem lacks_fold {fold src q : Nat} (h : s.pai.items = []) : s.lacks (.fold fold src q) = true := by
  simp [State.lacks, h]

theorem lacks_fold_held {typ k : Nat} {f : FoldRx} (h : s.pai.items = [⟨.fold typ f, k⟩]) : s.lacks (.fold f.fold f.src f.seq) = false := by
  simp [State.lacks, h, pairIdOf]

theorem mergeIn_of_whole {m : MergeMsg} (hmerging : s.merging = true) (hrole : s.pai.role = 2) (hlack : m.ids.filter s.lacks = []) :
    s.mergeIn m = s.runMerge State.deliverItem State.phases m := by
  rw [State.mergeIn, State.pairMerge, if_neg (by simp [hmerging, hrole]), hlack]

theorem mergeIn_of_lacking {m : MergeMsg} {id : PairId} (hmerging : s.merging = true) (hrole : s.pai.role = 2) (hlack : m.ids.filter s.lacks = [id]) :
    s.mergeIn m = s.mapPai (fun y => { y with owed := [(id, s.now)], mergeDue := some m }) := by
  rw [State.mergeIn, State.pairMerge, if_neg (by simp [hmerging, hrole]), hlack]
  rfl

/-- An unnumbered packet of this unit's own goes to the partner and acts at once (R482). -/
theorem pairInput_unnumbered {op k : Nat} {p : Pkt} (act : State → State) (hmerging : s.merging = true) (hacc : p.acc = 0) :
    s.pairInput (.cmd op p k) act = act (itemSent op p s) := by
  rw [State.pairInput, if_neg (ne_false_of_eq_true hmerging)]
  have hun : (p.acc == 0) = true := by simp [hacc]
  simp only [hun, if_true, itemSent]
  by_cases hrole : s.pai.role = 1
  · have hid : pairIdOf true true (.cmd op p s.pai.order) = .unnumbered true s.pai.order := by simp [pairIdOf, hacc]
    rw [hid]
    exact (if_pos hrole).trans (congrArg act (if_pos hrole).symm)
  · exact (if_neg hrole).trans (congrArg act (if_neg hrole).symm)

/-! ### Journal confirmations -/

theorem journalConf_of_none (n acc : Nat) (hmerging : s.merging = true) (h : ∀ e ∈ s.ses.journal, e.awaitConf = none) :
    s.journalConf n acc = s.mapPai (fun y => { y with confs := y.confs ++ [(n, acc)] }) := by
  have hdue (q : JEntry → Bool) : s.ses.journal.filter (fun e => e.awaitConf.isSome && q e) = [] :=
    List.filter_eq_nil_iff.mpr fun e he => by simp [h e he]
  rw [State.journalConf, if_pos hmerging, State.releaseConfs]
  simp only [State.mapPai_ses, hdue, List.foldl_nil, List.any_nil, Bool.not_false, List.filter_true]
  rfl

/-- The confirmation of the one entry that waits: its reply goes out (R495). -/
theorem journalConf_of_waiting {n acc : Nat} {e : JEntry} {a : Ans} {x : Session} (hmerging : s.merging = true) (hj : s.ses.journal = [e]) (hn : e.sess = n)
    (hacc : e.acc = acc) (ha : e.awaitConf = some a) (hclose : e.close = none) (hx : s.session n = some x) :
    s.journalConf n acc = ((((s.mapPai (fun y => { y with confs := y.confs ++ [(n, acc)] })).mapSes (fun z => { z with
      journal := [{ e with awaitConf := none }] })).sendPacket x.via { State.acceptedOf e with ans := a }).pumpSession n).mapPai
        (fun y => { y with confs := y.confs.filter (fun c => c != (n, acc)) }) := by
  subst hn hacc
  have hrelease : (s.mapPai (fun y => { y with confs := y.confs ++ [(e.sess, e.acc)] })).releaseConf e.sess e.acc =
      (((s.mapPai (fun y => { y with confs := y.confs ++ [(e.sess, e.acc)] })).mapSes (fun z => { z with
        journal := [{ e with awaitConf := none }] })).sendPacket x.via { State.acceptedOf e with ans := a }).pumpSession e.sess := by
    have hentry : (s.mapPai (fun y => { y with confs := y.confs ++ [(e.sess, e.acc)] })).entry? e.sess e.acc = some e := by
      rw [State.entry?, State.mapPai_ses, hj]
      exact List.find?_cons_of_pos (by simp)
    have hses : (s.mapPai (fun y => { y with confs := y.confs ++ [(e.sess, e.acc)] })).session e.sess = some x := hx
    simp only [State.releaseConf, hentry, ha, hclose, hses]
    simp only [State.mapSes, State.mapPai_ses, hj, hclose, List.filter_cons, Option.isSome_none, Bool.and_false, Bool.not_false, if_true,
      List.filter_nil, List.map_cons, List.map_nil, and_self]
  rw [State.journalConf, if_pos hmerging, State.releaseConfs]
  have hdue : (s.mapPai (fun y => { y with confs := y.confs ++ [(e.sess, e.acc)] })).ses.journal.filter (fun k => k.awaitConf.isSome &&
      ((s.mapPai (fun y => { y with confs := y.confs ++ [(e.sess, e.acc)] })).pai.confs.contains (k.sess, k.acc) ||
        ((s.mapPai (fun y => { y with confs := y.confs ++ [(e.sess, e.acc)] })).pai.mode == .alone))) = [e] := by
    simp [hj, ha]
  rw [hdue]
  simp only [List.foldl_cons, List.foldl_nil, hrelease, List.any_cons, List.any_nil, Bool.or_false]
  refine congrArg (State.mapPai · _) (funext fun y => ?_)
  congr 1
  exact List.filter_congr fun k _ => by simp [bne, Bool.beq_comm]

/-! ### Digests and the mismatch test -/

theorem pairDigest_early {inD outD : Nat} {written : Bool} {test : Nat} (hmerging : s.merging = true) (hown : s.pai.own = none) :
    s.pairDigest inD outD written test = s.mapPai (fun y => { y with their := some (inD, outD, written, test) }) := by
  rw [State.pairDigest, if_neg (ne_false_of_eq_true hmerging), hown]

theorem pairDigest_compared {inD outD a b : Nat} {written : Bool} {test : Nat} (hmerging : s.merging = true) (hown : s.pai.own = some (a, b)) :
    s.pairDigest inD outD written test = (s.digestsCompared (a == inD) (b == outD) written test).closeDone := by
  rw [State.pairDigest, if_neg (ne_false_of_eq_true hmerging), hown]

theorem judgeTest_of_none (h : s.pai.test = none) : s.judgeTest = s := by
  rw [State.judgeTest, h]

/-- With no mismatch test at work a comparison judges none (R487, R488). -/
theorem digestsCompared_of_noTest {inEq outEq written : Bool} {test : Nat} (h : s.pai.test = none) {t : State}
    (ht : t = s.mapPai (fun y => { y with digested := true, matchNext := inEq && outEq && written })) :
    s.digestsCompared inEq outEq written test =
      if s.pai.mode = .resync then (if inEq && outEq && written then t.pairSynced else t)
      else if (inEq && outEq) = true ∨ s.pai.mode ≠ .lockstep then t
      else (t.mapPai (fun y => { y with
        mismatches := inc32 y.mismatches, mute := y.mute || y.role == 2
        test := some ⟨0, 0, t.now⟩ })).raise0 0x0F01 .fault (if inEq then 2 else 1) 0 := by
  have hmap : s.mapPai (fun p => { p with
      digested := true, matchNext := inEq && outEq && written
      test := p.test.map (fun t => if test = 1 ∨ test = 2 then { t with partner := test } else t) }) = t := by
    rw [ht, State.mapPai, State.mapPai, h]
    simp
  have htest : t.pai.test = none := by rw [ht]; exact h
  have hmode : t.pai.mode = s.pai.mode := by rw [ht]; rfl
  rw [State.digestsCompared]
  simp only [hmap, judgeTest_of_none htest, hmode]
  have hnew : t.mapPai (fun p => { p with
      mismatches := inc32 p.mismatches, mute := p.mute || p.role == 2
      test := match p.test with | some t => some t | none => some ⟨0, 0, t.now⟩ }) =
      t.mapPai (fun y => { y with mismatches := inc32 y.mismatches, mute := y.mute || y.role == 2, test := some ⟨0, 0, t.now⟩ }) := by
    rw [State.mapPai, State.mapPai, htest]
  exact if_congr Iff.rfl rfl (if_congr Iff.rfl rfl (congrArg _ hnew))

/-- This unit's own test ends: with the partner's result in hand the outcome is judged (R488). -/
theorem mismatchTestDone_of_running {passed : Bool} {q k : Nat} (h : s.pai.test = some ⟨0, q, k⟩) :
    s.mismatchTestDone passed = (s.mapPai (fun y => { y with test := some ⟨if passed then 1 else 2, q, k⟩ })).judgeTest := by
  rw [State.mismatchTestDone, h]
  exact if_neg (not_not_intro rfl)

theorem judgeTest_of_both {r q k : Nat} (h : s.pai.test = some ⟨r, q, k⟩) (hr : r ≠ 0) (hq : q ≠ 0) {t : State}
    (ht : t = s.mapPai (fun y => { y with test := none })) :
    s.judgeTest = if r = 2 then t.unitYield 2 else if q = 1 ∧ s.pai.role = 2 then t.unitYield 3 else t := by
  subst ht
  rw [State.judgeTest, h]
  exact if_neg (by simp [hr, hq])

/-- In lockstep the digests of a tick match (R487). -/
theorem pairDigest_match {inD outD : Nat} {written : Bool} {test : Nat} (hmerging : s.merging = true) (hown : s.pai.own = some (inD, outD))
    (hmode : s.pai.mode = .lockstep) (htest : s.pai.test = none) :
    s.pairDigest inD outD written test = (s.mapPai (fun y => { y with digested := true, matchNext := written })).closeDone := by
  refine (pairDigest_compared hmerging hown).trans (congrArg State.closeDone ((digestsCompared_of_noTest htest rfl).trans ?_))
  rw [beq_self_eq_true, beq_self_eq_true, Bool.true_and, Bool.true_and, if_neg (by simp [hmode])]
  exact if_pos (.inl rfl)

/-- They do not match: a mismatch test starts, and a standby is silent from now on (R488). -/
theorem pairDigest_mismatch {inD outD a b : Nat} {written : Bool} {test : Nat} (hmerging : s.merging = true) (hown : s.pai.own = some (a, b))
    (hdiffer : a ≠ inD ∨ b ≠ outD) (hmode : s.pai.mode = .lockstep) (htest : s.pai.test = none) :
    s.pairDigest inD outD written test = ((s.mapPai (fun y => { y with
      digested := true, matchNext := false, mismatches := inc32 y.mismatches, mute := y.mute || y.role == 2, test := some ⟨0, 0, s.now⟩ })).raise0
        0x0F01 .fault (if a = inD then 2 else 1) 0).closeDone := by
  have hsame : (a == inD && b == outD) = false := by
    rcases hdiffer with h | h <;> simp [h]
  refine (pairDigest_compared hmerging hown).trans (congrArg State.closeDone ((digestsCompared_of_noTest htest rfl).trans ?_))
  rw [hsame, Bool.false_and, if_neg (by simp [hmode]), if_neg (by simp [hmode])]
  simp only [beq_iff_eq]
  rfl

/-- The match that ends a resynchronisation: the pair is in lockstep, and the PAI_RESYNC that waited completes (R493, R496). -/
theorem pairDigest_synced {inD outD n acc : Nat} {test : Nat} (hmerging : s.merging = true) (hown : s.pai.own = some (inD, outD))
    (hmode : s.pai.mode = .resync) (htest : s.pai.test = none) (hcmds : s.pai.syncCmds = [(n, acc)]) :
    s.pairDigest inD outD true test = (((s.mapPai (fun y => { y with
      digested := true, matchNext := true, mode := .lockstep, syncCmds := [], syncFrom := none, syncAt := none
      echoFrom := some (s.sys.sfCount + 3), lockTicks := 0, solo := false })).raise0 0x0F07 .notice 1 0).completeOk n acc []).closeDone := by
  refine (pairDigest_compared hmerging hown).trans (congrArg State.closeDone ((digestsCompared_of_noTest htest rfl).trans ?_))
  rw [beq_self_eq_true, beq_self_eq_true, Bool.true_and, Bool.true_and, if_pos hmode, if_pos rfl, State.pairSynced]
  simp only [State.mapPai_pai, hcmds, List.foldl_cons, List.foldl_nil]
  rfl

/-- The fold message that a MERGE still lacks comes, and the MERGE runs (R483). -/
theorem pairItem_lastFold {m : MergeMsg} {typ : Nat} {f : FoldRx} (hids : m.ids = [.fold f.fold f.src f.seq]) (hmerging : s.merging = true)
    (hrole : s.pai.role = 2) (hdue : s.pai.mergeDue = some m) (howed : ∀ e ∈ s.pai.owed, e.1 = .fold f.fold f.src f.seq) (hitems : s.pai.items = [])
    (hheld : ((s.mapPai (fun y => { y with owed := [] })).foldTake typ f).pai.heldTick = none) :
    s.pairItem State.deliverItem State.phases (.fold typ f) = ((s.mapPai (fun y => { y with owed := [] })).foldTake typ f).mapPai (fun y => { y with
      merged := true, heldTick := none, sealed := [.fold f.fold f.src f.seq], owed := [], mergeDue := none }) := by
  have hnone : s.pai.owed.filter (fun e => e.1 != pairIdOf false false (.fold typ f)) = [] :=
    List.filter_eq_nil_iff.mpr fun e he => by simp [howed e he, pairIdOf]
  have htaken : s.mapPai (fun y => { y with
      items := y.items.filter (fun (e : PairItem) => pairIdOf true false e.inp != pairIdOf false false (.fold typ f)) ++ [⟨.fold typ f, s.sys.tick⟩]
      owed := y.owed.filter (fun e => e.1 != pairIdOf false false (.fold typ f)) }) =
      s.mapPai (fun y => { y with items := [⟨.fold typ f, s.sys.tick⟩], owed := [] }) := by
    rw [State.mapPai, State.mapPai, hnone, hitems]
    rfl
  have hempty : s.mapPai (fun y => { y with items := [], owed := [] }) = s.mapPai (fun y => { y with owed := [] }) := by
    rw [State.mapPai, State.mapPai, hitems]
  refine (pairItem_held hmerging hrole (by intro _ _ _ h; cases h) htaken.symm).trans ?_
  rw [hdue]
  refine (if_pos rfl).trans ((runMerge_fold hids rfl ?_).trans ?_)
  · exact (congrArg (fun t : State => (t.foldTake typ f).pai.heldTick) hempty).trans hheld
  · exact congrArg (fun t : State => (t.foldTake typ f).mapPai _) hempty

/-! ### Resynchronisation -/

/-- A standby that resynchronises takes each part of the copy (R493). -/
theorem copies_of_resync (hrole : s.pai.role = 2) (hmode : s.pai.mode = .resync) : ¬(s.pai.role ≠ 2 ∨ s.pai.mode ≠ .resync) := by
  simp [hrole, hmode]

theorem stateFrame_sessions {l : List (Nat × Session)} {last : Nat} {j : List JEntry} (hrole : s.pai.role = 2) (hmode : s.pai.mode = .resync)
    (hses : s.ses.sessions = []) (hjour : s.ses.journal = []) : s.stateFrame (.sessions l last j) =
      (s.mapPai (fun y => { y with parts := y.parts + 1 })).mapSes (fun z => { z with
        sessions := l.foldl (fun a e => Tab.put e.1 e.2 a) [], lastSession := last, journal := j }) := by
  refine (if_neg (copies_of_resync hrole hmode)).trans ?_
  simp only [State.mapSes, State.mapPai_ses, hses, hjour, List.filter_nil, List.nil_append]

theorem linkTrained_of_lane {l0 l1 : Bool} (htrained : s.pai.trained = false) (hlane : l0 = true ∨ l1 = true) {t : State}
    (ht : t = s.mapPai (fun y => { y with trained := true, linkDown := false, lane0 := l0, lane1 := l1, yieldSeen := false })) :
    s.linkTrained l0 l1 = if t.fwRuns ∧ t.pai.role = 2 ∧ t.prm 0x0F00 = 1 ∧ (t.pai.mode = .withheld ∨ t.pai.mode = .yielded) then t.syncReq else t := by
  subst ht
  exact if_neg (by rcases hlane with h | h <;> simp [htrained, h])

/-- SYNC_REQ is answered with the first of the differences found (R493, R498). -/
theorem syncReqIn_of_trained {eui role res : Nat} {images keys : Bool} (hrole : s.pai.role ≠ 0) (htrained : s.pai.trained = true)
    (hres : (if s.pai.role ≠ 1 ∨ role ≠ 2 ∨ s.pai.mode = .lockstep ∨ s.pai.mode = .yielded then 1
      else if images = false then 2 else if keys = false then 3 else 0) = res) {t : State}
    (ht : t = (s.emit (.pairSyncAnswer res)).mapPai (fun y => { y with partner := eui })) :
    s.syncReqIn eui role images keys = if res = 0 then t.mapPai (fun y => { y with mode := .resync, syncFrom := some t.now, syncAt := none })
      else t.raise0 0x0F08 .warning res 0 := by
  subst ht hres
  exact if_neg (by simp [hrole, htrained])

theorem resyncTimeout_of_due {k : Nat} (hmode : s.pai.mode = .resync) (hfrom : s.pai.syncFrom = some k) (hdue : 60000000000 ≤ s.now - k) :
    s.resyncTimeout = s.syncFail 4 := by
  rw [State.resyncTimeout, hmode, hfrom]
  exact if_pos hdue

theorem itemDiscard_eq (s : State) : s.itemDiscard = s.mapPai (fun y => { y with
      items := y.items.filter (fun (x : PairItem) => decide (s.sys.tick < x.tick + 10))
      discarded := satAdd 0xFFFFFFFF y.discarded (y.items.filter (fun (x : PairItem) => decide (x.tick + 10 ≤ s.sys.tick))).length }) := by
  have hnew : (fun (x : PairItem) => !decide (x.tick + 10 ≤ s.sys.tick)) = fun x => decide (s.sys.tick < x.tick + 10) := by
    funext x
    rw [← decide_not]
    exact decide_eq_decide.mpr Nat.not_le
  rw [State.itemDiscard]
  simp only [hnew]
  rfl

/-- PAIR_STOP sets or releases source 4 (R341, R362). -/
theorem pairStopIn_set {kind index ramp : Nat} (hrole : s.pai.role ≠ 0) (htrained : s.pai.trained = true)
    (hroom : s.stopsAhead.stopsFull kind index = false) : s.pairStopIn kind index ramp true = s.setStop 4 kind index ramp :=
  (if_neg (by simp [hrole, htrained])).trans (if_neg (ne_true_of_eq_false hroom))

theorem pairStopIn_release {kind index ramp : Nat} (hrole : s.pai.role ≠ 0) (htrained : s.pai.trained = true) :
    s.pairStopIn kind index ramp false = (s.releaseStop 4 kind index).getD s :=
  if_neg (by simp [hrole, htrained])

/-! ### An urgent packet of a unit in lockstep -/

/-- From check 9 on an urgent packet of an urgent opcode runs, and is answered as its meaning says. -/
theorem receiveIn_urgent {mirror : Bool} {holds : Nat → Bool} {spec : OpSpec} {p : Pkt} {x : Session} {t : State} {a : Ans}
    (hfw : s.sys.fw = .running) (hurgent : p.urgent = true ∧ spec.urgent = true) (hacc : p.acc = 0)
    (hagreed : missingBit x.agreed (p.flagBits ++ spec.bits) = none) (hrun : spec.run (cmdOf spec p x) s = (t, .fin a)) :
    s.receiveIn mirror holds spec p x = t.reply spec.code p a := by
  have hrom : (s.sys.fw == Fw.recovery) = false := by rw [hfw]; rfl
  have hkind : (if p.urgent = true then OpKind.control else spec.kind) = .control := if_pos hurgent.1
  rw [State.receiveIn, if_neg (by simp [hurgent.2]), if_neg (by simp [hrom]), hagreed]
  simp only [hkind]
  rw [if_neg (not_not_intro hacc)]
  exact (congrArg (fun r : State × CmdRes => match r with
    | (s', .refuse a) => s'.refusePkt spec.code p a
    | (s', .fin a) => s'.reply spec.code p a
    | (s', .later) => s'.reply spec.code p (Ans.bare stOk 0)
    | (s', .sent) => s') hrun)

/-- It is answered as its opcode's meaning says, after it went to the partner. -/
theorem hostPacket_pairUrgent {spec : OpSpec} {p : Pkt} {x : Session} (h : PairUrgent s spec p x) (hop : opSpec? spec.code = some spec)
    (hone : spec.code ≠ 1) (htwo : spec.code ≠ 2) {t : State} {a : Ans}
    (hrun : spec.run (cmdOf spec p x) (heard spec.code p (itemSent spec.code p s)) = (t, .fin a)) :
    State.hostPacket 2 spec.code p s = t.reply spec.code p a := by
  obtain ⟨hmode, hrole⟩ := h.paired
  have hmerging : s.merging = true := by rcases hrole with hr | hr <;> simp [State.merging, hr, hmode]
  have hopen : s.pairShut = false := by simp [State.pairShut, hmode]
  have hroom : ¬(p.via = .spi ∧ s.spiFull = true) := fun ⟨a, b⟩ => by simp [h.room a] at b
  have hsys : (itemSent spec.code p s).sys = s.sys := by simp only [itemSent]; split <;> rfl
  have hses : (itemSent spec.code p s).session p.sess = s.session p.sess := by simp only [itemSent]; split <;> rfl
  have hfw : (heard spec.code p (itemSent spec.code p s)).sys.fw = .running := by rw [heard_sys, hsys]; exact h.running
  have hin := receiveIn_urgent (mirror := (itemSent spec.code p s).mirror) (holds := holdsOp) (x := State.hear spec.code p (itemSent spec.code p s).now x)
    hfw h.urgent h.outside h.agreed hrun
  simp only [State.hostPacket, h.hears, h.running, hopen, hroom, pairInput_unnumbered _ hmerging h.outside]
  simp only [State.deliverOp, far_of_direct h.direct, State.judgeOp, hop, State.receiveOp, hone, htwo, State.receive, h.head, State.flagCheck, h.flags,
    h.session.1, hses, h.session.2, hsys, h.running]
  simpa [heard] using hin

theorem heard_pai (op : Nat) (p : Pkt) (s : State) : (heard op p s).pai = s.pai := mapSession_pai ..

/-- What PAI_YIELD finds of the pair after it went to the partner. -/
theorem itemSent_roleMode (op : Nat) (p : Pkt) (s : State) : (itemSent op p s).pai.role = s.pai.role ∧ (itemSent op p s).pai.mode = s.pai.mode := by
  simp only [itemSent]
  split <;> exact ⟨rfl, rfl⟩

theorem hostPacket_paiYield {p : Pkt} {x : Session} (h : PairUrgent s opPaiYield p x) (hlen : p.body.length = 4) (hres : rd p.body 1 3 = 0)
    (hlow : u8 p.body 0 ≠ 0) (hhigh : u8 p.body 0 ≤ 2) {t : State} (ht : t = heard 0x0F03 p (itemSent 0x0F03 p s)) :
    State.hostPacket 2 0x0F03 p s = (if s.pai.role = u8 p.body 0 then yielded 5 t else t).reply 0x0F03 p (Ans.ok []) := by
  subst ht
  obtain ⟨hrole, hmode⟩ := itemSent_roleMode 0x0F03 p s
  have hpai := heard_pai 0x0F03 p (itemSent 0x0F03 p s)
  have hlock : (heard 0x0F03 p (itemSent 0x0F03 p s)).pai.mode = .lockstep := by rw [hpai, hmode, h.paired.1]
  refine hostPacket_pairUrgent h rfl (by decide) (by decide) ((runPaiYield_of_lockstep (c := cmdOf opPaiYield p x) hlen hres hlow hhigh hlock).trans ?_)
  rw [unitYield_of_lockstep 5 hlock, hpai, hrole]
  rfl

/-! ### Rows -/

variable {row : Nat → Instr} {eff : State → State} {ok : State → Prop} {role : Nat} (f : State → State)

/-- A row of the pair's link acts on a unit whose link has trained. -/
theorem linkedRow (h : ∀ u, u.pai.trained = true → u.pai.role = role → ok u → f u = eff u)
    (hx : ∀ s dt, exec (row dt) s = .next (s.act dt (State.native f)) := by exact fun _ _ => rfl) :
    EventActs row (fun u => Linked role u ∧ ok u) eff :=
  eventActs _ hx fun u ⟨⟨hrun, htrained, hrole⟩, hok⟩ => (native_of hrun.power hrun.native hrun.running).trans (h u htrained hrole hok)

/-- A row of the merged intake acts on a unit that merges its inputs with its partner. -/
theorem mergesRow (h : ∀ u, u.merging = true → u.pai.role = role → ok u → f u = eff u)
    (hx : ∀ s dt, exec (row dt) s = .next (s.act dt (State.native f)) := by exact fun _ _ => rfl) :
    EventActs row (fun u => Merges role u ∧ ok u) eff :=
  eventActs _ hx fun u ⟨⟨hrun, hmerging, hrole⟩, hok⟩ => (native_of hrun.power hrun.native hrun.running).trans (h u hmerging hrole hok)

/-- A row of hardware acts in native mode with firmware running. -/
theorem nativeInHwRow (h : ∀ u, NativeRun u → ok u → f u = eff u)
    (hx : ∀ s dt, exec (row dt) s = .next (s.act dt (State.nativeHw f)) := by exact fun _ _ => rfl) :
    EventActs row (fun u => NativeRun u ∧ ok u) eff :=
  eventActs _ hx fun u ⟨hrun, hok⟩ => (nativeHw_of hrun.power hrun.native).trans (h u hrun hok)

end

/-- Settles O36: each row of the pair reduces to its lemma above, once the power state, the link or the merge lets it act. -/
theorem pairRowsAct : Obligations.PairRowsAct := by
  unfold Obligations.PairRowsAct
  refine ⟨queryRow fun c s h => runPaiStateRead_of_empty h,
    workRow fun c s _ ⟨hlen, hres, hrole, htrained, hmode⟩ =>
      (runPaiResync_of_standby hlen hres hrole htrained (by rcases hmode with h | h <;> simp [h])).trans
        (congrArg (·, CmdRes.later) (if_neg (by rcases hmode with h | h <;> simp [h]))),
    workRow fun c s _ ⟨hlen, hres, hrole, htrained, hmode⟩ =>
      (runPaiResync_of_standby hlen hres hrole htrained (by simp [hmode])).trans (congrArg (·, CmdRes.later) (if_pos hmode)),
    controlRow fun c s _ ⟨hlen, hle, hres, hlock, hsync, hrole⟩ => runPaiRoleSet_same hlen hle hres hlock hsync hrole,
    controlRow fun c s _ ⟨hlen, hr, hres, hlock, hsync, hpair, hother⟩ => runPaiRoleSet_other hlen hr hres hlock hsync hpair hother,
    fun m => controlRow fun c s _ ⟨hlen, hr, hres, hlock, hsync, hnone, hmap⟩ => runPaiRoleSet_joins hlen hr hres hlock hsync hnone hmap,
    fun p x => eventActs (State.hostPacket 2 0x0F03 p) (fun _ _ => rfl) fun u ⟨h, hlen, hres, hrole⟩ =>
      (hostPacket_paiYield h hlen hres (by have := h.paired.2; omega) (by have := h.paired.2; omega) rfl).trans (by rw [if_pos hrole.symm]),
    fun p x => eventActs (State.hostPacket 2 0x0F03 p) (fun _ _ => rfl) fun u ⟨h, hlen, hres, hrole⟩ =>
      (hostPacket_paiYield h hlen hres (by have := h.paired.2; omega) (by have := h.paired.2; omega) rfl).trans (by rw [if_neg (by omega)]),
    fun count => linkedRow (State.pairTick count) fun u htrained hrole hmode => if_pos ⟨hrole, htrained, hmode⟩,
    fun kind index ramp => nativeHwRow (State.pairStopIn kind index ramp true) fun u _ ⟨hrole, htrained, hroom⟩ => pairStopIn_set hrole htrained hroom,
    fun kind index ramp => nativeHwRow (State.pairStopIn kind index ramp false) fun u _ ⟨hrole, htrained⟩ => pairStopIn_release hrole htrained,
    fun role reason hne => linkedRow (State.partnerYields reason) fun u htrained hrole hmode =>
      (partnerYields_of_trained reason (hrole ▸ hne) htrained rfl).trans (if_pos hmode),
    fun role reason hne => linkedRow (State.partnerYields reason) fun u htrained hrole hmode =>
      (partnerYields_of_trained reason (hrole ▸ hne) htrained rfl).trans ((if_neg (by simp [hmode])).trans (if_pos hmode)),
    fun role reason hne => linkedRow (State.partnerYields reason) fun u htrained hrole ⟨hlock, hsync⟩ =>
      (partnerYields_of_trained reason (hrole ▸ hne) htrained rfl).trans ((if_neg hlock).trans (if_neg hsync)),
    fun i => mergesRow (State.pairItem State.deliverItem State.phases i) fun u hmerging hrole ⟨hdue, hnumbered⟩ =>
      (pairItem_held hmerging hrole hnumbered rfl).trans (by rw [hdue]),
    fun typ f m hids => mergesRow (State.pairItem State.deliverItem State.phases (.fold typ f)) fun u hmerging hrole ⟨hdue, howed, hitems, hheld⟩ =>
      pairItem_lastFold hids hmerging hrole hdue howed hitems hheld,
    fun op p k hacc => eventActs (State.native (State.pairItem State.deliverItem State.phases (.cmd op p k))) (fun _ _ => rfl)
      fun u ⟨hrun, hmerging, hrole⟩ => (native_of hrun.power hrun.native hrun.running).trans (pairItem_unnumbered hmerging hrole hacc),
    fun i => mergesRow (State.pairItem State.deliverItem State.phases i) fun u hmerging hrole htaken => pairItem_again hmerging hrole htaken,
    fun typ f => mergesRow (State.pairItem State.deliverItem State.phases (.fold typ f)) fun u hmerging hrole htaken =>
      pairItem_taken hmerging hrole htaken (fun _ _ _ h => nomatch h),
    fun op p k x hacc => mergesRow (State.pairItem State.deliverItem State.phases (.cmd op p k)) fun u hmerging hrole ⟨htaken, hx, hnext⟩ => ?_,
    fun m hids => mergesRow (State.mergeIn m) fun u hmerging hrole hheld =>
      (mergeIn_of_whole hmerging hrole (by rw [hids]; rfl)).trans ((runMerge_nil hids rfl).trans (by rw [hheld])),
    fun m o hids => mergesRow (State.mergeIn m) fun u hmerging hrole hheld =>
      (mergeIn_of_whole hmerging hrole (by rw [hids]; rfl)).trans ((runMerge_nil hids rfl).trans (by rw [hheld])),
    fun m f src q hids => mergesRow (State.mergeIn m) fun u hmerging hrole hitems =>
      mergeIn_of_lacking hmerging hrole (by rw [hids]; exact List.filter_cons_of_pos (lacks_fold hitems)),
    fun m typ f t hids => mergesRow (State.mergeIn m) fun u hmerging hrole ⟨hitems, hheld⟩ =>
      (mergeIn_of_whole hmerging hrole (by rw [hids]; exact List.filter_cons_of_neg (ne_true_of_eq_false (lacks_fold_held hitems)))).trans
        (runMerge_fold hids hitems hheld),
    fun n acc role => mergesRow (State.journalConf n acc) fun u hmerging _ h => journalConf_of_none n acc hmerging h,
    fun n acc role e a x => mergesRow (State.journalConf n acc) fun u hmerging _ ⟨_, hj, hn, hacc, ha, hclose, hx⟩ =>
      journalConf_of_waiting hmerging hj hn hacc ha hclose hx,
    fun inD outD written test role => mergesRow (State.pairDigest inD outD written test) fun u hmerging _ hown => pairDigest_early hmerging hown,
    fun inD outD written test role => mergesRow (State.pairDigest inD outD written test) fun u hmerging _ ⟨hown, hmode, htest⟩ =>
      pairDigest_match hmerging hown hmode htest,
    fun inD outD written test role a b => mergesRow (State.pairDigest inD outD written test) fun u hmerging hrole ⟨hown, hdiffer, hmode, htest⟩ =>
      (pairDigest_mismatch hmerging hown hdiffer hmode htest).trans (by rw [State.mapPai, State.mapPai, hrole]),
    fun inD outD test role n acc => mergesRow (State.pairDigest inD outD true test) fun u hmerging _ ⟨hown, hmode, htest, hcmds⟩ =>
      pairDigest_synced hmerging hown hmode htest hcmds,
    fun passed t => nativeRow (State.mismatchTestDone passed) fun u _ htest => (mismatchTestDone_of_running htest).trans (if_pos (.inr rfl)),
    fun q t hq => nativeRow (State.mismatchTestDone false) fun u _ ⟨hmode, htest⟩ =>
      (mismatchTestDone_of_running htest).trans ((judgeTest_of_both rfl (by decide) hq rfl).trans ((if_pos rfl).trans (unitYield_of_lockstep 2 hmode))),
    fun t => nativeRow (State.mismatchTestDone true) fun u _ ⟨hmode, hrole, htest⟩ =>
      (mismatchTestDone_of_running htest).trans ((judgeTest_of_both rfl (by decide) (by decide) rfl).trans
        ((if_neg (by decide)).trans ((if_pos ⟨rfl, hrole⟩).trans (unitYield_of_lockstep 3 hmode)))),
    fun q t hq => nativeRow (State.mismatchTestDone true) fun u _ ⟨hrole, htest⟩ =>
      (mismatchTestDone_of_running htest).trans ((judgeTest_of_both rfl (by decide) (by omega) rfl).trans
        ((if_neg (by decide)).trans (if_neg (by simp [hrole])))),
    fun eui => linkedRow (State.syncReqIn eui 2 true true) fun u htrained hrole hmode =>
      (syncReqIn_of_trained (by omega) htrained (res := 0) (by rcases hmode with h | h <;> simp [hrole, h]) rfl).trans (if_pos rfl),
    fun eui images keys hbad => linkedRow (State.syncReqIn eui 2 images keys) fun u htrained hrole hmode =>
      (syncReqIn_of_trained (by omega) htrained (res := if images then 3 else 2)
        (by rcases hmode with h | h <;> cases images <;> simp_all) rfl).trans (if_neg (by split <;> decide)),
    fun eui images keys => eventActs (State.native (State.syncReqIn eui 1 images keys)) (fun _ _ => rfl) fun u ⟨hrun, htrained, hrole⟩ =>
      (native_of hrun.power hrun.native hrun.running).trans
        ((syncReqIn_of_trained (by omega) htrained (res := 1) (if_pos (.inr (.inl (by decide)))) rfl).trans (if_neg (by decide))),
    nativeRow (State.syncAnswer 0) fun u _ ⟨hrole, hmode⟩ => (if_neg (copies_of_resync hrole hmode)).trans (if_pos rfl),
    fun r hr => nativeRow (State.syncAnswer r) fun u _ ⟨hrole, hmode⟩ => (if_neg (copies_of_resync hrole hmode)).trans (if_neg hr),
    fun n => nativeRow (State.stateFrame (.boundary n)) fun u _ ⟨hrole, hmode⟩ => if_neg (copies_of_resync hrole hmode),
    fun c => nativeRow (State.stateFrame (.config c)) fun u _ ⟨hrole, hmode⟩ => if_neg (copies_of_resync hrole hmode),
    fun t last j => nativeRow (State.stateFrame (.sessions t last j)) fun u _ ⟨hrole, hmode, hses, hjour⟩ =>
      stateFrame_sessions hrole hmode hses hjour,
    fun t => nativeRow (State.stateFrame (.tasks t)) fun u _ ⟨hrole, hmode⟩ => if_neg (copies_of_resync hrole hmode),
    fun p => nativeRow (State.stateFrame (.pasture p)) fun u _ ⟨hrole, hmode⟩ => if_neg (copies_of_resync hrole hmode),
    fun l => nativeRow (State.stateFrame (.flock l)) fun u _ ⟨hrole, hmode⟩ => if_neg (copies_of_resync hrole hmode),
    fun e a v => nativeRow (State.stateFrame (.gnss e a v)) fun u _ ⟨hrole, hmode⟩ => if_neg (copies_of_resync hrole hmode),
    fun l n k => nativeRow (State.stateFrame (.leap l n k)) fun u _ ⟨hrole, hmode⟩ => if_neg (copies_of_resync hrole hmode),
    fun a t => nativeRow (State.stateFrame (.stops a t)) fun u _ ⟨hrole, hmode⟩ => if_neg (copies_of_resync hrole hmode),
    fun f => nativeRow (State.stateFrame (.fixes f)) fun u _ ⟨hrole, hmode⟩ => if_neg (copies_of_resync hrole hmode),
    fun m n k b => nativeRow (State.stateFrame (.slots m n k b)) fun u _ ⟨hrole, hmode⟩ => if_neg (copies_of_resync hrole hmode),
    fun f => nativeRow (State.stateFrame (.fold f)) fun u _ ⟨hrole, hmode⟩ => if_neg (copies_of_resync hrole hmode),
    fun l0 l1 hlane => nativeHwRow (State.linkTrained l0 l1) fun u _ ⟨htrained, hstays⟩ =>
      (linkTrained_of_lane htrained hlane rfl).trans (if_neg fun ⟨_, hrole, hauto, _⟩ => hstays.elim (· hrole) (· hauto)),
    fun l0 l1 hlane => nativeInHwRow (State.linkTrained l0 l1) fun u hrun ⟨htrained, hrole, hauto, hmode⟩ =>
      (linkTrained_of_lane htrained hlane rfl).trans (if_pos ⟨beq_iff_eq.mpr hrun.running, hrole, hauto, hmode⟩),
    nativeHwRow (State.laneDown 0) (fun u _ ⟨h0, h1⟩ => laneDown_zero h0 h1),
    nativeHwRow (State.laneDown 1) (fun u _ ⟨h0, h1⟩ => laneDown_one h0 h1),
    linkedRow State.linkLost fun u htrained hrole hmode => (linkLost_of_trained htrained (.inl hrole) rfl).trans
      ((if_pos hmode).trans (by rw [if_pos hrole, hrole]; exact rfl)),
    linkedRow State.linkLost fun u htrained hrole hmode => (linkLost_of_trained htrained (.inr hrole) rfl).trans
      ((if_pos hmode).trans (by rw [if_neg (by omega), hrole]; exact congrArg (State.raise0 _ _ _ _) (unitYield_of_lockstep 4 hmode))),
    fun role hr => linkedRow State.linkLost fun u htrained hrole hmode => (linkLost_of_trained htrained (hrole ▸ hr) rfl).trans
      ((if_neg (by simp [hmode])).trans ((if_pos hmode).trans (by rw [hrole]; exact rfl))),
    fun role hr => linkedRow State.linkLost fun u htrained hrole ⟨hlock, hsync⟩ => (linkLost_of_trained htrained (hrole ▸ hr) rfl).trans
      ((if_neg hlock).trans ((if_neg hsync).trans (by rw [hrole]))),
    nativeRow State.partnerSilent fun u _ h => if_pos h,
    nativeRow State.partnerAbsent fun u _ h => if_pos h,
    fun t => nativeRow State.resyncTimeout fun u _ ⟨hmode, hfrom, hdue⟩ => resyncTimeout_of_due hmode hfrom hdue,
    eventActs (State.native State.itemDiscard) (fun _ _ => rfl) fun u hrun =>
      (native_of hrun.power hrun.native hrun.running).trans (itemDiscard_eq u)⟩
  have hid : pairIdOf false true (.cmd op p k) = .numbered p.sess p.acc p.pcrc := if_pos hacc
  refine (pairItem_taken hmerging hrole (hid ▸ htaken) fun op' p' k' h => ?_).trans (by rw [hid]; rfl)
  cases h
  exact takenBefore_of_next hx hnext

end Sys2Proof.Proofs
end

section
/-! Vitrine: keys and slots, the tamper monitor and the noise source. -/

namespace Sys2Proof.Proofs

open Sys2Proof.Machine Sys2Proof.Safety Sys2Proof.Laws

section
variable {s : State} {c : Cmd}

/-! ### Key operations -/

theorem keysShut_of_open (h : s.vit.locked = false) : s.keysShut = none := if_neg (ne_true_of_eq_false h)

/-- What bars a key operation on a ready engine: a slot whose generations are spent, or one in use (R508 to R510). -/
theorem keyOpBar_of_ready {slot typ : Nat} (h : keysReady s) : s.keyOpBar slot typ =
    if typ ≠ 0 then (if s.contentGen slot = State.lastGen then some (Ans.bare 0x1043 0) else none)
    else if s.lnk.robots.any (fun (e : Nat × Robot) => e.2.keySlot == slot && !e.2.legacy) then some (Ans.bare 0x1044 0)
    else if slot = 0 ∧ s.pai.role ≠ 0 then some (Ans.bare stDenied 0x000C)
    else none := by
  obtain ⟨hlocked, hroot, hlock, hsync⟩ := h
  rw [State.keyOpBar, keysShut_of_open hlocked]
  exact (if_neg (ne_true_of_eq_false hroot)).trans (if_neg (by simp [hlock, hsync]))

/-- VIT_KEY_LOAD of a slot that may take a key: the wrapped key and its check value decide (R508). -/
theorem runVitKeyLoad_of_ok (h : keyLoadOk c.params s) : s.runVitKeyLoad c =
    match Config.unwrapLoad (slice c.params 4 64) (slice c.params 68 24) with
    | none => (s, refuse 0x1040 0)
    | some k => if Config.kcv k % 2 ^ 32 ≠ u32 c.params 92 then (s, refuse 0x1041 0)
        else (keyOpWaits c.sess c.acc (u16 c.params 0) (u8 c.params 2) k (u32 c.params 92) (s.useKey 2), .later) := by
  obtain ⟨hlen, hslot, htyp, htyp', hres, hpair, hready, hgen⟩ := h
  have hbar : s.keyOpBar (u16 c.params 0) (u8 c.params 2) = none := by
    rw [keyOpBar_of_ready hready]
    exact (if_pos (by omega)).trans (if_neg hgen)
  have hform : ¬(512 ≤ u16 c.params 0 ∨ u8 c.params 2 = 0 ∨ 3 < u8 c.params 2 ∨ u8 c.params 3 ≠ 0 ∨
      (u8 c.params 2 = 2) ≠ (u16 c.params 0 = 0)) := by
    have hsame : (u8 c.params 2 = 2) = (u16 c.params 0 = 0) := propext hpair
    simp only [hsame, ne_eq, not_true_eq_false, or_false]
    omega
  refine (if_neg (not_not_intro hlen)).trans ((if_neg hform).trans ?_)
  rw [hbar]
  cases Config.unwrapLoad (slice c.params 4 64) (slice c.params 68 24) <;> rfl

theorem runVitKeyErase_of_ok (hlen : c.params.length = 4) (hslot : u16 c.params 0 < 512) (hres : u16 c.params 2 = 0) (hready : keysReady s)
    (hfree : ∀ e ∈ s.lnk.robots, e.2.keySlot ≠ u16 c.params 0 ∨ e.2.legacy = true) (hfold : u16 c.params 0 = 0 → s.pai.role = 0) :
    s.runVitKeyErase c = (keyOpWaits c.sess c.acc (u16 c.params 0) 0 0 0 s, .later) := by
  have hused : s.lnk.robots.any (fun (e : Nat × Robot) => e.2.keySlot == u16 c.params 0 && !e.2.legacy) = false :=
    List.any_eq_false.mpr fun e he => by rcases hfree e he with h | h <;> simp [h]
  have hbar : s.keyOpBar (u16 c.params 0) 0 = none := by
    rw [keyOpBar_of_ready hready]
    exact (if_neg (not_not_intro rfl)).trans ((if_neg (ne_true_of_eq_false hused)).trans (if_neg fun ⟨hzero, hrole⟩ => hrole (hfold hzero)))
  refine (if_neg (not_not_intro hlen)).trans ((if_neg (by omega)).trans ?_)
  rw [hbar]
  rfl

theorem runVitSlotRead_of_ok (hlen : c.params.length = 4) (hlow : 1 ≤ u16 c.params 2) (hhigh : u16 c.params 2 < 256)
    (hend : u16 c.params 0 + u16 c.params 2 ≤ 512) (hlocked : s.vit.locked = false) (hroot : s.vit.rootBad = false) {t : State}
    (ht : t = (List.range (u16 c.params 2)).foldl (fun s i => s.readSlot (u16 c.params 0 + i)) s) : s.runVitSlotRead c =
      (t, .fin (Ans.ok ((List.range (u16 c.params 2)).flatMap (fun i => t.slotRecord (u16 c.params 0 + i))))) := by
  subst ht
  refine (if_neg (not_not_intro hlen)).trans ((if_neg (by omega)).trans ?_)
  rw [keysShut_of_open hlocked]
  exact if_neg (ne_true_of_eq_false hroot)

theorem runVitAttest_of_ok (hlen : c.params.length = 4 + u16 c.params 0) (hlow : 16 ≤ u16 c.params 0) (hhigh : u16 c.params 0 ≤ 64)
    (hres : u16 c.params 2 = 0) (hlocked : s.vit.locked = false) (hroot : s.vit.rootBad = false) {t : Bytes}
    (ht : t = (s.useKey 1).statement (c.params.drop 4)) : s.runVitAttest c =
      (s.useKey 1, .fin (Ans.ok (t ++ (padTo 64 0 (Config.attestSig t)).take 64))) := by
  subst ht
  refine (if_neg (by omega)).trans ((if_neg (not_not_intro hres)).trans ?_)
  rw [keysShut_of_open hlocked]
  exact if_neg (ne_true_of_eq_false hroot)

theorem runVitTamperClear_of_quiet (hlen : c.params.length = 4) (hres : u32 c.params 0 = 0) (hquiet : s.vit.active = []) :
    s.runVitTamperClear c = (s.mapVit (fun v => { v with tamper := 0 }), .fin (Ans.ok [])) :=
  (if_neg (not_not_intro hlen)).trans ((if_neg (not_not_intro hres)).trans (if_neg (not_not_intro hquiet)))

/-! ### The tamper monitor -/

/-- A source that is enabled stops alarming (R514). -/
theorem tamperAlarm_ends {src : Nat} (hpower : s.sys.power ≠ .off) (hon : s.tamperOn src = true) :
    s.tamperAlarm src false = s.mapVit (fun v => { v with active := v.active.filter (fun k => k != src) }) :=
  (if_neg (by simp [hpower, hon])).trans (if_pos rfl)

/-- A source alarms in Run: the event says so, and each entry that the monitor holds for the level is applied (R513 to R515). -/
theorem tamperAlarm_of_run {src : Nat} (hrun : FwRun s) (hon : s.tamperOn src = true) (hnew : s.vit.active.contains src = false) :
    s.tamperAlarm src true = (s.vit.orders.filter (fun (e : Nat × Nat) => decide (field e.2 16 8 ≤ s.tamperLevel src))).foldl
      (fun s (e : Nat × Nat) =>
        if s.zeroedFor (field e.2 8 8) then s
        else
          let s := s.hwRemedy e.2
          if s.fwRuns then s.remedyApplied e.1 else s.mapVit (fun v => { v with applied := v.applied ++ [e.1] })) (alarmed src s) := by
  have hstate : s.tamperState = 0 := by simp [State.tamperState, hrun.power, hrun.running]
  refine (if_neg (by simp [hrun.power, hon])).trans ((if_neg Bool.noConfusion).trans ((if_neg (ne_true_of_eq_false hnew)).trans
    ((if_pos hrun.power).trans ?_)))
  rw [hstate]
  rfl

/-- In Backup the alarm is kept, to be reported at the next boot (R517). -/
theorem tamperAlarm_of_backup {src : Nat} (hpower : s.sys.power = .backup) (hon : s.tamperOn src = true) (hnew : s.vit.active.contains src = false)
    (horders : s.vit.orders = []) : s.tamperAlarm src true = s.mapVit (fun v => { v with
      active := v.active ++ [src], tamper := max v.tamper (s.tamperLevel src), alarms := inc32 v.alarms
      late := v.late ++ [⟨src, s.tamperLevel src, 2, []⟩] }) := by
  have hstate : s.tamperState = 2 := by simp [State.tamperState, hpower]
  refine (if_neg (by simp [hpower, hon])).trans ((if_neg Bool.noConfusion).trans ((if_neg (ne_true_of_eq_false hnew)).trans
    ((if_neg (by simp [hpower])).trans ?_)))
  rw [hstate, horders]
  rfl

theorem alarmed_fw (src : Nat) (s : State) : (alarmed src s).sys.fw = s.sys.fw := (onlyRaises_raise0 ..).fw

theorem alarmed_vit (src : Nat) (s : State) : (alarmed src s).vit = { s.vit with
    active := s.vit.active ++ [src], tamper := max s.vit.tamper (s.tamperLevel src), alarms := inc32 s.vit.alarms } := (onlyRaises_raise0 ..).vit

theorem unmatched_fw {f : State → State} (h : (f s).sys.fw = s.sys.fw) : (s.unmatched f).sys.fw = s.sys.fw := h

/-- With no key operation at work, zeroizing leaves the firmware as it is. -/
theorem zeroizeWorking_fw (hops : s.vit.ops = []) : s.zeroizeWorking.sys.fw = s.sys.fw := by
  have hclear : s.clearKeys.sys.fw = s.sys.fw := by
    rw [State.clearKeys, hops]
    rfl
  rw [State.zeroizeWorking]
  split
  · rfl
  · exact (onlyRaises_raise0 ..).fw.trans hclear

/-- The one entry that the monitor holds asks for ZEROIZE_WORKING, and the keys are not locked: the remedy is applied and reported (R515). -/
theorem tamperAlarm_zeroizes {src i o : Nat} (hremedy : field o 8 8 = 6) (hrun : FwRun s) (hon : s.tamperOn src = true)
    (hnew : s.vit.active.contains src = false) (horders : s.vit.orders = [(i, o)]) (hlevel : field o 16 8 ≤ s.tamperLevel src)
    (hlocked : s.vit.locked = false) (hops : s.vit.ops = []) :
    s.tamperAlarm src true = State.remedyApplied i (State.unmatched State.zeroizeWorking (alarmed src s)) := by
  have hhits : s.vit.orders.filter (fun (e : Nat × Nat) => decide (field e.2 16 8 ≤ s.tamperLevel src)) = [(i, o)] := by
    simp [horders, hlevel]
  have hopen : (alarmed src s).zeroedFor (field o 8 8) = false := by simp [State.zeroedFor, alarmed_vit, hlocked]
  have hremedies : (alarmed src s).hwRemedy o = State.unmatched State.zeroizeWorking (alarmed src s) := by
    simp [State.hwRemedy, hremedy]
  have hops' : (alarmed src s).vit.ops = [] := by rw [alarmed_vit]; exact hops
  have hfw : (State.unmatched State.zeroizeWorking (alarmed src s)).fwRuns = true := by
    have h := (unmatched_fw (zeroizeWorking_fw hops')).trans ((alarmed_fw src s).trans hrun.running)
    simp [State.fwRuns, h]
  rw [tamperAlarm_of_run hrun hon hnew, hhits]
  simp only [List.foldl_cons, List.foldl_nil, hopen, hremedies, hfw, if_true, Bool.false_eq_true, if_false]

end

/-- VIT_KEY_LOAD is answered as its wrapped key decides. -/
theorem hostPacket_vitKeyLoad {s : State} {p : Pkt} {x : Session} (h : HostReady s opVitKeyLoad p x) (he : Expected s opVitKeyLoad.code p x)
    (hc : Credit s opVitKeyLoad p) {t : State} (ht : t = heardNumbered 0x1000 p s) (hok : keyLoadOk p.body t) :
    State.hostPacket 2 0x1000 p s = match Config.unwrapLoad (slice p.body 4 64) (slice p.body 68 24) with
      | none => t.refusePkt 0x1000 p (Ans.bare 0x1040 0)
      | some k =>
        if Config.kcv k % 2 ^ 32 = u32 p.body 92 then
          answerWork opVitKeyLoad p x none (keyOpWaits p.sess p.acc (u16 p.body 0) (u8 p.body 2) k (u32 p.body 92) (t.useKey 2))
        else t.refusePkt 0x1000 p (Ans.bare 0x1041 0) := by
  subst ht
  have hrun : opVitKeyLoad.run (cmdOf opVitKeyLoad p x) (heardNumbered opVitKeyLoad.code p s) = _ := runVitKeyLoad_of_ok (c := cmdOf opVitKeyLoad p x) hok
  refine (hostPacket_work h rfl (by decide) (by decide) he rfl hc).trans ?_
  rw [hrun]
  change (match (match Config.unwrapLoad (slice p.body 4 64) (slice p.body 68 24) with
    | none => (heardNumbered 0x1000 p s, refuse 0x1040 0)
    | some k => if Config.kcv k % 2 ^ 32 ≠ u32 p.body 92 then (heardNumbered 0x1000 p s, refuse 0x1041 0)
        else (keyOpWaits p.sess p.acc (u16 p.body 0) (u8 p.body 2) k (u32 p.body 92) ((heardNumbered 0x1000 p s).useKey 2), .later)) with
    | (t, .refuse a) => t.refusePkt 0x1000 p a
    | (t, .fin a) => answerWork opVitKeyLoad p x (some a) t
    | (t, _) => answerWork opVitKeyLoad p x none t) = _
  cases Config.unwrapLoad (slice p.body 4 64) (slice p.body 68 24) with
  | none => rfl
  | some k =>
    by_cases hk : Config.kcv k % 2 ^ 32 = u32 p.body 92
    · simp only [hk, ne_eq, not_true_eq_false, if_false, if_true]
    · simp only [hk, ne_eq, not_false_eq_true, if_false, if_true, refuse]

/-- Settles O37: Vitrine's opcodes, the tamper monitor, the key mask and the noise source act as stated. -/
theorem vitrineRowsAct : Obligations.VitrineRowsAct := by
  unfold Obligations.VitrineRowsAct
  refine ⟨fun s dt p x h he hc hok => congrArg Host.Outcome.next (act_congr (hostPacket_vitKeyLoad h he hc rfl hok)),
    workRow fun c s _ ⟨hlen, hslot, hres, hready, hfree, hfold⟩ => runVitKeyErase_of_ok hlen hslot hres hready hfree hfold,
    queryRow fun c s ⟨hlen, hlow, hhigh, hend, hlocked, hroot⟩ => runVitSlotRead_of_ok hlen hlow hhigh hend hlocked hroot rfl,
    queryRow fun c s ⟨hlen, hlow, hhigh, hres, hlocked, hroot⟩ => runVitAttest_of_ok hlen hlow hhigh hres hlocked hroot rfl,
    queryRow fun c s h => if_neg (by simp [h]),
    queryRow fun c s h => if_neg (by simp [h]),
    workRow fun c s _ ⟨hlen, hres, hquiet⟩ => runVitTamperClear_of_quiet hlen hres hquiet,
    fun src hsrc => eventActs (State.tamperAlarm src true) (fun _ _ => if_pos hsrc) fun u ⟨hrun, hon, hnew, horders⟩ =>
      (tamperAlarm_of_run hrun hon hnew).trans (by rw [horders]; rfl),
    fun src i o hsrc hremedy => eventActs (State.tamperAlarm src true) (fun _ _ => if_pos hsrc)
      fun u ⟨hrun, hon, hnew, horders, hlevel, hlocked, hops⟩ => tamperAlarm_zeroizes hremedy hrun hon hnew horders hlevel hlocked hops,
    fun src hsrc => eventActs (State.tamperAlarm src false) (fun _ _ => if_pos hsrc) fun u ⟨hpower, hon⟩ => tamperAlarm_ends hpower hon,
    fun src hsrc => eventActs (State.tamperAlarm src true) (fun _ _ => if_pos hsrc) fun u ⟨hpower, hon, hnew, horders⟩ =>
      tamperAlarm_of_backup hpower hon hnew horders,
    eventActs State.keyRemask (fun _ _ => rfl) fun u ⟨hsound, hpower⟩ => if_neg (by simp [hsound, hpower]),
    eventActs State.keyRemask (fun _ _ => rfl) fun u hfault => if_pos (.inl hfault),
    eventActs State.rngFault (fun _ _ => rfl) fun u ⟨hpower, hsound⟩ => if_neg (by simp [hsound, hpower])⟩

end Sys2Proof.Proofs
end

section
/-! Updates: the lock, download, verification, activation, handover and the trial. -/

namespace Sys2Proof.Proofs

open Sys2Proof.Machine Sys2Proof.Safety Sys2Proof.Laws

/-! ### What leaves the update block alone -/

section
variable {s : State}

theorem upd_foldl {α : Type} {f : State → α → State} (h : ∀ s a, (f s a).upd = s.upd) (l : List α) (s : State) : (l.foldl f s).upd = s.upd := by
  induction l generalizing s with
  | nil => rfl
  | cons a l ih => exact (ih _).trans (h s a)

theorem raiseD_upd (code : Nat) (cls : Cls) (level kind idx data : Nat) (s : State) : (s.raiseD code cls level kind idx data).upd = s.upd :=
  (onlyRaises_raiseD code cls level kind idx data s).upd

theorem raise_upd (code : Nat) (cls : Cls) (level kind idx : Nat) (s : State) : (s.raise code cls level kind idx).upd = s.upd :=
  (onlyRaises_raise code cls level kind idx s).upd

theorem mapRobot_upd (r : Nat) (f : Robot → Robot) (s : State) : (s.mapRobot r f).upd = s.upd := by
  rw [State.mapRobot]
  cases Tab.find? r s.lnk.robots <;> rfl

theorem sendZones_upd (r gid : Nat) (zs : List Nat) (s : State) : (s.sendZones r gid zs).upd = s.upd := by
  have hparts (l : List (List Nat × Nat)) (f : List Nat × Nat → Bytes) : (l.foldl (fun s x => s.sendElem r 0x38 (f x)) s).upd = s.upd :=
    upd_foldl (fun s _ => mapRobot_upd r _ s) l s
  exact hparts _ _

theorem convertNow_upd (r : Nat) (breach : Bool) (s : State) : (s.convertNow r breach).upd = s.upd := by
  rw [State.convertNow, State.convertRobot]
  dsimp only
  split
  · rfl
  · split
    · rfl
    · exact sendZones_upd ..

theorem confirmStops_upd (s : State) : s.confirmStops.upd = s.upd := by
  rw [State.confirmStops]
  refine upd_foldl (fun s w => ?_) _ s
  dsimp only
  split
  · rfl
  · exact raise_upd ..

theorem noteForward_upd (src kind : Nat) (s : State) : (s.noteForward src kind).upd = s.upd := by
  rw [State.noteForward]
  split <;> rfl

theorem startFrames_upd (s : State) : s.startFrames.upd = s.upd := by
  rw [State.startFrames]
  split <;> rfl

theorem ite_upd {p : Prop} [Decidable p] {a b : State} (ha : a.upd = s.upd) (hb : b.upd = s.upd) : (if p then a else b).upd = s.upd := by
  split
  · exact ha
  · exact hb

theorem noteCover_upd (s : State) : s.noteCover.upd = s.upd :=
  upd_foldl (f := fun (s : State) r => s.mapPr r (fun x => { x with stopAt := some s.rtNow })) (fun _ _ => rfl) _ s

theorem notePast_upd (s : State) : s.notePast.upd = s.upd := rfl

theorem axesNoteStop_upd (s : State) : s.axesNoteStop.upd = s.upd := rfl

theorem putStop_upd (src kind index ramp : Nat) (s : State) : (s.putStop src kind index ramp).upd = s.upd := by
  have hfold (l : List Nat) (t : State) : (l.foldl (fun s r => s.convertNow r false) t).upd = t.upd :=
    upd_foldl (fun t r => convertNow_upd r false t) l t
  rw [State.putStop]
  simp only [apply_ite State.upd, confirmStops_upd, noteForward_upd, hfold, axesNoteStop_upd, startFrames_upd, State.emit_upd, raiseD_upd,
    State.mapCrk_upd, notePast_upd, ite_self]

theorem dropStop_upd (src kind index : Nat) (s : State) : (s.dropStop src kind index).upd = s.upd := by
  rw [State.dropStop]
  simp only [apply_ite State.upd, noteForward_upd, State.emit_upd, raiseD_upd, State.mapCrk_upd, notePast_upd, noteCover_upd, ite_self]

theorem applyStop_upd (x : StopChange) (s : State) : (s.applyStop x).upd = s.upd :=
  ite_upd (putStop_upd ..) (dropStop_upd ..)

theorem stopsDue_upd (s : State) : s.stopsDue.upd = s.upd := by
  have hfold (l : List (Nat × StopChange)) (t : State) : (l.foldl (fun s x => State.applyStop x.2 { s with now := x.1 }) t).upd = t.upd :=
    upd_foldl (f := fun (s : State) (x : Nat × StopChange) => State.applyStop x.2 { s with now := x.1 })
      (fun t x => applyStop_upd x.2 { t with now := x.1 }) l t
  rw [State.stopsDue]
  simp only [apply_ite State.upd, hfold, State.mapCrk_upd, ite_self]

/-- Time that passes leaves the update block alone. -/
theorem before_upd (dt : Nat) (s : State) : (s.before dt).upd = s.upd :=
  (stopsDue_upd _).trans (advance_upd ..)

end

section
variable {s : State} {c : Cmd}

/-! ### The lock -/

theorem lockUsed_of_none (h : s.upd.lock = none) : s.lockUsed c = s := by
  have hsame : Option.map (fun l : UpdLock => if l.sess = c.sess then { l with last := s.now } else l) s.upd.lock = s.upd.lock := by rw [h]; rfl
  rw [State.lockUsed, State.mapU, hsame]

theorem lockUsed_of_holder {l : UpdLock} (h : s.upd.lock = some l) (hsess : l.sess = c.sess) :
    s.lockUsed c = s.mapU (fun y => { y with lock := some { l with last := s.now } }) := by
  rw [State.lockUsed, State.mapU, State.mapU, h, Option.map_some, if_pos hsess]

/-- The holder of the lock is not refused (R525). -/
theorem lockRefusal_of_holder (need : Bool) (h : ∃ l, s.upd.lock = some l ∧ l.sess = c.sess) : (s.lockUsed c).lockRefusal need c = none := by
  obtain ⟨l, hlock, hsess⟩ := h
  rw [lockUsed_of_holder hlock hsess]
  exact if_pos hsess

theorem lockRefusal_of_free (h : s.upd.lock = none) : s.lockRefusal false c = none := by
  rw [State.lockRefusal, h]
  rfl

theorem endLock_of_held {l : UpdLock} (level : Nat) (h : s.upd.lock = some l) : s.endLock level = lockEnded level s := by
  rw [State.endLock, h]
  rfl

theorem runUpdOpen_of_free {x : Session} (hlen : c.params.length = 4) (hres : u32 c.params 0 = 0) (hfree : s.upd.lock = none)
    (hx : s.session c.sess = some x) :
    s.runUpdOpen c = (s.mapU (fun y => { y with lock := some ⟨c.sess, c.via, x.tag, s.now⟩ }), .fin (Ans.ok [])) := by
  rw [State.runUpdOpen, lockUsed_of_none hfree]
  refine (if_neg (not_not_intro hlen)).trans ((if_neg (not_not_intro hres)).trans ?_)
  rw [lockRefusal_of_free hfree]
  refine (if_neg (by simp [hfree])).trans ?_
  rw [hx]
  rfl

theorem runUpdOpen_of_holder {l : UpdLock} (hlen : c.params.length = 4) (hres : u32 c.params 0 = 0) (hlock : s.upd.lock = some l)
    (hsess : l.sess = c.sess) :
    s.runUpdOpen c = (s.mapU (fun y => { y with lock := some { l with last := s.now } }), .fin (Ans.bare stOk 1)) := by
  refine (if_neg (not_not_intro hlen)).trans ((if_neg (not_not_intro hres)).trans ?_)
  rw [lockRefusal_of_holder false ⟨l, hlock, hsess⟩, lockUsed_of_holder hlock hsess]
  rfl

theorem runUpdClose_of_holder (hlen : c.params.length = 4) (hres : u32 c.params 0 = 0) (hholds : holdsLock c s) :
    s.runUpdClose c = (lockEnded 1 s, .fin (Ans.ok [])) := by
  obtain ⟨⟨l, hlock, hsess⟩, hact⟩ := hholds
  refine (if_neg (not_not_intro hlen)).trans ((if_neg (not_not_intro hres)).trans ?_)
  rw [lockRefusal_of_holder true ⟨l, hlock, hsess⟩, lockUsed_of_holder hlock hsess]
  exact (if_neg (by simp [hact])).trans (congrArg (·, CmdRes.fin (Ans.ok [])) (endLock_of_held (l := { l with last := s.now }) 1 rfl))

theorem updIdle_of_due {l : UpdLock} (hlock : s.upd.lock = some l) (hdue : s.prm 0x1100 * 1000000000 ≤ s.now - l.last) :
    s.updIdle = lockEnded 2 s := by
  rw [State.updIdle, hlock]
  exact (if_pos hdue).trans (endLock_of_held 2 hlock)

theorem updIdle_of_recent {l : UpdLock} (hlock : s.upd.lock = some l) (hrecent : s.now - l.last < s.prm 0x1100 * 1000000000) :
    s.updIdle = s := by
  rw [State.updIdle, hlock]
  exact if_neg (Nat.not_le.mpr hrecent)

/-! ### Download and verification -/

theorem runUpdBegin_of_holder (hlen : c.params.length = 8) (hlow : 1 ≤ u8 c.params 0) (hhigh : u8 c.params 0 ≤ 4) (hres : rd c.params 1 3 = 0)
    (hholds : holdsLock c s) (htrial : s.upd.trial = none ∨ (s.imgBank (u8 c.params 0) (s.otherBank (u8 c.params 0))).state ≠ .confirmed)
    (hmin : 128 < u32 c.params 4) (hmax : u32 c.params 4 ≤ bankSize (u8 c.params 0)) (hfw : s.sys.fw = .running) :
    s.runUpdBegin c =
      (((s.lockUsed c).putBank (u8 c.params 0) (s.otherBank (u8 c.params 0)) ⟨.writing, u32 c.params 4, [], false⟩).mapU
        (fun y => { y with erasing := y.erasing ++ [(u8 c.params 0, c.sess, c.acc)] }), .later) := by
  obtain ⟨hlock, hact⟩ := hholds
  have hrom : ((s.lockUsed c).sys.fw == Fw.recovery) = false := by
    rw [show (s.lockUsed c).sys = s.sys from rfl, hfw]
    rfl
  have hkept : ¬((s.lockUsed c).upd.trial.isSome = true ∧
      ((s.lockUsed c).imgBank (u8 c.params 0) ((s.lockUsed c).otherBank (u8 c.params 0))).state = .confirmed) := by
    rintro ⟨hsome, hconf⟩
    rcases htrial with h | h
    · have hnone : (s.lockUsed c).upd.trial = none := h
      simp [hnone] at hsome
    · exact h hconf
  have hidle : ¬(s.lockUsed c).upd.act.isSome = true := by
    have hnone : (s.lockUsed c).upd.act = none := hact
    simp [hnone]
  refine (if_neg (not_not_intro hlen)).trans ((if_neg (by omega)).trans ?_)
  rw [lockRefusal_of_holder true hlock]
  refine (if_neg hkept).trans ((if_neg hidle).trans ((if_neg (by omega)).trans ((if_neg (ne_true_of_eq_false hrom)).trans ?_)))
  rw [hrom]
  rfl

theorem bankEraseDone_of_one {p n acc : Nat} (h : s.upd.erasing = [(p, n, acc)]) : s.bankEraseDone p =
    ((s.mapU (fun y => { y with erasing := [] })).putBank p (s.otherBank p) { s.imgBank p (s.otherBank p) with
      erased := true }).completeOk n acc (le 1 (s.otherBank p) ++ zeros 3) := by
  have hmine : s.upd.erasing.filter (fun (e : Nat × Nat × Nat) => e.1 == p) = [(p, n, acc)] := by simp [h]
  have hrest : s.mapU (fun u => { u with erasing := u.erasing.filter (fun (e : Nat × Nat × Nat) => e.1 != p) }) =
      s.mapU (fun y => { y with erasing := [] }) := by
    rw [State.mapU, State.mapU, h]
    simp
  rw [State.bankEraseDone]
  simp only [hmine, hrest, List.cons_ne_nil, if_false, List.foldl_cons, List.foldl_nil]
  rfl

theorem runUpdWrite_of_holder {w : ImgBank} (hw : w = s.imgBank (u8 c.params 0) (s.otherBank (u8 c.params 0)))
    (hlen : c.params.length = 8 + u16 c.params 2) (hlow : 1 ≤ u8 c.params 0) (hhigh : u8 c.params 0 ≤ 4) (hres : u8 c.params 1 = 0)
    (hmin : 1 ≤ u16 c.params 2) (hmax : u16 c.params 2 ≤ 4064) (hholds : holdsLock c s) (hnext : u32 c.params 4 = w.data.length)
    (hfits : w.data.length + u16 c.params 2 ≤ w.len) : s.runUpdWrite c =
      ((s.lockUsed c).putBank (u8 c.params 0) (s.otherBank (u8 c.params 0)) { w with
        data := w.data ++ c.params.drop 8
        state := if (w.data ++ c.params.drop 8).length = w.len then .written else w.state }, .fin (Ans.ok [])) := by
  subst hw
  refine (if_neg (by omega)).trans ((if_neg (by omega)).trans ?_)
  rw [lockRefusal_of_holder true hholds.1]
  exact (if_neg (not_not_intro hnext)).trans (if_neg (Nat.not_lt.mpr hfits))

theorem runUpdVerify_of_free (hlen : c.params.length = 4) (hlow : 1 ≤ u8 c.params 0) (hhigh : u8 c.params 0 ≤ 4) (hres : rd c.params 1 3 = 0)
    (hfree : s.upd.lock = none) {k : Nat} (hk : k = s.otherBank (u8 c.params 0)) {d : Bytes} (hd : d = (s.imgBank (u8 c.params 0) k).data) :
    s.runUpdVerify c = (s, .fin (Ans.ok
      (le 1 (s.verifyPart (u8 c.params 0) (imgMajor d == imgMajor (s.imgBank 1 (s.runBank 1)).data || s.majorOk 1 15) true) ++
        le 1 k ++ le 2 (imgEpoch d) ++ le 4 (imgVersion d)))) := by
  subst hk hd
  rw [State.runUpdVerify, lockUsed_of_none hfree]
  refine (if_neg (not_not_intro hlen)).trans ((if_neg (by omega)).trans ?_)
  rw [lockRefusal_of_free hfree]
  rfl

/-! ### Activation -/

/-- Of an activation at reset every part of the mask is verified, without the handover test (R529, R530). -/
theorem activationFails_head (mask : Nat) (s : State) :
    (((List.range 4).map (· + 1)).filterMap (fun p =>
      if bit mask (p - 1) then
        let r := s.verifyPart p (s.majorOk 1 mask) (1 == 1 || s.handOk p)
        if r = 0 then none else some (p * 256 + r)
      else none)).head? = activationFault mask s := by
  rw [activationFault, List.filterMap_filter]
  rfl

theorem runUpdActivate_atReset (hlen : c.params.length = 4) (hlow : 1 ≤ u8 c.params 0) (hhigh : u8 c.params 0 < 16) (hmode : u8 c.params 1 = 1)
    (hres : u16 c.params 2 = 0) (hholds : holdsLock c s) (htrial : s.upd.trial = none) (hfw : s.sys.fw = .running) :
    s.runUpdActivate c = match activationFault (u8 c.params 0) (s.lockUsed c) with
      | some d => (s.lockUsed c, refuse 0x1140 d)
      | none => ((s.lockUsed c).mapU (fun y => { y with
          act := some ⟨c.sess, c.acc, handOrder (u8 c.params 0), 0, 0, none, s.now, true, []⟩ }), .later) := by
  obtain ⟨hlock, hact⟩ := hholds
  have hfresh : ¬(s.lockUsed c).upd.trial.isSome = true := by
    have hnone : (s.lockUsed c).upd.trial = none := htrial
    simp [hnone]
  have hidle : ¬(s.lockUsed c).upd.act.isSome = true := by
    have hnone : (s.lockUsed c).upd.act = none := hact
    simp [hnone]
  have hrom : ¬(s.lockUsed c).sys.fw = .recovery := by
    rw [show (s.lockUsed c).sys = s.sys from rfl, hfw]
    exact Fw.noConfusion
  refine (if_neg (not_not_intro hlen)).trans ((if_neg (by omega)).trans ((if_neg (by omega)).trans ?_))
  rw [lockRefusal_of_holder true hlock]
  refine (if_neg hfresh).trans ((if_neg hidle).trans ?_)
  rw [hmode]
  dsimp only
  rw [activationFails_head]
  cases activationFault (u8 c.params 0) (s.lockUsed c) with
  | some d => rfl
  | none => exact (if_neg (by omega)).trans ((if_neg (by omega)).trans (if_neg hrom))

/-- UPD_ACTIVATE at reset is refused with the first part that fails, or waits for the boundary (R530). -/
theorem hostPacket_updActivate {p : Pkt} {x : Session} (h : HostReady s opUpdActivate p x) (he : Expected s opUpdActivate.code p x)
    (hc : Credit s opUpdActivate p) (hlen : p.body.length = 4) (hlow : 1 ≤ u8 p.body 0) (hhigh : u8 p.body 0 < 16) (hmode : u8 p.body 1 = 1)
    (hres : u16 p.body 2 = 0) (hholds : holdsLock (cmdOf opUpdActivate p x) (heardNumbered 0x1104 p s)) (htrial : s.upd.trial = none) {t : State}
    (ht : t = (heardNumbered 0x1104 p s).lockUsed (cmdOf opUpdActivate p x)) :
    State.hostPacket 2 0x1104 p s = match activationFault (u8 p.body 0) t with
      | some d => t.refusePkt 0x1104 p (Ans.bare 0x1140 d)
      | none => answerWork opUpdActivate p x none (t.mapU (fun y => { y with
          act := some ⟨p.sess, p.acc, handOrder (u8 p.body 0), 0, 0, none, s.now, true, []⟩ })) := by
  subst ht
  have hupd : (heardNumbered 0x1104 p s).upd.trial = none := by simpa [heardNumbered, heard] using htrial
  have hfw : (heardNumbered 0x1104 p s).sys.fw = .running := by simpa using h.running
  have hnow : (heardNumbered 0x1104 p s).now = s.now := by simp [heardNumbered, heard]
  have hrun : opUpdActivate.run (cmdOf opUpdActivate p x) (heardNumbered opUpdActivate.code p s) = _ :=
    runUpdActivate_atReset (s := heardNumbered 0x1104 p s) (c := cmdOf opUpdActivate p x) hlen hlow hhigh hmode hres hholds hupd hfw
  refine (hostPacket_work h rfl (by decide) (by decide) he rfl hc).trans ?_
  rw [hrun, hnow, show (cmdOf opUpdActivate p x).params = p.body from rfl]
  cases activationFault (u8 p.body 0) ((heardNumbered 0x1104 p s).lockUsed (cmdOf opUpdActivate p x)) <;> rfl

/-! ### Handover -/

theorem handoverPause_gnss {us n : Nat} {a : Activation} (hact : s.upd.act = some a) (hstage : a.stage = some .gnss) :
    s.handoverPause 4 n us = ((((s.mapGns (fun g => { g with cmc := [], beta := (none, none), rxPrev := none })).flipPart 4 true).raise0
      0x1103 .notice 4 (min us 0xFFFFFFFF + n * 4294967296)).updBoundary false) := by
  rw [State.handoverPause, hact]
  dsimp only
  rw [hstage]
  rfl

theorem handoverPause_chain {us n : Nat} {a : Activation} (hact : s.upd.act = some a) (hstage : a.stage = some (.chainLoad n)) :
    s.handoverPause 3 n us = (((s.chainMove (a.moved.map (fun r => (r, n)))).mapAct (fun y => { y with
      stage := some (.chainBack n), since := s.now })).raise0 0x1103 .notice 3 (min us 0xFFFFFFFF + n * 4294967296)) := by
  rw [State.handoverPause, hact]
  dsimp only
  rw [hstage]
  exact if_pos rfl

theorem handoverFail_fw {n : Nat} {again : Bool} {a : Activation} (hact : s.upd.act = some a) (hstage : a.stage = some .pauseFw)
    (hdue : 3 * s.tickNs ≤ s.now - a.since) :
    s.handoverFail 1 n again = (s.mapSys (fun y => { y with fw := .running })).endActivation ⟨0x1146, 1, []⟩ := by
  simp only [State.handoverFail, hact, hstage, if_pos hdue]

theorem handoverFail_chain {n : Nat} {a : Activation} (hact : s.upd.act = some a) (hstage : a.stage = some (.chainLoad n)) :
    s.handoverFail 3 n true = ((s.mapAct (fun y => { y with stage := none })).chainFault n 3).endActivation ⟨0x1146, 3, []⟩ := by
  rw [State.handoverFail, hact]
  dsimp only
  rw [hstage]
  exact if_pos rfl

/-- A part that flips has its other bank as the trial (R531, R535). -/
theorem flipPart_trial {p : Nat} (runs : Bool) (hlow : 1 ≤ p) (hbanks : p ≤ s.upd.banks.length) :
    ((s.flipPart p runs).imgBank p (s.otherBank p)).state = .trial := by
  have hin : p - 1 < s.upd.banks.length := by omega
  have hbank : (s.flipPart p runs).upd.banks = modAt (p - 1) (fun x => if s.otherBank p = 0
      then ({ s.imgBank p (s.otherBank p) with state := .trial }, x.2) else (x.1, { s.imgBank p (s.otherBank p) with state := .trial })) s.upd.banks := rfl
  rw [State.imgBank, hbank, modAt, List.getElem?_modify_eq, List.getElem?_eq_getElem hin]
  by_cases hk : s.otherBank p = 0 <;> simp [hk]

/-- It runs that bank where it runs at once. -/
theorem flipPart_runBank {p : Nat} (runs : Bool) (hlow : 1 ≤ p) (hrunning : p ≤ s.upd.running.length) :
    (s.flipPart p runs).runBank p = if runs then s.otherBank p else s.runBank p := by
  have hin : p - 1 < s.upd.running.length := by omega
  cases runs with
  | false => rfl
  | true =>
    have hbank : (s.flipPart p true).upd.running = modAt (p - 1) (fun _ => s.otherBank p) s.upd.running := rfl
    rw [State.runBank, hbank, modAt, List.getElem?_modify_eq, List.getElem?_eq_getElem hin]
    rfl

/-! ### The trial -/

theorem runUpdConfirm_of_none (hlen : c.params.length = 4) (hres : u32 c.params 0 = 0) (hfree : s.upd.lock = none) (htrial : s.upd.trial = none) :
    s.runUpdConfirm c = (s, .fin (Ans.bare stOk 1)) := by
  rw [State.runUpdConfirm, lockUsed_of_none hfree]
  refine (if_neg (not_not_intro hlen)).trans ((if_neg (not_not_intro hres)).trans ?_)
  rw [lockRefusal_of_free hfree, htrial]
  rfl

/-- The trial of some parts ends with their banks changed by `conf`, and the floors raised to the epochs of the trial (R537). -/
def trialEnded (conf : ImgBank → ImgBank) (parts : Nat) (y : Upd) : Upd :=
  { y with
    trial := none
    banks := y.banks.zipIdx.map (fun (b, i) => if bit parts i then (conf b.1, conf b.2) else b)
    floors := y.floors.zipIdx.map (fun (f, i) =>
      if bit parts i then
        let b := (y.banks[i]?).getD (ImgBank.none, ImgBank.none)
        max f (imgEpoch (if b.1.state = .trial then b.1 else b.2).data)
      else f) }

theorem runUpdConfirm_of_trial {t : Trial} (hlen : c.params.length = 4) (hres : u32 c.params 0 = 0) (hfree : s.upd.lock = none)
    (htrial : s.upd.trial = some t) : s.runUpdConfirm c = (s.mapU (trialEnded bankConfirmed t.parts), .fin (Ans.ok [])) := by
  have hconf (b : ImgBank) : { b with state := match b.state with
      | .trial => ImgState.confirmed | .confirmed => .previous | x => x } = bankConfirmed b := by
    obtain ⟨st, _, _, _⟩ := b
    cases st <;> rfl
  rw [State.runUpdConfirm, lockUsed_of_none hfree]
  refine (if_neg (not_not_intro hlen)).trans ((if_neg (not_not_intro hres)).trans ?_)
  rw [lockRefusal_of_free hfree, htrial]
  exact congrArg (fun conf => (s.mapU (trialEnded conf t.parts), CmdRes.fin (Ans.ok []))) (funext hconf)

/-- The version that UPD_STATE_READ shows of a bank (R547). -/
def shownVersion (b : ImgBank) : Nat := if b.state = .empty ∨ b.state = .writing then 0 else imgVersion b.data

theorem runUpdStateRead_of_running (h : c.params = []) (hfw : s.sys.fw = .running) {t : State} (ht : t = s.lockUsed c) : s.runUpdStateRead c =
      (t, .fin (Ans.ok (le 1 (b2n t.upd.lock.isSome) ++ le 1 ((t.upd.trial.map Trial.parts).getD 0) ++ le 1 (b2n t.upd.trialBoot) ++ [0] ++
        le 2 t.fac.rom ++ le 2 0 ++ (t.upd.lock.map State.holderBytes).getD (zeros 16) ++
        [1, 2, 3, 4].flatMap (fun p =>
          le 1 p ++ le 1 (t.runBank p) ++ le 1 (t.imgBank p 0).state.code ++ le 1 (t.imgBank p 1).state.code ++
            le 4 (shownVersion (t.imgBank p 0)) ++ le 4 (shownVersion (t.imgBank p 1)) ++ le 2 ((t.upd.floors[p - 1]?).getD 0) ++ le 2 0)))) := by
  have hrom : (t.sys.fw == Fw.recovery) = false := by
    rw [ht, show (s.lockUsed c).sys = s.sys from rfl, hfw]
    rfl
  refine (if_neg (by simp [h])).trans ?_
  rw [← ht, hrom]
  clear ht
  cases t.upd.trial <;> cases t.upd.lock <;> rfl

theorem trialUnconfirmed_of_due {t : Trial} (hnew : t.reported = false) (htrial : s.upd.trial = some t) (hset : s.prm 0x1101 ≠ 0)
    (hdue : s.prm 0x1101 * 1000000000 ≤ s.now - t.began) : s.trialUnconfirmed =
      (s.mapU (fun y => { y with trial := some { t with reported := true } })).raise0 0x1104 .warning t.parts 0 := by
  rw [State.trialUnconfirmed, htrial]
  exact if_pos ⟨hnew, hset, hdue⟩

end

/-- Settles O38: the lock, download, verification, activation, handover and trial act as stated. -/
theorem updateRowsAct : Obligations.UpdateRowsAct := by
  unfold Obligations.UpdateRowsAct
  refine ⟨fun x => workRow fun c s _ ⟨hlen, hres, hfree, hx⟩ => runUpdOpen_of_free hlen hres hfree hx,
    fun l => workRow fun c s _ ⟨hlen, hres, hlock, hsess⟩ => runUpdOpen_of_holder hlen hres hlock hsess,
    workRow fun c s _ ⟨hlen, hres, hholds⟩ => runUpdClose_of_holder hlen hres hholds,
    workRow fun c s _ ⟨hlen, hlow, hhigh, hres, hholds, htrial, hmin, hmax, hfw⟩ =>
      runUpdBegin_of_holder hlen hlow hhigh hres hholds htrial hmin hmax hfw,
    fun p n acc hlow hhigh => nativeHwRow (State.bankEraseDone p) (fun u _ h => bankEraseDone_of_one h) (fun _ _ => if_pos ⟨hlow, hhigh⟩),
    workRow fun c s _ ⟨hlen, hlow, hhigh, hres, hmin, hmax, hholds, hnext, hfits⟩ =>
      runUpdWrite_of_holder rfl hlen hlow hhigh hres hmin hmax hholds hnext hfits,
    queryRow fun c s ⟨hlen, hlow, hhigh, hres, hfree⟩ => runUpdVerify_of_free hlen hlow hhigh hres hfree rfl rfl,
    fun s dt p x h he hc hlen hlow hhigh hmode hres hholds htrial => congrArg Host.Outcome.next (act_congr
      (hostPacket_updActivate h he hc hlen hlow hhigh hmode hres hholds (by rw [before_upd]; exact htrial) rfl)),
    fun us n a hn hstage => nativeRow (State.handoverPause 4 n us) (fun u _ hact => handoverPause_gnss hact hstage)
      (fun _ _ => if_pos ⟨by decide, by decide, hn⟩),
    fun us n a hn hstage => nativeRow (State.handoverPause 3 n us) (fun u _ hact => handoverPause_chain hact hstage)
      (fun _ _ => if_pos ⟨by decide, by decide, hn⟩),
    fun n a again hn hstage => eventActs (State.native (State.handoverFail 1 n again)) (fun _ _ => if_pos ⟨by decide, by decide, hn⟩)
      fun u ⟨hhw, hfw, hact, hdue⟩ => (if_pos ⟨hhw.power, hhw.native, hfw⟩).trans (handoverFail_fw hact hstage hdue),
    fun n a hn hstage => nativeRow (State.handoverFail 3 n true) (fun u _ hact => handoverFail_chain hact hstage)
      (fun _ _ => if_pos ⟨by decide, by decide, hn⟩),
    fun u p runs hlow hbanks hrunning _ => ⟨flipPart_trial runs hlow hbanks, flipPart_runBank runs hlow hrunning⟩,
    workRow fun c s _ ⟨hlen, hres, hfree, htrial⟩ => runUpdConfirm_of_none hlen hres hfree htrial,
    fun t => workRow fun c s _ ⟨hlen, hres, hfree, htrial⟩ => runUpdConfirm_of_trial hlen hres hfree htrial,
    queryRow fun c s ⟨h, hfw⟩ => runUpdStateRead_of_running (t := s.lockUsed c) h hfw rfl,
    fun l => nativeHwRow State.updIdle fun u _ ⟨hlock, hdue⟩ => updIdle_of_due hlock hdue,
    fun l => nativeHwRow State.updIdle fun u _ ⟨hlock, hrecent⟩ => updIdle_of_recent hlock hrecent,
    fun t hnew => nativeRow State.trialUnconfirmed fun u _ ⟨htrial, hset, hdue⟩ => trialUnconfirmed_of_due hnew htrial hset hdue⟩

end Sys2Proof.Proofs
end

section
/-! The Archive: reading records and its state, the end of an interval, and what a write does. -/

namespace Sys2Proof.Proofs

open Sys2Proof.Machine Sys2Proof.Safety Sys2Proof.Laws

section
variable {s : State} {c : Cmd}

/-! ### Reading -/

theorem arcCollect_zero (recs : Tab ArcRec) : State.arcCollect 0 recs = ([], false) := by
  cases recs <;> rfl

theorem arcCollect_nil (mx : Nat) : State.arcCollect mx [] = ([], false) := by
  cases mx <;> rfl

/-- The first record at or after a number is found where it is valid (R560). -/
theorem arcCollect_one {n : Nat} {r : ArcRec} {recs : Tab ArcRec} (h : recs.head? = some (n, r)) (hgood : r.good = true) :
    State.arcCollect 1 recs = ([(n, r)], false) := by
  obtain ⟨rest, rfl⟩ : ∃ rest, recs = (n, r) :: rest := List.head?_eq_some_iff.mp h
  rw [State.arcCollect, if_pos hgood, arcCollect_zero]

theorem runArcRead_of_held {n : Nat} {r : ArcRec} (hlen : c.params.length = 16) (hn : u64 c.params 0 = n) (hpos : n ≠ 0) (hone : u16 c.params 8 = 1)
    (hres : rd c.params 10 6 = 0) (hpast : n < s.arc.next) (hholds : archiveHolds s.arc.next n = true)
    (hfirst : (s.arc.recs.filter (fun e => decide (n ≤ e.1))).head? = some (n, r)) (hgood : r.good = true) :
    s.runArcRead c = (s, .fin (Ans.ok (le 8 n ++ le 2 1 ++ le 2 0 ++ le 4 0 ++ arcRecordBytes n r))) := by
  refine (if_neg (not_not_intro hlen)).trans ?_
  rw [hn, if_neg hpos, hone]
  refine (if_neg (by omega)).trans ?_
  simp [arcCollect_one hfirst hgood, hholds, fin, b2n]

theorem runArcRead_of_next (hlen : c.params.length = 16) (hn : u64 c.params 0 = s.arc.next) (hpos : s.arc.next ≠ 0) (hmin : 1 ≤ u16 c.params 8)
    (hmax : u16 c.params 8 ≤ 15) (hres : rd c.params 10 6 = 0) (hnone : ∀ e ∈ s.arc.recs, e.1 < s.arc.next) :
    s.runArcRead c = (s, .fin (Ans.ok (le 8 s.arc.next ++ le 2 0 ++ le 2 0 ++ le 4 0))) := by
  have htail : s.arc.recs.filter (fun e => decide (s.arc.next ≤ e.1)) = [] :=
    List.filter_eq_nil_iff.mpr fun e he => by simpa using hnone e he
  refine (if_neg (not_not_intro hlen)).trans ?_
  rw [hn, if_neg hpos]
  refine (if_neg (by omega)).trans ?_
  simp [htail, arcCollect_nil, fin, b2n]

/-! ### Intervals -/

theorem archiveIntervalEnd_of_due (h : (if s.timeValid then decide (s.arc.start / (s.prm 0x1200 * 1000000000) < s.clk.count / (s.prm 0x1200 * 1000000000))
    else decide (s.prm 0x1200 * 1000000000 ≤ s.now - s.arc.startNow)) = true) : s.archiveIntervalEnd = s.arcEndInterval :=
  if_pos h

/-- An interval in which nothing was gathered writes no record (R557). -/
theorem arcEndInterval_of_empty (hmetrics : s.arc.metrics = []) (hcodes : s.arc.codes = []) :
    s.arcEndInterval = s.mapArc (fun a => { a with start := s.clk.count, startNow := s.now }) := by
  rw [State.arcEndInterval, hmetrics, hcodes]
  refine Eq.trans (b := s.mapArc (fun a => { a with metrics := [], codes := [], start := s.clk.count, startNow := s.now })) rfl ?_
  rw [State.mapArc, State.mapArc, ← hmetrics, ← hcodes]

/-- A write leaves the time, and the counts of the open interval, as they are. -/
theorem arcWrite_clk (b : ArcBody) : (s.arcWrite b).clk = s.clk := by
  rw [State.arcWrite]
  split <;> rfl

theorem arcWrite_now (b : ArcBody) : (s.arcWrite b).now = s.now := by
  rw [State.arcWrite]
  split <;> rfl

theorem arcWrite_codes (b : ArcBody) : (s.arcWrite b).arc.codes = s.arc.codes := by
  rw [State.arcWrite]
  split <;> rfl

/-- One metric gathered gives one interval record (R557). -/
theorem arcEndInterval_of_one {m : Nat} {k : Metric} (hmetrics : s.arc.metrics = [(m, k)]) (hcodes : s.arc.codes = []) {t : State}
    (ht : t = s.arcWrite (.interval m ((s.now - s.arc.startNow) / 1000000000) s.arc.start k)) :
    s.arcEndInterval = t.mapArc (fun a => { a with metrics := [], start := s.clk.count, startNow := s.now }) := by
  have hclk : t.clk = s.clk := by rw [ht, arcWrite_clk]
  have hnow : t.now = s.now := by rw [ht, arcWrite_now]
  have htcodes : t.arc.codes = [] := by rw [ht, arcWrite_codes, hcodes]
  rw [State.arcEndInterval, hmetrics, hcodes]
  refine Eq.trans (b := t.mapArc (fun a => { a with metrics := [], codes := [], start := t.clk.count, startNow := t.now })) (by rw [ht]; rfl) ?_
  rw [State.mapArc, State.mapArc, hclk, hnow, ← htcodes]

/-! ### Writing -/

theorem arcWrite_of_down (b : ArcBody) (h : s.fixedDown 13 = true) : s.arcWrite b = s.dropFixed 13 := if_pos h

/-- A record takes the next number, and none is old enough to make room (R552, R553). -/
theorem arcWrite_of_room (b : ArcBody) (hroom : s.arc.next ≤ 69632) (hup : s.fixedDown 13 = false) :
    (s.arcWrite b).arc.next = s.arc.next + 1 ∧
    (s.arcWrite b).arc.recs = Tab.put s.arc.next
      ⟨s.arc.boots % 65536, if s.sys.fw = .running then s.sys.tick else 0, b, true⟩ s.arc.recs := by
  rw [State.arcWrite, if_neg (ne_true_of_eq_false hup), if_pos hroom]
  exact ⟨rfl, rfl⟩

end

/-- Settles O39: records and the state are read, intervals end and records are written as stated. -/
theorem archiveRowsAct : Obligations.ArchiveRowsAct := by
  unfold Obligations.ArchiveRowsAct
  refine ⟨fun n r => queryRow fun c s ⟨hlen, hn, hpos, hone, hres, hpast, hholds, hfirst, hgood⟩ =>
      runArcRead_of_held hlen hn hpos hone hres hpast hholds hfirst hgood,
    queryRow fun c s ⟨hlen, hn, hpos, hmin, hmax, hres, hnone⟩ => runArcRead_of_next hlen hn hpos hmin hmax hres hnone,
    queryRow fun c s h => if_neg (by simp [h]),
    runRow State.archiveIntervalEnd fun u _ ⟨hvalid, hdue, hmetrics, hcodes⟩ =>
      (archiveIntervalEnd_of_due (by rw [if_neg (ne_true_of_eq_false hvalid)]; exact decide_eq_true hdue)).trans
        (arcEndInterval_of_empty hmetrics hcodes),
    fun m k => runRow State.archiveIntervalEnd fun u _ ⟨hvalid, hdue, hmetrics, hcodes⟩ =>
      (archiveIntervalEnd_of_due (by rw [if_pos hvalid]; exact decide_eq_true hdue)).trans (arcEndInterval_of_one hmetrics hcodes rfl),
    runRow State.archiveIntervalEnd fun u _ ⟨hvalid, hopen⟩ => ?_,
    fun s b h => arcWrite_of_down b h,
    fun s b hroom hup => arcWrite_of_room b hroom hup⟩
  rw [State.archiveIntervalEnd, hvalid]
  exact if_neg (by simpa using hopen)

end Sys2Proof.Proofs
end
